-- ==== Sys2Proof/Word.lean ====
section
/-!
DEFINITION. The word types of the PL1024 (spec/00_scope.md R8, R9; spec/07_larduper.md R234 to R240).
-/

namespace Sys2Proof

/-- One byte as it stands in a memory or on a wire. -/
abbrev Byte := BitVec 8

/-- One 32-bit register of a BAR0 page (R25). -/
abbrev Word := BitVec 32

/-- One 64-bit payload word of a block, a frame or an address. -/
abbrev Word64 := BitVec 64

/-- One table entry. The widest entry has 1,024 bits (R130); a narrower entry of W bits uses bits [W-1:0],
and the others are reserved (R36). -/
abbrev Entry := BitVec 1024

/-- The 16-byte header of an Ihlesh frame (R194, R235 to R238). -/
abbrev Header := BitVec 128

end Sys2Proof
end

