-- ==== Sys2Proof/Syntax.lean ====
section
/-!
DEFINITION. The commands of the PL1024: one constructor for each row of spec/opcode_table.json, in the
table's order but for some rows without operands. The operands are what the sender of the command supplies: the value of a register write, the
bits received on a wire, the result of a measurement, or the instance an event is about.
-/

namespace Sys2Proof

/-- How a BAR0 register access reaches the pages: through PF0 BAR0, or through a doorbell slot of a VF with the
PASID its request carries (R60, R402); with the PCIe requester ID of the request (R48). -/
inductive BarPath where
  | pf0 (req : Nat := 0)
  | slot (vf s : Nat) (pasid : Option Nat) (req : Nat := 0)
  deriving DecidableEq, Repr

/-- A path of register access (R32). -/
inductive Path where
  | host
  | smb
  deriving DecidableEq, Repr

/-- An Ihlesh frame: its header and its payload words (R194). -/
structure Frame where
  hdr   : Header
  words : List Word64
  deriving DecidableEq, Repr

/-- The three atomics of R113. -/
inductive AtomicOp where
  | fadd
  | swap
  | cas
  deriving DecidableEq, Repr

/-- What IDE integrity checking found on a received TLP (R80): not protected, good under a stream, or failed. -/
inductive IdeCheck where
  | clear
  | good (stream : Nat) (keyset : Nat)
  | bad  (stream : Nat)
  deriving DecidableEq, Repr

/-- What a port knows at the end of an echo phase: the rates that the measured reach of the cable allows, bit r for rate
r (R155, R156). -/
structure EchoResult where
  port  : Nat
  rates : Nat
  deriving DecidableEq, Repr

/-- What the host port sees of a host memory request before decoding: the function whose BAR it falls in, the
PASID prefix, the IDE check, whether it is poisoned, its header dwords and its requester ID (R48, R72, R75, R80, R88). -/
structure TlpInfo where
  func     : Nat
  pasid    : Option Nat
  ide      : IdeCheck
  poisoned : Bool
  hdr0 : Word
  hdr1 : Word
  hdr2 : Word
  req  : Nat := 0
  hdr3 : Word := 0
  deriving DecidableEq, Repr

/-- The outcome of a completion or of a fetch from host memory. -/
inductive CplStatus where
  | sc
  | ur
  | ca
  deriving DecidableEq, Repr

/-- A field of the control registers of a selective IDE stream or of the link IDE stream (R78): enable, PCRC, TEE-limited, the
stream ID, the RID association range with its Valid bit, and the base, the limit and the Valid bit of an address association block. -/
inductive IdeFld where
  | enable | pcrc | teeLimited | streamId | ridBase | ridLimit | ridValid
  | addrBase (blk : Nat) | addrLimit (blk : Nat) | addrValid (blk : Nat)
  deriving DecidableEq, Repr

/-- A configuration register, or a field of one, of a function (R50 to R52, R57 to R63, R66, R69, R71, R74, R75, R78). -/
inductive CfgReg where
  | memSpace | busMaster | msixEnable | funcMask | cplTimeoutDis | maxPayload | maxReadReq | rcb
  | atsEnable | priEnable | pasidEnable | ptmEnable | pmeEnable | numVfs | sysPageSize | targetSpeed
  | aerUncSeverity | aerUncStatus | aerCorStatus | aerHeader (i : Nat) | sigTargetAbort | vendorId | deviceId
  | tenBitTag | cplTimeoutVal | revisionId | classCode | subsysVendor | subsysId | headerType | interruptPin | totalVfs | initialVfs
  | firstVfOffset | vfStride | vfDeviceId | supportedPageSizes | vfEnable | powerState | bar (i : Nat)
  | capability (id : Nat) | romBar
  | aspmSupport | l1ExitLatency | linkSpeedMax | linkWidthMax | linkSpeedNow | linkWidthNow | slotClock
  | maxPayloadSupp | extTagSupp | tenBitTagSupp | fourteenBitTagSupp | flrSupp | cplTimeoutRanges | cplTimeoutDisSupp
  | atomicCompleter32 | atomicCompleter64 | atomicCompleter128 | atomicRequester
  | pmeSupport | d1Supp | d2Supp | serialLo | serialHi | ariNextFunction | acsCap | pasidWidth | pasidExec | pasidPriv
  | ptmRequester | ptmResponder | ptmRoot | ptmLocalGranularity
  | atsQueueDepth | atsPageAligned | atsGlobalInval | atsStu | priCapacity | priPasidRequired | msixTableSize
  | ideLinkStreams | ideSelStreams | idePcrc | ideTeeLimited | idePartialHeader | ideAggregation | ide (stream : Nat) (f : IdeFld) | teeIo
  deriving DecidableEq, Repr

/-- An error of the host port that AER reports (R75). -/
inductive AerErr where
  | unsupportedRequest | completionTimeout | unexpectedCompletion | poisonedTlp | malformedTlp | ideCheckFailed
  | uncorrectableInternal
  deriving DecidableEq, Repr

/-- A supply rail (R502, R593). -/
inductive Rail where
  | vdd | vddl | vddh09 | vddh12 | vddq | vpp | vddio | vaux
  deriving DecidableEq, Repr

/-- A block of the stop sequence, in the order of R508. -/
inductive StopBlock where
  | cvn | mir | brg | swc | prt | erg | hlm | wadPolSch | mez | lnd | hst | vlt
  deriving DecidableEq, Repr

/-- Why HOST_RESET happened (R534). -/
inductive HostResetCause where
  | hotReset | linkDisable | dlDown
  deriving DecidableEq, Repr

/-- The outcome of a translation request (R69, R71). -/
inductive XlatResult where
  | mapped (addr : Nat)
  | faultPri
  | faultOther
  deriving DecidableEq, Repr

/-- The response code of a PRG response (R71). -/
inductive PrgCode where
  | success | invalidRequest | responseFailure
  deriving DecidableEq, Repr

/-- The outcome of channel initialisation (R490). -/
inductive ErgTraining where
  | ok
  | failed (step lane : Nat)
  deriving DecidableEq, Repr

/-- Why a channel is declared FAILED (R495), coded as error code 0x03 captures it (R500). -/
inductive ErgFailCause where
  | uncorrectable | caParity | zq | forced
  deriving DecidableEq, Repr

/-- The content of a host buffer an MGQ command reads: the bytes, or the failure of the request (R463). -/
inductive HostFetch where
  | data (bytes : List Byte)
  | failed
  deriving DecidableEq, Repr

/-- What a candidate for booting holds, as read from its source (R541, R543). -/
inductive Candidate where
  | bytes (b : List Byte)
  | blank
  | noAnswer
  deriving DecidableEq, Repr

/-- The commands, one constructor per row of spec/opcode_table.json. -/
inductive Instr where
  -- register pages (spec/02_register_pages.md)
  | regWrite (via : BarPath) (addr : Nat) (fbe lbe : BitVec 4) (data : List Word)
  | pageEnable (page : Nat)
  | enableReady (page : Nat)
  | pageDisable (page : Nat)
  | disableGate (page : Nat)
  | quiesceSet (page : Nat)
  | quiesceClear (page : Nat)
  | quiesced (page : Nat)
  | pageLock (page : Nat)
  | evtRawClear (page : Nat) (ones hwSet : Word)
  | evtEnWrite (page : Nat) (value : Word)
  | evtForce (page : Nat) (bits : Word)
  | errCapRelease (page : Nat)
  | cntClear (page : Nat) (section2 : Bool)
  | tblRead (page : Nat) (set : Path) (cmd : Word)
  | tblWrite (page : Nat) (set : Path) (cmd : Word)
  | tblOpInvalid (page : Nat) (set : Path) (cmd : Word)
  | tblOpDone (page : Nat) (set : Path)
  -- SMBus and MCTP
  | smbRegWrite (off : Nat) (data : Word) (pecGiven pecOk : Bool)
  | smbRegRead (off : Nat)
  | smbStatusRead
  | smbAra
  | mctpPacket (bytes : List Byte)
  | mctpSetEndpointId (eid : Byte)
  | mctpGetEndpointId
  | mctpGetEndpointUuid
  | mctpGetVersionSupport (msgType : Byte)
  | mctpGetMessageTypeSupport
  | mctpGetVendorMsgSupport (sel : Byte)
  | mctpUnsupportedCmd (cmd : Byte)
  | mctpMgqCommand (cmd : List Byte) (data : List Byte)
  | devtimeLoRead (path : Path)
  -- host port (spec/03_host_port.md)
  | perstRelease (clkSamples : List Nat)
  | perstAssert
  | hostLinkUp (speed width : Nat) (flit reversed : Bool) (polInv : BitVec 16)
  | hostLinkDown
  | hostReset (cause : HostResetCause)
  | speedLimitWrite (limit : Nat) (autoUp : Bool)
  | speedAutoUp
  | hostRetrainLink (target partnerMax : Nat)
  | configRequest (func : Nat) (reg : CfgReg) (write : Option Nat) (tag : Nat)
  | pmStateWrite (func : Nat) (d3 : Bool)
  | vfEnable
  | vfDisable
  | flr (func : Nat)
  | flrDone (func : Nat)
  | hostWrite (info : TlpInfo) (addr : Nat) (fbe lbe : BitVec 4) (data : List Word)
  | hostRead (info : TlpInfo) (tag addr ndw : Nat) (fbe lbe : BitVec 4)
  | hostAtomic (info : TlpInfo) (tag addr : Nat) (op : AtomicOp) (size : Nat) (opnd cmp : Nat)
  | hostZeroLengthRead (info : TlpInfo) (tag addr : Nat)
  | hostCompletion (tag : Nat) (status : CplStatus) (data : List Byte) (completer : Nat) (ide : IdeCheck)
      (poisoned : Bool) (hdr0 hdr1 hdr2 : Word)
  | cplTimeout (tag : Nat)
  | msixTableWrite (func vec dword : Nat) (be : BitVec 4) (value : Word)
  | atsInvalidationRequest (itag func : Nat) (pasid : Option Nat) (addr : Nat) (pages : Nat)
  | atsInvalidationComplete (itag : Nat)
  | atsTranslationCompletion (hall : Nat) (page : Nat) (result : XlatResult)
  | prgResponse (hall : Nat) (group : Nat) (code : PrgCode)
  | ptmReq
  | ptmPeriod
  | ptmDialogDone (hostTime : Nat)
  | ptmDialogFail
  | doeRequest (protocol : Nat) (object : List Word)
  | doeAbort
  | spdmRequest (path : Path) (ver code : Byte) (param1 param2 : Byte) (body : List Byte)
  | ideKeyProg (stream keyset subStream : Nat) (key : List Byte)
  | ideKmMessage (stream : Nat) (kind : Byte) (keyset : Nat) (subStream : Nat)
  | tdispLockInterface (vf : Nat)
  | tdispStartInterface (vf : Nat) (nonce : Nat)
  | tdispStopInterface (vf : Nat)
  | tdispMessage (vf : Nat) (code : Byte) (body : List Byte)
  -- windows and the bridge engine (spec/04_windows.md)
  | readExpiry (acc : Nat)
  | npwExpiry (acc : Nat)
  | drHoldExpiry (index : Nat)
  | drRelease (value : Word)
  | pwlogRelease (value : Word)
  | raHoldExpiry (slot : Nat)
  | mirageOutWrite (port slot : Nat) (value : Word)
  | mirageUpdateSend (anchor : Nat)
  | sbPollTimer (anchor : Nat)
  -- Ihlesh physical layer (spec/05_ihlesh_phy.md)
  | trainingBlockRx (port : Nat) (tb : Word64) (freqPpm : Int)
  | cableSweepDone (port fault tap : Nat) (cond : Bool) (rates : Nat)
  | echoPhaseEnd (echo : EchoResult)
  | rateSwitchEnd (port : Nat)
  | alignDone (port : Nat) (taps : List Int)
  | trainTimeout (port : Nat)
  | trainRetryWaitEnd (port : Nat)
  | faultSweepTimer (port : Nat)
  | blockLockGained (port : Nat)
  | blockLockLost (port : Nat)
  | polarityCorrect (port : Nat)
  | amRx (port : Nat) (am : Word64) (skewNs : Nat)
  | markerLockGained (port : Nat)
  | markerLockLost (port : Nat)
  | lockLoss (port cause : Nat)
  | retrainWrite (port : Nat)
  | retrainTimeout (port : Nat)
  | diagRun (port fault tap : Nat) (cond : Bool)
  | cableChange (port : Nat) (taps : List Int)
  | sleepReqWrite (port : Nat)
  | sleepReqSend (anchor : Nat)
  | linkIdleTimer (anchor : Nat)
  | sleepReqRx (anchor : Nat) (blk : Word64)
  | sleepAckRx (anchor : Nat) (blk : Word64)
  | sleepNakRx (anchor : Nat) (blk : Word64)
  | sleepAnswerTimeout (anchor : Nat)
  | detectorArm (anchor : Nat)
  | activityWake (port : Nat)
  | bridgeWake (anchor : Nat)
  | groupPllLocked (group : Nat)
  | wakeDetectDelay (port : Nat)
  | wakeLockoutEnd (port : Nat)
  | groupAutoSleep (group : Nat)
  -- Ihlesh links (spec/06_ihlesh_link.md)
  | codewordRx (port : Nat) (cw : BitVec 2160)
  | frameRx (anchor : Nat) (blocks : List Word64) (eof : Word64)
  | ackTimer (anchor : Nat)
  | ackRx (anchor : Nat) (blk : Word64)
  | nakRx (anchor : Nat) (blk : Word64)
  | flowRx (anchor : Nat) (blk : Word64)
  | flowSend (anchor : Nat)
  | frameStart (anchor : Nat)
  | replayTimer (anchor : Nat)
  | creditAudit (anchor : Nat)
  | windowStarveTimer (anchor : Nat)
  | linkInitRx (anchor : Nat) (init param : Word64)
  | initTimeout (anchor : Nat)
  | linkEnable (anchor : Nat)
  | linkDisable (anchor : Nat)
  | linkResync (anchor : Nat)
  | spareSwRx (anchor : Nat) (blk : Word64)
  | spareSwitchDone (anchor : Nat)
  | spareEchoTimeout (anchor : Nat)
  -- Larduper (spec/07_larduper.md)
  | stationRsp (anchor : Nat)
  | errRptRx (anchor : Nat)
  | msgRx (anchor : Nat)
  | stationEvent (anchor : Nat)
  | mirageUpdateRx (anchor : Nat)
  | sbPollAnswer (anchor : Nat)
  | timeRoundStart (anchor : Nat)
  | timeEchoRx (anchor : Nat) (t4 : Nat)
  | timeEchoFuRx (anchor : Nat)
  | timeRoundTimeout (anchor : Nat)
  | identRetry (anchor : Nat)
  | tagLifetime (anchor tag : Nat)
  -- Gallery (spec/08_gallery.md)
  | admissionResume (account : Nat)
  | egressSelect (egress : Nat) (badCell : Option Nat)
  | spillReadback (queue : Nat)
  | spillReadbackDone (frame : Nat) (ok : Bool)
  | mcDetach (queue : Nat)
  | sessionSweepDone (anchor : Nat)
  | queueFlush (value : Word)
  | bankRetire (bank : Nat)
  | bankRetireAuto (bank : Nat) (uncorrectable : Bool) (corrected : Nat)
  | bankRetireDone (bank : Nat) (unreadable : List Nat)
  | naLockoutEnd (group : Nat)
  -- Wadi and cascades (spec/09_wadi_cascade.md)
  | cascadeFrameRx (anchor : Nat)
  | cascadeRequestDone (relay : Nat)
  -- scheduling (spec/10_scheduler.md)
  | gateCycleStart (anchor : Nat)
  | gateEntryChange (anchor : Nat)
  -- Caravan (spec/11_caravan.md)
  | ringDoorbell (via : BarPath) (hall ring : Nat) (count : Nat)
  | descNop (engine : Nat)
  | descCopy (engine : Nat)
  | descFence (engine : Nat)
  | descJump (engine : Nat)
  | descReservedOp (engine : Nat)
  | descFetchFail (engine : Nat)
  | caravanReadData (engine : Nat)
  | fenceDone (engine : Nat)
  | enginePowerDown (engine : Nat)
  | ringEnable (ring : Nat)
  | ringDisable (ring : Nat)
  | ringResume (ring : Nat)
  | tailClear (ring : Nat)
  -- halls (spec/12_halls.md)
  | hallCreate (hall : Nat)
  | hallReset (hall : Nat)
  | hallRelease (hall : Nat)
  | hallResetDone (hall : Nat)
  | genWaitEnd (hall : Nat)
  | dlFlip (hall : Nat)
  | rxRecordWrite (queue : Nat)
  | rxConsWrite (via : BarPath) (hall : Nat) (cons : Word)
  -- Landing (spec/13_landing.md)
  | sourceFire (source : Nat) (level : Bool)
  | evinChange (pin : Nat) (level : Bool)
  | swSet (value : Word)
  | msixDelivery (entry : Nat)
  | holdoffExpiry (group : Nat)
  | sumClaim (target : Nat) (path : Path)
  | sumComplete (target : Nat) (source : Nat)
  | sumStackReset (target : Nat)
  | sourceClrPend (source : Nat)
  | sourceReassign (source : Nat)
  -- management queue and Mezzanine (spec/14_mezzanine.md)
  | mgqDoorbell (count : Nat)
  | ringStop (fetchOk : Bool) (cmd : BitVec 512)
  | nop (cmd : BitVec 512)
  | tblLoad (cmd : BitVec 512) (src : HostFetch)
  | tblDump (cmd : BitVec 512)
  | commit (cmd : BitVec 512)
  | abort (cmd : BitVec 512)
  | wait (cmd : BitVec 512)
  | auditGallery (cmd : BitVec 512)
  | auditAllowance (cmd : BitVec 512)
  | portTest (cmd : BitVec 512) (fault tap : Nat) (cond : Bool)
  | vaultWriteData (cmd : BitVec 512) (src : HostFetch)
  | vaultCommit (cmd : BitVec 512)
  | vaultErase (cmd : BitVec 512)
  | stationIdent (cmd : BitVec 512)
  | stationCfgRd (cmd : BitVec 512)
  | stationCfgWr (cmd : BitVec 512)
  | mgqReservedOp (cmd : BitVec 512)
  | stageRegister (data : Word)
  | mezApply (ns : Nat)
  -- Erg (spec/15_erg_ddr4.md)
  | ergTrainingDone (ch : Nat) (result : ErgTraining)
  | ergFillDone (ch : Nat)
  | ergAccessDone (acc : Nat) (uncorrectable : Bool)
  | ergScrubPass (ch : Nat) (fixes : Nat) (uncorr : List (Nat × Nat))
  | ergSparingStart (ch device corrections : Nat) (uncorr : Bool)
  | ergSparingDone (ch : Nat)
  | ergChannelFail (ch : Nat) (cause : ErgFailCause)
  -- Oasis, Cistern and power (spec/16_oasis_power.md)
  | pwrReqRun (viaWait : Bool)
  | pwrReqStandby (viaWait : Bool) (modes : Nat)
  | pwrReqSleep (viaWait : Bool) (modes : Nat)
  | pwrReqDeepSleep (viaWait : Bool) (modes : Nat)
  | pwrReqOff (viaWait : Bool) (modes : Nat)
  | stopTimeout (inst : Nat)
  | oasisListWake (slot : Nat)
  | thermalCoolWake (temp : Nat)
  | wakeFlagClear (ones : Word)
  | tempSample (temp : Nat) (anyBelowZero : Bool)
  | avsConfirmPoll (crcOk : Bool) (mv : Nat)
  -- resets, boot and the Vault (spec/17_reset_boot_vault.md)
  | powerOn (straps : Nat) (spi : Candidate)
  | supplyLoss (rail : Rail)
  | reboot (value : Word)
  | rebootEffect (spi : Candidate)
  | debugUnlock (value : Word)
  -- fault history (spec/18_faults.md)
  -- rows the table lists after the first reading of the chapters
  | supplyReturn (straps : Nat) (spi : Candidate)
  | regRead (via : BarPath) (addr : Nat) (ndw : Nat) (fbe lbe : BitVec 4) (tag : Nat)
  | hostRecovery (speed width : Nat)
  | timeSyncRx (anchor : Nat) (s2 : Nat)
  | timeFollowUpRx (anchor : Nat)
  | spdmHeartbeatTimeout (path : Path)
  | boundaryScan (tms tdi trstN : Bool)
  -- rows without operands, listed last (a constructor with operands has a tag of at most 244)
  | queueFlushDone
  | auditSweep
  | auditSweepDone
  | epochFlip
  | epochDrained
  | engineAssign
  | dlFlipDone
  | sourceAssign
  | mgqRingResume
  | stationCmdTimeout
  | mezCommit
  | mezAbort
  | ergPllLocked
  | stopBlockStopped
  | wakeInLow
  | wakeTimer
  | standbyReturn
  | xo32Stopped
  | vrunRecompute
  | debugEraseDone
  | historyRecordWrite
  | historyScanDone
  | vauxLoss
  | pmeTurnOff
  | smbBusTimeout
  deriving DecidableEq, Repr

end Sys2Proof
end

