-- ==== Sys2Proof/WellFormed.lean ====
section
/-!
DEFINITION. Well-formed commands: every operand within the range that the spec gives what it names (R1 to R9 and the chapters
of each kind of instance). The sender of commands sends no other.
-/

namespace Sys2Proof

/-- A port, or the anchor of a link; a port group; a PHY rate mask; what an echo phase gave a port. -/
def isPort (n : Nat) : Bool := n < 1024
def isGroup (g : Nat) : Bool := g < 64
def isRates (r : Nat) : Bool := r < 8
def isEcho (e : EchoResult) : Bool := isPort e.port && isRates e.rates

/-- A page of BAR0, a BAR0 offset, the dwords of one request, a 64-bit address, a 16-bit count. -/
def isPage (p : Nat) : Bool := p < 16384
def isBar0 (a : Nat) : Bool := a < 2 ^ 26
def isBurst (n : Nat) : Bool := 1 ≤ n && n ≤ 1024
def is64 (a : Nat) : Bool := a < 2 ^ 64
def is16 (n : Nat) : Bool := n < 2 ^ 16

/-- A function, a VF, a PASID, the way into BAR0, what the host port sees of a request. -/
def isFunc (f : Nat) : Bool := f ≤ 252
def isVf (f : Nat) : Bool := 1 ≤ f && f ≤ 252
def isPasid (p : Option Nat) : Bool := match p with | some x => x < 2 ^ 20 | none => true
def isRid (r : Nat) : Bool := r < 65536
def isPath (v : BarPath) : Bool :=
  match v with
  | .pf0 r => isRid r
  | .slot f _ p r => isVf f && isPasid p && isRid r
def isTlp (t : TlpInfo) : Bool := isFunc t.func && isPasid t.pasid && isRid t.req

/-- A tag of a request of the host, a transaction ID of one of the bridge's own (its function × 2^14 + its tag), a Larduper
tag, the operand size of an AtomicOp and an operand of that size, an MSI-X entry of a function and a dword of it, an invalidation tag, a translated page, a PRG index, a link speed, a speed limit and a width. -/
def isTag (t : Nat) : Bool := t < 16384
def isLarTag (t : Nat) : Bool := t < 1024
def isTxn (t : Nat) : Bool := isFunc (t / 16384)
def isAtomic (n : Nat) : Bool := n == 4 || n == 8 || n == 16
def isOperand (size x : Nat) : Bool := x < 2 ^ (8 * size)
def isVec (v : Nat) : Bool := v < 2048
def isVecDword (d : Nat) : Bool := d < 4
def isItag (i : Nat) : Bool := i < 32
def isXlatPage (p : Nat) : Bool := p < 2 ^ 52
def isPrg (g : Nat) : Bool := g < 512
def isSpeed (v : Nat) : Bool := 1 ≤ v && v ≤ 6
def isLimit (v : Nat) : Bool := v < 16
def isWidth (w : Nat) : Bool := w == 1 || w == 2 || w == 4 || w == 8 || w == 16

/-- An IDE key set, a sub-stream, a key of 256 bits with its initial value of 64; an MGQ command over MCTP; the data blocks of a frame. -/
def isKeySet (k : Nat) : Bool := k < 2
def isSubStream (k : Nat) : Bool := k < 3
def isKey (k : List Byte) : Bool := k.length == 40
def isMctpCmd (c : List Byte) : Bool := c.length == 48
def isBlocks (b : List Word64) : Bool := b.length ≤ 512

/-- Halls, rings, doorbells of a hall, engines. -/
def isHall (h : Nat) : Bool := h < 4096
def isRing (r : Nat) : Bool := r < 32768
def isDoorbell (r : Nat) : Bool := r < 8
def isEngine (e : Nat) : Bool := e < 128

/-- Queues and accounts, egresses (1,024 is the host's), Gallery banks, delayed-read entries, read-ahead and mirage slots. -/
def isQueue (q : Nat) : Bool := q < 40960
def isEgress (e : Nat) : Bool := e ≤ 1024
def isBank (b : Nat) : Bool := b < 64
def isDelayed (i : Nat) : Bool := i < 64
def isRaSlot (i : Nat) : Bool := i < 512
def isMirageSlot (i : Nat) : Bool := i < 16

/-- Sources, delivery entries, hold-off groups, summary targets, pins, wake-list slots, power modes. -/
def isSource (x : Nat) : Bool := x < 65536
def isVector (e : Nat) : Bool := e < 32768
def isHoldoff (g : Nat) : Bool := g < 1024
def isSummary (t : Nat) : Bool := t < 64
def isPin (p : Nat) : Bool := p < 16
def isWakeSlot (i : Nat) : Bool := i < 64
def isModes (m : Nat) : Bool := m < 8

/-- Erg channels, and the devices of a rank. -/
def isChannel (c : Nat) : Bool := c < 4
def isDevice (d : Nat) : Bool := d < 18

/-- Whether every operand of a command lies in its range. DESIGN CHOICE, safe: log entry 10. -/
def Instr.wellFormed (i : Instr) : Bool :=
  match i with
  | .regWrite via addr _ _ data => isPath via && isBar0 addr && isBurst data.length
  | .pageEnable page => isPage page
  | .enableReady page => isPage page
  | .pageDisable page => isPage page
  | .disableGate page => isPage page
  | .quiesceSet page => isPage page
  | .quiesceClear page => isPage page
  | .quiesced page => isPage page
  | .pageLock page => isPage page
  | .evtRawClear page _ _ => isPage page
  | .evtEnWrite page _ => isPage page
  | .evtForce page _ => isPage page
  | .errCapRelease page => isPage page
  | .cntClear page _ => isPage page
  | .tblRead page _ _ => isPage page
  | .tblWrite page _ _ => isPage page
  | .tblOpInvalid page _ _ => isPage page
  | .tblOpDone page _ => isPage page
  | .smbRegWrite off _ _ _ => isBar0 off
  | .smbRegRead off => isBar0 off
  | .smbStatusRead => true
  | .smbAra => true
  | .mctpPacket _ => true
  | .mctpSetEndpointId _ => true
  | .mctpGetEndpointId => true
  | .mctpGetEndpointUuid => true
  | .mctpGetVersionSupport _ => true
  | .mctpGetMessageTypeSupport => true
  | .mctpGetVendorMsgSupport _ => true
  | .mctpUnsupportedCmd _ => true
  | .mctpMgqCommand cmd _ => isMctpCmd cmd
  | .devtimeLoRead _ => true
  | .perstRelease _ => true
  | .perstAssert => true
  | .hostLinkUp speed width _ _ _ => isSpeed speed && isWidth width
  | .hostLinkDown => true
  | .hostReset _ => true
  | .speedLimitWrite limit _ => isLimit limit
  | .speedAutoUp => true
  | .hostRetrainLink target _ => isSpeed target
  | .configRequest func _ _ tag => isFunc func && isTag tag
  | .pmStateWrite func _ => isFunc func
  | .vfEnable => true
  | .vfDisable => true
  | .flr func => isFunc func
  | .flrDone func => isFunc func
  | .hostWrite info addr _ _ data => isTlp info && is64 addr && isBurst data.length
  | .hostRead info tag addr ndw _ _ => isTlp info && isTag tag && is64 addr && isBurst ndw
  | .hostAtomic info tag addr _ size opnd cmp =>
    isTlp info && isTag tag && is64 addr && isAtomic size && isOperand size opnd && isOperand size cmp
  | .hostZeroLengthRead info tag addr => isTlp info && isTag tag && is64 addr
  | .hostCompletion tag _ _ _ _ _ _ _ _ => isTxn tag
  | .cplTimeout tag => isTxn tag
  | .msixTableWrite func vec dword _ _ => isFunc func && isVec vec && isVecDword dword
  | .atsInvalidationRequest itag func pasid addr _ => isItag itag && isFunc func && isPasid pasid && is64 addr
  | .atsInvalidationComplete itag => isItag itag
  | .atsTranslationCompletion hall page _ => isHall hall && isXlatPage page
  | .prgResponse hall group _ => isHall hall && isPrg group
  | .ptmReq => true
  | .ptmPeriod => true
  | .ptmDialogDone _ => true
  | .ptmDialogFail => true
  | .doeRequest _ _ => true
  | .doeAbort => true
  | .spdmRequest _ _ _ _ _ _ => true
  | .ideKeyProg _ keyset subStream key => isKeySet keyset && isSubStream subStream && isKey key
  | .ideKmMessage _ _ keyset subStream => isKeySet keyset && isSubStream subStream
  | .tdispLockInterface vf => isVf vf
  | .tdispStartInterface vf _ => isVf vf
  | .tdispStopInterface vf => isVf vf
  | .tdispMessage vf _ _ => isVf vf
  | .readExpiry _ => true
  | .npwExpiry _ => true
  | .drHoldExpiry index => isDelayed index
  | .drRelease _ => true
  | .pwlogRelease _ => true
  | .raHoldExpiry slot => isRaSlot slot
  | .mirageOutWrite port slot _ => isPort port && isMirageSlot slot
  | .mirageUpdateSend anchor => isPort anchor
  | .sbPollTimer anchor => isPort anchor
  | .trainingBlockRx port _ _ => isPort port
  | .cableSweepDone port _ _ _ rates => isPort port && isRates rates
  | .echoPhaseEnd echo => isEcho echo
  | .rateSwitchEnd port => isPort port
  | .alignDone port _ => isPort port
  | .trainTimeout port => isPort port
  | .trainRetryWaitEnd port => isPort port
  | .faultSweepTimer port => isPort port
  | .blockLockGained port => isPort port
  | .blockLockLost port => isPort port
  | .polarityCorrect port => isPort port
  | .amRx port _ _ => isPort port
  | .markerLockGained port => isPort port
  | .markerLockLost port => isPort port
  | .lockLoss port _ => isPort port
  | .retrainWrite port => isPort port
  | .retrainTimeout port => isPort port
  | .diagRun port _ _ _ => isPort port
  | .cableChange port _ => isPort port
  | .sleepReqWrite port => isPort port
  | .sleepReqSend anchor => isPort anchor
  | .linkIdleTimer anchor => isPort anchor
  | .sleepReqRx anchor _ => isPort anchor
  | .sleepAckRx anchor _ => isPort anchor
  | .sleepNakRx anchor _ => isPort anchor
  | .sleepAnswerTimeout anchor => isPort anchor
  | .detectorArm anchor => isPort anchor
  | .activityWake port => isPort port
  | .bridgeWake anchor => isPort anchor
  | .groupPllLocked group => isGroup group
  | .wakeDetectDelay port => isPort port
  | .wakeLockoutEnd port => isPort port
  | .groupAutoSleep group => isGroup group
  | .codewordRx port _ => isPort port
  | .frameRx anchor blocks _ => isPort anchor && isBlocks blocks
  | .ackTimer anchor => isPort anchor
  | .ackRx anchor _ => isPort anchor
  | .nakRx anchor _ => isPort anchor
  | .flowRx anchor _ => isPort anchor
  | .flowSend anchor => isPort anchor
  | .frameStart anchor => isPort anchor
  | .replayTimer anchor => isPort anchor
  | .creditAudit anchor => isPort anchor
  | .windowStarveTimer anchor => isPort anchor
  | .linkInitRx anchor _ _ => isPort anchor
  | .initTimeout anchor => isPort anchor
  | .linkEnable anchor => isPort anchor
  | .linkDisable anchor => isPort anchor
  | .linkResync anchor => isPort anchor
  | .spareSwRx anchor _ => isPort anchor
  | .spareSwitchDone anchor => isPort anchor
  | .spareEchoTimeout anchor => isPort anchor
  | .stationRsp anchor => isPort anchor
  | .errRptRx anchor => isPort anchor
  | .msgRx anchor => isPort anchor
  | .stationEvent anchor => isPort anchor
  | .mirageUpdateRx anchor => isPort anchor
  | .sbPollAnswer anchor => isPort anchor
  | .timeRoundStart anchor => isPort anchor
  | .timeEchoRx anchor _ => isPort anchor
  | .timeEchoFuRx anchor => isPort anchor
  | .timeRoundTimeout anchor => isPort anchor
  | .identRetry anchor => isPort anchor
  | .tagLifetime anchor tag => isPort anchor && isLarTag tag
  | .admissionResume account => isQueue account
  | .egressSelect egress _ => isEgress egress
  | .spillReadback queue => isQueue queue
  | .spillReadbackDone _ _ => true
  | .mcDetach queue => isQueue queue
  | .sessionSweepDone anchor => isPort anchor
  | .queueFlush _ => true
  | .bankRetire bank => isBank bank
  | .bankRetireAuto bank _ _ => isBank bank
  | .bankRetireDone bank _ => isBank bank
  | .naLockoutEnd group => isGroup group
  | .cascadeFrameRx anchor => isPort anchor
  | .cascadeRequestDone _ => true
  | .gateCycleStart anchor => isPort anchor
  | .gateEntryChange anchor => isPort anchor
  | .ringDoorbell via hall ring count => isPath via && isHall hall && isDoorbell ring && is16 count
  | .descNop engine => isEngine engine
  | .descCopy engine => isEngine engine
  | .descFence engine => isEngine engine
  | .descJump engine => isEngine engine
  | .descReservedOp engine => isEngine engine
  | .descFetchFail engine => isEngine engine
  | .caravanReadData engine => isEngine engine
  | .fenceDone engine => isEngine engine
  | .enginePowerDown engine => isEngine engine
  | .ringEnable ring => isRing ring
  | .ringDisable ring => isRing ring
  | .ringResume ring => isRing ring
  | .tailClear ring => isRing ring
  | .hallCreate hall => isHall hall
  | .hallReset hall => isHall hall
  | .hallRelease hall => isHall hall
  | .hallResetDone hall => isHall hall
  | .genWaitEnd hall => isHall hall
  | .dlFlip hall => isHall hall
  | .rxRecordWrite queue => isQueue queue
  | .rxConsWrite via hall _ => isPath via && isHall hall
  | .sourceFire source _ => isSource source
  | .evinChange pin _ => isPin pin
  | .swSet _ => true
  | .msixDelivery entry => isVector entry
  | .holdoffExpiry group => isHoldoff group
  | .sumClaim target _ => isSummary target
  | .sumComplete target source => isSummary target && isSource source
  | .sumStackReset target => isSummary target
  | .sourceClrPend source => isSource source
  | .sourceReassign source => isSource source
  | .mgqDoorbell count => is16 count
  | .ringStop _ _ => true
  | .nop _ => true
  | .tblLoad _ _ => true
  | .tblDump _ => true
  | .commit _ => true
  | .abort _ => true
  | .wait _ => true
  | .auditGallery _ => true
  | .auditAllowance _ => true
  | .portTest _ _ _ _ => true
  | .vaultWriteData _ _ => true
  | .vaultCommit _ => true
  | .vaultErase _ => true
  | .stationIdent _ => true
  | .stationCfgRd _ => true
  | .stationCfgWr _ => true
  | .mgqReservedOp _ => true
  | .stageRegister _ => true
  | .mezApply ns => is16 ns
  | .ergTrainingDone ch _ => isChannel ch
  | .ergFillDone ch => isChannel ch
  | .ergAccessDone _ _ => true
  | .ergScrubPass ch _ _ => isChannel ch
  | .ergSparingStart ch device _ _ => isChannel ch && isDevice device
  | .ergSparingDone ch => isChannel ch
  | .ergChannelFail ch _ => isChannel ch
  | .pwrReqRun _ => true
  | .pwrReqStandby _ modes => isModes modes
  | .pwrReqSleep _ modes => isModes modes
  | .pwrReqDeepSleep _ modes => isModes modes
  | .pwrReqOff _ modes => isModes modes
  | .stopTimeout _ => true
  | .oasisListWake slot => isWakeSlot slot
  | .thermalCoolWake _ => true
  | .wakeFlagClear _ => true
  | .tempSample _ _ => true
  | .avsConfirmPoll _ _ => true
  | .powerOn _ _ => true
  | .supplyLoss _ => true
  | .reboot _ => true
  | .rebootEffect _ => true
  | .debugUnlock _ => true
  | .supplyReturn _ _ => true
  | .regRead via addr ndw _ _ tag => isPath via && isBar0 addr && isBurst ndw && isTag tag
  | .hostRecovery speed width => isSpeed speed && isWidth width
  | .timeSyncRx anchor _ => isPort anchor
  | .timeFollowUpRx anchor => isPort anchor
  | .spdmHeartbeatTimeout _ => true
  | .boundaryScan _ _ _ => true
  | .queueFlushDone => true
  | .auditSweep => true
  | .auditSweepDone => true
  | .epochFlip => true
  | .epochDrained => true
  | .engineAssign => true
  | .dlFlipDone => true
  | .sourceAssign => true
  | .mgqRingResume => true
  | .stationCmdTimeout => true
  | .mezCommit => true
  | .mezAbort => true
  | .ergPllLocked => true
  | .stopBlockStopped => true
  | .wakeInLow => true
  | .wakeTimer => true
  | .standbyReturn => true
  | .xo32Stopped => true
  | .vrunRecompute => true
  | .debugEraseDone => true
  | .historyRecordWrite => true
  | .historyScanDone => true
  | .vauxLoss => true
  | .pmeTurnOff => true
  | .smbBusTimeout => true

end Sys2Proof
end

