-- ==== Sys2Proof/Decode.lean ====
section
/-!
DEFINITION. The commands that words spell by the bits of spec/opcode_table.json. The PL1024 is a block that takes commands: the
table gives no row any bits, so no word spells a command.
-/

namespace Sys2Proof

/-- The command a word spells: none, since no row of the table has bits. DESIGN CHOICE, safe: log entry 3. -/
def decodeTableWord (_nbits _w : Nat) : Option Instr := none

end Sys2Proof
end

