-- ==== Sys2Proof/Config.lean ====
section
/-!
DEFINITION. What an implementation fixes and the spec leaves open: the free values (no body, so nothing can be
proved of them), and the functions that published standards define and the spec does not restate.
-/

namespace Sys2Proof.Config

/-- The values the spec leaves open, in the order in which the device draws them (a WRED draw R277, a challenge, a
random key). Free: nothing constrains them. DESIGN CHOICE, safe: log entry 7. -/
opaque freeValue : Nat → Nat

/-- SHA-384 of a string of bytes, its first byte the most significant (R547, R77). DESIGN CHOICE, safe: log entry 8. -/
opaque sha384 : List Byte → BitVec 384

/-- Whether an ECDSA signature (r, s) on NIST P-384 verifies under a public key (x, y) for a digest (R547). DESIGN CHOICE, safe: log entry 8. -/
opaque ecdsaVerify : (x y digest r s : Nat) → Bool

/-- An ECDSA signature on NIST P-384 with a private scalar over a digest, drawn with a random value (R77). DESIGN CHOICE, safe: log entry 8. -/
opaque ecdsaSign : (key digest rand : Nat) → BitVec 768

/-- The verify data that FINISH must carry in the session of a handshake (R77: the key schedule of SPDM 1.2, which the spec does not
restate), by the free value that stands for the handshake. DESIGN CHOICE, safe: log entry 8. -/
opaque finishData : Nat → BitVec 384

/-- The public point of a private scalar on NIST P-384, X then Y in 48 bytes each (R552). DESIGN CHOICE, safe: log entry 8. -/
opaque p384Public : Nat → BitVec 768

/-- The fused core voltage of the die in mV (R519): the manual gives no number. DESIGN CHOICE, safe: log entry 8. -/
opaque fusedVoltage : Nat

/-- The 64-bit die number (R46: per die). DESIGN CHOICE, safe: log entry 8. -/
opaque serial : BitVec 64

/-- The MCTP endpoint UUID, 16 bytes (R44: the spec names the command and gives no value). DESIGN CHOICE, safe: log entry 8. -/
opaque endpointUuid : BitVec 128

/-- The length of the instruction register of the IEEE 1149.1 port, the instruction codes that select its boundary register, and
the number of its boundary cells (R585: the spec names the port and gives none of these). DESIGN CHOICE, safe: log entry 8. -/
opaque tapIrLength : Nat
/-- DESIGN CHOICE, safe: log entry 8. -/
opaque tapBoundary : Nat → Bool
/-- DESIGN CHOICE, safe: log entry 8. -/
opaque tapCells : Nat

/-- The table entries in which an uncorrectable ECC error is found at a point of model time, each by its page * 2 ^ 28 + table number
* 2 ^ 24 + index (R564: the spec says what follows and not when one comes). DESIGN CHOICE, unsafe: log entry 16. -/
opaque tableEcc : Nat → List Nat

end Sys2Proof.Config
end

