-- ==== Sys2Proof/Machine/Bits.lean ====
section
/-!
DEFINITION. Bit fields of a word (R8: bit 0 is the least significant bit, a range includes both ends), the
descriptors of register and table fields, and finite maps held as sorted lists in one canonical form.
-/

namespace Sys2Proof.Machine

/-- A field of a register: the offset of the register within its page, its lowest bit and its width (R8). -/
structure Fld where
  off : Nat
  lo  : Nat
  w   : Nat
  deriving DecidableEq, Repr

/-- A field of a table entry: its lowest bit and its width. -/
structure TFld where
  lo : Nat
  w  : Nat
  deriving DecidableEq, Repr

/-- One register of a page with the bits each access code of R9 covers, its reset value, and whether it is held
in the housekeeping domain (R20). -/
structure RegInfo where
  name  : String
  off   : Nat
  rw    : Nat
  rwl   : Nat
  w1c   : Nat
  act   : Nat
  reset : Nat
  held  : Bool
  deriving DecidableEq, Repr

/-- The value of bits [lo + w - 1 : lo] of a number. -/
def bits (x lo w : Nat) : Nat := (x / 2 ^ lo) % 2 ^ w

/-- The bit at a position of a number, as a truth value. -/
def bitAt (x i : Nat) : Bool := bits x i 1 == 1

/-- The value of a field of a word. -/
def fld {n : Nat} (x : BitVec n) (lo w : Nat) : Nat := bits x.toNat lo w

/-- A number with bits [lo + w - 1 : lo] replaced; the bits of the value above the field are dropped. -/
def putBits (x lo w v : Nat) : Nat :=
  x % 2 ^ lo + (v % 2 ^ w) * 2 ^ lo + (x / 2 ^ (lo + w)) * 2 ^ (lo + w)

/-- A word with a field replaced. -/
def put {n : Nat} (x : BitVec n) (lo w v : Nat) : BitVec n := BitVec.ofNat n (putBits x.toNat lo w v)

/-- A truth value as a bit. -/
def b2n (b : Bool) : Nat := if b then 1 else 0

/-- A natural number of a width, read as two's complement. -/
def toSigned (x w : Nat) : Int := if x % 2 ^ w < 2 ^ (w - 1) then (x % 2 ^ w : Nat) else ((x % 2 ^ w : Nat) : Int) - 2 ^ w

/-- An integer as a two's complement number of a width. -/
def ofSigned (x : Int) (w : Nat) : Nat := (x % (2 ^ w : Nat)).toNat

/-- The bytes of a number, least significant first (R8). -/
def bytesOf (count x : Nat) : List Byte :=
  match count with
  | 0 => []
  | k + 1 => BitVec.ofNat 8 x :: bytesOf k (x / 256)

/-- The number that bytes spell, least significant first (R8). -/
def ofBytes : List Byte → Nat
  | [] => 0
  | b :: t => b.toNat + 256 * ofBytes t

/-- The 64-bit words that bytes fill, least significant byte first, the last one padded with zeros. -/
def wordsOf (count : Nat) (bs : List Byte) : List Word64 :=
  match count with
  | 0 => []
  | k + 1 => BitVec.ofNat 64 (ofBytes (bs.take 8)) :: wordsOf k (bs.drop 8)

/-- Division rounded up. -/
def ceilDiv (a b : Nat) : Nat := (a + b - 1) / b

/-- The exponent of the largest power of two that is at most a positive number (0 for 0). -/
def log2 (x : Nat) : Nat := Nat.log2 x

/-- The number of set bits among the lowest ones. -/
def popCount : Nat → Nat → Nat
  | 0, _ => 0
  | w + 1, x => x % 2 + popCount w (x / 2)

/-- A difference modulo a power of two. -/
def subMod (a b w : Nat) : Nat := (a % 2 ^ w + 2 ^ w - b % 2 ^ w) % 2 ^ w

/-- An element of a list with another one in its place. -/
def setAt {α : Type} (l : List α) (i : Nat) (v : α) : List α := l.set i v

/-! ### Finite maps: entries with rising keys, none equal to what an unlisted key reads as -/

namespace SMap

/-- The value at a key; an unlisted key reads as its default. -/
def get {α : Type} (d : Nat → α) : List (Nat × α) → Nat → α
  | [], k => d k
  | (k', v) :: t, k => if k = k' then v else get d t k

/-- The map without its entry at a key. -/
def del {α : Type} : List (Nat × α) → Nat → List (Nat × α)
  | [], _ => []
  | (k', v) :: t, k => if k = k' then del t k else (k', v) :: del t k

/-- The map with an entry put at its place. -/
def ins {α : Type} : List (Nat × α) → Nat → α → List (Nat × α)
  | [], k, v => [(k, v)]
  | (k', v') :: t, k, v => if k < k' then (k, v) :: (k', v') :: t else (k', v') :: ins t k v

/-- Writing a value: the default removes the entry. -/
def set {α : Type} [DecidableEq α] (d : Nat → α) (m : List (Nat × α)) (k : Nat) (v : α) : List (Nat × α) :=
  if v = d k then del m k else ins (del m k) k v

/-- The canonical form: rising keys, no entry equal to its default. -/
def wf {α : Type} [DecidableEq α] (d : Nat → α) : List (Nat × α) → Bool
  | [] => true
  | (k, v) :: t => decide (v ≠ d k) && t.all (fun e => decide (k < e.1)) && wf d t

/-- The keys a map lists. -/
def keys {α : Type} (m : List (Nat × α)) : List Nat := m.map (·.1)

end SMap

end Sys2Proof.Machine
end

