-- ==== Sys2Proof/Machine/Regs.lean ====
section
/-!
DEFINITION. The BAR0 register map and the table formats of the PL1024, one name for each field of each register table of
spec/: the page map R23, the header R27, and the register, counter and table rules each namespace cites.
A register is named by its offset within its page; a field by its lowest bit and its width.
-/

namespace Sys2Proof.Machine

/-! ### BRG: fields (R135, R136) -/
namespace BRG
def BRG_CTL_DR_EN : Fld := ⟨0x80, 0, 1⟩
def BRG_CTL_RA_EN : Fld := ⟨0x80, 1, 1⟩
def EXPIRY_READ_US : Fld := ⟨0x84, 0, 16⟩
def DR_CTL_HOLD_US : Fld := ⟨0x88, 0, 16⟩
def RA_CTL_SIZE : Fld := ⟨0x8C, 0, 2⟩
def RA_CTL_HOLD_US : Fld := ⟨0x8C, 8, 16⟩
def PWLOG_STS_COUNT : Fld := ⟨0x90, 0, 9⟩
def PWLOG_STS_OLDEST : Fld := ⟨0x90, 16, 8⟩
def PWLOG_REL_RELEASE : Fld := ⟨0x94, 0, 9⟩
def DR_MAP_LO_MAP : Fld := ⟨0x98, 0, 32⟩
def DR_MAP_HI_MAP : Fld := ⟨0x9C, 0, 32⟩
def DR_REL_INDEX : Fld := ⟨0xA0, 0, 6⟩
def DR_REL_GO : Fld := ⟨0xA0, 8, 1⟩
def CNT_CLR_CLEAR : Fld := ⟨0xA4, 0, 1⟩
def CNT_READS_EXPIRED : Nat := 0xC0
def CNT_READS_WITHDRAWN : Nat := 0xC4
def CNT_LATE_DISCARDED : Nat := 0xC8
def CNT_DR_TIMED_OUT : Nat := 0xCC
def CNT_RA_DISCARDS : Nat := 0xD0
def CNT_PW_ERRORS : Nat := 0xD4
def CNT_PWLOG_LOST : Nat := 0xD8
def CNT_EPOCH_DISCARDS : Nat := 0xDC
/-- The registers of the block with their write masks and reset values. -/
def regs : List RegInfo :=
  [ ⟨"BRG_CTL", 0x80, 0x3, 0x0, 0x0, 0x0, 0x0, false⟩,
    ⟨"EXPIRY", 0x84, 0xFFFF, 0x0, 0x0, 0x0, 0x28, false⟩,
    ⟨"DR_CTL", 0x88, 0xFFFF, 0x0, 0x0, 0x0, 0x2710, false⟩,
    ⟨"RA_CTL", 0x8C, 0xFFFF03, 0x0, 0x0, 0x0, 0x6400, false⟩,
    ⟨"PWLOG_STS", 0x90, 0x0, 0x0, 0x0, 0x0, 0x0, false⟩,
    ⟨"PWLOG_REL", 0x94, 0x0, 0x0, 0x0, 0x1FF, 0x0, false⟩,
    ⟨"DR_MAP_LO", 0x98, 0x0, 0x0, 0x0, 0x0, 0x0, false⟩,
    ⟨"DR_MAP_HI", 0x9C, 0x0, 0x0, 0x0, 0x0, 0x0, false⟩,
    ⟨"DR_REL", 0xA0, 0x0, 0x0, 0x0, 0x13F, 0x0, false⟩,
    ⟨"CNT_CLR", 0xA4, 0x0, 0x0, 0x0, 0x1, 0x0, false⟩,
    ⟨"READS_EXPIRED", 0xC0, 0x0, 0x0, 0x0, 0x0, 0x0, false⟩,
    ⟨"READS_WITHDRAWN", 0xC4, 0x0, 0x0, 0x0, 0x0, 0x0, false⟩,
    ⟨"LATE_DISCARDED", 0xC8, 0x0, 0x0, 0x0, 0x0, 0x0, false⟩,
    ⟨"DR_TIMED_OUT", 0xCC, 0x0, 0x0, 0x0, 0x0, 0x0, false⟩,
    ⟨"RA_DISCARDS", 0xD0, 0x0, 0x0, 0x0, 0x0, 0x0, false⟩,
    ⟨"PW_ERRORS", 0xD4, 0x0, 0x0, 0x0, 0x0, 0x0, false⟩ ] ++
  [ ⟨"PWLOG_LOST", 0xD8, 0x0, 0x0, 0x0, 0x0, 0x0, false⟩,
    ⟨"EPOCH_DISCARDS", 0xDC, 0x0, 0x0, 0x0, 0x0, 0x0, false⟩ ]
end BRG

/-! ### CIS: fields (R531, R532) -/
namespace CIS
def BUDGET_VDD : Fld := ⟨0x40, 0, 16⟩
def BUDGET_VDDL : Fld := ⟨0x40, 16, 16⟩
def RESERVE_VDD : Fld := ⟨0x44, 0, 16⟩
def RESERVE_VDDL : Fld := ⟨0x44, 16, 16⟩
def GRANTED_VDD : Fld := ⟨0x48, 0, 16⟩
def GRANTED_VDDL : Fld := ⟨0x48, 16, 16⟩
def STATUS_OVER : Fld := ⟨0x4C, 0, 1⟩
def THERM_CTL_THROT : Fld := ⟨0x50, 0, 8⟩
def THERM_CTL_HYST : Fld := ⟨0x50, 8, 4⟩
def THERM_CTL_TRIP : Fld := ⟨0x50, 24, 8⟩
def TEMP_NOW : Fld := ⟨0x54, 0, 8⟩
def TEMP_MAX : Fld := ⟨0x54, 8, 8⟩
def TEMP_THROTTLING : Fld := ⟨0x54, 16, 1⟩
def AVS_CTL_EN : Fld := ⟨0x58, 0, 1⟩
def AVS_CTL_SETTLE_US : Fld := ⟨0x58, 8, 8⟩
def AVS_STS_CONFIRMED_MV : Fld := ⟨0x5C, 0, 12⟩
def AVS_STS_FAILED : Fld := ⟨0x5C, 12, 1⟩
def AVS_STS_VRUN_MV : Fld := ⟨0x5C, 16, 12⟩
def CNT_CLR_CLEAR : Fld := ⟨0x60, 0, 1⟩
def CNT_ADMITTED : Nat := 0x80
def CNT_REFUSED : Nat := 0x84
def CNT_THROTTLES : Nat := 0x88
def CNT_AVS_WRITES : Nat := 0x8C
/-- The registers of the block with their write masks and reset values. -/
def regs : List RegInfo :=
  [ ⟨"BUDGET", 0x40, 0x0, 0xFFFFFFFF, 0x0, 0x0, 0xF7335A, false⟩,
    ⟨"RESERVE", 0x44, 0x0, 0x0, 0x0, 0x0, 0x400000, false⟩,
    ⟨"GRANTED", 0x48, 0x0, 0x0, 0x0, 0x0, 0x0, false⟩,
    ⟨"STATUS", 0x4C, 0x0, 0x0, 0x0, 0x0, 0x0, false⟩,
    ⟨"THERM_CTL", 0x50, 0xFFF, 0xFF000000, 0x0, 0x0, 0xC20005B3, false⟩,
    ⟨"TEMP", 0x54, 0x0, 0x0, 0x0, 0x0, 0x0, false⟩,
    ⟨"AVS_CTL", 0x58, 0xFF00, 0x1, 0x0, 0x0, 0x1400, false⟩,
    ⟨"AVS_STS", 0x5C, 0x0, 0x0, 0x0, 0x0, 0x0, false⟩,
    ⟨"CNT_CLR", 0x60, 0x0, 0x0, 0x0, 0x1, 0x0, false⟩,
    ⟨"ADMITTED", 0x80, 0x0, 0x0, 0x0, 0x0, 0x0, false⟩,
    ⟨"REFUSED", 0x84, 0x0, 0x0, 0x0, 0x0, 0x0, false⟩,
    ⟨"THROTTLES", 0x88, 0x0, 0x0, 0x0, 0x0, 0x0, false⟩,
    ⟨"AVS_WRITES", 0x8C, 0x0, 0x0, 0x0, 0x0, 0x0, false⟩ ]
end CIS

/-! ### CVE: fields (R390, R391) -/
namespace CVE
def ENG_STS_STATE : Fld := ⟨0x40, 0, 3⟩
def ENG_STS_POWERED : Fld := ⟨0x40, 3, 1⟩
def ENG_STS_RING : Fld := ⟨0x40, 8, 15⟩
def ENG_CNT_COUNT : Fld := ⟨0x44, 0, 16⟩
def ENG_HOP_HOP : Fld := ⟨0x48, 0, 20⟩
def ENG_REMAIN_REMAIN : Fld := ⟨0x4C, 0, 24⟩
def ENG_HOLD_HELD : Fld := ⟨0x50, 0, 8⟩
def ENG_HOLD_READS : Fld := ⟨0x50, 8, 5⟩
def CNT_CLR_CLEAR : Fld := ⟨0x54, 0, 1⟩
def CNT_DESCRIPTORS : Nat := 0x80
def CNT_KBYTES : Nat := 0x84
def CNT_STARTS : Nat := 0x88
def CNT_ERRORS : Nat := 0x8C
/-- The registers of the block with their write masks and reset values. -/
def regs : List RegInfo :=
  [ ⟨"ENG_STS", 0x40, 0x0, 0x0, 0x0, 0x0, 0x0, false⟩,
    ⟨"ENG_CNT", 0x44, 0x0, 0x0, 0x0, 0x0, 0x0, false⟩,
    ⟨"ENG_HOP", 0x48, 0x0, 0x0, 0x0, 0x0, 0x0, false⟩,
    ⟨"ENG_REMAIN", 0x4C, 0x0, 0x0, 0x0, 0x0, 0x0, false⟩,
    ⟨"ENG_HOLD", 0x50, 0x0, 0x0, 0x0, 0x0, 0x0, false⟩,
    ⟨"CNT_CLR", 0x54, 0x0, 0x0, 0x0, 0x1, 0x0, false⟩,
    ⟨"DESCRIPTORS", 0x80, 0x0, 0x0, 0x0, 0x0, 0x0, false⟩,
    ⟨"KBYTES", 0x84, 0x0, 0x0, 0x0, 0x0, 0x0, false⟩,
    ⟨"STARTS", 0x88, 0x0, 0x0, 0x0, 0x0, 0x0, false⟩,
    ⟨"ERRORS", 0x8C, 0x0, 0x0, 0x0, 0x0, 0x0, false⟩ ]
end CVE

/-! ### CVN: fields (R384, R387) -/
namespace CVN
def CVN_CTL_HOP_LIMIT : Fld := ⟨0x80, 0, 20⟩
def CVN_CTL_BATCH : Fld := ⟨0x80, 20, 8⟩
def PENDING_RINGS : Fld := ⟨0x94, 0, 16⟩
def CNT_CLR_CLEAR : Fld := ⟨0x98, 0, 1⟩
def ENG_IDLE0_IDLE : Fld := ⟨0x84, 0, 32⟩
def ENG_IDLE1_IDLE : Fld := ⟨0x88, 0, 32⟩
def ENG_IDLE2_IDLE : Fld := ⟨0x8C, 0, 32⟩
def ENG_IDLE3_IDLE : Fld := ⟨0x90, 0, 32⟩
def CNT_ASSIGNS : Nat := 0xC0
def CNT_START_REFUSED : Nat := 0xC4
def CNT_DB_IGNORED : Nat := 0xC8
def CNT_LOOPS : Nat := 0xCC
def CNT_TAIL_ERRORS : Nat := 0xD0
def CNT_HALL_ABORTS : Nat := 0xD4
/-- The registers of the block with their write masks and reset values. -/
def regs : List RegInfo :=
  [ ⟨"CVN_CTL", 0x80, 0xFFFFFFF, 0x0, 0x0, 0x0, 0x1010000, false⟩,
    ⟨"PENDING", 0x94, 0x0, 0x0, 0x0, 0x0, 0x0, false⟩,
    ⟨"CNT_CLR", 0x98, 0x0, 0x0, 0x0, 0x1, 0x0, false⟩,
    ⟨"ASSIGNS", 0xC0, 0x0, 0x0, 0x0, 0x0, 0x0, false⟩,
    ⟨"START_REFUSED", 0xC4, 0x0, 0x0, 0x0, 0x0, 0x0, false⟩,
    ⟨"DB_IGNORED", 0xC8, 0x0, 0x0, 0x0, 0x0, 0x0, false⟩,
    ⟨"LOOPS", 0xCC, 0x0, 0x0, 0x0, 0x0, 0x0, false⟩,
    ⟨"TAIL_ERRORS", 0xD0, 0x0, 0x0, 0x0, 0x0, 0x0, false⟩,
    ⟨"HALL_ABORTS", 0xD4, 0x0, 0x0, 0x0, 0x0, 0x0, false⟩,
    ⟨"ENG_IDLE0", 0x84, 0x0, 0x0, 0x0, 0x0, 0x0, false⟩,
    ⟨"ENG_IDLE1", 0x88, 0x0, 0x0, 0x0, 0x0, 0x0, false⟩,
    ⟨"ENG_IDLE2", 0x8C, 0x0, 0x0, 0x0, 0x0, 0x0, false⟩,
    ⟨"ENG_IDLE3", 0x90, 0x0, 0x0, 0x0, 0x0, 0x0, false⟩ ]
end CVN

/-! ### DEV: fields (R46) -/
namespace DEV
def IDENT_DEVICE : Fld := ⟨0x40, 16, 16⟩
def IDENT_REV_MAJOR : Fld := ⟨0x40, 12, 4⟩
def IDENT_REV_MINOR : Fld := ⟨0x40, 8, 4⟩
def VENDOR_VENDOR : Fld := ⟨0x44, 0, 16⟩
def SERIAL_LO_SERIAL : Fld := ⟨0x48, 0, 32⟩
def SERIAL_HI_SERIAL : Fld := ⟨0x4C, 0, 32⟩
def FEAT_EN_SRIOV : Fld := ⟨0x50, 0, 1⟩
def FEAT_EN_ATS_PRI : Fld := ⟨0x50, 1, 1⟩
def FEAT_EN_PASID : Fld := ⟨0x50, 2, 1⟩
def FEAT_EN_PTM : Fld := ⟨0x50, 3, 1⟩
def FEAT_EN_DOE_SPDM : Fld := ⟨0x50, 4, 1⟩
def FEAT_EN_IDE : Fld := ⟨0x50, 5, 1⟩
def FEAT_EN_TDISP : Fld := ⟨0x50, 6, 1⟩
def FEAT_EN_HALLS : Fld := ⟨0x50, 8, 1⟩
def FEAT_EN_CASCADE : Fld := ⟨0x50, 9, 1⟩
def FEAT_EN_ERG : Fld := ⟨0x50, 10, 1⟩
def FEAT_EN_MEZ : Fld := ⟨0x50, 11, 1⟩
def FEAT_EN_DEBUG_OPEN : Fld := ⟨0x50, 12, 1⟩
def BOOT_STS_SOURCE : Fld := ⟨0x54, 0, 2⟩
def BOOT_STS_DONE : Fld := ⟨0x54, 2, 1⟩
def BOOT_STS_RESULT : Fld := ⟨0x54, 8, 8⟩
def DEVTIME_LO_TIME_LO : Fld := ⟨0x58, 0, 32⟩
def DEVTIME_HI_TIME_HI : Fld := ⟨0x5C, 0, 32⟩
def SMB_CTL_MCTP_EN : Fld := ⟨0x60, 0, 1⟩
def SMB_CTL_PEC_REQ : Fld := ⟨0x60, 1, 1⟩
def SMB_CTL_ALERT_EN : Fld := ⟨0x60, 2, 1⟩
def SMB_STS_ADDR : Fld := ⟨0x64, 0, 7⟩
def SMB_STS_LAST_STATUS : Fld := ⟨0x64, 8, 8⟩
/-- The registers of the block with their write masks and reset values. -/
def regs : List RegInfo :=
  [ ⟨"IDENT", 0x40, 0x0, 0x0, 0x0, 0x0, 0x10240000, false⟩,
    ⟨"VENDOR", 0x44, 0x0, 0x0, 0x0, 0x0, 0x1F3C, false⟩,
    ⟨"SERIAL_LO", 0x48, 0x0, 0x0, 0x0, 0x0, 0x0, false⟩,
    ⟨"SERIAL_HI", 0x4C, 0x0, 0x0, 0x0, 0x0, 0x0, false⟩,
    ⟨"FEAT_EN", 0x50, 0x0, 0xF00, 0x0, 0x0, 0x0, false⟩,
    ⟨"BOOT_STS", 0x54, 0x0, 0x0, 0x0, 0x0, 0x0, false⟩,
    ⟨"DEVTIME_LO", 0x58, 0x0, 0x0, 0x0, 0x0, 0x0, false⟩,
    ⟨"DEVTIME_HI", 0x5C, 0x0, 0x0, 0x0, 0x0, 0x0, false⟩,
    ⟨"SMB_CTL", 0x60, 0x7, 0x0, 0x0, 0x0, 0x0, false⟩,
    ⟨"SMB_STS", 0x64, 0x0, 0x0, 0x0, 0x0, 0x58, false⟩ ]
end DEV

/-! ### ERG: fields (R496) -/
namespace ERG
def ERG_CFG_SPEED : Fld := ⟨0x40, 0, 3⟩
def ERG_CFG_DENSITY : Fld := ⟨0x40, 3, 1⟩
def ERG_CFG_RANKS : Fld := ⟨0x40, 4, 1⟩
def ERG_CFG_SPARE_EN : Fld := ⟨0x40, 5, 1⟩
def ERG_CFG_RETAIN : Fld := ⟨0x40, 6, 1⟩
def ERG_CFG_HOT_REF : Fld := ⟨0x40, 7, 1⟩
def ERG_CFG_CH_PRESENT : Fld := ⟨0x40, 8, 4⟩
def ERG_CFG_CE_TH : Fld := ⟨0x40, 16, 8⟩
def ERG_STS_CH_ACTIVE : Fld := ⟨0x44, 0, 4⟩
def ERG_STS_CH_FAILED : Fld := ⟨0x44, 4, 4⟩
def SCRUB_CTL_EN : Fld := ⟨0x48, 0, 1⟩
def SCRUB_CTL_HOURS : Fld := ⟨0x48, 8, 8⟩
/-- The registers of the block with their write masks and reset values. -/
def regs : List RegInfo :=
  [ ⟨"ERG_CFG", 0x40, 0xFF00C0, 0xF3F, 0x0, 0x0, 0x100000, true⟩,
    ⟨"ERG_STS", 0x44, 0x0, 0x0, 0x0, 0x0, 0x0, false⟩,
    ⟨"SCRUB_CTL", 0x48, 0xFF01, 0x0, 0x0, 0x0, 0x1800, true⟩ ]
end ERG

/-! ### ERGC: fields (R497, R498) -/
namespace ERGC
def CH_CTL_HIST_SIZE : Fld := ⟨0x40, 0, 5⟩
def CH_CTL_SPILL_SIZE : Fld := ⟨0x40, 8, 8⟩
def CH_CTL_FORCE_FAIL : Fld := ⟨0x40, 16, 1⟩
def CH_STS_STATE : Fld := ⟨0x44, 0, 3⟩
def CH_STS_SPARED : Fld := ⟨0x44, 3, 1⟩
def CH_STS_RETAINED : Fld := ⟨0x44, 4, 1⟩
def CH_STS_USABLE_GIB : Fld := ⟨0x44, 8, 8⟩
def REGION_STS_USER_BASE : Fld := ⟨0x48, 0, 16⟩
def REGION_STS_USER_SIZE : Fld := ⟨0x48, 16, 16⟩
def LAST_CORR_DEVICE : Fld := ⟨0x4C, 0, 5⟩
def LAST_CORR_RANK : Fld := ⟨0x4C, 5, 1⟩
def CNT_CLR_CLEAR : Fld := ⟨0x50, 0, 1⟩
def CNT_CORRECTED : Nat := 0x80
def CNT_UNCORRECTABLE : Nat := 0x84
def CNT_SCRUB_PASSES : Nat := 0x88
def CNT_SCRUB_FIXES : Nat := 0x8C
def CNT_SPILL_WRITES : Nat := 0x90
def CNT_SPILL_READS : Nat := 0x94
def CNT_USER_ACCESSES : Nat := 0x98
def CNT_CA_RETRIES : Nat := 0x9C
/-- The registers of the block with their write masks and reset values. -/
def regs : List RegInfo :=
  [ ⟨"CH_CTL", 0x40, 0xFF1F, 0x0, 0x0, 0x10000, 0x0, true⟩,
    ⟨"CH_STS", 0x44, 0x0, 0x0, 0x0, 0x0, 0x0, false⟩,
    ⟨"REGION_STS", 0x48, 0x0, 0x0, 0x0, 0x0, 0x0, false⟩,
    ⟨"LAST_CORR", 0x4C, 0x0, 0x0, 0x0, 0x0, 0x0, false⟩,
    ⟨"CNT_CLR", 0x50, 0x0, 0x0, 0x0, 0x1, 0x0, true⟩,
    ⟨"CORRECTED", 0x80, 0x0, 0x0, 0x0, 0x0, 0x0, true⟩,
    ⟨"UNCORRECTABLE", 0x84, 0x0, 0x0, 0x0, 0x0, 0x0, true⟩,
    ⟨"SCRUB_PASSES", 0x88, 0x0, 0x0, 0x0, 0x0, 0x0, true⟩,
    ⟨"SCRUB_FIXES", 0x8C, 0x0, 0x0, 0x0, 0x0, 0x0, true⟩,
    ⟨"SPILL_WRITES", 0x90, 0x0, 0x0, 0x0, 0x0, 0x0, true⟩,
    ⟨"SPILL_READS", 0x94, 0x0, 0x0, 0x0, 0x0, 0x0, true⟩,
    ⟨"USER_ACCESSES", 0x98, 0x0, 0x0, 0x0, 0x0, 0x0, true⟩,
    ⟨"CA_RETRIES", 0x9C, 0x0, 0x0, 0x0, 0x0, 0x0, true⟩ ]
end ERGC

/-! ### FLT: fields (R574, R575) -/
namespace FLT
def FLT_CTL_VAULT_EN : Fld := ⟨0x40, 0, 1⟩
def FLT_CTL_ERG_EN : Fld := ⟨0x40, 1, 1⟩
def FLT_CTL_ERG_CH : Fld := ⟨0x40, 2, 2⟩
def FLT_CTL_VAULT_CLASS : Fld := ⟨0x40, 4, 3⟩
def FLT_STS_QUEUE : Fld := ⟨0x44, 0, 9⟩
def FLT_STS_SCANNING : Fld := ⟨0x44, 9, 1⟩
def FLT_STS_STEPS : Fld := ⟨0x44, 10, 4⟩
def NEXT_SEQ_SEQ : Fld := ⟨0x48, 0, 32⟩
def CNT_CLR_CLEAR : Fld := ⟨0x4C, 0, 1⟩
def CNT_RECORDS : Nat := 0x80
def CNT_VAULT_RECORDS : Nat := 0x84
def CNT_ERG_RECORDS : Nat := 0x88
def CNT_QUEUE_LOST : Nat := 0x8C
def CNT_VAULT_SKIPPED : Nat := 0x90
def CNT_ERG_SKIPPED : Nat := 0x94
/-- The registers of the block with their write masks and reset values. -/
def regs : List RegInfo :=
  [ ⟨"FLT_CTL", 0x40, 0x7F, 0x0, 0x0, 0x0, 0x20, false⟩,
    ⟨"FLT_STS", 0x44, 0x0, 0x0, 0x0, 0x0, 0x0, false⟩,
    ⟨"NEXT_SEQ", 0x48, 0x0, 0x0, 0x0, 0x0, 0x1, false⟩,
    ⟨"CNT_CLR", 0x4C, 0x0, 0x0, 0x0, 0x1, 0x0, false⟩,
    ⟨"RECORDS", 0x80, 0x0, 0x0, 0x0, 0x0, 0x0, false⟩,
    ⟨"VAULT_RECORDS", 0x84, 0x0, 0x0, 0x0, 0x0, 0x0, false⟩,
    ⟨"ERG_RECORDS", 0x88, 0x0, 0x0, 0x0, 0x0, 0x0, false⟩,
    ⟨"QUEUE_LOST", 0x8C, 0x0, 0x0, 0x0, 0x0, 0x0, false⟩,
    ⟨"VAULT_SKIPPED", 0x90, 0x0, 0x0, 0x0, 0x0, 0x0, false⟩,
    ⟨"ERG_SKIPPED", 0x94, 0x0, 0x0, 0x0, 0x0, 0x0, false⟩ ]
end FLT

/-! ### HAL: fields (R427) -/
namespace HAL
def DB_COUNT (k : Nat) : Fld := ⟨0x40 + 4 * k, 0, 16⟩
def RING_STS_STATE (k : Nat) : Fld := ⟨0x60 + 4 * k, 0, 3⟩
def RING_STS_STOP_CODE (k : Nat) : Fld := ⟨0x60 + 4 * k, 8, 8⟩
def RING_STS_DCOUNT (k : Nat) : Fld := ⟨0x60 + 4 * k, 16, 16⟩
def HAL_STS_STATE : Fld := ⟨0x80, 0, 3⟩
def HAL_STS_TDISP : Fld := ⟨0x80, 8, 2⟩
def HAL_STS_GEN : Fld := ⟨0x80, 16, 16⟩
def RX_PROD_PROD : Fld := ⟨0x84, 0, 32⟩
def RX_CONS_CONS : Fld := ⟨0x88, 0, 32⟩
/-- The registers of the block with their write masks and reset values. -/
def regs : List RegInfo :=
  [ ⟨"DB0", 0x40, 0xFFFF, 0x0, 0x0, 0x0, 0x0, false⟩,
    ⟨"DB1", 0x44, 0xFFFF, 0x0, 0x0, 0x0, 0x0, false⟩,
    ⟨"DB2", 0x48, 0xFFFF, 0x0, 0x0, 0x0, 0x0, false⟩,
    ⟨"DB3", 0x4C, 0xFFFF, 0x0, 0x0, 0x0, 0x0, false⟩,
    ⟨"DB4", 0x50, 0xFFFF, 0x0, 0x0, 0x0, 0x0, false⟩,
    ⟨"DB5", 0x54, 0xFFFF, 0x0, 0x0, 0x0, 0x0, false⟩,
    ⟨"DB6", 0x58, 0xFFFF, 0x0, 0x0, 0x0, 0x0, false⟩,
    ⟨"DB7", 0x5C, 0xFFFF, 0x0, 0x0, 0x0, 0x0, false⟩,
    ⟨"RING_STS0", 0x60, 0x0, 0x0, 0x0, 0x0, 0x0, false⟩,
    ⟨"RING_STS1", 0x64, 0x0, 0x0, 0x0, 0x0, 0x0, false⟩,
    ⟨"RING_STS2", 0x68, 0x0, 0x0, 0x0, 0x0, 0x0, false⟩,
    ⟨"RING_STS3", 0x6C, 0x0, 0x0, 0x0, 0x0, 0x0, false⟩,
    ⟨"RING_STS4", 0x70, 0x0, 0x0, 0x0, 0x0, 0x0, false⟩,
    ⟨"RING_STS5", 0x74, 0x0, 0x0, 0x0, 0x0, 0x0, false⟩,
    ⟨"RING_STS6", 0x78, 0x0, 0x0, 0x0, 0x0, 0x0, false⟩,
    ⟨"RING_STS7", 0x7C, 0x0, 0x0, 0x0, 0x0, 0x0, false⟩ ] ++
  [ ⟨"HAL_STS", 0x80, 0x0, 0x0, 0x0, 0x0, 0x0, false⟩,
    ⟨"RX_PROD", 0x84, 0x0, 0x0, 0x0, 0x0, 0x0, false⟩,
    ⟨"RX_CONS", 0x88, 0xFFFFFFFF, 0x0, 0x0, 0x0, 0x0, false⟩ ]
end HAL

/-! ### HDR: fields (R27) -/
namespace HDR
def PAGE_ID_BLOCK_ID : Fld := ⟨0x0, 24, 8⟩
def PAGE_ID_INSTANCE : Fld := ⟨0x0, 12, 12⟩
def PAGE_ID_LAYOUT : Fld := ⟨0x0, 8, 4⟩
def PAGE_CAP_HAS_GEN : Fld := ⟨0x4, 0, 1⟩
def PAGE_CAP_HAS_DRAW : Fld := ⟨0x4, 1, 1⟩
def PAGE_CAP_HAS_TBL : Fld := ⟨0x4, 2, 1⟩
def PAGE_CAP_STAGEABLE : Fld := ⟨0x4, 3, 1⟩
def PAGE_CAP_TBL_COUNT : Fld := ⟨0x4, 8, 4⟩
def PAGE_CAP_SPAN : Fld := ⟨0x4, 12, 4⟩
def PAGE_CTL_EN : Fld := ⟨0x8, 0, 1⟩
def PAGE_CTL_LOCK : Fld := ⟨0x8, 1, 1⟩
def PAGE_CTL_QUIESCE : Fld := ⟨0x8, 8, 1⟩
def PAGE_STS_ACTIVE : Fld := ⟨0xC, 0, 1⟩
def PAGE_STS_QUIESCED : Fld := ⟨0xC, 1, 1⟩
def PAGE_STS_FAULT : Fld := ⟨0xC, 2, 1⟩
def PAGE_STS_STAGED : Fld := ⟨0xC, 3, 1⟩
def PAGE_STS_NOT_ADMITTED : Fld := ⟨0xC, 4, 1⟩
def PAGE_STS_EN_PENDING : Fld := ⟨0xC, 5, 1⟩
def EVT_RAW_EVT : Fld := ⟨0x10, 0, 32⟩
def EVT_EN_EN : Fld := ⟨0x14, 0, 32⟩
def EVT_FORCE_FORCE : Fld := ⟨0x18, 0, 32⟩
def EVT_GROUP_GROUP : Fld := ⟨0x1C, 0, 10⟩
def ERR_CAP0_VALID : Fld := ⟨0x20, 0, 1⟩
def ERR_CAP0_LOST : Fld := ⟨0x20, 1, 1⟩
def ERR_CAP0_CODE : Fld := ⟨0x20, 8, 8⟩
def ERR_CAP0_LOST_COUNT : Fld := ⟨0x20, 16, 16⟩
def ERR_STAMP_LO_STAMP_LO : Fld := ⟨0x30, 0, 32⟩
def ERR_STAMP_HI_STAMP_HI : Fld := ⟨0x34, 0, 16⟩
def PAGE_GEN_GEN : Fld := ⟨0x38, 0, 32⟩
def PAGE_DRAW_VDD : Fld := ⟨0x3C, 0, 16⟩
def PAGE_DRAW_VDDL : Fld := ⟨0x3C, 16, 16⟩
def ERR_CAP1_DETAIL : Fld := ⟨0x24, 0, 32⟩
def ERR_CAP2_DETAIL : Fld := ⟨0x28, 0, 32⟩
def ERR_CAP3_DETAIL : Fld := ⟨0x2C, 0, 32⟩
/-- The registers of the block with their write masks and reset values. -/
def regs : List RegInfo :=
  [ ⟨"PAGE_ID", 0x0, 0x0, 0x0, 0x0, 0x0, 0x100, false⟩,
    ⟨"PAGE_CAP", 0x4, 0x0, 0x0, 0x0, 0x0, 0x0, false⟩,
    ⟨"PAGE_CTL", 0x8, 0x101, 0x0, 0x0, 0x2, 0x0, false⟩,
    ⟨"PAGE_STS", 0xC, 0x0, 0x0, 0x0, 0x0, 0x0, false⟩,
    ⟨"EVT_RAW", 0x10, 0x0, 0x0, 0xFFFFFFFF, 0x0, 0x0, false⟩,
    ⟨"EVT_EN", 0x14, 0xFFFFFFFF, 0x0, 0x0, 0x0, 0x0, false⟩,
    ⟨"EVT_FORCE", 0x18, 0x0, 0x0, 0x0, 0xFFFFFFFF, 0x0, false⟩,
    ⟨"EVT_GROUP", 0x1C, 0x3FF, 0x0, 0x0, 0x0, 0x0, false⟩,
    ⟨"ERR_CAP0", 0x20, 0x0, 0x0, 0x3, 0x0, 0x0, false⟩,
    ⟨"ERR_STAMP_LO", 0x30, 0x0, 0x0, 0x0, 0x0, 0x0, false⟩,
    ⟨"ERR_STAMP_HI", 0x34, 0x0, 0x0, 0x0, 0x0, 0x0, false⟩,
    ⟨"PAGE_GEN", 0x38, 0x0, 0x0, 0x0, 0x0, 0x0, false⟩,
    ⟨"PAGE_DRAW", 0x3C, 0x0, 0x0, 0x0, 0x0, 0x0, false⟩,
    ⟨"ERR_CAP1", 0x24, 0x0, 0x0, 0x0, 0x0, 0x0, false⟩,
    ⟨"ERR_CAP2", 0x28, 0x0, 0x0, 0x0, 0x0, 0x0, false⟩,
    ⟨"ERR_CAP3", 0x2C, 0x0, 0x0, 0x0, 0x0, 0x0, false⟩ ]
end HDR

/-! ### HLM: fields (R421, R423) -/
namespace HLM
def HALL_CMD_HALL : Fld := ⟨0x80, 0, 12⟩
def HALL_CMD_OP : Fld := ⟨0x80, 16, 2⟩
def HALL_CMD_GO : Fld := ⟨0x80, 24, 1⟩
def HALL_CMD_BUSY : Fld := ⟨0x80, 25, 1⟩
def HALL_CMD_STATUS : Fld := ⟨0x80, 28, 4⟩
def DL_CMD_HALL : Fld := ⟨0x84, 0, 12⟩
def DL_CMD_FLIP : Fld := ⟨0x84, 16, 1⟩
def DL_CMD_BUSY : Fld := ⟨0x84, 17, 1⟩
def HALL_COUNT_BOUND : Fld := ⟨0x88, 0, 13⟩
def CNT_CLR_CLEAR : Fld := ⟨0x8C, 0, 1⟩
def CNT_CREATES : Nat := 0xC0
def CNT_RESETS : Nat := 0xC4
def CNT_ISO_FAILS : Nat := 0xC8
def CNT_LATE_DISCARDS : Nat := 0xCC
def CNT_GEN_DISCARDS : Nat := 0xD0
def CNT_RX_RECORDS : Nat := 0xD4
def CNT_RX_WAITS : Nat := 0xD8
def CNT_RX_DROPS : Nat := 0xDC
/-- The registers of the block with their write masks and reset values. -/
def regs : List RegInfo :=
  [ ⟨"HALL_CMD", 0x80, 0x30FFF, 0x0, 0x0, 0x1000000, 0x0, false⟩,
    ⟨"DL_CMD", 0x84, 0xFFF, 0x0, 0x0, 0x10000, 0x0, false⟩,
    ⟨"HALL_COUNT", 0x88, 0x0, 0x0, 0x0, 0x0, 0x0, false⟩,
    ⟨"CNT_CLR", 0x8C, 0x0, 0x0, 0x0, 0x1, 0x0, false⟩,
    ⟨"CREATES", 0xC0, 0x0, 0x0, 0x0, 0x0, 0x0, false⟩,
    ⟨"RESETS", 0xC4, 0x0, 0x0, 0x0, 0x0, 0x0, false⟩,
    ⟨"ISO_FAILS", 0xC8, 0x0, 0x0, 0x0, 0x0, 0x0, false⟩,
    ⟨"LATE_DISCARDS", 0xCC, 0x0, 0x0, 0x0, 0x0, 0x0, false⟩,
    ⟨"GEN_DISCARDS", 0xD0, 0x0, 0x0, 0x0, 0x0, 0x0, false⟩,
    ⟨"RX_RECORDS", 0xD4, 0x0, 0x0, 0x0, 0x0, 0x0, false⟩,
    ⟨"RX_WAITS", 0xD8, 0x0, 0x0, 0x0, 0x0, 0x0, false⟩,
    ⟨"RX_DROPS", 0xDC, 0x0, 0x0, 0x0, 0x0, 0x0, false⟩ ]
end HLM

/-! ### HST: fields (R84, R85) -/
namespace HST
def LINK_STS_SPEED : Fld := ⟨0x40, 0, 4⟩
def LINK_STS_WIDTH : Fld := ⟨0x40, 8, 5⟩
def LINK_STS_FLIT : Fld := ⟨0x40, 13, 1⟩
def LINK_STS_REVERSED : Fld := ⟨0x40, 14, 1⟩
def LINK_STS_DL_UP : Fld := ⟨0x40, 15, 1⟩
def LINK_STS_POL_INV : Fld := ⟨0x40, 16, 16⟩
def LINK_CFG_BOOT_SPEED : Fld := ⟨0x44, 0, 4⟩
def LINK_CFG_SPEED_MAX : Fld := ⟨0x44, 4, 4⟩
def LINK_CFG_WIDTH_MAX : Fld := ⟨0x44, 8, 5⟩
def LINK_CFG_FLIT_LOW : Fld := ⟨0x44, 13, 1⟩
def LINK_CFG_CLK_MODE : Fld := ⟨0x44, 14, 2⟩
def SPEED_CTL_LIMIT : Fld := ⟨0x48, 0, 4⟩
def SPEED_CTL_ADMITTED : Fld := ⟨0x48, 4, 4⟩
def SPEED_CTL_AUTO_UP : Fld := ⟨0x48, 8, 1⟩
def FUNC_CFG_TOTAL_VFS : Fld := ⟨0x4C, 0, 8⟩
def FUNC_CFG_VF_HAL_LOG2 : Fld := ⟨0x4C, 8, 3⟩
def FUNC_CFG_PF_APERT_LOG2 : Fld := ⟨0x4C, 12, 6⟩
def FUNC_CFG_VF_APERT_LOG2 : Fld := ⟨0x4C, 18, 6⟩
def FUNC_CFG_APERT_PREF : Fld := ⟨0x4C, 24, 1⟩
def MSIX_CFG_PF_VECTORS : Fld := ⟨0x50, 0, 12⟩
def MSIX_CFG_VF_VECTORS : Fld := ⟨0x50, 16, 12⟩
def NP_CTL_NP_OUT : Fld := ⟨0x54, 0, 14⟩
def NP_CTL_NP_LIMIT : Fld := ⟨0x54, 16, 14⟩
def PTM_CTL_AUTO : Fld := ⟨0x58, 0, 1⟩
def PTM_CTL_PERIOD : Fld := ⟨0x58, 8, 8⟩
def PTM_CTL_REQ : Fld := ⟨0x58, 16, 1⟩
def PTM_STS_VALID : Fld := ⟨0x5C, 0, 1⟩
def PTM_STS_STEPPED : Fld := ⟨0x5C, 1, 1⟩
def PTM_STS_SLEWING : Fld := ⟨0x5C, 2, 1⟩
def PTM_ERR_ERROR : Fld := ⟨0x60, 0, 32⟩
def ATS_STS_CACHE_USED : Fld := ⟨0x64, 0, 15⟩
def ATS_STS_INV_PENDING : Fld := ⟨0x64, 16, 6⟩
def CNT_CLR_CLEAR : Fld := ⟨0x7C, 0, 1⟩
def CNT_RETRAINS : Nat := 0x80
def CNT_SPEED_REFUSALS : Nat := 0x84
def CNT_CPL_TIMEOUTS : Nat := 0x88
def CNT_IDE_FAILS : Nat := 0x8C
def CNT_BAD_TLPS : Nat := 0x90
def CNT_UR_SENT : Nat := 0x94
def CNT_ATS_INVALS : Nat := 0x98
def CNT_PRI_REQS : Nat := 0x9C
/-- The registers of the block with their write masks and reset values. -/
def regs : List RegInfo :=
  [ ⟨"LINK_STS", 0x40, 0x0, 0x0, 0x0, 0x0, 0x0, false⟩,
    ⟨"LINK_CFG", 0x44, 0x0, 0x0, 0x0, 0x0, 0x1033, false⟩,
    ⟨"SPEED_CTL", 0x48, 0x10F, 0x0, 0x0, 0x0, 0x33, false⟩,
    ⟨"FUNC_CFG", 0x4C, 0x0, 0x0, 0x0, 0x0, 0x0, false⟩,
    ⟨"MSIX_CFG", 0x50, 0x0, 0x0, 0x0, 0x0, 0x0, false⟩,
    ⟨"NP_CTL", 0x54, 0x3FFF0000, 0x0, 0x0, 0x0, 0x20000000, false⟩,
    ⟨"PTM_CTL", 0x58, 0xFF01, 0x0, 0x0, 0x10000, 0xA00, false⟩,
    ⟨"PTM_STS", 0x5C, 0x0, 0x0, 0x0, 0x0, 0x0, false⟩,
    ⟨"PTM_ERR", 0x60, 0x0, 0x0, 0x0, 0x0, 0x0, false⟩,
    ⟨"ATS_STS", 0x64, 0x0, 0x0, 0x0, 0x0, 0x0, false⟩,
    ⟨"CNT_CLR", 0x7C, 0x0, 0x0, 0x0, 0x1, 0x0, false⟩,
    ⟨"RETRAINS", 0x80, 0x0, 0x0, 0x0, 0x0, 0x0, false⟩,
    ⟨"SPEED_REFUSALS", 0x84, 0x0, 0x0, 0x0, 0x0, 0x0, false⟩,
    ⟨"CPL_TIMEOUTS", 0x88, 0x0, 0x0, 0x0, 0x0, 0x0, false⟩,
    ⟨"IDE_FAILS", 0x8C, 0x0, 0x0, 0x0, 0x0, 0x0, false⟩,
    ⟨"BAD_TLPS", 0x90, 0x0, 0x0, 0x0, 0x0, 0x0, false⟩ ] ++
  [ ⟨"UR_SENT", 0x94, 0x0, 0x0, 0x0, 0x0, 0x0, false⟩,
    ⟨"ATS_INVALS", 0x98, 0x0, 0x0, 0x0, 0x0, 0x0, false⟩,
    ⟨"PRI_REQS", 0x9C, 0x0, 0x0, 0x0, 0x0, 0x0, false⟩ ]
end HST

/-! ### LND: fields (R449, R455) -/
namespace LND
def LND_CTL_IRQ_PP : Fld := ⟨0x80, 0, 1⟩
def SW_SET_SOURCE : Fld := ⟨0x84, 0, 16⟩
def EVIN_STS_LEVEL : Fld := ⟨0x88, 0, 16⟩
def EVIN_CFG_MODE (k : Nat) : Fld := ⟨0x90 + 4 * k, 0, 3⟩
def EVIN_CFG_FCLK (k : Nat) : Fld := ⟨0x90 + 4 * k, 3, 1⟩
def EVIN_CFG_COUNT (k : Nat) : Fld := ⟨0x90 + 4 * k, 8, 8⟩
def CNT_CLR_CLEAR : Fld := ⟨0xD0, 0, 1⟩
def CNT_MSGS_SENT : Nat := 0xE0
def CNT_CLAIMS : Nat := 0xE4
def CNT_COMPLETES : Nat := 0xE8
def CNT_HELD_MASKED : Nat := 0xEC
def CNT_ASLEEP_WAITS : Nat := 0xF0
def CNT_TGT_DENIED : Nat := 0xF4
def CNT_STACK_FAULTS : Nat := 0xF8
def CNT_HOLDOFF_WAITS : Nat := 0xFC
/-- The registers of the block with their write masks and reset values. -/
def regs : List RegInfo :=
  [ ⟨"LND_CTL", 0x80, 0x1, 0x0, 0x0, 0x0, 0x0, false⟩,
    ⟨"SW_SET", 0x84, 0x0, 0x0, 0x0, 0xFFFF, 0x0, false⟩,
    ⟨"EVIN_STS", 0x88, 0x0, 0x0, 0x0, 0x0, 0x0, false⟩,
    ⟨"EVIN_CFG0", 0x90, 0xFF0F, 0x0, 0x0, 0x0, 0x100, false⟩,
    ⟨"EVIN_CFG1", 0x94, 0xFF0F, 0x0, 0x0, 0x0, 0x100, false⟩,
    ⟨"EVIN_CFG2", 0x98, 0xFF0F, 0x0, 0x0, 0x0, 0x100, false⟩,
    ⟨"EVIN_CFG3", 0x9C, 0xFF0F, 0x0, 0x0, 0x0, 0x100, false⟩,
    ⟨"EVIN_CFG4", 0xA0, 0xFF0F, 0x0, 0x0, 0x0, 0x100, false⟩,
    ⟨"EVIN_CFG5", 0xA4, 0xFF0F, 0x0, 0x0, 0x0, 0x100, false⟩,
    ⟨"EVIN_CFG6", 0xA8, 0xFF0F, 0x0, 0x0, 0x0, 0x100, false⟩,
    ⟨"EVIN_CFG7", 0xAC, 0xFF0F, 0x0, 0x0, 0x0, 0x100, false⟩,
    ⟨"EVIN_CFG8", 0xB0, 0xFF0F, 0x0, 0x0, 0x0, 0x100, false⟩,
    ⟨"EVIN_CFG9", 0xB4, 0xFF0F, 0x0, 0x0, 0x0, 0x100, false⟩,
    ⟨"EVIN_CFG10", 0xB8, 0xFF0F, 0x0, 0x0, 0x0, 0x100, false⟩,
    ⟨"EVIN_CFG11", 0xBC, 0xFF0F, 0x0, 0x0, 0x0, 0x100, false⟩,
    ⟨"EVIN_CFG12", 0xC0, 0xFF0F, 0x0, 0x0, 0x0, 0x100, false⟩ ] ++
  [ ⟨"EVIN_CFG13", 0xC4, 0xFF0F, 0x0, 0x0, 0x0, 0x100, false⟩,
    ⟨"EVIN_CFG14", 0xC8, 0xFF0F, 0x0, 0x0, 0x0, 0x100, false⟩,
    ⟨"EVIN_CFG15", 0xCC, 0xFF0F, 0x0, 0x0, 0x0, 0x100, false⟩,
    ⟨"CNT_CLR", 0xD0, 0x0, 0x0, 0x0, 0x1, 0x0, false⟩,
    ⟨"MSGS_SENT", 0xE0, 0x0, 0x0, 0x0, 0x0, 0x0, false⟩,
    ⟨"CLAIMS", 0xE4, 0x0, 0x0, 0x0, 0x0, 0x0, false⟩,
    ⟨"COMPLETES", 0xE8, 0x0, 0x0, 0x0, 0x0, 0x0, false⟩,
    ⟨"HELD_MASKED", 0xEC, 0x0, 0x0, 0x0, 0x0, 0x0, false⟩,
    ⟨"ASLEEP_WAITS", 0xF0, 0x0, 0x0, 0x0, 0x0, 0x0, false⟩,
    ⟨"TGT_DENIED", 0xF4, 0x0, 0x0, 0x0, 0x0, 0x0, false⟩,
    ⟨"STACK_FAULTS", 0xF8, 0x0, 0x0, 0x0, 0x0, 0x0, false⟩,
    ⟨"HOLDOFF_WAITS", 0xFC, 0x0, 0x0, 0x0, 0x0, 0x0, false⟩ ]
end LND

/-! ### LNK: fields (R230, R231) -/
namespace LNK
def LINK_CTL_LINK_EN : Fld := ⟨0x100, 0, 1⟩
def LINK_CTL_CASCADE : Fld := ⟨0x100, 1, 1⟩
def LINK_CTL_AUTO_RESYNC : Fld := ⟨0x100, 2, 1⟩
def LINK_CTL_RESYNC : Fld := ⟨0x100, 3, 1⟩
def LINK_CTL_IDLE : Fld := ⟨0x100, 8, 8⟩
def LINK_STS_STATE : Fld := ⟨0x104, 0, 4⟩
def LINK_STS_HELD : Fld := ⟨0x104, 4, 1⟩
def LINK_STS_SPARE_IN_USE : Fld := ⟨0x104, 5, 1⟩
def LINK_STS_SPARE_LANE : Fld := ⟨0x104, 6, 4⟩
def LINK_STS_CFG_ERR : Fld := ⟨0x104, 10, 1⟩
def LINK_STS_ANCHOR : Fld := ⟨0x104, 16, 10⟩
def LINK_STS_MEMBER : Fld := ⟨0x104, 26, 1⟩
def LINK_STS_STANDBY : Fld := ⟨0x104, 27, 1⟩
def BOND_CTL_WIDTH : Fld := ⟨0x108, 0, 3⟩
def BOND_CTL_SPARE_EN : Fld := ⟨0x108, 3, 1⟩
def BOND_CTL_SPARE_PORT : Fld := ⟨0x108, 8, 10⟩
def VC_CTL_VCS : Fld := ⟨0x10C, 0, 2⟩
def VC_CTL_VCS_USED : Fld := ⟨0x10C, 2, 2⟩
def VC_CTL_RTT : Fld := ⟨0x10C, 8, 12⟩
def VC_CFG_SHARE (k : Nat) : Fld := ⟨0x110 + 4 * k, 0, 12⟩
def VC_CFG_MAXPAY (k : Nat) : Fld := ⟨0x110 + 4 * k, 12, 3⟩
def VC_CFG_XOFF_TH (k : Nat) : Fld := ⟨0x110 + 4 * k, 16, 12⟩
def VC_CFG_BAD (k : Nat) : Fld := ⟨0x110 + 4 * k, 31, 1⟩
def ACK_CTL_ACK_T : Fld := ⟨0x130, 0, 8⟩
def ACK_CTL_ACK_COAL : Fld := ⟨0x130, 8, 8⟩
def ACK_CTL_REPLAY_US : Fld := ⟨0x130, 16, 8⟩
def ACK_CTL_REPLAY_MAX : Fld := ⟨0x130, 24, 4⟩
def EPOCH_LOCAL : Fld := ⟨0x134, 0, 16⟩
def EPOCH_STATION : Fld := ⟨0x134, 16, 16⟩
def WIN_STS_WIN_INIT : Fld := ⟨0x138, 0, 12⟩
def WIN_STS_WIN : Fld := ⟨0x138, 16, 13⟩
def AUDIT_STS_DEFICIT : Fld := ⟨0x13C, 0, 12⟩
def AUDIT_STS_DEFICIT_MAX : Fld := ⟨0x13C, 16, 12⟩
def AUDIT_CTL_LEAK_TH : Fld := ⟨0x140, 0, 12⟩
def SEQ_STS_TX_NEXT : Fld := ⟨0x144, 0, 12⟩
def SEQ_STS_TX_OLDEST : Fld := ⟨0x144, 12, 12⟩
def RX_STS_RX_NEXT : Fld := ⟨0x148, 0, 12⟩
def RX_STS_NAK_STATE : Fld := ⟨0x148, 12, 1⟩
def RX_STS_XOFF_SENT : Fld := ⟨0x148, 16, 8⟩
def RX_STS_XOFF_RCVD : Fld := ⟨0x148, 24, 8⟩
def REPLAY_STS_USED : Fld := ⟨0x14C, 0, 12⟩
def REPLAY_STS_FRAMES : Fld := ⟨0x14C, 16, 11⟩
def REPLAY_STS_STALLED : Fld := ⟨0x14C, 27, 1⟩
def CNT_CLR_CLEAR : Fld := ⟨0x150, 0, 1⟩
def CNT_FRAMES_TX : Nat := 0x180
def CNT_FRAMES_RX : Nat := 0x184
def CNT_REPLAYS : Nat := 0x188
def CNT_FRAMES_REPLAYED : Nat := 0x18C
def CNT_NAKS_TX : Nat := 0x190
def CNT_NAKS_RX : Nat := 0x194
def CNT_CRC_ERRORS : Nat := 0x198
def CNT_CW_CORRECTED : Nat := 0x19C
def CNT_CW_UNCORRECTABLE : Nat := 0x1A0
def CNT_RX_OVERRUNS : Nat := 0x1A4
def CNT_XOFF_TX : Nat := 0x1A8
def CNT_REPLAY_STALLS : Nat := 0x1AC
def CNT_HELD_DISCARDS : Nat := 0x1B0
def CNT_SPARE_SWITCHES : Nat := 0x1B4
def CNT_BAD_CTL : Nat := 0x1B8
def CNT_RESYNCS : Nat := 0x1BC
def CNT_PROTO_ERRORS : Nat := 0x1C0
/-- The registers of the block with their write masks and reset values. -/
def regs : List RegInfo :=
  [ ⟨"LINK_CTL", 0x100, 0xFF05, 0x2, 0x0, 0x8, 0xA00, true⟩,
    ⟨"LINK_STS", 0x104, 0x0, 0x0, 0x0, 0x0, 0x0, false⟩,
    ⟨"BOND_CTL", 0x108, 0x3FF0F, 0x0, 0x0, 0x0, 0x0, true⟩,
    ⟨"VC_CTL", 0x10C, 0xFFF03, 0x0, 0x0, 0x0, 0xC800, true⟩,
    ⟨"VC_CFG0", 0x110, 0x7FFF, 0x0, 0x0, 0x0, 0x0, true⟩,
    ⟨"VC_CFG1", 0x114, 0x7FFF, 0x0, 0x0, 0x0, 0x0, true⟩,
    ⟨"VC_CFG2", 0x118, 0x7FFF, 0x0, 0x0, 0x0, 0x0, true⟩,
    ⟨"VC_CFG3", 0x11C, 0x7FFF, 0x0, 0x0, 0x0, 0x0, true⟩,
    ⟨"VC_CFG4", 0x120, 0x7FFF, 0x0, 0x0, 0x0, 0x0, true⟩,
    ⟨"VC_CFG5", 0x124, 0x7FFF, 0x0, 0x0, 0x0, 0x0, true⟩,
    ⟨"VC_CFG6", 0x128, 0x7FFF, 0x0, 0x0, 0x0, 0x0, true⟩,
    ⟨"VC_CFG7", 0x12C, 0x7FFF, 0x0, 0x0, 0x0, 0x0, true⟩,
    ⟨"ACK_CTL", 0x130, 0xFFFFFFF, 0x0, 0x0, 0x0, 0x4141032, true⟩,
    ⟨"EPOCH", 0x134, 0x0, 0x0, 0x0, 0x0, 0x0, false⟩,
    ⟨"WIN_STS", 0x138, 0x0, 0x0, 0x0, 0x0, 0x0, false⟩,
    ⟨"AUDIT_STS", 0x13C, 0x0, 0x0, 0x0, 0x0, 0x0, false⟩ ] ++
  [ ⟨"AUDIT_CTL", 0x140, 0xFFF, 0x0, 0x0, 0x0, 0x20, true⟩,
    ⟨"SEQ_STS", 0x144, 0x0, 0x0, 0x0, 0x0, 0x0, false⟩,
    ⟨"RX_STS", 0x148, 0x0, 0x0, 0x0, 0x0, 0x0, false⟩,
    ⟨"REPLAY_STS", 0x14C, 0x0, 0x0, 0x0, 0x0, 0x0, false⟩,
    ⟨"CNT_CLR", 0x150, 0x0, 0x0, 0x0, 0x1, 0x0, true⟩,
    ⟨"FRAMES_TX", 0x180, 0x0, 0x0, 0x0, 0x0, 0x0, true⟩,
    ⟨"FRAMES_RX", 0x184, 0x0, 0x0, 0x0, 0x0, 0x0, true⟩,
    ⟨"REPLAYS", 0x188, 0x0, 0x0, 0x0, 0x0, 0x0, true⟩,
    ⟨"FRAMES_REPLAYED", 0x18C, 0x0, 0x0, 0x0, 0x0, 0x0, true⟩,
    ⟨"NAKS_TX", 0x190, 0x0, 0x0, 0x0, 0x0, 0x0, true⟩,
    ⟨"NAKS_RX", 0x194, 0x0, 0x0, 0x0, 0x0, 0x0, true⟩,
    ⟨"CRC_ERRORS", 0x198, 0x0, 0x0, 0x0, 0x0, 0x0, true⟩,
    ⟨"CW_CORRECTED", 0x19C, 0x0, 0x0, 0x0, 0x0, 0x0, true⟩,
    ⟨"CW_UNCORRECTABLE", 0x1A0, 0x0, 0x0, 0x0, 0x0, 0x0, true⟩,
    ⟨"RX_OVERRUNS", 0x1A4, 0x0, 0x0, 0x0, 0x0, 0x0, true⟩,
    ⟨"XOFF_TX", 0x1A8, 0x0, 0x0, 0x0, 0x0, 0x0, true⟩ ] ++
  [ ⟨"REPLAY_STALLS", 0x1AC, 0x0, 0x0, 0x0, 0x0, 0x0, true⟩,
    ⟨"HELD_DISCARDS", 0x1B0, 0x0, 0x0, 0x0, 0x0, 0x0, true⟩,
    ⟨"SPARE_SWITCHES", 0x1B4, 0x0, 0x0, 0x0, 0x0, 0x0, true⟩,
    ⟨"BAD_CTL", 0x1B8, 0x0, 0x0, 0x0, 0x0, 0x0, true⟩,
    ⟨"RESYNCS", 0x1BC, 0x0, 0x0, 0x0, 0x0, 0x0, true⟩,
    ⟨"PROTO_ERRORS", 0x1C0, 0x0, 0x0, 0x0, 0x0, 0x0, true⟩ ]
end LNK

/-! ### MEZ: fields (R477, R478) -/
namespace MEZ
def MEZ_CTL_COMMIT : Fld := ⟨0x40, 0, 1⟩
def MEZ_CTL_ABORT : Fld := ⟨0x40, 1, 1⟩
def MEZ_STS_STATE : Fld := ⟨0x44, 0, 2⟩
def MEZ_STS_OVERFLOW : Fld := ⟨0x44, 2, 1⟩
def MEZ_STS_CONFLICT : Fld := ⟨0x44, 3, 1⟩
def MEZ_STS_COUNT : Fld := ⟨0x44, 8, 15⟩
def MEZ_STS_LAST_STATUS : Fld := ⟨0x44, 24, 8⟩
def STAGE_ADDR_OFFSET : Fld := ⟨0x48, 2, 24⟩
def STAGE_DATA_DATA : Fld := ⟨0x4C, 0, 32⟩
def STAGE_STS_RESULT : Fld := ⟨0x50, 0, 3⟩
def CONFLICT0_OFFSET : Fld := ⟨0x54, 0, 26⟩
def CONFLICT0_REASON : Fld := ⟨0x54, 28, 3⟩
def CONFLICT1_INDEX : Fld := ⟨0x58, 0, 24⟩
def CONFLICT1_TABLE : Fld := ⟨0x58, 24, 4⟩
def CONFLICT1_IS_TABLE : Fld := ⟨0x58, 31, 1⟩
def APPLY_NS_NS : Fld := ⟨0x5C, 0, 16⟩
def CNT_CLR_CLEAR : Fld := ⟨0x60, 0, 1⟩
def CNT_COMMITS : Nat := 0x80
def CNT_WRITES_APPLIED : Nat := 0x84
def CNT_REFUSED : Nat := 0x88
def CNT_ABORTS : Nat := 0x8C
def CNT_OVERFLOWS : Nat := 0x90
def CNT_RESETS_DEFERRED : Nat := 0x94
/-- The registers of the block with their write masks and reset values. -/
def regs : List RegInfo :=
  [ ⟨"MEZ_CTL", 0x40, 0x0, 0x0, 0x0, 0x3, 0x0, false⟩,
    ⟨"MEZ_STS", 0x44, 0x0, 0x0, 0x0, 0x0, 0x0, false⟩,
    ⟨"STAGE_ADDR", 0x48, 0x3FFFFFC, 0x0, 0x0, 0x0, 0x0, false⟩,
    ⟨"STAGE_DATA", 0x4C, 0x0, 0x0, 0x0, 0xFFFFFFFF, 0x0, false⟩,
    ⟨"STAGE_STS", 0x50, 0x0, 0x0, 0x0, 0x0, 0x0, false⟩,
    ⟨"CONFLICT0", 0x54, 0x0, 0x0, 0x0, 0x0, 0x0, false⟩,
    ⟨"CONFLICT1", 0x58, 0x0, 0x0, 0x0, 0x0, 0x0, false⟩,
    ⟨"APPLY_NS", 0x5C, 0x0, 0x0, 0x0, 0x0, 0x0, false⟩,
    ⟨"CNT_CLR", 0x60, 0x0, 0x0, 0x0, 0x1, 0x0, false⟩,
    ⟨"COMMITS", 0x80, 0x0, 0x0, 0x0, 0x0, 0x0, false⟩,
    ⟨"WRITES_APPLIED", 0x84, 0x0, 0x0, 0x0, 0x0, 0x0, false⟩,
    ⟨"REFUSED", 0x88, 0x0, 0x0, 0x0, 0x0, 0x0, false⟩,
    ⟨"ABORTS", 0x8C, 0x0, 0x0, 0x0, 0x0, 0x0, false⟩,
    ⟨"OVERFLOWS", 0x90, 0x0, 0x0, 0x0, 0x0, 0x0, false⟩,
    ⟨"RESETS_DEFERRED", 0x94, 0x0, 0x0, 0x0, 0x0, 0x0, false⟩ ]
end MEZ

/-! ### MGQ: fields (R480, R481) -/
namespace MGQ
def RING_LO_BASE_LO : Fld := ⟨0x40, 6, 26⟩
def RING_HI_BASE_HI : Fld := ⟨0x44, 0, 32⟩
def RING_CTL_EN : Fld := ⟨0x48, 0, 1⟩
def RING_CTL_RESUME : Fld := ⟨0x48, 1, 1⟩
def RING_CTL_SIZE : Fld := ⟨0x48, 4, 4⟩
def DB_COUNT : Fld := ⟨0x4C, 0, 16⟩
def RING_STS_STATE : Fld := ⟨0x50, 0, 3⟩
def RING_STS_STOP_CODE : Fld := ⟨0x50, 8, 8⟩
def RING_STS_CCOUNT : Fld := ⟨0x50, 16, 16⟩
def EXEC_STS_OP : Fld := ⟨0x54, 0, 8⟩
def EXEC_STS_BUSY : Fld := ⟨0x54, 8, 1⟩
def EXEC_STS_SOURCE : Fld := ⟨0x54, 9, 1⟩
def CNT_CLR_CLEAR : Fld := ⟨0x58, 0, 1⟩
def CNT_RING_CMDS : Nat := 0x80
def CNT_MCTP_CMDS : Nat := 0x84
def CNT_CMD_ERRORS : Nat := 0x88
def CNT_DB_IGNORED : Nat := 0x8C
/-- The registers of the block with their write masks and reset values. -/
def regs : List RegInfo :=
  [ ⟨"RING_LO", 0x40, 0xFFFFFFC0, 0x0, 0x0, 0x0, 0x0, false⟩,
    ⟨"RING_HI", 0x44, 0xFFFFFFFF, 0x0, 0x0, 0x0, 0x0, false⟩,
    ⟨"RING_CTL", 0x48, 0xF1, 0x0, 0x0, 0x2, 0x40, false⟩,
    ⟨"DB", 0x4C, 0xFFFF, 0x0, 0x0, 0x0, 0x0, false⟩,
    ⟨"RING_STS", 0x50, 0x0, 0x0, 0x0, 0x0, 0x0, false⟩,
    ⟨"EXEC_STS", 0x54, 0x0, 0x0, 0x0, 0x0, 0x0, false⟩,
    ⟨"CNT_CLR", 0x58, 0x0, 0x0, 0x0, 0x1, 0x0, false⟩,
    ⟨"RING_CMDS", 0x80, 0x0, 0x0, 0x0, 0x0, 0x0, false⟩,
    ⟨"MCTP_CMDS", 0x84, 0x0, 0x0, 0x0, 0x0, 0x0, false⟩,
    ⟨"CMD_ERRORS", 0x88, 0x0, 0x0, 0x0, 0x0, 0x0, false⟩,
    ⟨"DB_IGNORED", 0x8C, 0x0, 0x0, 0x0, 0x0, 0x0, false⟩ ]
end MGQ

/-! ### MIR: fields (R141, R142) -/
namespace MIR
def MIR_CTL_POLL_US : Fld := ⟨0x80, 0, 16⟩
def MIR_CTL_OUT_EN : Fld := ⟨0x80, 16, 1⟩
def CNT_CLR_CLEAR : Fld := ⟨0x84, 0, 1⟩
def CNT_OUT_UPDATES : Nat := 0xC0
def CNT_OUT_COALESCED : Nat := 0xC4
def CNT_IN_UPDATES : Nat := 0xC8
def CNT_POLL_MISSED : Nat := 0xCC
/-- The registers of the block with their write masks and reset values. -/
def regs : List RegInfo :=
  [ ⟨"MIR_CTL", 0x80, 0x1FFFF, 0x0, 0x0, 0x0, 0x0, false⟩,
    ⟨"CNT_CLR", 0x84, 0x0, 0x0, 0x0, 0x1, 0x0, false⟩,
    ⟨"OUT_UPDATES", 0xC0, 0x0, 0x0, 0x0, 0x0, 0x0, false⟩,
    ⟨"OUT_COALESCED", 0xC4, 0x0, 0x0, 0x0, 0x0, 0x0, false⟩,
    ⟨"IN_UPDATES", 0xC8, 0x0, 0x0, 0x0, 0x0, 0x0, false⟩,
    ⟨"POLL_MISSED", 0xCC, 0x0, 0x0, 0x0, 0x0, 0x0, false⟩ ]
end MIR

/-! ### OAS: fields (R528, R529) -/
namespace OAS
def PWR_REQ_TARGET : Fld := ⟨0x40, 0, 3⟩
def PWR_REQ_PORT_DET : Fld := ⟨0x40, 8, 1⟩
def PWR_REQ_TIMER_EN : Fld := ⟨0x40, 9, 1⟩
def PWR_REQ_WAKE_IN_EN : Fld := ⟨0x40, 10, 1⟩
def PWR_REQ_GO : Fld := ⟨0x40, 16, 1⟩
def PWR_STS_STATE : Fld := ⟨0x44, 0, 3⟩
def PWR_STS_TARGET : Fld := ⟨0x44, 4, 3⟩
def PWR_STS_BUSY : Fld := ⟨0x44, 8, 1⟩
def PWR_STS_ARMED : Fld := ⟨0x44, 9, 1⟩
def PWR_STS_HELD : Fld := ⟨0x44, 10, 1⟩
def PWR_STS_RESULT : Fld := ⟨0x44, 12, 4⟩
def PWR_REFUSER_REASON : Fld := ⟨0x48, 0, 4⟩
def PWR_REFUSER_INSTANCE : Fld := ⟨0x48, 12, 12⟩
def PWR_REFUSER_BLOCK : Fld := ⟨0x48, 24, 8⟩
def WAKE_FLAG_HOST : Fld := ⟨0x4C, 0, 1⟩
def WAKE_FLAG_LIST : Fld := ⟨0x4C, 1, 1⟩
def WAKE_FLAG_WAKE_IN : Fld := ⟨0x4C, 2, 1⟩
def WAKE_FLAG_PORT : Fld := ⟨0x4C, 3, 1⟩
def WAKE_FLAG_TIMER : Fld := ⟨0x4C, 4, 1⟩
def WAKE_FLAG_THERMAL : Fld := ⟨0x4C, 5, 1⟩
def WAKE_FLAG_ANY : Fld := ⟨0x4C, 31, 1⟩
def WAKE_SRC_SOURCE : Fld := ⟨0x50, 0, 16⟩
def WAKE_SRC_SLOT : Fld := ⟨0x50, 16, 6⟩
def WAKE_SRC_PORT : Fld := ⟨0x50, 22, 10⟩
def WAKE_SLOTS_LO_SLOTS : Fld := ⟨0x54, 0, 32⟩
def WAKE_SLOTS_HI_SLOTS : Fld := ⟨0x58, 0, 32⟩
def WAKE_TIMER_TICKS : Fld := ⟨0x5C, 0, 32⟩
def SLEPT_TICKS : Fld := ⟨0x60, 0, 32⟩
def OAS_CTL_CLK_SRC : Fld := ⟨0x64, 0, 1⟩
def OAS_CTL_RC_ACTIVE : Fld := ⟨0x64, 1, 1⟩
def OAS_CTL_STOP_US : Fld := ⟨0x64, 16, 16⟩
def CNT_CLR_CLEAR : Fld := ⟨0x68, 0, 1⟩
def CNT_ENTRIES : Nat := 0x80
def CNT_ROLLBACKS : Nat := 0x84
def CNT_WAKES : Nat := 0x88
def CNT_SUPERSEDED : Nat := 0x8C
/-- The registers of the block with their write masks and reset values. -/
def regs : List RegInfo :=
  [ ⟨"PWR_REQ", 0x40, 0x707, 0x0, 0x0, 0x10000, 0x0, false⟩,
    ⟨"PWR_STS", 0x44, 0x0, 0x0, 0x0, 0x0, 0x0, false⟩,
    ⟨"PWR_REFUSER", 0x48, 0x0, 0x0, 0x0, 0x0, 0x0, false⟩,
    ⟨"WAKE_FLAG", 0x4C, 0x0, 0x0, 0x3F, 0x0, 0x0, false⟩,
    ⟨"WAKE_SRC", 0x50, 0x0, 0x0, 0x0, 0x0, 0x0, false⟩,
    ⟨"WAKE_SLOTS_LO", 0x54, 0x0, 0x0, 0x0, 0x0, 0x0, false⟩,
    ⟨"WAKE_SLOTS_HI", 0x58, 0x0, 0x0, 0x0, 0x0, 0x0, false⟩,
    ⟨"WAKE_TIMER", 0x5C, 0xFFFFFFFF, 0x0, 0x0, 0x0, 0x0, false⟩,
    ⟨"SLEPT", 0x60, 0x0, 0x0, 0x0, 0x0, 0x0, false⟩,
    ⟨"OAS_CTL", 0x64, 0xFFFF0001, 0x0, 0x0, 0x0, 0x3E80000, false⟩,
    ⟨"CNT_CLR", 0x68, 0x0, 0x0, 0x0, 0x1, 0x0, false⟩,
    ⟨"ENTRIES", 0x80, 0x0, 0x0, 0x0, 0x0, 0x0, false⟩,
    ⟨"ROLLBACKS", 0x84, 0x0, 0x0, 0x0, 0x0, 0x0, false⟩,
    ⟨"WAKES", 0x88, 0x0, 0x0, 0x0, 0x0, 0x0, false⟩,
    ⟨"SUPERSEDED", 0x8C, 0x0, 0x0, 0x0, 0x0, 0x0, false⟩ ]
end OAS

/-! ### POL: fields (R352, R355) -/
namespace POL
def CNT_CLR_CLEAR : Fld := ⟨0x80, 0, 1⟩
def CNT_GREEN : Nat := 0xC0
def CNT_YELLOW : Nat := 0xC4
def CNT_RED : Nat := 0xC8
def CNT_POL_DROPS : Nat := 0xCC
/-- The registers of the block with their write masks and reset values. -/
def regs : List RegInfo :=
  [ ⟨"GREEN", 0xC0, 0x0, 0x0, 0x0, 0x0, 0x0, false⟩,
    ⟨"YELLOW", 0xC4, 0x0, 0x0, 0x0, 0x0, 0x0, false⟩,
    ⟨"RED", 0xC8, 0x0, 0x0, 0x0, 0x0, 0x0, false⟩,
    ⟨"POL_DROPS", 0xCC, 0x0, 0x0, 0x0, 0x0, 0x0, false⟩,
    ⟨"CNT_CLR", 0x80, 0x0, 0x0, 0x0, 0x1, 0x0, false⟩ ]
end POL

/-! ### PRT: fields (R181, R183) -/
namespace PRT
def PHY_CTL_RATE_MAX : Fld := ⟨0x40, 0, 2⟩
def PHY_CTL_ROLE : Fld := ⟨0x40, 2, 2⟩
def PHY_CTL_ALIGN : Fld := ⟨0x40, 4, 1⟩
def PHY_CTL_PEER_CHK : Fld := ⟨0x40, 5, 1⟩
def PHY_CTL_ACT_WAKE : Fld := ⟨0x40, 6, 1⟩
def PHY_CTL_SLEEP_EN : Fld := ⟨0x40, 7, 1⟩
def PHY_CTL_SLEEP_REQ : Fld := ⟨0x40, 8, 1⟩
def PHY_CTL_RETRAIN : Fld := ⟨0x40, 9, 1⟩
def PHY_CTL_DIAG_LIVE : Fld := ⟨0x40, 10, 1⟩
def PHY_CTL_POL_AUTO : Fld := ⟨0x40, 11, 1⟩
def PHY_STS_STATE : Fld := ⟨0x44, 0, 4⟩
def PHY_STS_RATE : Fld := ⟨0x44, 4, 2⟩
def PHY_STS_POL_INV : Fld := ⟨0x44, 6, 1⟩
def PHY_STS_BLOCK_LOCK : Fld := ⟨0x44, 7, 1⟩
def PHY_STS_ALIGNED : Fld := ⟨0x44, 8, 1⟩
def PHY_STS_LREF_OK : Fld := ⟨0x44, 9, 1⟩
def PHY_STS_ATTEMPTS : Fld := ⟨0x44, 16, 8⟩
def PEER_ID_EXPECT : Fld := ⟨0x48, 0, 16⟩
def LOCAL_ID_ID : Fld := ⟨0x4C, 0, 16⟩
def GRP_CTL_LREF_SRC : Fld := ⟨0x50, 0, 1⟩
def GRP_CTL_LREF_OE : Fld := ⟨0x50, 1, 1⟩
def GRP_CTL_AUTO_SLEEP : Fld := ⟨0x50, 2, 1⟩
def GRP_CTL_IDLE : Fld := ⟨0x50, 8, 8⟩
def GRP_STS_AWAKE : Fld := ⟨0x54, 0, 1⟩
def GRP_STS_PLL_LOCK : Fld := ⟨0x54, 1, 1⟩
def GRP_STS_NOT_ADMITTED : Fld := ⟨0x54, 2, 1⟩
def GRP_STS_LREF_IN_OK : Fld := ⟨0x54, 3, 1⟩
def GRP_STS_ACTIVE_MAP : Fld := ⟨0x54, 16, 16⟩
def DIAG_CTL_RUN : Fld := ⟨0x58, 0, 1⟩
def DIAG_CTL_VF : Fld := ⟨0x58, 1, 7⟩
def DIAG_CTL_BOARD_PS : Fld := ⟨0x58, 8, 12⟩
def DIAG_CTL_CHG_THR : Fld := ⟨0x58, 20, 8⟩
def DIAG_STS_FAULT : Fld := ⟨0x5C, 0, 4⟩
def DIAG_STS_COND : Fld := ⟨0x5C, 4, 1⟩
def DIAG_STS_DONE : Fld := ⟨0x5C, 5, 1⟩
def DIAG_STS_TAP : Fld := ⟨0x5C, 8, 8⟩
def DIAG_STS_DIST_CM : Fld := ⟨0x5C, 16, 16⟩
def PEER_CAP_RX_ID : Fld := ⟨0x60, 0, 16⟩
def PEER_CAP_RATES : Fld := ⟨0x60, 16, 3⟩
def PEER_CAP_ROLE : Fld := ⟨0x60, 19, 1⟩
def PEER_CAP_LANE : Fld := ⟨0x60, 20, 4⟩
def PEER_CAP_WIDTH : Fld := ⟨0x60, 24, 3⟩
def PEER_CAP_VALID : Fld := ⟨0x60, 27, 1⟩
def RX_QUAL_SNR : Fld := ⟨0x64, 0, 8⟩
def RX_QUAL_ECHO_RL : Fld := ⟨0x64, 8, 8⟩
def CNT_CLR_CLEAR : Fld := ⟨0x68, 0, 1⟩
def CNT_TRAININGS : Nat := 0x80
def CNT_TRAIN_FAILS : Nat := 0x84
def CNT_RETRAINS : Nat := 0x88
def CNT_LOCK_LOSSES : Nat := 0x8C
def CNT_CABLE_FAULTS : Nat := 0x90
def CNT_CABLE_CHANGES : Nat := 0x94
def CNT_WAKES : Nat := 0x98
def CNT_WAKE_REFUSED : Nat := 0x9C
/-- The registers of the block with their write masks and reset values. -/
def regs : List RegInfo :=
  [ ⟨"PHY_CTL", 0x40, 0xCFF, 0x0, 0x0, 0x300, 0x803, true⟩,
    ⟨"PHY_STS", 0x44, 0x0, 0x0, 0x0, 0x0, 0x0, false⟩,
    ⟨"PEER_ID", 0x48, 0xFFFF, 0x0, 0x0, 0x0, 0x0, true⟩,
    ⟨"LOCAL_ID", 0x4C, 0x0, 0xFFFF, 0x0, 0x0, 0x0, true⟩,
    ⟨"GRP_CTL", 0x50, 0xFF07, 0x0, 0x0, 0x0, 0xA00, true⟩,
    ⟨"GRP_STS", 0x54, 0x0, 0x0, 0x0, 0x0, 0x0, false⟩,
    ⟨"DIAG_CTL", 0x58, 0xFFFFFFE, 0x0, 0x0, 0x1, 0x200008C, true⟩,
    ⟨"DIAG_STS", 0x5C, 0x0, 0x0, 0x0, 0x0, 0x0, false⟩,
    ⟨"PEER_CAP", 0x60, 0x0, 0x0, 0x0, 0x0, 0x0, false⟩,
    ⟨"RX_QUAL", 0x64, 0x0, 0x0, 0x0, 0x0, 0x0, false⟩,
    ⟨"CNT_CLR", 0x68, 0x0, 0x0, 0x0, 0x1, 0x0, true⟩,
    ⟨"TRAININGS", 0x80, 0x0, 0x0, 0x0, 0x0, 0x0, true⟩,
    ⟨"TRAIN_FAILS", 0x84, 0x0, 0x0, 0x0, 0x0, 0x0, true⟩,
    ⟨"RETRAINS", 0x88, 0x0, 0x0, 0x0, 0x0, 0x0, true⟩,
    ⟨"LOCK_LOSSES", 0x8C, 0x0, 0x0, 0x0, 0x0, 0x0, true⟩,
    ⟨"CABLE_FAULTS", 0x90, 0x0, 0x0, 0x0, 0x0, 0x0, true⟩ ] ++
  [ ⟨"CABLE_CHANGES", 0x94, 0x0, 0x0, 0x0, 0x0, 0x0, true⟩,
    ⟨"WAKES", 0x98, 0x0, 0x0, 0x0, 0x0, 0x0, true⟩,
    ⟨"WAKE_REFUSED", 0x9C, 0x0, 0x0, 0x0, 0x0, 0x0, true⟩ ]
end PRT

/-! ### SCH: fields (R345, R350) -/
namespace SCH
def CNT_CLR_CLEAR : Fld := ⟨0x80, 0, 1⟩
def CNT_GATE_WAITS : Nat := 0xC0
def CNT_GATE_DROPS : Nat := 0xC4
def CNT_OVERRUNS : Nat := 0xC8
def CNT_LEAF_HOLDS : Nat := 0xCC
/-- The registers of the block with their write masks and reset values. -/
def regs : List RegInfo :=
  [ ⟨"GATE_WAITS", 0xC0, 0x0, 0x0, 0x0, 0x0, 0x0, false⟩,
    ⟨"GATE_DROPS", 0xC4, 0x0, 0x0, 0x0, 0x0, 0x0, false⟩,
    ⟨"OVERRUNS", 0xC8, 0x0, 0x0, 0x0, 0x0, 0x0, false⟩,
    ⟨"LEAF_HOLDS", 0xCC, 0x0, 0x0, 0x0, 0x0, 0x0, false⟩,
    ⟨"CNT_CLR", 0x80, 0x0, 0x0, 0x0, 0x1, 0x0, false⟩ ]
end SCH

/-! ### SUM: fields (R450) -/
namespace SUM
def SUM_CTL_EN : Fld := ⟨0x0, 0, 1⟩
def SUM_CTL_OUT : Fld := ⟨0x0, 1, 1⟩
def SUM_CTL_STACK_RESET : Fld := ⟨0x0, 2, 1⟩
def SUM_CTL_THRESH : Fld := ⟨0x0, 8, 8⟩
def SUM_CTL_ENTRY : Fld := ⟨0x0, 16, 15⟩
def SUM_STS_DEPTH : Fld := ⟨0x4, 0, 5⟩
def SUM_STS_FAULT : Fld := ⟨0x4, 5, 1⟩
def SUM_STS_REQ : Fld := ⟨0x4, 6, 1⟩
def SUM_STS_TOP_PRIO : Fld := ⟨0x4, 8, 8⟩
def SUM_STS_WAITING : Fld := ⟨0x4, 16, 16⟩
def CLAIM_SOURCE : Fld := ⟨0x8, 0, 16⟩
def CLAIM_PRIO : Fld := ⟨0x8, 16, 8⟩
def CLAIM_NONE : Fld := ⟨0x8, 31, 1⟩
def PEEK_VALUE : Fld := ⟨0xC, 0, 32⟩
def COMPLETE_SOURCE : Fld := ⟨0x10, 0, 16⟩
/-- The registers of the block with their write masks and reset values. -/
def regs : List RegInfo :=
  [ ⟨"SUM_CTL", 0x0, 0x7FFFFF03, 0x0, 0x0, 0x4, 0x0, false⟩,
    ⟨"SUM_STS", 0x4, 0x0, 0x0, 0x0, 0x0, 0x0, false⟩,
    ⟨"CLAIM", 0x8, 0x0, 0x0, 0x0, 0x0, 0x80000000, false⟩,
    ⟨"PEEK", 0xC, 0x0, 0x0, 0x0, 0x0, 0x80000000, false⟩,
    ⟨"COMPLETE", 0x10, 0x0, 0x0, 0x0, 0xFFFF, 0x0, false⟩ ]
end SUM

/-! ### SWC: fields (R291, R295) -/
namespace SWC
def SWC_CTL_SPILL_EN : Fld := ⟨0x80, 0, 1⟩
def SWC_CTL_AUTO_RETIRE : Fld := ⟨0x80, 1, 1⟩
def SWC_CTL_ECC_TH : Fld := ⟨0x80, 8, 8⟩
def RSV_CTL_RSV_CELLS : Fld := ⟨0x84, 0, 18⟩
def SPILL_ON_ON : Fld := ⟨0x88, 0, 18⟩
def SPILL_OFF_OFF : Fld := ⟨0x8C, 0, 18⟩
def MC_CTL_DETACH_MS : Fld := ⟨0x90, 0, 16⟩
def AUD_CTL_EN : Fld := ⟨0x94, 0, 1⟩
def AUD_CTL_INTERVAL_MS : Fld := ⟨0x94, 8, 8⟩
def BANK_CTL_BANK : Fld := ⟨0x98, 0, 6⟩
def BANK_CTL_RETIRE : Fld := ⟨0x98, 8, 1⟩
def QFLUSH_QUEUE : Fld := ⟨0x9C, 0, 16⟩
def QFLUSH_GO : Fld := ⟨0x9C, 16, 1⟩
def QFLUSH_BUSY : Fld := ⟨0x9C, 17, 1⟩
def GAL_STS_FREE : Fld := ⟨0xA0, 0, 19⟩
def GAL_STS_SPILLING : Fld := ⟨0xA0, 19, 1⟩
def GAL_STS_RETIRED_N : Fld := ⟨0xA0, 20, 3⟩
def POOL_STS_SHARED_SIZE : Fld := ⟨0xA4, 0, 28⟩
def SHARED_USED_USED : Fld := ⟨0xA8, 0, 28⟩
def GUAR_SUM_SUM : Fld := ⟨0xAC, 0, 28⟩
def GUAR_SUM_GUAR_OVER : Fld := ⟨0xAC, 31, 1⟩
def SPILL_STS_SPILL_CELLS : Fld := ⟨0xB0, 0, 28⟩
def SPILL_USED_USED : Fld := ⟨0xB4, 0, 28⟩
def RESEQ_STS_IN_USE : Fld := ⟨0xB8, 0, 13⟩
def RESEQ_STS_PEAK : Fld := ⟨0xB8, 16, 13⟩
def RETIRED_LO_MAP : Fld := ⟨0xBC, 0, 32⟩
def RETIRED_HI_MAP : Fld := ⟨0xC0, 0, 32⟩
def AUD_STS_LAST_LEAKED : Fld := ⟨0xC4, 0, 19⟩
def CNT_CLR_CLEAR : Fld := ⟨0xC8, 0, 1⟩
def CNT_FRAMES_IN : Nat := 0x100
def CNT_FRAMES_OUT : Nat := 0x104
def CNT_ADMIT_DROPS : Nat := 0x108
def CNT_WRED_DROPS : Nat := 0x10C
def CNT_NA_DROPS : Nat := 0x110
def CNT_HOST_WAITS : Nat := 0x114
def CNT_SPILLED : Nat := 0x118
def CNT_STALE_DISCARDS : Nat := 0x11C
def CNT_MC_DETACHED : Nat := 0x120
def CNT_ECC_DISCARDS : Nat := 0x124
def CNT_LEAKED_CELLS : Nat := 0x128
def CNT_FLUSHED : Nat := 0x12C
/-- The registers of the block with their write masks and reset values. -/
def regs : List RegInfo :=
  [ ⟨"SWC_CTL", 0x80, 0xFF03, 0x0, 0x0, 0x0, 0x1000, false⟩,
    ⟨"RSV_CTL", 0x84, 0x3FFFF, 0x0, 0x0, 0x0, 0x4000, false⟩,
    ⟨"SPILL_ON", 0x88, 0x3FFFF, 0x0, 0x0, 0x0, 0x8000, false⟩,
    ⟨"SPILL_OFF", 0x8C, 0x3FFFF, 0x0, 0x0, 0x0, 0x10000, false⟩,
    ⟨"MC_CTL", 0x90, 0xFFFF, 0x0, 0x0, 0x0, 0x0, false⟩,
    ⟨"AUD_CTL", 0x94, 0xFF01, 0x0, 0x0, 0x0, 0x6400, false⟩,
    ⟨"BANK_CTL", 0x98, 0x3F, 0x0, 0x0, 0x100, 0x0, false⟩,
    ⟨"QFLUSH", 0x9C, 0xFFFF, 0x0, 0x0, 0x10000, 0x0, false⟩,
    ⟨"GAL_STS", 0xA0, 0x0, 0x0, 0x0, 0x0, 0x0, false⟩,
    ⟨"POOL_STS", 0xA4, 0x0, 0x0, 0x0, 0x0, 0x0, false⟩,
    ⟨"SHARED_USED", 0xA8, 0x0, 0x0, 0x0, 0x0, 0x0, false⟩,
    ⟨"GUAR_SUM", 0xAC, 0x0, 0x0, 0x0, 0x0, 0x0, false⟩,
    ⟨"SPILL_STS", 0xB0, 0x0, 0x0, 0x0, 0x0, 0x0, false⟩,
    ⟨"SPILL_USED", 0xB4, 0x0, 0x0, 0x0, 0x0, 0x0, false⟩,
    ⟨"RESEQ_STS", 0xB8, 0x0, 0x0, 0x0, 0x0, 0x0, false⟩,
    ⟨"RETIRED_LO", 0xBC, 0x0, 0x0, 0x0, 0x0, 0x0, false⟩ ] ++
  [ ⟨"RETIRED_HI", 0xC0, 0x0, 0x0, 0x0, 0x0, 0x0, false⟩,
    ⟨"AUD_STS", 0xC4, 0x0, 0x0, 0x0, 0x0, 0x0, false⟩,
    ⟨"CNT_CLR", 0xC8, 0x0, 0x0, 0x0, 0x1, 0x0, false⟩,
    ⟨"FRAMES_IN", 0x100, 0x0, 0x0, 0x0, 0x0, 0x0, false⟩,
    ⟨"FRAMES_OUT", 0x104, 0x0, 0x0, 0x0, 0x0, 0x0, false⟩,
    ⟨"ADMIT_DROPS", 0x108, 0x0, 0x0, 0x0, 0x0, 0x0, false⟩,
    ⟨"WRED_DROPS", 0x10C, 0x0, 0x0, 0x0, 0x0, 0x0, false⟩,
    ⟨"NA_DROPS", 0x110, 0x0, 0x0, 0x0, 0x0, 0x0, false⟩,
    ⟨"HOST_WAITS", 0x114, 0x0, 0x0, 0x0, 0x0, 0x0, false⟩,
    ⟨"SPILLED", 0x118, 0x0, 0x0, 0x0, 0x0, 0x0, false⟩,
    ⟨"STALE_DISCARDS", 0x11C, 0x0, 0x0, 0x0, 0x0, 0x0, false⟩,
    ⟨"MC_DETACHED", 0x120, 0x0, 0x0, 0x0, 0x0, 0x0, false⟩,
    ⟨"ECC_DISCARDS", 0x124, 0x0, 0x0, 0x0, 0x0, 0x0, false⟩,
    ⟨"LEAKED_CELLS", 0x128, 0x0, 0x0, 0x0, 0x0, 0x0, false⟩,
    ⟨"FLUSHED", 0x12C, 0x0, 0x0, 0x0, 0x0, 0x0, false⟩ ]
end SWC

/-! ### TACC: fields (R36, R37) -/
namespace TACC
def TBL_ADDR_INDEX : Fld := ⟨0x40, 0, 24⟩
def TBL_ADDR_TABLE : Fld := ⟨0x40, 24, 4⟩
def TBL_ADDR_WORD : Fld := ⟨0x40, 28, 3⟩
def TBL_CMD_OP : Fld := ⟨0x54, 0, 2⟩
def TBL_CMD_AUTOINC : Fld := ⟨0x54, 2, 1⟩
def TBL_CMD_STAGE : Fld := ⟨0x54, 3, 1⟩
def TBL_CMD_BUSY : Fld := ⟨0x54, 8, 1⟩
def TBL_CMD_STATUS : Fld := ⟨0x54, 12, 4⟩
/-- The registers of the block with their write masks and reset values. -/
def regs : List RegInfo :=
  [ ⟨"TBL_ADDR", 0x40, 0x7FFFFFFF, 0x0, 0x0, 0x0, 0x0, false⟩,
    ⟨"TBL_CMD", 0x54, 0xC, 0x0, 0x0, 0x3, 0x0, false⟩ ]
end TACC

/-! ### VLT: fields (R556, R558) -/
namespace VLT
def VLT_STS_BOOT_NUMBER : Fld := ⟨0x80, 0, 16⟩
def VLT_STS_KEY_SET : Fld := ⟨0x80, 16, 1⟩
def VLT_STS_IDENT_READY : Fld := ⟨0x80, 17, 1⟩
def VLT_STS_ERASE_PENDING : Fld := ⟨0x80, 18, 1⟩
def VLT_STS_WRITE_BUSY : Fld := ⟨0x80, 19, 1⟩
def VLT_STS_DEBUG : Fld := ⟨0x80, 20, 2⟩
def SLOT_A_STATE : Fld := ⟨0x84, 0, 2⟩
def SLOT_A_CHECK : Fld := ⟨0x84, 8, 8⟩
def SLOT_A_SEQ : Fld := ⟨0x84, 16, 16⟩
def SLOT_B_STATE : Fld := ⟨0x88, 0, 2⟩
def SLOT_B_CHECK : Fld := ⟨0x88, 8, 8⟩
def SLOT_B_SEQ : Fld := ⟨0x88, 16, 16⟩
def SPI_STS_READ : Fld := ⟨0x8C, 0, 1⟩
def SPI_STS_CHECK : Fld := ⟨0x8C, 8, 8⟩
def DBG_CTL_UNLOCK : Fld := ⟨0x90, 0, 1⟩
def DBG_CTL_CONFIRM : Fld := ⟨0x90, 16, 16⟩
def BOOT_CTL_REBOOT : Fld := ⟨0x94, 0, 1⟩
def BOOT_CTL_CONFIRM : Fld := ⟨0x94, 16, 16⟩
def CNT_CLR_CLEAR : Fld := ⟨0x98, 0, 1⟩
def CNT_WORDS_WRITTEN : Nat := 0xC0
def CNT_VERIFY_FAILS : Nat := 0xC4
def CNT_COMMITS : Nat := 0xC8
def CNT_REJECTS : Nat := 0xCC
/-- The registers of the block with their write masks and reset values. -/
def regs : List RegInfo :=
  [ ⟨"VLT_STS", 0x80, 0x0, 0x0, 0x0, 0x0, 0x0, false⟩,
    ⟨"SLOT_A", 0x84, 0x0, 0x0, 0x0, 0x0, 0x0, false⟩,
    ⟨"SLOT_B", 0x88, 0x0, 0x0, 0x0, 0x0, 0x0, false⟩,
    ⟨"SPI_STS", 0x8C, 0x0, 0x0, 0x0, 0x0, 0x0, false⟩,
    ⟨"DBG_CTL", 0x90, 0x0, 0x0, 0x0, 0xFFFF0001, 0x0, false⟩,
    ⟨"BOOT_CTL", 0x94, 0x0, 0x0, 0x0, 0xFFFF0001, 0x0, false⟩,
    ⟨"CNT_CLR", 0x98, 0x0, 0x0, 0x0, 0x1, 0x0, false⟩,
    ⟨"WORDS_WRITTEN", 0xC0, 0x0, 0x0, 0x0, 0x0, 0x0, false⟩,
    ⟨"VERIFY_FAILS", 0xC4, 0x0, 0x0, 0x0, 0x0, 0x0, false⟩,
    ⟨"COMMITS", 0xC8, 0x0, 0x0, 0x0, 0x0, 0x0, false⟩,
    ⟨"REJECTS", 0xCC, 0x0, 0x0, 0x0, 0x0, 0x0, false⟩ ]
end VLT

/-! ### WAD: fields (R322, R323) -/
namespace WAD
def CASC_CTL_DEVICE : Fld := ⟨0x80, 0, 6⟩
def EPOCH_CTL_FLIP : Fld := ⟨0x84, 0, 1⟩
def EPOCH_STS_CUR : Fld := ⟨0x88, 0, 1⟩
def EPOCH_STS_DRAINED : Fld := ⟨0x88, 1, 1⟩
def EPOCH_STS_OLD_FRAMES : Fld := ⟨0x88, 4, 28⟩
def CNT_CLR_CLEAR : Fld := ⟨0x8C, 0, 1⟩
def CNT_LOOKUPS : Nat := 0xC0
def CNT_DROPS : Nat := 0xC4
def CNT_NO_TARGET : Nat := 0xC8
def CNT_ROUTE_DROPS : Nat := 0xCC
def CNT_TOO_LONG : Nat := 0xD0
def CNT_LOOKUP_STALLS : Nat := 0xD4
def CNT_CASC_TX : Nat := 0xD8
def CNT_CASC_RX : Nat := 0xDC
/-- The registers of the block with their write masks and reset values. -/
def regs : List RegInfo :=
  [ ⟨"CASC_CTL", 0x80, 0x0, 0x3F, 0x0, 0x0, 0x0, false⟩,
    ⟨"EPOCH_CTL", 0x84, 0x0, 0x0, 0x0, 0x1, 0x0, false⟩,
    ⟨"EPOCH_STS", 0x88, 0x0, 0x0, 0x0, 0x0, 0x2, false⟩,
    ⟨"CNT_CLR", 0x8C, 0x0, 0x0, 0x0, 0x1, 0x0, false⟩,
    ⟨"LOOKUPS", 0xC0, 0x0, 0x0, 0x0, 0x0, 0x0, false⟩,
    ⟨"DROPS", 0xC4, 0x0, 0x0, 0x0, 0x0, 0x0, false⟩,
    ⟨"NO_TARGET", 0xC8, 0x0, 0x0, 0x0, 0x0, 0x0, false⟩,
    ⟨"ROUTE_DROPS", 0xCC, 0x0, 0x0, 0x0, 0x0, 0x0, false⟩,
    ⟨"TOO_LONG", 0xD0, 0x0, 0x0, 0x0, 0x0, 0x0, false⟩,
    ⟨"LOOKUP_STALLS", 0xD4, 0x0, 0x0, 0x0, 0x0, 0x0, false⟩,
    ⟨"CASC_TX", 0xD8, 0x0, 0x0, 0x0, 0x0, 0x0, false⟩,
    ⟨"CASC_RX", 0xDC, 0x0, 0x0, 0x0, 0x0, 0x0, false⟩ ]
end WAD

/-! ### Table BRG 0 (R91) -/
namespace T_WIN
/-- The multicast group of a multicast window (R91). -/
def GROUP : TFld := ⟨48, 14⟩
def VALID : TFld := ⟨0, 1⟩
def TYPE : TFld := ⟨1, 3⟩
def FUNC : TFld := ⟨8, 8⟩
def HALL : TFld := ⟨16, 12⟩
def POSTED : TFld := ⟨32, 1⟩
def PREFETCH : TFld := ⟨33, 1⟩
def ATOMIC : TFld := ⟨34, 1⟩
def WRITE_DIS : TFld := ⟨35, 1⟩
def SWAP : TFld := ⟨36, 2⟩
def KEEP_LATE : TFld := ⟨38, 1⟩
def CLASS : TFld := ⟨40, 3⟩
def LINK : TFld := ⟨48, 10⟩
def DEVICE : TFld := ⟨58, 6⟩
def BASE : TFld := ⟨64, 34⟩
def LIMIT : TFld := ⟨128, 34⟩
def TARGET : TFld := ⟨204, 52⟩
def rwMask : Nat := 0xFFFFFFFFFFFFF00000000003FFFFFFFF00000003FFFFFFFFFFFF077F0FFFFF0F
def roMask : Nat := 0x0
def woMask : Nat := 0x0
def reset : Nat := 0x0
end T_WIN

/-! ### Table MIR 0 (R130) -/
namespace T_MIR
/-- Outbound and inbound slot s of a port. -/
def OUT (s : Nat) : TFld := ⟨32 * s, 32⟩
def IN (s : Nat) : TFld := ⟨512 + 32 * s, 32⟩
end T_MIR

/-! ### Table BRG 1 (R118) -/
namespace T_PWL
def CAUSE : TFld := ⟨0, 4⟩
def NONPOSTED : TFld := ⟨4, 1⟩
def FUNC : TFld := ⟨8, 8⟩
def HALL : TFld := ⟨16, 12⟩
def WINDOW : TFld := ⟨32, 15⟩
def LINK : TFld := ⟨47, 10⟩
def DEVICE : TFld := ⟨57, 6⟩
def ADDR : TFld := ⟨64, 64⟩
def STAMP : TFld := ⟨128, 48⟩
def LENGTH : TFld := ⟨176, 13⟩
def STATION_CODE : TFld := ⟨192, 8⟩
def rwMask : Nat := 0x0
def roMask : Nat := 0xFF1FFFFFFFFFFFFFFFFFFFFFFFFFFFFFFF7FFFFFFF0FFFFF1F
def woMask : Nat := 0x0
def reset : Nat := 0x0
end T_PWL

/-! ### Table BRG 2 (R107) -/
namespace T_DRD
def VALID : TFld := ⟨0, 1⟩
def TRUNC : TFld := ⟨1, 1⟩
def ERR : TFld := ⟨2, 1⟩
def FUNC : TFld := ⟨8, 8⟩
def HALL : TFld := ⟨16, 12⟩
def WINDOW : TFld := ⟨32, 15⟩
def LENGTH : TFld := ⟨64, 13⟩
def ADDR : TFld := ⟨128, 64⟩
def STAMP : TFld := ⟨192, 48⟩
def DATA : TFld := ⟨256, 512⟩
def rwMask : Nat := 0x0
def roMask : Nat := 0xFFFFFFFFFFFFFFFFFFFFFFFFFFFFFFFFFFFFFFFFFFFFFFFFFFFFFFFFFFFFFFFFFFFFFFFFFFFFFFFFFFFFFFFFFFFFFFFFFFFFFFFFFFFFFFFFFFFFFFFFFFFFFFFF0000FFFFFFFFFFFFFFFFFFFFFFFFFFFF0000000000001FFF00007FFF0FFFFF07
def woMask : Nat := 0x0
def reset : Nat := 0x0
end T_DRD

/-! ### Table SWC 0 (R292) -/
namespace T_ACC
def MIN : TFld := ⟨0, 18⟩
def ALPHA : TFld := ⟨24, 4⟩
def USED : TFld := ⟨32, 28⟩
def DROPS : TFld := ⟨64, 32⟩
def WAITING : TFld := ⟨96, 1⟩
def DROPS_CLR : TFld := ⟨97, 1⟩
def rwMask : Nat := 0xF03FFFF
def roMask : Nat := 0x1FFFFFFFF0FFFFFFF00000000
def woMask : Nat := 0x2000000000000000000000000
def reset : Nat := 0x7000000
end T_ACC

/-! ### Table SWC 1 (R293) -/
namespace T_QUE
def WRED_PROF : TFld := ⟨0, 6⟩
def WRED_EN : TFld := ⟨6, 1⟩
def SPILL_OK : TFld := ⟨7, 1⟩
def WRED_W : TFld := ⟨8, 4⟩
def DEPTH : TFld := ⟨32, 28⟩
def FRAMES : TFld := ⟨64, 28⟩
def AVG : TFld := ⟨96, 28⟩
def rwMask : Nat := 0xFFF
def roMask : Nat := 0xFFFFFFF0FFFFFFF0FFFFFFF00000000
def woMask : Nat := 0x0
def reset : Nat := 0x900
end T_QUE

/-! ### Table SWC 2 (R294) -/
namespace T_WRP
def G_MIN_TH : TFld := ⟨0, 20⟩
def G_MAX_TH : TFld := ⟨20, 20⟩
def G_MAX_P : TFld := ⟨40, 8⟩
def Y_MIN_TH : TFld := ⟨64, 20⟩
def Y_MAX_TH : TFld := ⟨84, 20⟩
def Y_MAX_P : TFld := ⟨104, 8⟩
def R_MIN_TH : TFld := ⟨128, 20⟩
def R_MAX_TH : TFld := ⟨148, 20⟩
def R_MAX_P : TFld := ⟨168, 8⟩
def rwMask : Nat := 0xFFFFFFFFFFFF0000FFFFFFFFFFFF0000FFFFFFFFFFFF
def roMask : Nat := 0x0
def woMask : Nat := 0x0
def reset : Nat := 0x0
end T_WRP

/-! ### Table WAD 0 (R302) -/
namespace T_STE
/-- The multicast group of a group entry (bits 29:16) and the hall of a hall entry (bits 27:16), R302. -/
def GROUP : TFld := ⟨16, 14⟩
def HALL : TFld := ⟨16, 12⟩
def TYPE : TFld := ⟨0, 3⟩
def EPOCH : TFld := ⟨3, 1⟩
def CLASS_SET : TFld := ⟨4, 1⟩
def CLASS : TFld := ⟨5, 3⟩
def PORT : TFld := ⟨16, 10⟩
def DEVICE : TFld := ⟨26, 6⟩
def rwMask : Nat := 0xFFFF00F7
def roMask : Nat := 0x8
def woMask : Nat := 0x0
def reset : Nat := 0x0
end T_STE

/-! ### Table WAD 1 (R305) -/
namespace T_GRP
def FIRST : TFld := ⟨0, 16⟩
def COUNT : TFld := ⟨16, 11⟩
def NO_ECHO : TFld := ⟨27, 1⟩
def MC_BURST : TFld := ⟨28, 4⟩
def rwMask : Nat := 0xFFFFFFFF
def roMask : Nat := 0x0
def woMask : Nat := 0x0
def reset : Nat := 0x0
end T_GRP

/-! ### Table WAD 2 (R306) -/
namespace T_MBR
/-- The hall of a hall member (R306). -/
def HALL : TFld := ⟨16, 12⟩
def KIND : TFld := ⟨0, 2⟩
def PORT : TFld := ⟨16, 10⟩
def DEVICE : TFld := ⟨26, 6⟩
def rwMask : Nat := 0xFFFF0003
def roMask : Nat := 0x0
def woMask : Nat := 0x0
def reset : Nat := 0x0
end T_MBR

/-! ### Table WAD 3 (R311) -/
namespace T_RTE
def VALID : TFld := ⟨0, 1⟩
def ANCHOR : TFld := ⟨16, 10⟩
def rwMask : Nat := 0x3FF0001
def roMask : Nat := 0x0
def woMask : Nat := 0x0
def reset : Nat := 0x0
end T_RTE

/-! ### Table SCH 0 (R346) -/
namespace T_EGN
def MIN_RATE : TFld := ⟨0, 20⟩
def WEIGHT : TFld := ⟨24, 8⟩
def MAX_RATE : TFld := ⟨32, 20⟩
def MIN_BURST : TFld := ⟨64, 18⟩
def MAX_BURST : TFld := ⟨96, 18⟩
def NORM : TFld := ⟨127, 1⟩
def MIN_TOKENS : TFld := ⟨128, 32⟩
def MAX_TOKENS : TFld := ⟨160, 32⟩
def rwMask : Nat := 0x8003FFFF0003FFFF000FFFFFFF0FFFFF
def roMask : Nat := 0xFFFFFFFFFFFFFFFF00000000000000000000000000000000
def woMask : Nat := 0x0
def reset : Nat := 0x0
end T_EGN

/-! ### Table SCH 2 (R347) -/
namespace T_LEAF
def IN_MIN_RATE : TFld := ⟨0, 20⟩
def IN_WEIGHT : TFld := ⟨24, 8⟩
def IN_MAX_RATE : TFld := ⟨32, 20⟩
def IN_MIN_BURST : TFld := ⟨64, 18⟩
def IN_MAX_BURST : TFld := ⟨96, 18⟩
def OUT_RATE : TFld := ⟨128, 20⟩
def OUT_BURST : TFld := ⟨160, 18⟩
def OUT_TOKENS : TFld := ⟨192, 32⟩
def IN_MIN_TOKENS : TFld := ⟨256, 32⟩
def IN_MAX_TOKENS : TFld := ⟨288, 32⟩
def rwMask : Nat := 0x3FFFF000FFFFF0003FFFF0003FFFF000FFFFFFF0FFFFF
def roMask : Nat := 0xFFFFFFFFFFFFFFFF00000000FFFFFFFF000000000000000000000000000000000000000000000000
def woMask : Nat := 0x0
def reset : Nat := 0x0
end T_LEAF

/-! ### Table SCH 3 (R348) -/
namespace T_GCT
def EN : TFld := ⟨0, 1⟩
def LEN : TFld := ⟨8, 7⟩
def CYCLE : TFld := ⟨32, 30⟩
def GUARD_NS : TFld := ⟨64, 16⟩
def BASE : TFld := ⟨128, 64⟩
def OPEN_NOW : TFld := ⟨192, 8⟩
def rwMask : Nat := 0xFFFFFFFFFFFFFFFF000000000000FFFF3FFFFFFF00007F01
def roMask : Nat := 0xFF000000000000000000000000000000000000000000000000
def woMask : Nat := 0x0
def reset : Nat := 0x0
end T_GCT

/-! ### Table SCH 4 (R349) -/
namespace T_GEN
def OPEN : TFld := ⟨0, 8⟩
def DURATION : TFld := ⟨32, 30⟩
def rwMask : Nat := 0x3FFFFFFF000000FF
def roMask : Nat := 0x0
def woMask : Nat := 0x0
def reset : Nat := 0x0
end T_GEN

/-! ### Table POL 0 (R353) -/
namespace T_POLE
def EN : TFld := ⟨0, 1⟩
def Y_DROP : TFld := ⟨1, 1⟩
def R_DROP : TFld := ⟨2, 1⟩
def CIR : TFld := ⟨16, 20⟩
def PIR : TFld := ⟨40, 20⟩
def CBS : TFld := ⟨64, 18⟩
def PBS : TFld := ⟨96, 18⟩
def TC : TFld := ⟨128, 32⟩
def TP : TFld := ⟨160, 32⟩
def DROPS : TFld := ⟨192, 32⟩
def DROPS_CLR : TFld := ⟨224, 1⟩
def rwMask : Nat := 0x3FFFF0003FFFF0FFFFF0FFFFF0007
def roMask : Nat := 0xFFFFFFFFFFFFFFFFFFFFFFFF00000000000000000000000000000000
def woMask : Nat := 0x100000000000000000000000000000000000000000000000000000000
def reset : Nat := 0x0
end T_POLE

/-! ### Table POL 1 (R354) -/
namespace T_SEL
def POLICER : TFld := ⟨0, 16⟩
def EN : TFld := ⟨16, 1⟩
def rwMask : Nat := 0x1FFFF
def roMask : Nat := 0x0
def woMask : Nat := 0x0
def reset : Nat := 0x0
end T_SEL

/-! ### Table CVN 0 (R385) -/
namespace T_RNG
def EN : TFld := ⟨0, 1⟩
def RO : TFld := ⟨1, 1⟩
def TAIL_STOP : TFld := ⟨2, 1⟩
def RESUME : TFld := ⟨3, 1⟩
def SIZE : TFld := ⟨4, 4⟩
def CLASS : TFld := ⟨8, 3⟩
def STATE : TFld := ⟨16, 3⟩
def STOP_CODE : TFld := ⟨24, 8⟩
def BASE : TFld := ⟨64, 58⟩
def PCOUNT : TFld := ⟨128, 16⟩
def CCOUNT : TFld := ⟨144, 16⟩
def DCOUNT : TFld := ⟨160, 16⟩
def TAIL_VALID : TFld := ⟨176, 1⟩
def TAIL_CLR : TFld := ⟨177, 1⟩
def TAIL_CODE : TFld := ⟨184, 8⟩
def TAIL_COUNT : TFld := ⟨192, 16⟩
def TAIL_HOP : TFld := ⟨208, 20⟩
def rwMask : Nat := 0x3FFFFFFFFFFFFFF00000000000007F7
def roMask : Nat := 0xFFFFFFFFFFF01FFFFFFFFFFFF000000000000000000000000FF070000
def woMask : Nat := 0x200000000000000000000000000000000000000000008
def reset : Nat := 0x40
end T_RNG

/-! ### Table CVN 1 (R386) -/
namespace T_ENL
def ENG_MAX : TFld := ⟨0, 8⟩
def ENG_NOW : TFld := ⟨8, 8⟩
def rwMask : Nat := 0xFF
def roMask : Nat := 0xFF00
def woMask : Nat := 0x0
def reset : Nat := 0x1
end T_ENL

/-! ### Table HLM 0 (R422) -/
namespace T_HCX
def STATE : TFld := ⟨0, 3⟩
def NOPASID : TFld := ⟨3, 1⟩
def RX_EN : TFld := ⟨4, 1⟩
def DL_EN : TFld := ⟨5, 1⟩
def DL_ACTIVE : TFld := ⟨6, 1⟩
def DL_OVER : TFld := ⟨7, 1⟩
def FUNC : TFld := ⟨8, 8⟩
def PASID : TFld := ⟨16, 20⟩
def SLOT : TFld := ⟨36, 6⟩
def TDISP : TFld := ⟨42, 2⟩
def GEN : TFld := ⟨48, 16⟩
def FLOOR : TFld := ⟨64, 16⟩
def OLD_ITEMS : TFld := ⟨80, 28⟩
def RX_BASE : TFld := ⟨128, 52⟩
def RX_LOG2 : TFld := ⟨180, 5⟩
def RX_WB : TFld := ⟨192, 61⟩
def DL_BASE0 : TFld := ⟨256, 52⟩
def DL_BASE1 : TFld := ⟨320, 52⟩
def DL_START : TFld := ⟨384, 52⟩
def DL_PAGES : TFld := ⟨448, 32⟩
def VEC_FIRST : TFld := ⟨480, 15⟩
def VEC_COUNT : TFld := ⟨496, 16⟩
def rwMask : Nat := 0xFFFF7FFFFFFFFFFF000FFFFFFFFFFFFF000FFFFFFFFFFFFF000FFFFFFFFFFFFF1FFFFFFFFFFFFFFF01FFFFFFFFFFFFFF0000000000000000000003FFFFFFFF38
def roMask : Nat := 0xFFFFFFFFFFFFFFF0C00000000C7
def woMask : Nat := 0x0
def reset : Nat := 0x0
end T_HCX

/-! ### Table LND 0 (R451) -/
namespace T_SRC
def EN : TFld := ⟨0, 1⟩
def CLR_PEND : TFld := ⟨1, 1⟩
def REASSIGN : TFld := ⟨2, 1⟩
def PRIO : TFld := ⟨8, 8⟩
def TSET : TFld := ⟨16, 12⟩
def GROUP : TFld := ⟨32, 10⟩
def HALL : TFld := ⟨48, 12⟩
def OWNED : TFld := ⟨60, 1⟩
def STATE : TFld := ⟨64, 3⟩
def ASSERTED : TFld := ⟨67, 1⟩
def TARGET : TFld := ⟨68, 15⟩
def TKIND : TFld := ⟨83, 1⟩
def rwMask : Nat := 0x1FFF03FF0FFFFF01
def roMask : Nat := 0xFFFFF0000000000000000
def woMask : Nat := 0x6
def reset : Nat := 0x0
end T_SRC

/-! ### Table LND 1 (R452) -/
namespace T_TSE
def FIRST : TFld := ⟨0, 15⟩
def COUNT : TFld := ⟨16, 7⟩
def NEXT : TFld := ⟨32, 6⟩
def rwMask : Nat := 0x7F7FFF
def roMask : Nat := 0x3F00000000
def woMask : Nat := 0x0
def reset : Nat := 0x0
end T_TSE

/-! ### Table LND 2 (R452) -/
namespace T_TGT
def EN : TFld := ⟨0, 1⟩
def KIND : TFld := ⟨1, 1⟩
def INDEX : TFld := ⟨16, 15⟩
def rwMask : Nat := 0x7FFF0003
def roMask : Nat := 0x0
def woMask : Nat := 0x0
def reset : Nat := 0x0
end T_TGT

/-! ### Table LND 3 (R453) -/
namespace T_VEC
def ADDR : TFld := ⟨0, 64⟩
def DATA : TFld := ⟨64, 32⟩
def MASK : TFld := ⟨96, 1⟩
def PEND : TFld := ⟨97, 1⟩
def FUNC : TFld := ⟨98, 8⟩
def rwMask : Nat := 0x1FFFFFFFFFFFFFFFFFFFFFFFF
def roMask : Nat := 0x3FE000000000000000000000000
def woMask : Nat := 0x0
def reset : Nat := 0x1000000000000000000000000
end T_VEC

/-! ### Table LND 4 (R454) -/
namespace T_HOF
def HOLD_US : TFld := ⟨0, 16⟩
def REMAIN_US : TFld := ⟨32, 16⟩
def WAITING : TFld := ⟨64, 1⟩
def rwMask : Nat := 0xFFFF
def roMask : Nat := 0x10000FFFF00000000
def woMask : Nat := 0x0
def reset : Nat := 0x0
end T_HOF

/-! ### Table LND 5 (R454) -/
namespace T_WKL
def SOURCE : TFld := ⟨0, 16⟩
def EN : TFld := ⟨16, 1⟩
def FIRED : TFld := ⟨17, 1⟩
def rwMask : Nat := 0x1FFFF
def roMask : Nat := 0x20000
def woMask : Nat := 0x0
def reset : Nat := 0x0
end T_WKL

/-! ### The page map (R23, R24) -/

/-- The blocks whose pages BAR0 holds (R23); the Erg's global page and its channel pages are told apart. -/
inductive Blk where
  | dev | mgq | mez | oas | cis | vlt | hst | flt | brg | mir | swc | erg | ergc | wad | sch | pol | lnd | hlm
  | cvn | cve | prt | hal
  deriving DecidableEq, Repr

/-- The number of the page of a block's first instance: its BAR0 offset divided by 4,096 (R23). -/
def Blk.first : Blk → Nat
  | .dev => 0x0 | .mgq => 0x1 | .mez => 0x2 | .oas => 0x3 | .cis => 0x4 | .vlt => 0x5 | .hst => 0x6 | .flt => 0x7
  | .brg => 0x10 | .mir => 0x20 | .swc => 0x30 | .erg => 0x40 | .ergc => 0x41 | .wad => 0x50 | .sch => 0x60
  | .pol => 0x70 | .lnd => 0x80 | .hlm => 0x90 | .cvn => 0xFF | .cve => 0x100 | .prt => 0x400 | .hal => 0x1000

/-- The number of pages with a header that a block has (R23). -/
def Blk.count : Blk → Nat
  | .ergc => 4 | .cve => 128 | .prt => 1024 | .hal => 4096
  | .dev | .mgq | .mez | .oas | .cis | .vlt | .hst | .flt | .brg | .mir | .swc | .erg | .wad | .sch | .pol | .lnd
  | .hlm | .cvn => 1

/-- The block ID of a page (R23). -/
def Blk.id : Blk → Nat
  | .dev => 0x01 | .mgq => 0x02 | .mez => 0x03 | .oas => 0x04 | .cis => 0x05 | .vlt => 0x06 | .hst => 0x07
  | .brg => 0x08 | .mir => 0x09 | .swc => 0x0A | .erg => 0x0B | .ergc => 0x0B | .wad => 0x0C | .sch => 0x0D
  | .pol => 0x0E | .cvn => 0x0F | .lnd => 0x10 | .hlm => 0x11 | .flt => 0x12 | .prt => 0x20 | .hal => 0x21
  | .cve => 0x22

/-- What PAGE_CAP reads in the block's pages (R45, R82, R134, R140, R180, R290, R321, R345, R352, R383, R389, R420,
R426, R448, R476, R480, R496, R497, R528, R531, R555, R574). -/
def Blk.cap : Blk → Nat
  | .dev => 0x0002 | .hst => 0x0002 | .brg => 0x430C | .mir => 0x0104 | .prt => 0x0003 | .swc => 0x430C
  | .wad => 0x040D | .sch => 0x050C | .pol => 0x030C | .cvn => 0x020C | .cve => 0x0002 | .hlm => 0x010C
  | .hal => 0x0001 | .lnd => 0x060C | .mez => 0x0000 | .mgq => 0x0000 | .erg => 0x0002 | .ergc => 0x0002
  | .oas => 0x0000 | .cis => 0x0000 | .vlt => 0x0104 | .flt => 0x0000

def Blk.hasGen (b : Blk) : Bool := bitAt b.cap 0
def Blk.hasDraw (b : Blk) : Bool := bitAt b.cap 1
def Blk.hasTbl (b : Blk) : Bool := bitAt b.cap 2
def Blk.stageable (b : Blk) : Bool := bitAt b.cap 3
def Blk.tblCount (b : Blk) : Nat := bits b.cap 8 4

/-- The pages of instances. -/
def pgPRT (n : Nat) : Nat := 0x400 + n
def pgHAL (h : Nat) : Nat := 0x1000 + h
def pgCVE (e : Nat) : Nat := 0x100 + e
def pgERGC (c : Nat) : Nat := 0x41 + c

/-- The block of a page with a header, and its instance: the number counted from the block's first page. -/
def blkOf (p : Nat) : Option (Blk × Nat) :=
  if 0x1000 ≤ p ∧ p < 0x2000 then some (.hal, p - 0x1000)
  else if 0x400 ≤ p ∧ p < 0x800 then some (.prt, p - 0x400)
  else if 0x100 ≤ p ∧ p < 0x180 then some (.cve, p - 0x100)
  else if 0x41 ≤ p ∧ p < 0x45 then some (.ergc, p - 0x41)
  else match p with
    | 0x0 => some (.dev, 0) | 0x1 => some (.mgq, 0) | 0x2 => some (.mez, 0) | 0x3 => some (.oas, 0)
    | 0x4 => some (.cis, 0) | 0x5 => some (.vlt, 0) | 0x6 => some (.hst, 0) | 0x7 => some (.flt, 0)
    | 0x10 => some (.brg, 0) | 0x20 => some (.mir, 0) | 0x30 => some (.swc, 0) | 0x40 => some (.erg, 0)
    | 0x50 => some (.wad, 0) | 0x60 => some (.sch, 0) | 0x70 => some (.pol, 0) | 0x80 => some (.lnd, 0)
    | 0x90 => some (.hlm, 0) | 0xFF => some (.cvn, 0) | _ => none

/-- The INSTANCE field of a page (R23). -/
def instanceField (b : Blk) (k : Nat) : Nat :=
  match b with
  | .ergc => k + 1
  | .cve | .prt | .hal => k
  | .dev | .mgq | .mez | .oas | .cis | .vlt | .hst | .flt | .brg | .mir | .swc | .erg | .wad | .sch | .pol | .lnd
  | .hlm | .cvn => 0

/-- Whether PAGE_CTL.EN of the block's pages reads 1 from reset on and ignores writes (R45, R528, R531, R555, R571). -/
def Blk.alwaysOn : Blk → Bool
  | .dev | .oas | .cis | .vlt | .flt => true
  | .mgq | .mez | .hst | .brg | .mir | .swc | .erg | .ergc | .wad | .sch | .pol | .lnd | .hlm | .cvn | .cve | .prt
  | .hal => false

/-- What PAGE_ID reads in a page (R23, R27). -/
def pageIdOf (b : Blk) (k : Nat) : Nat := b.id * 2 ^ 24 + instanceField b k * 2 ^ 12 + 0x100

/-- The registers of a table-access set (R35): the host set starts at 0x040, the SMBus set at 0x060. -/
def tblSetRegs (base : Nat) : List RegInfo :=
  [ ⟨"TBL_ADDR", base, 0x7FFFFFFF, 0, 0, 0, 0, true⟩,
    ⟨"TBL_DATA0", base + 0x04, 0xFFFFFFFF, 0, 0, 0, 0, true⟩,
    ⟨"TBL_DATA1", base + 0x08, 0xFFFFFFFF, 0, 0, 0, 0, true⟩,
    ⟨"TBL_DATA2", base + 0x0C, 0xFFFFFFFF, 0, 0, 0, 0, true⟩,
    ⟨"TBL_DATA3", base + 0x10, 0xFFFFFFFF, 0, 0, 0, 0, true⟩,
    ⟨"TBL_CMD", base + 0x14, 0xC, 0, 0, 0x3, 0, true⟩ ]

/-- The registers of a landing stack of LND, at 0x800 + 32t of its page (R450). -/
def sumRegs (t : Nat) : List RegInfo := SUM.regs.map (fun r => { r with off := 0x800 + 32 * t + r.off })

/-- The block-specific registers of a block's page. -/
def Blk.own : Blk → List RegInfo
  | .dev => DEV.regs | .mgq => MGQ.regs | .mez => MEZ.regs | .oas => OAS.regs | .cis => CIS.regs
  | .vlt => VLT.regs | .hst => HST.regs | .flt => FLT.regs | .brg => BRG.regs | .mir => MIR.regs
  | .swc => SWC.regs | .erg => ERG.regs | .ergc => ERGC.regs | .wad => WAD.regs | .sch => SCH.regs
  | .pol => POL.regs | .lnd => LND.regs | .hlm => HLM.regs | .cvn => CVN.regs | .cve => CVE.regs
  | .prt => PRT.regs ++ LNK.regs | .hal => HAL.regs

/-- The register at an offset of a block's page, if one is listed there. -/
def regAt (b : Blk) (off : Nat) : Option RegInfo :=
  if off < 0x40 then HDR.regs.find? (fun r => r.off == off)
  else if b.hasTbl && off < 0x80 then (tblSetRegs 0x40 ++ tblSetRegs 0x60).find? (fun r => r.off == off)
  else if b == .lnd && 0x800 ≤ off then (sumRegs ((off - 0x800) / 32)).find? (fun r => r.off == off)
  else b.own.find? (fun r => r.off == off)

/-- A register address: the page and the offset within it. -/
def raddr (p off : Nat) : Nat := p * 4096 + off

/-- The register listed at a BAR0 address. -/
def infoAt (a : Nat) : Option (Blk × Nat × RegInfo) :=
  match blkOf (a / 4096) with
  | none => none
  | some (b, k) =>
    match regAt b (a % 4096) with
    | none => none
    | some r => some (b, k, r)

/-- The reset value of the register at a BAR0 address (0 where none is listed). PAGE_ID and PAGE_CAP read per page,
an always-enabled page reads EN 1 and ACTIVE 1, and a port's ID and anchor are its own number (R27, R181, R230).
DESIGN CHOICE, unsafe: log entry 150. -/
def regReset (a : Nat) : BitVec 32 :=
  match blkOf (a / 4096) with
  | none => 0
  | some (b, k) =>
    let off := a % 4096
    if off = 0x000 then BitVec.ofNat 32 (pageIdOf b k)
    else if off = 0x004 then BitVec.ofNat 32 b.cap
    else if off = 0x008 then BitVec.ofNat 32 (b2n b.alwaysOn)
    else if off = 0x00C then BitVec.ofNat 32 (b2n b.alwaysOn)
    else if b == .prt && off == 0x4C then BitVec.ofNat 32 k
    else if b == .prt && off == 0x104 then BitVec.ofNat 32 (k * 2 ^ 16)
    else match regAt b off with
      | none => 0
      | some r => BitVec.ofNat 32 r.reset

/-! ### The tables -/

/-- A table: its page, its number, the bits of an entry, the number of entries, the bits a write sets, the bits that
trigger an action, and the reset value of an entry. -/
structure TblInfo where
  page  : Nat
  num   : Nat
  width : Nat
  count : Nat
  rw    : Nat
  wo    : Nat
  reset : Nat
  deriving DecidableEq, Repr

/-- The tables of the device (R91, R107, R118, R130, R292 to R294, R302, R305, R306, R311, R346 to R349, R353, R354,
R385, R386, R422, R451 to R454, R560). -/
inductive Tbl where
  | win | pwl | drd | mir | acc | que | wrp | ste | grp | mbr | rte | egn | cls | leaf | gct | gen | pole | sel | hsel
  | rng | enl | hcx | src | tse | tgt | vec | hof | wkl | vlt
  deriving DecidableEq, Repr

def Tbl.info : Tbl → TblInfo
  | .win => ⟨0x10, 0, 256, 16384, T_WIN.rwMask, T_WIN.woMask, T_WIN.reset⟩
  | .pwl => ⟨0x10, 1, 256, 256, T_PWL.rwMask, T_PWL.woMask, T_PWL.reset⟩
  | .drd => ⟨0x10, 2, 768, 64, T_DRD.rwMask, T_DRD.woMask, T_DRD.reset⟩
  | .mir => ⟨0x20, 0, 1024, 1024, 2 ^ 1024 - 1, 0, 0⟩
  | .acc => ⟨0x30, 0, 128, 40960, T_ACC.rwMask, T_ACC.woMask, T_ACC.reset⟩
  | .que => ⟨0x30, 1, 128, 40960, T_QUE.rwMask, T_QUE.woMask, T_QUE.reset⟩
  | .wrp => ⟨0x30, 2, 256, 64, T_WRP.rwMask, T_WRP.woMask, T_WRP.reset⟩
  | .ste => ⟨0x50, 0, 64, 1048576, T_STE.rwMask, T_STE.woMask, T_STE.reset⟩
  | .grp => ⟨0x50, 1, 128, 16384, T_GRP.rwMask, T_GRP.woMask, T_GRP.reset⟩
  | .mbr => ⟨0x50, 2, 64, 65536, T_MBR.rwMask, T_MBR.woMask, T_MBR.reset⟩
  | .rte => ⟨0x50, 3, 128, 64, T_RTE.rwMask, T_RTE.woMask, T_RTE.reset⟩
  | .egn => ⟨0x60, 0, 256, 1025, T_EGN.rwMask, T_EGN.woMask, T_EGN.reset⟩
  | .cls => ⟨0x60, 1, 256, 8200, T_EGN.rwMask, T_EGN.woMask, T_EGN.reset⟩
  | .leaf => ⟨0x60, 2, 384, 32768, T_LEAF.rwMask, T_LEAF.woMask, T_LEAF.reset⟩
  | .gct => ⟨0x60, 3, 256, 1024, T_GCT.rwMask, T_GCT.woMask, T_GCT.reset⟩
  | .gen => ⟨0x60, 4, 128, 65536, T_GEN.rwMask, T_GEN.woMask, T_GEN.reset⟩
  | .pole => ⟨0x70, 0, 256, 65536, T_POLE.rwMask, T_POLE.woMask, T_POLE.reset⟩
  | .sel => ⟨0x70, 1, 128, 8192, T_SEL.rwMask, T_SEL.woMask, T_SEL.reset⟩
  | .hsel => ⟨0x70, 2, 128, 32768, T_SEL.rwMask, T_SEL.woMask, T_SEL.reset⟩
  | .rng => ⟨0xFF, 0, 256, 32768, T_RNG.rwMask, T_RNG.woMask, T_RNG.reset⟩
  | .enl => ⟨0xFF, 1, 128, 4096, T_ENL.rwMask, T_ENL.woMask, T_ENL.reset⟩
  | .hcx => ⟨0x90, 0, 512, 4096, T_HCX.rwMask, T_HCX.woMask, T_HCX.reset⟩
  | .src => ⟨0x80, 0, 128, 65536, T_SRC.rwMask, T_SRC.woMask, T_SRC.reset⟩
  | .tse => ⟨0x80, 1, 128, 4096, T_TSE.rwMask, T_TSE.woMask, T_TSE.reset⟩
  | .tgt => ⟨0x80, 2, 128, 32768, T_TGT.rwMask, T_TGT.woMask, T_TGT.reset⟩
  | .vec => ⟨0x80, 3, 128, 32768, T_VEC.rwMask, T_VEC.woMask, T_VEC.reset⟩
  | .hof => ⟨0x80, 4, 128, 1024, T_HOF.rwMask, T_HOF.woMask, T_HOF.reset⟩
  | .wkl => ⟨0x80, 5, 128, 64, T_WKL.rwMask, T_WKL.woMask, T_WKL.reset⟩
  | .vlt => ⟨0x5, 0, 128, 262144, 0, 0, 0⟩

/-- The reset value of an entry of a table. -/
def Tbl.zero (t : Tbl) : Entry := BitVec.ofNat 1024 t.info.reset

/-- The tables in a list. -/
def allTbls : List Tbl :=
  [.win, .pwl, .drd, .mir, .acc, .que, .wrp, .ste, .grp, .mbr, .rte, .egn, .cls, .leaf, .gct] ++
  [.gen, .pole, .sel, .hsel, .rng, .enl, .hcx, .src, .tse, .tgt, .vec, .hof, .wkl, .vlt]

/-- The table with a number behind a page. -/
def tblAt (page num : Nat) : Option Tbl := allTbls.find? (fun t => t.info.page == page && t.info.num == num)

/-- The key of an entry among all tables. -/
def tkey (t : Tbl) (i : Nat) : Nat := (t.info.page * 16 + t.info.num) * 2 ^ 24 + i

/-- The reset value of the entry with a key. -/
def tblReset (k : Nat) : Entry :=
  match tblAt (k / 2 ^ 28) (k / 2 ^ 24 % 16) with
  | some t => BitVec.ofNat 1024 t.info.reset
  | none => 0

end Sys2Proof.Machine
end

