-- ==== Sys2Proof/Machine/State.lean ====
section
/-!
DEFINITION. The state of the PL1024, all of it plain data, and the state after reset (R21). Every register of the
pages stands in `regs`, every table entry in `tbls`; what the chapters give the device beside its registers stands in
the structures of its blocks. `pending`, `clock`, `free` and `out` are the model's own.
-/

namespace Sys2Proof.Machine

/-- Why a command stops with a fault. No command of the PL1024 does: the spec gives each of them an effect. -/
inductive Fault where
  /-- Raised by nobody: the type of faults needs a constructor, and the spec gives every command an effect. Safe. -/
  | none
  deriving DecidableEq, Repr

/-- Why a command is refused. -/
inductive Refusal where
  /-- Raised by an arm of `exec` whose command has no meaning yet. Safe: the machine stops. -/
  | notModelled (mnemonic : String)
  deriving DecidableEq, Repr

--OUT
/-! ### What the device sends -/

/-- Everything the device sends out: to the host, to a wire, to the SMBus, to a pin. -/
inductive Out where
  /-- A completion to the host: tag, status, bytes. -/
  | cpl (tag : Nat) (status : CplStatus) (data : List Byte)
  /-- A configuration request answered with Request Retry Status (R56). -/
  | retry (tag : Nat)
  /-- A memory write to the host: function, PASID, relaxed ordering, address, bytes (R65, R72). -/
  | memWr (func : Nat) (pasid : Option Nat) (ro : Bool) (addr : Nat) (data : List Byte)
  /-- A memory read request to the host: tag, function, PASID, address, length (R64). -/
  | memRd (tag func : Nat) (pasid : Option Nat) (addr len : Nat)
  /-- An MSI-X message: function, address, data (R436). -/
  | msix (func addr data : Nat)
  /-- An ATS translation request or an invalidation completion, a page request, a PTM request, a PM message. -/
  | atsReq (func : Nat) (pasid : Option Nat) (addr : Nat)
  | invCpl (itag func : Nat)
  | pageReq (func : Nat) (pasid : Option Nat) (addr group : Nat)
  | stopMarker (func : Nat) (pasid : Option Nat)
  | ptmReq
  | pme (func : Nat)
  | pmeToAck
  /-- An AER error message of a function, by name and severity (true: uncorrectable fatal). -/
  | aer (func : Nat) (kind : String) (fatal : Bool)
  /-- A request to the host link: Recovery to a rate. -/
  | linkSpeed (rate : Nat)
  /-- An object in the DOE read mailbox, an SPDM response, an MCTP packet, an IDE_KM or a TDISP response. -/
  | doe (protocol : Nat) (object : List Word)
  | spdm (path : Path) (bytes : List Byte)
  | ideKm (bytes : List Byte)
  | tdisp (vf : Nat) (bytes : List Byte)
  | mctp (bytes : List Byte)
  /-- SMBus bytes returned, an address not acknowledged, a release of the bus. -/
  | smb (bytes : List Byte)
  | smbRelease
  /-- A control block given to the sender of a link, a whole frame given to it, a training block. -/
  | ctl (anchor : Nat) (payload : Word64)
  | frame (anchor : Nat) (f : Frame)
  | tb (port : Nat) (payload : Word64)
  /-- The levels driven on the pair of a port, in order: ±1 for NRZ, ±1 and ±3 for PAM4 (R145). -/
  | line (port : Nat) (levels : List Int)
  /-- LREF output g starts or stops, with the source of its reference: 0 HREFCLK × 25 / 16, 1 LREF_IN (R147). -/
  | lref (group src : Nat) (on : Bool)
  /-- A request to the physical layer of a port: its transmitter starts, stops or switches. -/
  | phy (port : Nat) (what : String)
  /-- A level driven on an output pin. -/
  | pin (name : String) (level : Bool)
  /-- An AVSBus voltage write in mV. -/
  | avsWrite (mv : Nat)
  /-- TDO of the boundary-scan port. -/
  | tdo (level : Bool)
  /-- The data a register read returns. -/
  | regData (addr : Nat) (data : Word)
  deriving DecidableEq, Repr

--SYS
/-! ### Register pages and management access (R27 to R48) -/

/-- A table-access register set beside its registers (R39, R40): its held copy of one entry, the marks of the words
written since the last commit, its snapshot, and the result of the operation in progress: STATUS and the last word. -/
structure TblSet where
  held   : Entry
  marks  : Nat
  snap   : Entry
  result : Nat
  last   : Bool
  deriving DecidableEq, Repr

def TblSet.reset : TblSet := ⟨0, 0, 0, 0, false⟩

/-- The SMBus and MCTP side of the device (R41 to R44): the status of the last register write, the endpoint ID, the message
being assembled with the sequence number of its next packet, who sent it (SMBus address, endpoint ID, tag), and whether SMB_ALERT_N is driven low. -/
structure Smb where
  lastWrite : Nat
  eid       : Nat
  assembly  : Option (List Byte)
  nextSeq   : Nat
  peerAddr  : Nat
  peerEid   : Nat
  peerTag   : Nat
  alertLow  : Bool
  deriving DecidableEq, Repr

def Smb.reset : Smb := ⟨0, 0, none, 0, 0, 0, 0, false⟩

/-- The clock and power domains (the domain table of 01_traffic_paths.md), DEVTIME, and what PTM leaves to be slewed
(R73, R74): a positive or negative error in ns, whether it is slewed at the faster rate, and the time to the next nanosecond of
slew. `perst`: PERST_N is asserted. `devQuiet`: the pages whose QUIESCE the device set itself for a disable (R28). -/
structure Sys where
  hkOn      : Bool
  coreOn    : Bool
  coreSlow  : Bool
  perst     : Bool
  devtime   : Nat
  slew      : Int
  slewFast  : Bool
  slewIn    : Nat
  latchHost : Nat
  latchSmb  : Nat
  straps    : Nat
  noImage   : Bool
  devQuiet  : List Nat
  deriving DecidableEq, Repr

/-- DESIGN CHOICE, unsafe: log entries 4, 150. -/
def Sys.reset : Sys := ⟨true, true, false, true, 0, 0, false, 0, 0, 0, 0, true, []⟩

/-! ### Landing (R429 to R456) -/

/-- Landing beside its registers and tables: the landing stack of each summary target as (source, priority), top
first; the time at which each group's hold-off ends; the summary targets whose request message waits at its entry; the
sources on their way to an unmasked entry, in the order of assignment; the sources that wait for an available target;
whether IRQ_OUT_N is driven low; and, in a cascade member, the messages (address, data) that wait to be sent toward the head (R320). -/
structure Landing where
  stk     : List (Nat × List (Nat × Nat))
  holds   : List (Nat × Nat)
  sumMsgs : List Nat
  order   : List Nat
  waited  : List Nat
  irqLow  : Bool
  events  : List (Nat × Nat)
  deriving DecidableEq, Repr

def Landing.reset : Landing := ⟨[], [], [], [], [], false, []⟩

/-! ### Fault history (R566 to R571) -/

/-- The history queue, oldest first, as records of R567 without their SEQ, the times of the Vault writes of the last second, and the
keys of the table entries with an uncorrectable ECC error that have not been written since (R38, R564). -/
structure Flt where
  queue : List (BitVec 256)
  times : List Nat
  hurt  : List Nat
  deriving DecidableEq, Repr

def Flt.reset : Flt := ⟨[], [], []⟩

/-! ### Oasis, Cistern and power (R501 to R533) -/

/-- A power request (R505): its target, the mode bits of PWR_REQ, and the WAIT commands that end with it (R511): each
the place of its completion, or nothing for a request through PWR_REQ. -/
structure PwrReq where
  target : Nat
  modes  : Nat
  wait   : Bool
  deriving DecidableEq, Repr

/-- The Oasis and the sequencer: the request in progress or armed, those that joined it, the place in the stop order of R508, the
pages already stopped with the QUIESCE the driver had set, the time the current block's turn ends, the held request, the
modes of the state entered, the time of entry, the copy of the wake list as (slot, source), the latched slots, the temperature at a
thermal trip still to be reported, whether PME_TO_Ack was sent, whether a wake waits to be taken up, the Erg channels that were
ACTIVE at entry, the ports whose activity woke the device, how many of the stopped pages STANDBY had stopped, whether WAKE_N is driven
low, and the trip temperature in force at the trip. -/
structure Oasis where
  cur      : Option PwrReq
  joined   : List PwrReq
  stopAt   : Nat
  stopped  : List (Nat × Bool)
  deadline : Nat
  held     : Option PwrReq
  modes    : Nat
  entered  : Nat
  wakeList : List (Nat × Nat)
  latched  : List Nat
  tripTemp : Option Nat
  pmeAck   : Bool
  waking   : Bool
  ergWas   : List Nat
  portWake : List Nat
  base     : Nat
  wakeLow  : Bool
  tripAt   : Nat
  deriving DecidableEq, Repr

def Oasis.reset : Oasis := ⟨none, [], 0, [], 0, none, 0, 0, [], [], none, false, false, [], [], 0, false, 0⟩

/-- The AVSBus master (R518 to R521): the voltage being confirmed, the time its window ends, the writes of the raise
not yet confirmed, whether the last resort of 850 mV was written, whether a sensor reads below 0 °C, when V_RUN was last
computed, and whether V_RUN was asked for since the core was slowed for STANDBY. -/
structure Avs where
  target   : Option Nat
  deadline : Nat
  failed   : Nat
  last     : Bool
  cold     : Bool
  vrunAt   : Nat
  asked    : Bool
  deriving DecidableEq, Repr

def Avs.reset : Avs := ⟨none, 0, 0, false, false, 0, false⟩

/-! ### Vault (R544 to R560) -/

/-- The Vault: its bytes, listed where not 0, the words that an uncorrectable error makes unreadable, and when each IDE
key was programmed. A reboot and an erase of secrets in progress are beside them, with the certificate chain and the digest of
the active image (R77, R547), which stay known when the image came from SPI NOR. `spi`: what the flash beside the device last held. -/
structure Vault where
  mem      : List Host.Cell
  bad      : List Nat
  keyTimes : List (Nat × Nat)
  rebootAt : Option Nat
  erasing  : Bool
  chain    : List Byte
  digest   : Nat
  spi      : Candidate
  deriving DecidableEq, Repr

def Vault.reset : Vault := ⟨[], [], [], none, false, [], 0, .noAnswer⟩

--LINK
/-! ### Ihlesh links and Larduper (R186 to R264) -/

/-- The identity a link goes by (R251, R252): the record as received, and whether it is valid. -/
structure Ident where
  words : List Word64
  valid : Bool
  deriving DecidableEq, Repr

/-- What a tag of a link was taken for (R246): part `part` of bridge access `acc`, the identity exchange, a side-band
poll, or a STATION command of the management queue, with the words a good answer carries (R245). -/
inductive TagUse where
  | access (acc part : Nat)
  | ident
  | poll
  | stationCmd (words : Nat)
  deriving DecidableEq, Repr

/-- A tag held (R246): its number, its use, and the link's UP time when the request was sent. -/
structure TagRec where
  tag  : Nat
  use  : TagUse
  sent : Nat
  deriving DecidableEq, Repr

/-- The time round in progress (R261): its ID, t1, whether SYNC was sent more than once, s2 and t4 once known, and s3. -/
structure Round where
  id    : Nat
  t1    : Nat
  again : Bool
  start : Nat
  s2    : Option Nat
  t4    : Nat
  deriving DecidableEq, Repr

/-- The INIT exchange (R216): when it began, the last valid LINK_INIT and LINK_PARAM, whether both were received and decided on,
the decision made (true: resumed), whether a fresh start was made in it, what was decided on, and whether INIT_ACK was sent and
received. -/
structure InitX where
  start    : Nat
  lastInit : Option Word64
  param    : Option Word64
  got      : Bool
  resumed  : Option Bool
  fresh    : Bool
  seen     : Nat
  sentAck  : Bool
  gotAck   : Bool
  deriving DecidableEq, Repr

def InitX.reset : InitX := ⟨0, none, none, false, none, false, 0, false, false⟩

/-- A frame on its way out of a link with what the blocks behind the link keep of it: the hall, the function, the LINK, DEVICE
and CLASS of its station window, and the bridge access and part it belongs to. The bridge's own frames have none of these. -/
structure Cargo where
  frame : Frame
  hall  : Option Nat
  func  : Nat
  tgt   : Option (Nat × Nat × Nat)
  acc   : Option (Nat × Nat)
  deriving DecidableEq, Repr

/-- A 66-bit block (R148): whether its header says control, and its payload. -/
structure Block where
  ctl  : Bool
  body : Word64
  deriving DecidableEq, Repr

/-- A link beside its registers (by its anchor): the replay buffer, oldest first; the signed window; the replay count in
a row and where it started; the replay timer's start; when the buffer ran empty and whether it was audited; the receive
buffer, oldest first; what waits to be acknowledged and since when; whether the frame being received is corrupt, and its data
blocks; the peer's MAXPAY; the flow state to send; the INIT exchange; whether link state is held;
UP time; the wait of a starved window; the Gallery session and its sweep; the frames given to the sender, in order;
when the link last left UP; what software wrote to BOND_CTL while a configuration is in force (R222); what stands on the pairs: the
control blocks to be sent, the frames whose blocks are being sent with whether each is resent (R202), how many of the things sent
were taken over, the next CW_NUM, when its codeword starts in units of 1/85 ns, and the codewords since the last markers. -/
structure Link where
  held      : List (Nat × Cargo)
  win       : Int
  inRow     : Nat
  rowFrom   : Nat
  timer     : Nat
  emptyAt   : Option Nat
  rxBuf     : List Frame
  ackUnits  : Nat
  ackSince  : Option Nat
  credits   : Nat
  credSince : Option Nat
  corrupt   : Bool
  data      : List Word64
  peerPay   : Nat
  flowDue   : Bool
  init      : InitX
  hasState  : Bool
  localEp   : Option Nat
  upTotal   : Nat
  upSince   : Option Nat
  lastUse   : Nat
  starve    : Option Nat
  session   : Nat
  sweeping  : Bool
  stopped   : Bool
  txq       : List Cargo
  downAt    : Nat
  bond      : Option Word
  toSend    : List Block
  sending   : List (Nat × Bool × List Block)
  outAt     : Nat
  cw        : Nat
  cwAt      : Nat
  cwGap     : Nat
  deriving DecidableEq, Repr

def Link.reset : Link :=
  ⟨[], 0, 0, 0, 0, none, [], 0, none, 0, none, false, [], 0, false, .reset, false, none, 0, none, 0, none, 0, false, false, [], 0, none,
    [], [], 0, 0, 0, 0⟩

/-- An ECHO a cascade follower owes or has sent (R320): the round, s2, s3 with whether the ECHO was sent more than once, and
whether its ECHO_FU was sent. -/
structure Echo where
  id    : Nat
  s2    : Nat
  s3    : Nat
  again : Bool
  fu    : Bool
  deriving DecidableEq, Repr

/-- A spare switchover in progress (R225, R226): the failed lane, when it began, the CW_NUM of the first codeword sent on the spare
for it, whether the peer's SPARE_SW was received, with its AT, and whether this side answered (it did not begin it). -/
structure Spare where
  lane   : Nat
  start  : Nat
  own    : Nat
  peer   : Option Nat
  answer : Bool
  deriving DecidableEq, Repr

/-- The Larduper side of a link: its identity, the tags held, the next tag to try, whether an IDENT waits to be sent, the time
round with the last round's number and the time it began, the outbound slots changed, the time of the last side-band poll and
the tag it awaits an answer for, a switchover, sleep, and the follower's part of a time round. -/
structure Lard where
  ident    : Option Ident
  tags     : List TagRec
  nextTag  : Nat
  identDue : Bool
  round    : Option Round
  roundId  : Nat
  roundAt  : Option Nat
  changed  : Nat
  pollAt   : Option Nat
  pollTag  : Option Nat
  spare    : Option Spare
  sleepReq : Bool
  sleepSent : Option Nat
  idleAuto : Bool
  echo     : Option Echo
  deriving DecidableEq, Repr

def Lard.reset : Lard :=
  ⟨none, [], 0, false, none, 0, none, 0, none, none, none, false, none, false, none⟩

--PHY
/-! ### Ihlesh ports (R144 to R185) -/

/-- What a port took from PHY_CTL at its last full training (R181): the highest rate, its role, marker mode, and whether it
corrects polarity. -/
structure PhyCfg where
  maxRate  : Nat
  follower : Bool
  align    : Bool
  polAuto  : Bool
  deriving DecidableEq, Repr

def PhyCfg.reset : PhyCfg := ⟨3, false, false, true⟩

/-- A port beside its registers: when its state began; whether it waits after a failure; block lock gained in an echo
phase; the training blocks received in a row for the exchange of R157; valid and missing markers and
the last AM_COUNT; the rates found within reach, those that failed in this training and the rate of the phase;
the end of the detector's lock-out and whether it is armed; the ID last trained; the uncorrectable codewords in a row;
the last 58 received bits of the scrambled stream; the end of the delay after the group PLL locked; when the
transmitter stops for sleep; the canceller taps stored on entry to ACTIVE; what it took from PHY_CTL; in its present state, whether
a training block was received, one with ACK, and one with COUNTDOWN 0, how many were sent with ACK, whether the exchange of a
retrain has ended, the COUNTDOWN last sent (256 before the first), the training frames sent, and the frames since the last
marker; when its next training frame starts in units of 1/85 ns; the last 58 payload bits sent; the next AM_COUNT; and the
codewords received that the other lanes have not matched yet, as CW_NUM, STANDBY and blocks (none: lost). -/
structure Port where
  since   : Nat
  waiting : Bool
  locked  : Bool
  acks    : Nat
  goodAm  : Nat
  badAm   : Nat
  lastAm  : Nat
  reach   : Nat
  bad     : Nat
  rate    : Nat
  lockout : Option Nat
  armed   : Bool
  trained : Nat
  badCw   : Nat
  lfsr    : Nat
  wakeAt  : Option Nat
  toSleep : Option Nat
  taps    : List Int
  cfg     : PhyCfg
  heard   : Bool
  gotAck  : Bool
  seen0   : Bool
  ackSent : Nat
  exDone  : Bool
  cd      : Nat
  frames  : Nat
  gap     : Nat
  txAt    : Nat
  hist    : Nat
  amNo    : Nat
  rxCws   : List (Nat × Bool × List (Option Block))
  deriving DecidableEq, Repr

def Port.reset : Port := ⟨0, false, false, 0, 0, 0, 0, 7, 0, 0, none, false, 0, 0, 0, none, none, [],
  .reset, false, false, false, 0, false, 256, 0, 0, 0, 0, 0, []⟩

--HOST
/-! ### Host port (R49 to R88) -/

/-- Whose non-posted request to host memory is outstanding: a Caravan engine's source read, its descriptor fetch or its fence,
a dirty-bitmap read, or a translation of a page of a hall. -/
inductive Owner where
  | srcRead (engine num : Nat)
  | fetch (engine : Nat)
  | fence (engine : Nat)
  | bitmap (hall addr : Nat)
  | xlat (hall page : Nat)
  deriving DecidableEq, Repr

/-- A non-posted request of the bridge toward the host (R64, R66): its tag, function, address and length, its owner, the
hall and generation it was made for, the time it was issued, whether it used a cached translation, and the bytes that have
come back. -/
structure HostReq where
  tag    : Nat
  func   : Nat
  addr   : Nat
  len    : Nat
  owner  : Owner
  hall   : Option Nat
  gen    : Nat
  issued : Nat
  cached : Bool
  got    : List Byte
  deriving DecidableEq, Repr

/-- A pending ATS invalidation (R70): its ITag, function, PASID and range, and the tags it waits for. -/
structure Inval where
  itag  : Nat
  func  : Nat
  pasid : Option Nat
  addr  : Nat
  pages : Nat
  tags  : List Nat
  deriving DecidableEq, Repr

/-- An SPDM responder on one path (R77): the messages of the connection, whether a session is open, the handshake done,
heartbeats in use, the time of the last message, and the free value that stands for the session's handshake. -/
structure Spdm where
  stage     : Nat
  version   : Nat
  session   : Bool
  finished  : Bool
  heartbeat : Nat
  lastMsg   : Nat
  shake     : Nat
  deriving DecidableEq, Repr

def Spdm.reset : Spdm := ⟨0, 0, false, false, 0, 0, 0⟩

/-- An IDE stream (R78 to R80): Secure, Insecure or not established, the active key set, and the programmed keys as
key set × 8 + sub-stream. -/
inductive IdeState where
  | none | insecure | secure
  deriving DecidableEq, Repr

structure Ide where
  state : IdeState
  keySet : Nat
  keys  : List (Nat × List Byte)
  deriving DecidableEq, Repr

def Ide.reset : Ide := ⟨.none, 0, []⟩

/-- The host port beside its page: the configuration registers written, by 4,096 × function + register; the requests
outstanding; the functions in FLR with the end of their 10 ms; when VFs become visible; the translation cache, most
recently used first, as (hall, page, host page); the invalidations in progress and those that wait (R70); the page request groups in
flight as (hall, group, page); PTM; the object in the DOE mailbox and its DOE Error bit; SPDM; IDE; the nonces of locked interfaces;
the interface states; the highest rate offered in training (R53, R54); the physical lanes in use (R50); and the requests of the host
kept back while an earlier one waits for admission (R13, R275). -/
structure HostSt where
  cfg      : List (Nat × Nat)
  reqs     : List HostReq
  nextTag  : Nat
  flrs     : List (Nat × Nat)
  vfsAt    : Option Nat
  cache    : List (Nat × Nat × Nat)
  invals   : List Inval
  prgs     : List (Nat × Nat × Nat)
  ptmBusy  : Bool
  ptmFails : Nat
  ptmLast  : Nat
  ptmStart : Nat
  doeObj   : List Word
  doeErr   : Bool
  spdmPci  : Spdm
  spdmMctp : Spdm
  ide      : List (Nat × Ide)
  nonces   : List (Nat × Nat)
  tdisp    : List (Nat × Nat)
  offer    : Nat
  lanes    : List Nat
  invalQ   : List Inval
  stalled  : List Instr
  deriving DecidableEq, Repr

def HostSt.reset : HostSt :=
  ⟨[], [], 0, [], none, [], [], [], false, 0, 0, 0, [], false, .reset, .reset, [], [], [], 3, [], [], []⟩

--BRG
/-! ### The bridge engine (R89 to R143) -/

/-- Who made an access: a host request by its tag; a Caravan engine by its ring, slot count, chain hop and the number of the
read or write among its own; or a cascade link that relays a REQUEST with a tag in a class (R319). -/
inductive Who where
  | host (tag : Nat)
  | engine (e ring count hop num : Nat)
  | relay (anchor tag cls : Nat)
  deriving DecidableEq, Repr

/-- Whether the host made an access. -/
def Who.isHost (w : Who) : Bool := match w with | .host _ => true | _ => false

/-- What an access does. -/
inductive AccOp where
  | write
  | read
  | atomic (op : AtomicOp)
  | zero
  deriving DecidableEq, Repr

/-- Where a part of an access stands: waiting in BRG, in a Gallery queue or waiting for admission there, sent and
unanswered, answered with the response in the Gallery, at the Erg, or finished. -/
inductive PartSt where
  | waiting | queued | sent | stored | erg | finished
  deriving DecidableEq, Repr

/-- One Larduper request of an access (R109): the window and what was read from it when the access was decoded, the local
anchor it leaves by, the address of its first byte before byte conversion with its length and place in the access, the bytes
fetched ahead, the address of its first word, the bytes of its words in station order (nothing where the byte is not
enabled), the compare operand of a CAS, its tag, the reserve cells it holds, its state, and the bytes that were returned to the requester's order. -/
structure Part where
  win    : Nat
  typ    : Nat
  hall   : Nat
  gen    : Nat
  cls    : Nat
  link   : Nat
  dev    : Nat
  anchor : Nat
  swap   : Nat
  posted : Bool
  keep   : Bool
  addr   : Nat
  len    : Nat
  off    : Nat
  extra  : Nat
  base   : Nat
  cells  : List (Option Byte)
  cmp    : List Byte
  tag    : Option Nat
  rsv    : Nat
  st     : PartSt
  got    : List Byte
  stamp  : Nat
  deriving DecidableEq, Repr

/-- An access through windows: what it does, who made it and for which function, its address as received (a host address or an
aperture offset), when it was received, its bytes, how many of them were returned, whether it was answered (or expired), and its parts in
address order. -/
structure Acc where
  op    : AccOp
  who   : Who
  func  : Nat
  haddr : Nat
  start : Nat
  total : Nat
  sent  : Nat
  ended : Bool
  parts : List Part
  deriving DecidableEq, Repr

/-- A request that BRG takes: what it does, who made it, for which function, with which PASID, an engine's own hall, its
aperture offset and its address as received, its bytes from that offset (nothing where a byte is not enabled), the
compare operand of a CAS, its PCIe requester ID, and the time it was received (R101). -/
structure Req where
  op    : AccOp
  who   : Who
  func  : Nat
  pasid : Option Nat
  ring  : Option Nat
  off   : Nat
  haddr : Nat
  cells : List (Option Byte)
  cmp   : List Byte
  rid   : Nat
  came  : Nat
  deriving DecidableEq, Repr

/-- A read-ahead slot (R114): the access whose fetch fills it, hall, window, target link and device, its bytes by station
address, when it was filled and when it was last used. -/
structure RaSlot where
  acc    : Nat
  hall   : Nat
  win    : Nat
  link   : Nat
  dev    : Nat
  bytes  : List Host.Cell
  filled : Nat
  used   : Nat
  deriving DecidableEq, Repr

/-- The bridge engine: accesses by their number in the order of arrival, the next number, the reserve cells held (R273), and
the read-ahead slots by number, and the requests held while BRG is quiesced, by the number of their access. -/
structure Bridge where
  accs  : List (Nat × Acc)
  next  : Nat
  rsv   : Nat
  slots : List (Nat × RaSlot)
  held  : List (Nat × Req)
  deriving DecidableEq, Repr

def Bridge.reset : Bridge := ⟨[], 0, 0, [], []⟩

--SWC
/-! ### The Gallery (R265 to R298) -/

/-- What a stored frame is: a part of a bridge access toward a station; a station MSG; a response toward its requester; an
engine's write to host memory or its fence read there; a REQUEST, RETURN or EVENT frame of a cascade. -/
inductive Load where
  | request (acc part : Nat)
  | msg
  | rsp (acc part : Nat)
  | memWr (engine addr : Nat) (ro : Bool) (data : List Byte)
  | memRd (engine addr : Nat)
  | relay
  deriving DecidableEq, Repr

/-- A stored frame: the account it is charged to (none: the response reserve), its cells by number, its size, the Erg channel
it is spilled to, whether it is read back (0 not, 1 in progress, 2 in the resequencer), whether a cell is unreadable,
whether it is multicast, the hall it carries with its generation, the ingress it came from with its place there (R270), the Wadi epoch recorded, the
LINK, DEVICE and CLASS of its station window, and the references that queues hold. -/
structure GFrame where
  frame : Frame
  load  : Load
  acct  : Option Nat
  cells : List Nat
  size  : Nat
  spill : Option Nat
  back  : Nat
  bad   : Bool
  mc    : Bool
  hall  : Option Nat
  gen   : Nat
  func  : Nat
  src   : Nat
  order : Nat
  epoch : Option Bool
  tgt   : Option (Nat × Nat × Nat)
  refs  : Nat
  deriving DecidableEq, Repr

/-- A reference in a queue: the frame, the session (R284) or, in a host queue, the generation of the hall (R407) it was appended in, its
egress sequence number, and the cascade word it
leaves with. -/
structure Ref where
  frame   : Nat
  session : Nat
  esn     : Nat
  word    : Option Word64
  deriving DecidableEq, Repr

/-- A host or Caravan frame that waits for admission (R275) with the queues it is for; whether it came through the host
port. -/
structure GWait where
  frame  : GFrame
  queues : List (Nat × Option Word64)
  host   : Bool
  deriving DecidableEq, Repr

/-- The Gallery beside its registers and tables: frames by number, queues, the next egress sequence number of each queue, the
frames that wait, the next frame number, arrival number, bank and spill channel, the reserve cells that responses occupy,
the end of each port group's lock-out after a refused wake, the queues a flush or a sweep is discarding, the banks being
retired (with their cause), the cells not on the free list, the cells a sweep found unowned, the auditor's last start, and the channels
that SPILL_CELLS counts (R488). -/
structure Gallery where
  frames   : List (Nat × GFrame)
  queues   : List (Nat × List Ref)
  esns     : List (Nat × Nat)
  waiting  : List GWait
  next     : Nat
  arrival  : Nat
  bank     : Nat
  chan     : Nat
  naLock   : List (Nat × Nat)
  flushing : Option Nat
  retiring : List (Nat × Bool)
  taken    : List Nat
  unowned  : List Nat
  audit    : Option Nat
  auditAt  : Nat
  joined   : List Nat
  deriving DecidableEq, Repr

def Gallery.reset : Gallery := ⟨[], [], [], [], 0, 0, 0, 0, [], none, [], [], [], none, 0, []⟩

--SCH
/-! ### The scheduler and the policers (R326 to R356) -/

/-- A token bucket beside its TOKENS field: the time up to which it was brought, and the part of a byte gained, in units of
1/8000 byte. -/
structure Bucket where
  upTo : Nat
  frac : Nat
  deriving DecidableEq, Repr

/-- A gate list in force (R339): its control entry, its gate entries, and the DEVTIME at which it was put into force. -/
structure Gate where
  ctl     : Entry
  entries : List Entry
  from_   : Nat
  deriving DecidableEq, Repr

/-- The scheduler beside its tables: the buckets by key, the child of each node served last in each phase, the deficits, the
gate lists in force by anchor, and the frames already counted as waiting for a window or held by an OUT bucket. -/
structure Sched where
  buckets  : List (Nat × Bucket)
  last     : List (Nat × Nat)
  deficits : List (Nat × Int)
  gates    : List (Nat × Gate)
  waited   : List Nat
  leafHeld : List Nat
  deriving DecidableEq, Repr

def Sched.reset : Sched := ⟨[], [], [], [], [], []⟩

--CVN
/-! ### The Caravan (R357 to R392) -/

/-- A source read of a COPY (R368): its number, source address and length, and the code and bytes once it returned. -/
structure SrcRead where
  num  : Nat
  addr : Nat
  len  : Nat
  got  : Option (Nat × List Byte)
  deriving DecidableEq, Repr

/-- An engine beside its page: the slots completed since it took its ring, the descriptor fetched or the failure of its
fetch, the address of the descriptor in progress, the chain in progress with its hops, the COPY in progress with the bytes
read for and the bytes handed on, its reads in order, the holding register, the code it failed with, whether a fence read is
outstanding and what it returned, since when it has no ring, the destination bytes not yet counted in KBYTES, whether the ring slot that
began a chain has
IRQ set, and CLASS and RO of the ring as they stood when the descriptor in progress was to be fetched (R381). -/
structure Engine where
  ring   : Option Nat
  slots  : Nat
  desc   : Option (BitVec 256)
  failed : Bool
  addr   : Nat
  chain  : Bool
  hop    : Nat
  asked  : Nat
  wrote  : Nat
  nextRd : Nat
  reads  : List SrcRead
  hold   : List Byte
  code   : Nat
  fence  : Option (Option Bool)
  idleAt : Nat
  rest   : Nat
  irq    : Bool
  cls    : Nat
  relax  : Bool
  deriving DecidableEq, Repr

def Engine.reset : Engine := ⟨none, 0, none, false, 0, false, 0, 0, 0, 0, [], [], 0, none, 0, 0, false, 0, false⟩

/-- The Caravan: the engines, the PENDING list, the rings whose next status carries TAIL_PRIOR, and those that a tail
error stops before their next fetch. -/
structure Caravan where
  engines : List (Nat × Engine)
  pending : List Nat
  prior   : List Nat
  stopDue : List Nat
  deriving DecidableEq, Repr

def Caravan.reset : Caravan := ⟨[], [], [], []⟩

--HLM
/-! ### Halls (R393 to R428) -/

/-- A hall reset in progress or queued (R395, R408): the hall, whether it ends as a RELEASE, whether a GO command waits for
it, whether that command keeps BUSY at 1, and whether it has started. -/
structure HallReset where
  hall    : Nat
  release : Bool
  go      : Bool
  busy    : Bool
  started : Bool
  deriving DecidableEq, Repr

/-- A cached bitmap word (R414): its hall, its host address, the bits set here, and the word in host memory once read. -/
structure DlWord where
  hall : Nat
  addr : Nat
  bits : Nat
  old  : Option Nat
  deriving DecidableEq, Repr

/-- HLM beside its page and table: resets in order, the bitmap cache, the former bitmap being written back, and the frames
whose record was counted as waiting. -/
structure Halls where
  resets : List HallReset
  words  : List DlWord
  flip   : Option Nat
  waited : List Nat
  deriving DecidableEq, Repr

def Halls.reset : Halls := ⟨[], [], none, []⟩

--ERG
/-! ### The Erg (R483 to R500) -/

/-- The Erg beside its pages: its bytes by Erg address, listed where not 0; the channels placed in self-refresh; when each
channel's initialisation began. -/
structure Erg where
  mem      : List Host.Cell
  retained : List Nat
  since    : List (Nat × Nat)
  corr     : List (Nat × Nat)
  deriving DecidableEq, Repr

def Erg.reset : Erg := ⟨[], [], [], []⟩

--MEZ
/-! ### The Mezzanine and the management queue (R457 to R482) -/

/-- A staged write (R466): a register, or a table entry whole. -/
inductive Staged where
  | reg (addr : Nat) (data : Word)
  | tbl (page table index : Nat) (entry : Entry)
  deriving DecidableEq, Repr

/-- What the command in progress waits for (R459, R464): the end of a power request, of a cable diagnosis, of an apply, the
answer of a station to a tag of a link, asked for at a time, or a quiesced MEZ (R29), with the source data of its load. -/
inductive MgqWait where
  | power
  | port (n : Nat)
  | commit
  | station (anchor tag sent : Nat)
  | mez (src : HostFetch)
  deriving DecidableEq, Repr

/-- A management command in progress (R459): its 64 bytes, whether it came over MCTP, its count in the ring, and its wait. -/
structure MgqRun where
  cmd   : BitVec 512
  mctp  : Bool
  count : Nat
  wait  : MgqWait
  deriving DecidableEq, Repr

/-- The management queue beside its page: the command in progress, an MCTP command that waits with its data (R465), and the writes
to host memory, as address and bytes, that wait for the host port (R82). -/
structure Mgq where
  cur    : Option MgqRun
  queued : Option (BitVec 512 × List Byte)
  outbox : List (Nat × List Byte)
  deriving DecidableEq, Repr

def Mgq.reset : Mgq := ⟨none, none, []⟩

/-- The Mezzanine beside its page: the staged writes in staging order, the time of the commit, the accesses and resets
that wait for the end of the apply (R473, R475), and the writes that wait to be staged while MEZ is quiesced (R29), with the page
and path of the table-access set that wrote an entry and whether it was its last word. -/
structure Mez where
  staged   : List Staged
  start    : Nat
  deferred : List Instr
  held     : List (Staged × Option (Nat × Path × Bool))
  deriving DecidableEq, Repr

def Mez.reset : Mez := ⟨[], 0, [], []⟩

--TAP
/-- The boundary-scan port (R585): the state of the IEEE 1149.1 controller, the instruction in force (none: BYPASS, as after a
reset of the controller), the register being shifted, next bit first, and the boundary cells updated last. -/
structure Tap where
  st    : Nat
  instr : Option Nat
  shift : List Bool
  cells : List Bool
  deriving DecidableEq, Repr

def Tap.reset : Tap := ⟨0, none, [], []⟩

--STATE
/-- The state of the PL1024. -/
structure State where
  /-- The commands that wait, first in first out. The model's own. -/
  pending : List Instr
  /-- Model time in ns. The model's own. -/
  clock   : Nat
  /-- The number of free values drawn (Config.freeValue). The model's own. -/
  free    : Nat
  /-- What the device has sent, newest first. The model's own. -/
  out     : List Out
  /-- Every register of BAR0 by its address, listed where it differs from its reset value. -/
  regs    : List (Nat × Word)
  /-- Every table entry by its key, listed where it differs from its reset value. -/
  tbls    : List (Nat × Entry)
  /-- The table-access sets by twice their page, plus one for the SMBus set. -/
  sets    : List (Nat × TblSet)
  smb     : Smb
  sys     : Sys
  lnd     : Landing
  flt     : Flt
  oas     : Oasis
  avs     : Avs
  vlt     : Vault
  host    : HostSt
  links   : List (Nat × Link)
  lards   : List (Nat × Lard)
  ports   : List (Nat × Port)
  brg     : Bridge
  gal     : Gallery
  sch     : Sched
  cvn     : Caravan
  hlm     : Halls
  erg     : Erg
  mgq     : Mgq
  mez     : Mez
  tap     : Tap
  deriving DecidableEq, Repr

/-- The machine right after a reset that acts on the whole device (R21), with no Gliset image.
DESIGN CHOICE, safe: log entry 3; DESIGN CHOICE, unsafe: log entries 4, 6. -/
def State.reset : State where
  pending := []
  clock := 0
  free := 0
  out := []
  regs := [(0x3C, 12900), (0x4048, 12900)]
  tbls := []
  sets := []
  smb := .reset
  sys := .reset
  lnd := .reset
  flt := .reset
  oas := .reset
  avs := .reset
  vlt := .reset
  host := .reset
  links := []
  lards := []
  ports := []
  brg := .reset
  gal := .reset
  sch := .reset
  cvn := .reset
  hlm := .reset
  erg := .reset
  mgq := .reset
  mez := .reset
  tap := .reset

end Sys2Proof.Machine
end

