-- ==== Sys2Proof/Machine/Ops.lean ====
section
/-!
DEFINITION. The named operations over the state: registers and their fields, counters, tables, free values, what the
device sends, time, and byte memories. There is no exception entry: a block raises events, which Flags.lean holds.
-/

namespace Sys2Proof.Machine

/-! ### Registers -/

/-- The word a register holds. -/
def State.reg (s : State) (a : Nat) : Word := SMap.get regReset s.regs a

/-- A register set to a word. -/
def State.setReg (s : State) (a : Nat) (v : Word) : State := { s with regs := SMap.set regReset s.regs a v }

/-- A field of a register of page p. -/
def State.gf (s : State) (p : Nat) (f : Fld) : Nat := fld (s.reg (raddr p f.off)) f.lo f.w

/-- Whether a one-bit field is 1. -/
def State.gb (s : State) (p : Nat) (f : Fld) : Bool := s.gf p f == 1

/-- A field of a register of page p set by hardware. -/
def State.sf (s : State) (p : Nat) (f : Fld) (v : Nat) : State :=
  s.setReg (raddr p f.off) (put (s.reg (raddr p f.off)) f.lo f.w v)

/-- A counter of a page advances and saturates at 0xFFFF_FFFF (R572). -/
def State.cnt (s : State) (p off : Nat) (n : Nat := 1) : State :=
  s.setReg (raddr p off) (BitVec.ofNat 32 (min ((s.reg (raddr p off)).toNat + n) 0xFFFFFFFF))

/-- Every register of a page from one offset up to another set to 0: how CNT_CLR clears the counters of a page. -/
def State.clearRange (s : State) (p lo hi : Nat) : State :=
  (List.range ((hi - lo) / 4 + 1)).foldl (fun t i => t.setReg (raddr p (lo + 4 * i)) 0) s

/-! ### Tables -/

/-- A table entry. -/
def State.ent (s : State) (t : Tbl) (i : Nat) : Entry := SMap.get tblReset s.tbls (tkey t i)

/-- A table entry replaced. -/
def State.setEnt (s : State) (t : Tbl) (i : Nat) (e : Entry) : State :=
  { s with tbls := SMap.set tblReset s.tbls (tkey t i) e }

/-- A field of a table entry. -/
def State.tf (s : State) (t : Tbl) (i : Nat) (f : TFld) : Nat := fld (s.ent t i) f.lo f.w

/-- Whether a one-bit field of a table entry is 1. -/
def State.tb (s : State) (t : Tbl) (i : Nat) (f : TFld) : Bool := s.tf t i f == 1

/-- A field of a table entry set by hardware. -/
def State.st (s : State) (t : Tbl) (i : Nat) (f : TFld) (v : Nat) : State :=
  s.setEnt t i (put (s.ent t i) f.lo f.w v)

/-- A 32-bit counter of a table entry advances and saturates. -/
def State.tcnt (s : State) (t : Tbl) (i : Nat) (f : TFld) (n : Nat := 1) : State :=
  s.st t i f (min (s.tf t i f + n) (2 ^ f.w - 1))

/-- The listed entries of a table, as index and entry: every other entry holds its reset value. -/
def State.listed (s : State) (t : Tbl) : List (Nat × Entry) :=
  (s.tbls.filter (fun e => e.1 / 2 ^ 24 == t.info.page * 16 + t.info.num)).map (fun e => (e.1 % 2 ^ 24, e.2))

/-- A table returned to its reset values. -/
def State.clearTbl (s : State) (t : Tbl) : State :=
  { s with
    tbls := s.tbls.filter (fun e => e.1 / 2 ^ 24 != t.info.page * 16 + t.info.num)
    flt := { s.flt with hurt := s.flt.hurt.filter (fun k => k / 2 ^ 24 != t.info.page * 16 + t.info.num) } }

/-- Whether an entry has had an uncorrectable ECC error since it was last written (R38, R139), and an entry that has been written. -/
def State.hurt (s : State) (t : Tbl) (i : Nat) : Bool := s.flt.hurt.contains (tkey t i)
def State.heal (s : State) (t : Tbl) (i : Nat) : State :=
  { s with flt := { s.flt with hurt := s.flt.hurt.filter (· != tkey t i) } }
def State.rewrite (s : State) (t : Tbl) (i : Nat) (e : Entry) : State := (s.setEnt t i e).heal t i

/-! ### Sending, free values, time -/

/-- The device sends something. -/
def State.emit (s : State) (o : Out) : State := { s with out := o :: s.out }

/-- The device sends several things in order. -/
def State.emits (s : State) (os : List Out) : State := os.foldl State.emit s

/-- A free value below 2 ^ w (Config.freeValue) and the state that has drawn it. -/
def State.draw (s : State) (w : Nat) : Nat × State := (Config.freeValue s.free % 2 ^ w, { s with free := s.free + 1 })

/-- The state that has drawn a free value. DESIGN CHOICE, safe: log entry 7. -/
def State.drawn (s : State) : State := { s with free := s.free + 1 }

/-- The free value the next draw gives, below 2 ^ w. DESIGN CHOICE, safe: log entry 7. -/
def State.nextFree (s : State) (w : Nat) : Nat := Config.freeValue s.free % 2 ^ w

/-- The 48-bit stamp of DEVTIME (R33). -/
def State.stamp (s : State) : Nat := s.sys.devtime % 2 ^ 48

/-- Whether a point of model time has been reached. DESIGN CHOICE, unsafe: log entries 2, 13. -/
def State.due (s : State) (at_ : Nat) : Bool := decide (at_ ≤ s.clock)

/-- Model time in µs and ms. -/
def us (n : Nat) : Nat := n * 1000
def ms (n : Nat) : Nat := n * 1000000

/-- A change of state made only when a condition holds. -/
def State.onlyIf (s : State) (c : Bool) (f : State → State) : State := if c then f s else s

/-- A change of state made for each element of a list, in order. -/
def State.each {α : Type} (s : State) (l : List α) (f : α → State → State) : State := l.foldl (fun t x => f x t) s

/-! ### Byte memories: cells with rising addresses; an unlisted byte reads 0 -/

namespace Memory

/-- What a byte of a memory reads as when nothing is listed for it. -/
def empty (_ : Nat) : Byte := 0

/-- The canonical form of a memory: rising addresses, no byte equal to what an unlisted one reads as. -/
def wf (m : List Host.Cell) : Bool := SMap.wf empty m

/-- One byte. DESIGN CHOICE, unsafe: log entry 9. -/
def read (m : List Host.Cell) (a : Nat) : Byte := SMap.get empty m a

/-- One byte written. -/
def write (m : List Host.Cell) (a : Nat) (b : Byte) : List Host.Cell := SMap.set empty m a b

/-- Bytes read from rising addresses. -/
def readN (m : List Host.Cell) (a n : Nat) : List Byte := (List.range n).map (fun i => read m (a + i))

/-- Bytes written at rising addresses. -/
def writeN (m : List Host.Cell) (a : Nat) : List Byte → List Host.Cell
  | [] => m
  | b :: t => writeN (write m a b) (a + 1) t

/-- A range of a memory that reads 0 again. -/
def clear (m : List Host.Cell) (a n : Nat) : List Host.Cell := m.filter (fun c => c.1 < a || a + n ≤ c.1)

end Memory

/-! ### Ways into BAR0 -/

/-- Whether an access comes through PF0 BAR0, and the PCIe requester ID it carries (R48). -/
def viaPf0 (v : BarPath) : Bool := match v with | .pf0 _ => true | .slot _ _ _ _ => false
def viaRequester (v : BarPath) : Nat := match v with | .pf0 r => r | .slot _ _ _ r => r

/-! ### Pages -/

/-- The page numbers of blocks (R23). -/
def pgDEV : Nat := 0x0
def pgMGQ : Nat := 0x1
def pgMEZ : Nat := 0x2
def pgOAS : Nat := 0x3
def pgCIS : Nat := 0x4
def pgVLT : Nat := 0x5
def pgHST : Nat := 0x6
def pgFLT : Nat := 0x7
def pgBRG : Nat := 0x10
def pgMIR : Nat := 0x20
def pgSWC : Nat := 0x30
def pgERG : Nat := 0x40
def pgWAD : Nat := 0x50
def pgSCH : Nat := 0x60
def pgPOL : Nat := 0x70
def pgLND : Nat := 0x80
def pgHLM : Nat := 0x90
def pgCVN : Nat := 0xFF

/-- Whether the block of a page is ACTIVE (R27). -/
def State.active (s : State) (p : Nat) : Bool := s.gb p HDR.PAGE_STS_ACTIVE

/-- The page that carries the header of a page: the first one in BRG and SWC (R24). -/
def headPage (p : Nat) : Nat := if p / 16 == 1 then 0x10 else if p / 16 == 3 then 0x30 else p

/-- The page whose header a staged write belongs to. -/
def Staged.page : Staged → Nat
  | .reg a _ => headPage (a / 4096)
  | .tbl p _ _ _ => p

/-- Whether the block of a page is held by an apply (R473). -/
def State.applying (s : State) (p : Nat) : Bool :=
  s.gf pgMEZ MEZ.MEZ_STS_STATE == 2 && s.mez.staged.any (fun w => w.page == p)

/-- An access to a page that an apply holds waits for its end (R473). -/
def State.mezWait (s : State) (i : Instr) : State := { s with mez := { s.mez with deferred := s.mez.deferred ++ [i] } }

/-- A row that is an access to a page: it waits while an apply holds the page, and has its effect t otherwise (R473). DEDUCED, unsafe: log entry 145. -/
def State.onPage (s : State) (p : Nat) (i : Instr) (t : State) : State := if s.applying p then s.mezWait i else t

/-- An access to a hall's page: through a doorbell slot it needs an isolation check, which an apply can hold (R473). DEDUCED, unsafe: log entry 154. -/
def State.onSlot (s : State) (via : BarPath) (i : Instr) (t : State) : State :=
  match via with
  | .pf0 _ => t
  | .slot _ _ _ _ => s.onPage pgHLM i t

/-- Whether the block of a page takes no new work: QUIESCE is set (R29), or an apply holds it (R473). -/
def State.quiesce (s : State) (p : Nat) : Bool := s.gb p HDR.PAGE_CTL_QUIESCE || s.applying p

/-- Whether HST withholds its flow-control credits: a frame of the host port waits for admission, or requests that came after
such a frame are still kept back (R13, R275). DEDUCED, unsafe: log entry 153. -/
def State.hostStall (s : State) : Bool := !s.host.stalled.isEmpty || s.gal.waiting.any (·.host)

/-- A later request of the host port is kept back (R275). DEDUCED, unsafe: log entry 153. -/
def State.stallTlp (s : State) (i : Instr) : State := { s with host := { s.host with stalled := s.host.stalled ++ [i] } }

/-- The first port of the group of a port. -/
def groupBase (n : Nat) : Nat := n / 16 * 16

/-! ### What the device shows of itself -/

/-- Whether SMB_ALERT_N is to be driven low (R46): ALERT_EN is 1 and an enabled DEV event is set, in a housekeeping domain
that is on (R587). -/
def State.alertDue (s : State) : Bool :=
  s.sys.hkOn && s.gb pgDEV DEV.SMB_CTL_ALERT_EN && ((s.reg (raddr pgDEV 0x10)) &&& (s.reg (raddr pgDEV 0x14))) != 0

/-- The registers and the pin that always show what the device holds: the requests outstanding toward the host (R64), the
records in the history queue (R566), the writes staged (R467), and SMB_ALERT_N (R46). DEDUCED, unsafe: log entry 119. -/
def State.shown (s : State) : State :=
  let s := s.sf pgHST HST.NP_CTL_NP_OUT (s.host.reqs.length)
  let s := s.sf pgFLT FLT.FLT_STS_QUEUE s.flt.queue.length
  let s := s.sf pgMEZ MEZ.MEZ_STS_COUNT s.mez.staged.length
  let low := s.alertDue
  let s := if s.smb.alertLow == low then s else s.emit (.pin "SMB_ALERT_N" (!low))
  { s with smb := { s.smb with alertLow := low } }

/-- A command ends: what the device shows is brought up to date. -/
def done (s : State) : Host.Outcome State Fault Refusal := .next s.shown

end Sys2Proof.Machine
end

