-- ==== Sys2Proof/Machine/Flags.lean ====
section
/-!
DEFINITION. Events, error captures, the fault history queue and the firing of Landing sources: what every block does
when it has something to report (R31, R33, R430, R432, R563 to R566).
-/

namespace Sys2Proof.Machine

/-! ### Landing sources -/

/-- The states of a source (R432). -/
def srcIDLE : Nat := 0
def srcPENDING : Nat := 1
def srcSUMMARY : Nat := 2
def srcHELD : Nat := 3
def srcACTIVE : Nat := 4
def srcACTPEND : Nat := 5

/-- Sources 0x0000 to 0x1FFF are pages (R429). -/
def isPageSource (x : Nat) : Bool := x < 0x2000

/-- The hold-off group of a source (R444): a page's EVT_GROUP, or the entry's GROUP. -/
def State.srcGroup (s : State) (x : Nat) : Nat :=
  if isPageSource x then s.gf x HDR.EVT_GROUP_GROUP else s.tf .src x T_SRC.GROUP

/-- Whether a group is holding (R444): its timer has started and not expired. -/
def State.holding (s : State) (g : Nat) : Bool := s.lnd.holds.any (fun e => e.1 == g)

/-- Whether a source belongs to a hall, and which (R435, R451). -/
def State.srcHall (s : State) (x : Nat) : Option Nat :=
  if 0x1000 ≤ x ∧ x < 0x2000 then some (x - 0x1000)
  else if s.tb .src x T_SRC.OWNED then some (s.tf .src x T_SRC.HALL) else none

/-- A source becomes PENDING; a holding group makes it wait (R444). -/
def State.becomePending (s : State) (x : Nat) : State :=
  let s := s.st .src x T_SRC.STATE srcPENDING
  if s.holding (s.srcGroup x) then s.cnt pgLND LND.CNT_HOLDOFF_WAITS else s

/-- A wake cause of STANDBY arises (R510, R512): in STANDBY or on the way there its flag is set, and the sequencer takes it up. -/
def State.wakeHint (s : State) (f : Fld) : State :=
  if s.gf pgOAS OAS.PWR_STS_STATE == 1 || (match s.oas.cur with | some r => r.target == 1 | none => false) then
    { s with oas := { s.oas with waking := true } }.sf pgOAS f 1
  else s

/-- Whether the input of a source is kept alive in a power state (R513): the EVIN pins, the Oasis page, and in SLEEP the pages of
the housekeeping domain and HST. -/
def srcAlive (st x : Nat) : Bool :=
  (0xA000 ≤ x && x ≤ 0xA00F) || x == 3 || (st == 2 && [0, 1, 4, 5, 6, 7].contains x)

/-- An enabled source that fires is a wake cause of STANDBY; one listed in table 5 is a cause of a lower state being prepared.
DESIGN CHOICE, unsafe: log entry 39. -/
def State.wakeBySource (s : State) (x : Nat) : State :=
  let t := match s.oas.cur with | some r => r.target | none => 0
  let listed := (s.listed .wkl).any (fun e => fld e.2 T_WKL.EN.lo 1 == 1 && fld e.2 T_WKL.SOURCE.lo 16 == x)
  if 2 ≤ t then
    if listed && srcAlive t x then { s with oas := { s.oas with waking := true } }.sf pgOAS OAS.WAKE_FLAG_LIST 1 else s
  else if s.tb .src x T_SRC.EN then s.wakeHint OAS.WAKE_FLAG_LIST else s

/-- The Oasis latches the first firing of a listed source in SLEEP and lower (R445, R513): the flag, the slot, and what the slot
registers show. -/
def State.oasLatch (s : State) (slot x : Nat) : State :=
  if s.oas.latched.contains slot then s else
  let s := if s.oas.latched.isEmpty then s.sf pgOAS OAS.WAKE_SRC_SOURCE x |>.sf pgOAS OAS.WAKE_SRC_SLOT slot else s
  let s := { s with oas := { s.oas with latched := s.oas.latched ++ [slot], waking := true } }
  let a := raddr pgOAS (if slot < 32 then 0x54 else 0x58)
  (s.setReg a (s.reg a ||| BitVec.ofNat 32 (2 ^ (slot % 32)))).sf pgOAS OAS.WAKE_FLAG_LIST 1

/-- A source fires while Landing is off: the Oasis watches the listed ones whose input is alive. DEDUCED, unsafe: log entry 114. -/
def State.oasWatch (s : State) (x : Nat) : State :=
  match s.oas.wakeList.find? (fun e => e.2 == x) with
  | some e => if srcAlive (s.gf pgOAS OAS.PWR_STS_STATE) x then s.oasLatch e.1 x else s
  | none => s

/-- A source fires (R430, R432): in SLEEP and lower only the Oasis sees it; else nothing happens while LND is not ACTIVE. -/
def State.fire (s : State) (x : Nat) : State :=
  if 2 ≤ s.gf pgOAS OAS.PWR_STS_STATE then s.oasWatch x
  else if s.active pgLND then
    let st := s.tf .src x T_SRC.STATE
    let s := if st == srcIDLE then s.becomePending x
      else if st == srcACTIVE then s.st .src x T_SRC.STATE srcACTPEND
      else s
    s.wakeBySource x
  else s

/-- The level of a level source changes; a rise fires it (R430). -/
def State.setLevel (s : State) (x : Nat) (level : Bool) : State :=
  let was := s.tb .src x T_SRC.ASSERTED
  let s := s.st .src x T_SRC.ASSERTED (b2n level)
  if level && !was then s.fire x else s

/-- A page's Landing source follows EVT_RAW AND EVT_EN (R31). A write to EVT_RAW, EVT_EN or EVT_FORCE after which the
source is still asserted fires it again (R430). -/
def State.pageSource (s : State) (p : Nat) (written : Bool) : State :=
  let level := ((s.reg (raddr p 0x10)) &&& (s.reg (raddr p 0x14))) != 0
  let was := s.tb .src p T_SRC.ASSERTED
  let s := s.setLevel p level
  if written && level && was then s.fire p else s

/-- An event bit of a page is set by hardware (R31). -/
def State.event (s : State) (p bit : Nat) : State :=
  (s.setReg (raddr p 0x10) (s.reg (raddr p 0x10) ||| BitVec.ofNat 32 (2 ^ bit))).pageSource p false

/-! ### Captures and the history -/

/-- The class of a capture of a page (R563): 1 RECOVERED, 2 CONTAINED, 3 STATION, 4 INTERNAL. -/
def errClass (p code : Nat) : Nat :=
  match blkOf p with
  | some (.prt, _) => if code == 0x06 || code == 0x18 then 1 else 2
  | some (.swc, _) => if code == 0x02 || code == 0x04 then 1 else 2
  | some (.ergc, _) => if code == 0x02 then 1 else 2
  | some (.oas, _) => if code == 0x02 then 1 else 2
  | some (.hst, _) => if code == 0x07 then 1 else 2
  | some (.flt, _) => if code == 0x01 then 4 else if code == 0x02 then 3 else 2
  | _ => 2

/-- A history record without its SEQ (R567). -/
def histRecord (stamp boot page cls code lost steps c1 c2 c3 count : Nat) : BitVec 256 :=
  BitVec.ofNat 256 (stamp % 2 ^ 48 + boot % 2 ^ 16 * 2 ^ 48 + page % 2 ^ 13 * 2 ^ 64 + cls % 8 * 2 ^ 77
    + code % 256 * 2 ^ 80 + lost % 2 * 2 ^ 88 + steps % 16 * 2 ^ 89 + c1 % 2 ^ 32 * 2 ^ 96 + c2 % 2 ^ 32 * 2 ^ 128
    + c3 % 2 ^ 32 * 2 ^ 160 + count % 2 ^ 16 * 2 ^ 192)

/-- The capture registers of a page take an error (R33): written when VALID is 0, else LOST is set and counted. -/
def State.takeCapture (s : State) (p code c1 c2 c3 : Nat) : State :=
  if s.gb p HDR.ERR_CAP0_VALID then
    s.sf p HDR.ERR_CAP0_LOST 1
     |>.sf p HDR.ERR_CAP0_LOST_COUNT (min (s.gf p HDR.ERR_CAP0_LOST_COUNT + 1) 0xFFFF)
  else
    s.sf p HDR.ERR_CAP0_VALID 1 |>.sf p HDR.ERR_CAP0_CODE code
     |>.setReg (raddr p 0x24) (BitVec.ofNat 32 c1) |>.setReg (raddr p 0x28) (BitVec.ofNat 32 c2)
     |>.setReg (raddr p 0x2C) (BitVec.ofNat 32 c3)
     |>.setReg (raddr p 0x30) (BitVec.ofNat 32 s.stamp) |>.sf p HDR.ERR_STAMP_HI_STAMP_HI (s.stamp / 2 ^ 32)
     |>.sf p HDR.PAGE_STS_FAULT 1

/-- A record enters the history queue; a full queue loses it (R566). -/
def State.pushRecord (s : State) (r : BitVec 256) : State :=
  let s := s.cnt pgFLT FLT.CNT_RECORDS
  if s.flt.queue.length < 256 then
    let s := { s with flt := { s.flt with queue := s.flt.queue ++ [r] } }
    s.sf pgFLT FLT.FLT_STS_QUEUE s.flt.queue.length
  else s.cnt pgFLT FLT.CNT_QUEUE_LOST

/-- A capture of a page and its history record, without the loss report of a full queue. -/
def State.captureOnce (s : State) (p code c1 c2 c3 : Nat) : State :=
  let fresh := !s.gb p HDR.ERR_CAP0_VALID
  let s := s.takeCapture p code c1 c2 c3
  if fresh then
    s.pushRecord (histRecord s.stamp (s.gf pgVLT VLT.VLT_STS_BOOT_NUMBER) p (errClass p code) code 0
      (s.gf pgFLT FLT.FLT_STS_STEPS) c1 c2 c3 0)
  else s

/-- The report of a record lost to a full queue: FLT code 0x03 with the page of the lost record (R566). Its own record
meets the full queue too, and its capture is then held, so the second loss is only counted. -/
def State.queueFull (s : State) (p : Nat) : State :=
  let fresh := !s.gb pgFLT HDR.ERR_CAP0_VALID
  let s := s.captureOnce pgFLT 0x03 p 0 0
  let s := if fresh then s.takeCapture pgFLT 0x03 pgFLT 0 0 else s
  s.event pgFLT 2

/-- A record made by a page: queued, or lost and reported. -/
def State.record (s : State) (p : Nat) (r : BitVec 256) : State :=
  if s.flt.queue.length < 256 then s.pushRecord r else (s.pushRecord r).queueFull p

/-- A block detects an error (R33): capture, history record, event bit. -/
def State.error (s : State) (p bit code c1 c2 c3 : Nat) : State :=
  let full := !s.gb p HDR.ERR_CAP0_VALID && !(s.flt.queue.length < 256)
  let s := s.captureOnce p code c1 c2 c3
  let s := if full then s.queueFull p else s
  s.event p bit

/-- An error code that sets no event bit of its own. -/
def State.errorNoEvent (s : State) (p code c1 c2 c3 : Nat) : State :=
  let full := !s.gb p HDR.ERR_CAP0_VALID && !(s.flt.queue.length < 256)
  let s := s.captureOnce p code c1 c2 c3
  if full then s.queueFull p else s

/-- A DEV access error (R48): event bit b, code b + 1, the BAR0 offset and the requester. -/
def State.devError (s : State) (bit off req : Nat) : State := s.error pgDEV bit (bit + 1) off req 0

/-- A station report (R565): FLT code 0x02 and the link's PROTO_ERRORS. -/
def State.stationReport (s : State) (anchor device reason op seq : Nat) : State :=
  (s.cnt (pgPRT anchor) LNK.CNT_PROTO_ERRORS).error pgFLT 1 0x02 (anchor + device * 2 ^ 10 + reason * 2 ^ 16)
    (op + seq * 2 ^ 5) 0

/-- ERR_CAP0 written (R33, R566): VALID released, with a record of the losses, and LOST cleared. -/
def State.capWrite (s : State) (p : Nat) (v : Word) : State :=
  let rel := bitAt v.toNat 0 && s.gb p HDR.ERR_CAP0_VALID
  let lostN := s.gf p HDR.ERR_CAP0_LOST_COUNT
  let code := s.gf p HDR.ERR_CAP0_CODE
  let s := if bitAt v.toNat 1 then s.sf p HDR.ERR_CAP0_LOST 0 else s
  if rel then
    let s := s.sf p HDR.ERR_CAP0_VALID 0 |>.sf p HDR.ERR_CAP0_LOST_COUNT 0 |>.sf p HDR.PAGE_STS_FAULT 0
    if lostN == 0 then s else
      s.record p (histRecord s.stamp (s.gf pgVLT VLT.VLT_STS_BOOT_NUMBER) p (errClass p code) code 1
        (s.gf pgFLT FLT.FLT_STS_STEPS) 0 0 0 lostN)
  else s

end Sys2Proof.Machine
end

