-- ==== Sys2Proof/Machine/HostCfg.lean ====
section
/-!
DEFINITION. The configuration registers of the functions (R57 to R62, R66 to R69), what they present, and the questions
other blocks ask of them: is a function awake, which Landing entry is whose, what AER reports.
-/

namespace Sys2Proof.Machine

/-- The number of a field of an IDE stream's control registers. -/
def ideFldCode : IdeFld → Nat
  | .enable => 0 | .pcrc => 1 | .teeLimited => 2 | .streamId => 3 | .ridBase => 4 | .ridLimit => 5 | .ridValid => 6
  | .addrBase b => 7 + b % 2 * 3 | .addrLimit b => 8 + b % 2 * 3 | .addrValid b => 9 + b % 2 * 3

/-- The number of a stored configuration register among those of a function; the others, which store nothing, share one. -/
def cfgCode : CfgReg → Nat
  | .memSpace => 0 | .busMaster => 1 | .msixEnable => 2 | .funcMask => 3 | .cplTimeoutDis => 4 | .maxPayload => 5
  | .maxReadReq => 6 | .rcb => 7 | .atsEnable => 8 | .priEnable => 9 | .pasidEnable => 10 | .ptmEnable => 11
  | .pmeEnable => 12 | .numVfs => 13 | .sysPageSize => 14 | .targetSpeed => 15 | .aerUncSeverity => 16
  | .aerUncStatus => 17 | .aerCorStatus => 18 | .sigTargetAbort => 19
  | .subsysVendor => 24 | .vfEnable => 34 | .powerState => 35 | .tenBitTag => 36 | .cplTimeoutVal => 37 | .atsStu => 38
  | .aerHeader i => 40 + i % 4
  | .bar i => 64 + i % 64 | .ide stream f => 2048 + stream % 8 * 16 + ideFldCode f
  | .vendorId | .deviceId | .revisionId | .classCode | .subsysId | .headerType | .interruptPin | .totalVfs | .initialVfs
  | .firstVfOffset | .vfStride | .vfDeviceId | .supportedPageSizes | .capability _ | .romBar
  | .aspmSupport | .l1ExitLatency | .linkSpeedMax | .linkWidthMax | .linkSpeedNow | .linkWidthNow | .slotClock
  | .maxPayloadSupp | .extTagSupp | .tenBitTagSupp | .fourteenBitTagSupp | .flrSupp | .cplTimeoutRanges | .cplTimeoutDisSupp
  | .atomicCompleter32 | .atomicCompleter64 | .atomicCompleter128 | .atomicRequester
  | .pmeSupport | .d1Supp | .d2Supp | .serialLo | .serialHi | .ariNextFunction | .acsCap | .pasidWidth | .pasidExec | .pasidPriv
  | .ptmRequester | .ptmResponder | .ptmRoot | .ptmLocalGranularity
  | .atsQueueDepth | .atsPageAligned | .atsGlobalInval | .priCapacity | .priPasidRequired | .msixTableSize
  | .ideLinkStreams | .ideSelStreams | .idePcrc | .ideTeeLimited | .idePartialHeader | .ideAggregation | .teeIo => 63

/-- What a stored configuration register holds after reset: MRRS 512 bytes, System Page Size 4 KiB, the default severities of the
AER register (R75: fatal for Flow Control Protocol, Receiver Overflow, Malformed TLP, Uncorrectable Internal, IDE Check Failed), all
others 0 (the PCI Express defaults). PRESUMED, unsafe: log entry 17. -/
def cfgReset (k : Nat) : Nat :=
  match k % 4096 with
  | 6 => 2 | 14 => 1 | 16 => 2 ^ 13 + 2 ^ 17 + 2 ^ 18 + 2 ^ 22 + 2 ^ 28 | _ => 0

/-- The stored value of a configuration register of a function. -/
def State.cfgRaw (s : State) (func : Nat) (r : CfgReg) : Nat :=
  SMap.get cfgReset s.host.cfg (func * 4096 + cfgCode r)

/-- A stored configuration register replaced. DESIGN CHOICE, unsafe: log entry 19. -/
def State.setCfg (s : State) (func : Nat) (r : CfgReg) (v : Nat) : State :=
  { s with host := { s.host with cfg := SMap.set cfgReset s.host.cfg (func * 4096 + cfgCode r) v } }

/-- Whether SR-IOV is shown (R58). -/
def State.sriov (s : State) : Bool := s.gb pgDEV DEV.FEAT_EN_SRIOV

/-- Whether the VF Enable bit is set, and which VFs then exist (R61). -/
def State.vfsPresent (s : State) : Nat :=
  if s.cfgRaw 0 .vfEnable == 1 then min (s.cfgRaw 0 .numVfs) (s.gf pgHST HST.FUNC_CFG_TOTAL_VFS) else 0

/-- Whether a function exists now: PF0, or a present VF. -/
def State.funcExists (s : State) (f : Nat) : Bool := f == 0 || f ≤ s.vfsPresent

/-- The subsystem identity from the image (R57), kept in bits of the stored register; 0x1F3C and 0 with no image. -/
def State.subsys (s : State) : Nat := s.cfgRaw 0 .subsysVendor

/-- Whether a capability is shown in a function (R58), by the PCI capability ID, extended ones from 0x100 on. PRESUMED, unsafe: log entry 17. -/
def State.capShown (s : State) (func id : Nat) : Bool :=
  let img := !s.sys.noImage
  let pf := func == 0
  let speed := s.gf pgHST HST.LINK_CFG_SPEED_MAX
  match id with
  | 0x01 => pf
  | 0x10 => true
  | 0x11 => if pf then s.gf pgHST HST.MSIX_CFG_PF_VECTORS != 0 else s.gf pgHST HST.MSIX_CFG_VF_VECTORS != 0
  | 0x101 => img
  | 0x103 => pf && img
  | 0x119 | 0x125 | 0x126 | 0x12A | 0x131 | 0x127 => pf && 4 ≤ speed
  | 0x132 => pf && (speed == 6 || s.gb pgHST HST.LINK_CFG_FLIT_LOW)
  | 0x10E | 0x10D => s.sriov
  | 0x110 => pf && s.sriov
  | 0x10F => s.gb pgDEV DEV.FEAT_EN_ATS_PRI
  | 0x113 => pf && s.gb pgDEV DEV.FEAT_EN_ATS_PRI
  | 0x11B => s.gb pgDEV DEV.FEAT_EN_PASID
  | 0x11F => pf && s.gb pgDEV DEV.FEAT_EN_PTM
  | 0x12E => pf && s.gb pgDEV DEV.FEAT_EN_DOE_SPDM
  | 0x130 => pf && s.gb pgDEV DEV.FEAT_EN_IDE
  | 0x200 => s.gb pgDEV DEV.FEAT_EN_TDISP
  | _ => false

/-- The size of a BAR as a power of two, or nothing for an absent one (R59, R61). BAR pair i is named by its first BAR. -/
def State.barLog2 (s : State) (func i : Nat) : Option Nat :=
  let pf := func == 0
  if !pf && s.cfgRaw 0 .sysPageSize != 1 then none
  else match i with
    | 0 => if pf then some 26 else if s.sriov then some (12 + s.gf pgHST HST.FUNC_CFG_VF_HAL_LOG2) else none
    | 2 =>
      let k := if pf then s.gf pgHST HST.FUNC_CFG_PF_APERT_LOG2 else s.gf pgHST HST.FUNC_CFG_VF_APERT_LOG2
      if k == 0 || s.sys.noImage then none else some k
    | 4 =>
      let n := if pf then s.gf pgHST HST.MSIX_CFG_PF_VECTORS else s.gf pgHST HST.MSIX_CFG_VF_VECTORS
      if n == 0 || s.sys.noImage then none else some 16
    | _ => none

/-- The capability that a configuration register belongs to, where it is not always there (R58). PRESUMED, unsafe: log entry 17. -/
def cfgCap : CfgReg → Option Nat
  | .pmeEnable | .powerState | .pmeSupport | .d1Supp | .d2Supp => some 0x01
  | .msixEnable | .funcMask | .msixTableSize => some 0x11
  | .aerUncSeverity | .aerUncStatus | .aerCorStatus | .aerHeader _ => some 0x101
  | .serialLo | .serialHi => some 0x103
  | .ariNextFunction => some 0x10E
  | .acsCap => some 0x10D
  | .numVfs | .sysPageSize | .totalVfs | .initialVfs | .firstVfOffset | .vfStride | .vfDeviceId | .supportedPageSizes | .vfEnable =>
    some 0x110
  | .bar i => if i < 6 then none else some 0x110
  | .atsEnable | .atsQueueDepth | .atsPageAligned | .atsGlobalInval | .atsStu => some 0x10F
  | .priEnable | .priCapacity | .priPasidRequired => some 0x113
  | .pasidEnable | .pasidWidth | .pasidExec | .pasidPriv => some 0x11B
  | .ptmEnable | .ptmRequester | .ptmResponder | .ptmRoot | .ptmLocalGranularity => some 0x11F
  | .ideLinkStreams | .ideSelStreams | .idePcrc | .ideTeeLimited | .idePartialHeader | .ideAggregation | .ide _ _ => some 0x130
  | .memSpace | .busMaster | .cplTimeoutDis | .maxPayload | .maxReadReq | .rcb | .targetSpeed | .sigTargetAbort | .vendorId
  | .deviceId | .tenBitTag | .cplTimeoutVal | .revisionId | .classCode | .subsysVendor | .subsysId | .headerType | .interruptPin
  | .capability _ | .romBar | .aspmSupport | .l1ExitLatency | .linkSpeedMax | .linkWidthMax | .linkSpeedNow | .linkWidthNow
  | .slotClock | .maxPayloadSupp | .extTagSupp | .tenBitTagSupp | .fourteenBitTagSupp | .flrSupp | .cplTimeoutRanges
  | .cplTimeoutDisSupp | .atomicCompleter32 | .atomicCompleter64 | .atomicCompleter128 | .atomicRequester | .teeIo => none

/-- Whether a configuration register is there: its capability is shown. -/
def State.cfgShown (s : State) (func : Nat) (r : CfgReg) : Bool :=
  match cfgCap r with | some id => s.capShown func id | none => true

/-- The read-only low bits of a BAR's first dword (R23, R59): a 64-bit memory BAR, with the Prefetchable bit of an aperture. -/
def State.barType (s : State) (i : Nat) : Nat := 4 + (if i == 2 && s.gb pgHST HST.FUNC_CFG_APERT_PREF then 8 else 0)

/-- A BAR register: BARs 0 to 5 of PF0 are its own, BARs 6 to 11 the VF BARs of its SR-IOV capability; a VF's own BARs read 0. -/
def State.barRead (s : State) (func i : Nat) : Nat :=
  if func != 0 then 0 else
  match s.barLog2 (i / 6) (i % 6 / 2 * 2) with
  | none => 0
  | some k =>
    let base := s.cfgRaw 0 (.bar (i / 2 * 2)) / 2 ^ k * 2 ^ k
    if i % 2 == 1 then base / 2 ^ 32 % 2 ^ 32 else base % 2 ^ 32 + s.barType (i % 6)

/-- What a shown configuration register of a function reads as (R50 to R52, R57 to R59, R61, R63, R66, R69, R71, R78, R81). The encodings
are those of the PCI Express Base Specification. PRESUMED, unsafe: log entry 17. -/
def State.cfgWord (s : State) (func : Nat) (r : CfgReg) : Nat :=
  match r with
  | .vendorId => if func == 0 then 0x1F3C else 0xFFFF
  | .deviceId => if func == 0 then 0x1024 else 0xFFFF
  | .revisionId => bits (s.reg (raddr pgDEV 0x40)).toNat 8 8
  | .classCode => 0x068000
  | .subsysVendor => if s.sys.noImage then 0x1F3C else s.subsys % 2 ^ 16
  | .subsysId => if s.sys.noImage then 0 else s.subsys / 2 ^ 16
  | .headerType | .interruptPin | .romBar => 0
  | .totalVfs | .initialVfs => s.gf pgHST HST.FUNC_CFG_TOTAL_VFS
  | .firstVfOffset | .vfStride => 1
  | .vfDeviceId => 0x1025
  | .supportedPageSizes => 1
  | .capability id => b2n (s.capShown func id)
  | .bar i => s.barRead func i
  | .aspmSupport => 2
  | .l1ExitLatency => 4
  | .linkSpeedMax => s.gf pgHST HST.LINK_CFG_SPEED_MAX
  | .linkWidthMax => s.gf pgHST HST.LINK_CFG_WIDTH_MAX
  | .linkSpeedNow => s.gf pgHST HST.LINK_STS_SPEED
  | .linkWidthNow => s.gf pgHST HST.LINK_STS_WIDTH
  | .slotClock => b2n (s.gf pgHST HST.LINK_CFG_CLK_MODE == 0)
  | .maxPayloadSupp => 5
  | .extTagSupp | .tenBitTagSupp | .fourteenBitTagSupp | .flrSupp | .cplTimeoutDisSupp | .atomicCompleter32 | .atomicCompleter64 => 1
  | .cplTimeoutRanges => 0xF
  | .atomicCompleter128 | .atomicRequester => 0
  | .pmeSupport => 0x19
  | .d1Supp | .d2Supp => 0
  | .serialLo => Config.serial.toNat % 2 ^ 32
  | .serialHi => Config.serial.toNat / 2 ^ 32
  | .ariNextFunction => 0
  | .acsCap => 0x23
  | .pasidWidth => 20
  | .pasidExec | .pasidPriv => 0
  | .ptmRequester | .ptmLocalGranularity => 1
  | .ptmResponder | .ptmRoot => 0
  | .atsQueueDepth => 0
  | .atsPageAligned | .atsGlobalInval => 1
  | .priCapacity => 1024
  | .priPasidRequired => 1
  | .msixTableSize => (if func == 0 then s.gf pgHST HST.MSIX_CFG_PF_VECTORS else s.gf pgHST HST.MSIX_CFG_VF_VECTORS) - 1
  | .ideLinkStreams | .idePcrc => 1
  | .ideSelStreams => 3
  | .ideTeeLimited | .teeIo => b2n (s.gb pgDEV DEV.FEAT_EN_TDISP)
  | .idePartialHeader | .ideAggregation => 0
  | .memSpace | .busMaster | .msixEnable | .funcMask | .cplTimeoutDis | .maxPayload | .maxReadReq | .rcb | .atsEnable | .priEnable
  | .pasidEnable | .ptmEnable | .pmeEnable | .numVfs | .sysPageSize | .targetSpeed | .aerUncSeverity | .aerUncStatus | .aerCorStatus
  | .aerHeader _ | .sigTargetAbort | .tenBitTag | .cplTimeoutVal | .vfEnable | .powerState | .atsStu | .ide _ _ => s.cfgRaw func r

/-- What a configuration read returns: 0 where the capability is not shown. PRESUMED, unsafe: log entry 17. -/
def State.cfgRead (s : State) (func : Nat) (r : CfgReg) : Nat := if s.cfgShown func r then s.cfgWord func r else 0

/-- The base address of a BAR pair of a function (R59, R61): VFk's pair is the k-th piece of PF0's VF BAR. -/
def State.barBase (s : State) (func i : Nat) : Option (Nat × Nat) :=
  (s.barLog2 func i).map (fun k =>
    if func == 0 then (s.cfgRaw 0 (.bar i) / 2 ^ k * 2 ^ k, k)
    else (s.cfgRaw 0 (.bar (6 + i)) / 2 ^ k * 2 ^ k + (func - 1) * 2 ^ k, k))

/-- Whether the device is a cascade member, and its uplink anchor (R310, R311). -/
def State.isMember (s : State) : Bool := s.gf pgWAD WAD.CASC_CTL_DEVICE != 0
def State.uplink (s : State) : Nat := s.tf .rte 0 T_RTE.ANCHOR

/-- The function of a Landing entry (R67): 0 for PF0, k for VFk, nothing beyond the configured entries. -/
def State.entryFunc (s : State) (e : Nat) : Option Nat :=
  let pf := s.gf pgHST HST.MSIX_CFG_PF_VECTORS
  let vf := s.gf pgHST HST.MSIX_CFG_VF_VECTORS
  if e < pf then some 0
  else if vf == 0 then none
  else if (e - pf) / vf < s.gf pgHST HST.FUNC_CFG_TOTAL_VFS then some ((e - pf) / vf + 1) else none

/-- Whether an MSI-X target is asleep (R439); a VF is never in a higher state than PF0. In a cascade member only the uplink decides, and the range. -/
def State.entryAsleep (s : State) (e : Nat) : Bool :=
  match s.entryFunc e with
  | none => true
  | some f =>
    if s.isMember then s.gf (pgPRT s.uplink) LNK.LINK_STS_STATE != 3
    else s.cfgRaw f .powerState != 0 || s.cfgRaw 0 .powerState != 0 || s.cfgRaw f .msixEnable != 1 || s.cfgRaw f .busMaster != 1
      || !s.gb pgHST HST.LINK_STS_DL_UP

/-- Whether an entry is masked: by its own Mask bit or its function's Function Mask (R436). -/
def State.entryMasked (s : State) (e : Nat) : Bool :=
  s.tb .vec e T_VEC.MASK ||
    (match s.entryFunc e with | some f => s.cfgRaw f .funcMask == 1 && !s.isMember | none => false)

/-! ### AER (R75) -/

/-- The bit of an error in the AER status and severity registers, and its name in a message. PRESUMED, unsafe: log entry 17. -/
def aerBit : AerErr → Nat
  | .poisonedTlp => 12 | .completionTimeout => 14 | .unexpectedCompletion => 16 | .malformedTlp => 18 | .unsupportedRequest => 20
  | .uncorrectableInternal => 22 | .ideCheckFailed => 28
def aerName : AerErr → String
  | .poisonedTlp => "PoisonedTlp" | .completionTimeout => "CompletionTimeout" | .unexpectedCompletion => "UnexpectedCompletion"
  | .malformedTlp => "MalformedTlp" | .unsupportedRequest => "UnsupportedRequest"
  | .uncorrectableInternal => "UncorrectableInternal" | .ideCheckFailed => "IDECheckFailed"

/-- Whether an error is programmed as fatal in a function. -/
def State.aerFatal (s : State) (func : Nat) (e : AerErr) : Bool := bitAt (s.cfgRaw func .aerUncSeverity) (aerBit e)

/-- A bit of a status register of a function is set. -/
def State.cfgOr (s : State) (func : Nat) (r : CfgReg) (bit : Nat) : State := s.setCfg func r (s.cfgRaw func r ||| 2 ^ bit)

/-- An error is reported for a function (R75): its status bit, the header log of the first one, and the message. A non-fatal error that
is sent as Advisory Non-Fatal also sets that bit of the Correctable Error Status. PRESUMED, unsafe: log entry 17. -/
def State.aer (s : State) (func : Nat) (e : AerErr) (advisory : Bool) (hdr : List Word) : State :=
  let fatal := s.aerFatal func e
  let first := s.cfgRaw func .aerUncStatus == 0
  let s := if !s.capShown func 0x101 then s else
    let s := s.cfgOr func .aerUncStatus (aerBit e)
    let s := if advisory && !fatal then s.cfgOr func .aerCorStatus 13 else s
    if first then s.each hdr.zipIdx (fun x s => s.setCfg func (.aerHeader x.2) x.1.toNat) else s
  s.emit (.aer func (aerName e ++ (if advisory then "Advisory" else "")) fatal)

/-- The header dwords of a request. -/
def tlpHdr (t : TlpInfo) : List Word := [t.hdr0, t.hdr1, t.hdr2, t.hdr3]

/-- An Unsupported Request of a host request, reported for a function (R75): a posted one is ERR_NONFATAL, a non-posted
one Advisory Non-Fatal. -/
def State.aerUr (s : State) (func : Nat) (posted : Bool) (hdr : List Word := []) : State :=
  s.aer func .unsupportedRequest (!posted) hdr

/-- A station-side failure of a posted write, reported for the function of the window's hall as Advisory Non-Fatal (R75). -/
def State.aerStation (s : State) (func : Nat) : State :=
  let s := if s.capShown func 0x101 then
    (s.cfgOr func .aerUncStatus (aerBit .uncorrectableInternal)).cfgOr func .aerCorStatus 13 else s
  s.emit (.aer func "UncorrectableInternalAdvisory" false)

/-- A report of Uncorrectable Internal Error on PF0 by FLT (R564, R75) with the page and code of the fault. -/
def State.internalReport (s : State) (page code : Nat) (hall : Option Nat) : State :=
  (s.error pgFLT 0 0x01 (page + code * 2 ^ 13) (match hall with | some h => h + 2 ^ 12 | none => 0) 0).aer 0 .uncorrectableInternal false []

end Sys2Proof.Machine
end

