-- ==== Sys2Proof/Machine/Operands.lean ====
section
/-!
DEFINITION. The formats of what crosses the wires: CRC-8 and CRC-32 (R153, R195), the codeword code (R189), control
blocks (R193), frame headers and payloads (R194, R235 to R241, R252), and what makes a frame malformed.
-/

namespace Sys2Proof.Machine

/-! ### Checks -/

/-- One bit of a CRC-8 register with the polynomial x^8 + x^2 + x + 1, most significant bit first. -/
def crc8Bit (c : Nat) : Nat := if c / 128 % 2 == 1 then (c * 2 % 256) ^^^ 0x07 else c * 2 % 256

/-- CRC-8 of bytes, initial value 0, no final inversion (R153). -/
def crc8 (bs : List Byte) : Nat :=
  bs.foldl (fun c b => (List.range 8).foldl (fun c _ => crc8Bit c) (c ^^^ b.toNat)) 0

/-- One bit of the reflected CRC-32 register with the IEEE 802.3 polynomial. -/
def crc32Bit (c : Nat) : Nat := if c % 2 == 1 then (c / 2) ^^^ 0xEDB88320 else c / 2

/-- CRC-32 of bytes, each least significant bit first, inverted (R195). -/
def crc32 (bs : List Byte) : Nat :=
  (bs.foldl (fun c b => (List.range 8).foldl (fun c _ => crc32Bit c) (c ^^^ b.toNat)) 0xFFFFFFFF) ^^^ 0xFFFFFFFF

/-! ### The Reed-Solomon code of codewords over GF(2^10) (R189, R190) -/

/-- Multiplication by α in the field of x^10 + x^3 + 1. -/
def gfTimesA (a : Nat) : Nat := if a / 512 % 2 == 1 then (a * 2 % 1024) ^^^ 0x009 else a * 2 % 1024

/-- The product of two field elements. -/
def gfMul (a b : Nat) : Nat :=
  ((List.range 10).foldl (fun (t : Nat × Nat) i => (if b / 2 ^ i % 2 == 1 then t.1 ^^^ t.2 else t.1, gfTimesA t.2)) (0, a)).1

/-- A power of a field element by repeated squaring over ten bits of the exponent. -/
def gfPow (a e : Nat) : Nat :=
  ((List.range 10).foldl (fun (t : Nat × Nat) i => (if e / 2 ^ i % 2 == 1 then gfMul t.1 t.2 else t.1, gfMul t.2 t.2)) (1, a)).1

/-- The inverse of a non-zero field element. -/
def gfInv (a : Nat) : Nat := gfPow a 1022

/-- The 216 symbols of a codeword; symbol k is the coefficient of x^(215 − k). -/
def rsSymbols (cw : BitVec 2160) : List Nat := (List.range 216).map (fun k => bits cw.toNat (10 * k) 10)

/-- A codeword's value at α^j. -/
def rsSyndrome (syms : List Nat) (j : Nat) : Nat := syms.foldl (fun c x => gfMul c (2 ^ j) ^^^ x) 0

/-- The six syndromes. -/
def rsSyndromes (syms : List Nat) : List Nat := (List.range 6).map (rsSyndrome syms)

/-- The value of a polynomial, constant term first. -/
def gfEval : List Nat → Nat → Nat
  | [], _ => 0
  | c :: t, x => c ^^^ gfMul x (gfEval t x)

/-- The locator of ν errors from the syndromes (Peterson's direct solution), constant term first; none when its
equations have no solution. -/
def rsLocator (sy : List Nat) (v : Nat) : Option (List Nat) :=
  let s := fun i => sy.getD i 0
  match v with
  | 1 => if s 0 == 0 then none else some [1, gfMul (s 1) (gfInv (s 0))]
  | 2 =>
    let d := gfMul (s 0) (s 2) ^^^ gfMul (s 1) (s 1)
    if d == 0 then none else
      let i := gfInv d
      some [1, gfMul i (gfMul (s 0) (s 3) ^^^ gfMul (s 1) (s 2)), gfMul i (gfMul (s 1) (s 3) ^^^ gfMul (s 2) (s 2))]
  | 3 =>
    let det := fun a b c d e f g h k =>
      gfMul a (gfMul e k ^^^ gfMul f h) ^^^ gfMul b (gfMul d k ^^^ gfMul f g) ^^^ gfMul c (gfMul d h ^^^ gfMul e g)
    let d := det (s 0) (s 1) (s 2) (s 1) (s 2) (s 3) (s 2) (s 3) (s 4)
    if d == 0 then none else
      let i := gfInv d
      let l3 := gfMul i (det (s 3) (s 1) (s 2) (s 4) (s 2) (s 3) (s 5) (s 3) (s 4))
      let l2 := gfMul i (det (s 0) (s 3) (s 2) (s 1) (s 4) (s 3) (s 2) (s 5) (s 4))
      let l1 := gfMul i (det (s 0) (s 1) (s 3) (s 1) (s 2) (s 4) (s 2) (s 3) (s 5))
      some [1, l1, l2, l3]
  | _ => none

/-- The error values at exponents ps, from as many syndromes, by elimination on the Vandermonde equations: the value at
p is the quotient of the other locations' polynomial applied to the syndromes by its value at α^p. -/
def rsValue (sy : List Nat) (ps : List Nat) (p : Nat) : Nat :=
  let others := ps.filter (· != p)
  let poly := others.foldl (fun (c : List Nat) q =>
    (0 :: c).zipWith (fun a b => a ^^^ b) ((c.map (gfMul (gfPow 2 q))) ++ [0])) [1]
  let num := ((poly.zip sy).map (fun e => gfMul e.1 e.2)).foldl (fun a b => a ^^^ b) 0
  gfMul num (gfInv (gfEval poly (gfPow 2 p)))

/-- The symbols with ν errors corrected, when that gives a codeword. -/
def rsTry (syms : List Nat) (sy : List Nat) (v : Nat) : Option (List Nat) :=
  match rsLocator sy v with
  | none => none
  | some loc =>
    let ps := (List.range 216).filter (fun p => gfEval loc (gfInv (gfPow 2 p)) == 0)
    if ps.length != v then none
    else
      let fixed := ps.foldl (fun l p => l.set (215 - p) (l.getD (215 - p) 0 ^^^ rsValue sy ps p)) syms
      if (rsSyndromes fixed).all (· == 0) then some fixed else none

/-- Decoding (R190): the symbols and whether any was corrected; none for an uncorrectable codeword. -/
def rsDecode (cw : BitVec 2160) : Option (List Nat × Bool) :=
  let syms := rsSymbols cw
  let sy := rsSyndromes syms
  if sy.all (· == 0) then some (syms, false)
  else
    match rsTry syms sy 1 with
    | some f => some (f, true)
    | none =>
      match rsTry syms sy 2 with
      | some f => some (f, true)
      | none => (rsTry syms sy 3).map (fun f => (f, true))

/-- The bits of a decoded codeword (R187): CWC at 0, MAP at 20, block j at 52 + 64j. -/
def rsBits (syms : List Nat) : Nat :=
  (syms.foldr (fun x t => x + 1024 * t) 0)

/-! ### Control blocks (R192, R193) -/

def btIDLE : Nat := 0x1E
def btEOF : Nat := 0x2D
def btACK : Nat := 0x4B
def btNAK : Nat := 0x4C
def btINIT : Nat := 0x55
def btPARAM : Nat := 0x5A
def btFLOW : Nat := 0x78
def btSPARE : Nat := 0x87

/-- A control block's type, and whether its CRC-8 over bytes 0 to 6 is right. -/
def blkType (b : Word64) : Nat := fld b 0 8
def blkGood (b : Word64) : Bool := crc8 (bytesOf 7 b.toNat) == fld b 56 8

/-- Whether a block type is one R192 lists. -/
def blkListed (t : Nat) : Bool :=
  t == btIDLE || t == btEOF || t == btACK || t == btNAK || t == btINIT || t == btPARAM || t == btFLOW || t == btSPARE
    || (0xC0 ≤ t && t ≤ 0xCF)

/-- A control block of a type with bytes 1 to 6, and its CRC-8. -/
def mkBlk (t body : Nat) : Word64 :=
  let low := t % 256 + body % 2 ^ 48 * 256
  BitVec.ofNat 64 (low + crc8 (bytesOf 7 low) * 2 ^ 56)

def mkAck (nak : Bool) (seq wcredit xoff : Nat) : Word64 :=
  mkBlk (if nak then btNAK else btACK) (seq % 4096 + wcredit % 4096 * 2 ^ 16 + xoff % 256 * 2 ^ 32)
def mkFlow (xoff : Nat) : Word64 := mkBlk btFLOW (xoff % 256)
def mkInit (epoch rxNext : Nat) (resume ack casc : Bool) (win vcs : Nat) : Word64 :=
  mkBlk btINIT (epoch % 2 ^ 16 + rxNext % 4096 * 2 ^ 16 + b2n resume * 2 ^ 28 + b2n ack * 2 ^ 29 + b2n casc * 2 ^ 30
    + win % 4096 * 2 ^ 32 + vcs % 4 * 2 ^ 44)
def mkParam (maxpay : Nat) : Word64 := mkBlk btPARAM (maxpay % 2 ^ 24)
def mkSpare (lane : Nat) (echo : Bool) (at_ anchorId : Nat) : Word64 :=
  mkBlk btSPARE (lane % 16 + b2n echo * 16 + at_ % 256 * 2 ^ 8 + anchorId % 2 ^ 16 * 2 ^ 16)

/-- The fields of received blocks. -/
def ackSeq (b : Word64) : Nat := fld b 8 12
def ackCredit (b : Word64) : Nat := fld b 24 12
def ackXoff (b : Word64) : Nat := fld b 40 8
def flowXoff (b : Word64) : Nat := fld b 8 8
def initEpoch (b : Word64) : Nat := fld b 8 16
def initRxNext (b : Word64) : Nat := fld b 24 12
def initResume (b : Word64) : Bool := fld b 36 1 == 1
def initAckBit (b : Word64) : Bool := fld b 37 1 == 1
def initCascade (b : Word64) : Bool := fld b 38 1 == 1
def initWin (b : Word64) : Nat := fld b 40 12
def initVcs (b : Word64) : Nat := fld b 52 2
def paramMaxPay (b : Word64) : Nat := fld b 8 24
def spareLane (b : Word64) : Nat := fld b 8 4
def spareEcho (b : Word64) : Bool := fld b 12 1 == 1
def spareAt (b : Word64) : Nat := fld b 16 8

/-- The largest payload a MAXPAY code stands for (R213). -/
def maxPayBytes (c : Nat) : Nat :=
  match c with | 0 => 2048 | 1 => 1024 | 2 => 512 | 3 => 256 | 4 => 128 | _ => 64

/-- The number of VCs a VCS code stands for (R193). -/
def vcCount (c : Nat) : Nat := match c with | 1 => 4 | 2 => 8 | _ => 2

end Sys2Proof.Machine

namespace Sys2Proof
open Sys2Proof.Machine

/-! ### Frame headers (R194, R235 to R238) -/

def Frame.seq (f : Frame) : Nat := fld f.hdr 0 12
def Frame.vc (f : Frame) : Nat := fld f.hdr 12 3
def Frame.len8 (f : Frame) : Nat := fld f.hdr 16 9
def Frame.op (f : Frame) : Nat := fld f.hdr 32 5
def Frame.tag (f : Frame) : Nat := fld f.hdr 37 10
def Frame.fbe (f : Frame) : Nat := fld f.hdr 47 8
def Frame.lbe (f : Frame) : Nat := fld f.hdr 55 8
def Frame.code (f : Frame) : Nat := fld f.hdr 47 8
def Frame.ctx (f : Frame) : Nat := fld f.hdr 37 10 + fld f.hdr 63 1 * 2 ^ 10 + fld f.hdr 64 3 * 2 ^ 11
def Frame.addr (f : Frame) : Nat := fld f.hdr 67 61 * 8
def Frame.cls (f : Frame) : Nat := fld f.hdr 37 3
def Frame.dtag (f : Frame) : Nat := fld f.hdr 40 20
def Frame.srcPort (f : Frame) : Nat := fld f.hdr 60 10
def Frame.srcDev (f : Frame) : Nat := fld f.hdr 70 6
def Frame.reg (f : Frame) : Nat := fld f.hdr 47 16
def Frame.mask (f : Frame) : Nat := fld f.hdr 37 16
def Frame.line (f : Frame) : Nat := fld f.hdr 37 4
def Frame.kind (f : Frame) : Nat := fld f.hdr 37 2
def Frame.roundId (f : Frame) : Nat := fld f.hdr 39 8

/-- The payload bytes of a frame. -/
def Frame.bytes (f : Frame) : List Byte := f.words.flatMap (fun w => bytesOf 8 w.toNat)

/-- Payload bytes, and the units of 64 bytes a frame takes in the replay buffer and the window (R204). -/
def Frame.payload (f : Frame) : Nat := 8 * f.words.length
def Frame.units (f : Frame) : Nat := ceilDiv (20 + f.payload) 64

/-- The frame with its link fields set for sending. -/
def Frame.withLink (f : Frame) (seq vc : Nat) : Frame :=
  { f with hdr := put (put (put f.hdr 0 12 seq) 12 3 vc) 16 9 f.words.length }

/-- The frame with SRC_PORT and SRC_DEV written (R237), and with its class replaced (R300). -/
def Frame.fromPort (f : Frame) (port dev : Nat) : Frame := { f with hdr := put (put f.hdr 60 10 port) 70 6 dev }
def Frame.withClass (f : Frame) (c : Nat) : Frame := { f with hdr := put f.hdr 37 3 c }

/-- A frame with a cascade word before its payload, and one without its first word (R312). -/
def Frame.prefixed (f : Frame) (w : Word64) : Frame := { f with hdr := put f.hdr 16 9 (f.words.length + 1), words := w :: f.words }
def Frame.stripped (f : Frame) : Frame := { f with hdr := put f.hdr 16 9 (f.words.length - 1), words := f.words.drop 1 }

end Sys2Proof

namespace Sys2Proof.Machine

/-- Operation codes (R234). -/
def opPW : Nat := 0x01
def opNPW : Nat := 0x02
def opRD : Nat := 0x03
def opFADD : Nat := 0x04
def opSWAP : Nat := 0x05
def opCAS : Nat := 0x06
def opRSP : Nat := 0x08
def opERR : Nat := 0x09
def opMSG : Nat := 0x10
def opIDENT : Nat := 0x18
def opCFGRD : Nat := 0x19
def opCFGWR : Nat := 0x1A
def opPOLL : Nat := 0x1B
def opMIRAGE : Nat := 0x1C
def opEVENT : Nat := 0x1D
def opTIME : Nat := 0x1E

/-- Whether a frame is a request that holds a tag (R245, R246). -/
def takesTag (f : Frame) : Bool :=
  f.op == opRD || f.op == opNPW || (opFADD ≤ f.op && f.op ≤ opCAS) || (opIDENT ≤ f.op && f.op ≤ opPOLL)

/-- A frame from header bits [127:32] and payload words. -/
def mkFrame (high : Nat) (ws : List Word64) : Frame :=
  ⟨BitVec.ofNat 128 (ws.length % 512 * 2 ^ 16 + high % 2 ^ 96 * 2 ^ 32), ws⟩

/-- A request in the memory format (R235): tag or context, byte enables, station address. -/
def mkMem (op tag fbe lbe addr : Nat) (ws : List Word64) : Frame :=
  mkFrame (op + tag % 1024 * 2 ^ 5 + fbe % 256 * 2 ^ 15 + lbe % 256 * 2 ^ 23 + addr / 8 % 2 ^ 61 * 2 ^ 35) ws

/-- A posted write, with its requester context (R235). -/
def mkPw (ctx fbe lbe addr : Nat) (ws : List Word64) : Frame :=
  mkFrame (opPW + ctx % 1024 * 2 ^ 5 + fbe % 256 * 2 ^ 15 + lbe % 256 * 2 ^ 23 + ctx / 1024 % 2 * 2 ^ 31
    + ctx / 2048 % 8 * 2 ^ 32 + addr / 8 % 2 ^ 61 * 2 ^ 35) ws

/-- A control request (R238). -/
def mkCtl (op tag reg : Nat) (ws : List Word64) : Frame := mkFrame (op + tag % 1024 * 2 ^ 5 + reg % 2 ^ 16 * 2 ^ 15) ws

/-- A mirage update, an EVENT, a TIME frame, a response (R236, R238). -/
def mkMirage (mask : Nat) (ws : List Word64) : Frame := mkFrame (opMIRAGE + mask % 2 ^ 16 * 2 ^ 5) ws
def mkEvent (line : Nat) : Frame := mkFrame (opEVENT + line % 16 * 2 ^ 5) []
def mkTime (kind id : Nat) (ws : List Word64) : Frame := mkFrame (opTIME + kind % 4 * 2 ^ 5 + id % 256 * 2 ^ 7) ws
def mkRsp (tag code : Nat) (ws : List Word64) : Frame := mkFrame (opRSP + tag % 1024 * 2 ^ 5 + code % 256 * 2 ^ 15) ws

/-- The VC of a MSG of a class on a link with a number of VCs (R242). -/
def msgVc (cls vcs : Nat) : Nat := if cls == 0 || vcs ≤ 2 then 1 else 2 + (cls - 1) % (vcs - 2)

end Sys2Proof.Machine

namespace Sys2Proof
open Sys2Proof.Machine

/-- The VC a frame travels on (R234, R242). -/
def Frame.onVc (f : Frame) (vcs : Nat) : Nat :=
  if f.op == opMSG then msgVc f.cls vcs
  else if f.op == opRSP || f.op == opERR || f.op == opMIRAGE || f.op == opEVENT || f.op == opTIME then 1 else 0

end Sys2Proof

namespace Sys2Proof.Machine

/-- The OPs a station may send (R234). -/
def stationMay (op : Nat) : Bool :=
  op == opRSP || op == opERR || op == opMSG || op == opMIRAGE || op == opEVENT || op == opTIME

end Sys2Proof.Machine

namespace Sys2Proof
open Sys2Proof.Machine

/-- Whether a frame from a station, other than an RSP, is malformed (R240, R259). -/
def Frame.malformed (f : Frame) : Bool :=
  let n := f.words.length
  if f.op == opERR then
    let len := fld (f.words.getD 0 0) 0 12
    n != 1 || len == 0 || 2048 < len || f.code == 0
  else if f.op == opMIRAGE then n != ceilDiv (popCount 16 f.mask) 2
  else if f.op == opEVENT then n != 0
  else if f.op == opTIME then
    match f.kind with | 0 => n != 0 | 1 => n != 4 | 2 => n != 1 | _ => n != 2
  else 256 < n

end Sys2Proof

namespace Sys2Proof.Machine

/-! ### The identity record (R252 to R254) -/

/-- Whether a record is valid (R254). -/
def recordValid (ws : List Word64) : Bool :=
  let w0 := ws.getD 0 0
  let w2 := ws.getD 2 0
  fld w0 40 3 ≤ 4 && fld w0 44 4 ≤ 8 && fld w2 8 8 == 0x01
    && !(fld w0 49 1 == 1 && fld w0 40 3 < 3) && fld w2 16 5 ≤ 16 && fld w2 21 5 ≤ 16

/-- Bus width in bytes, maximum burst in bytes, and the optional capabilities by their bit of word 0 (R252, R254). -/
def Ident.busW (i : Ident) : Nat := if i.valid then 2 ^ fld (i.words.getD 0 0) 40 3 else 1
def Ident.burst (i : Ident) : Nat := if i.valid then 8 * 2 ^ fld (i.words.getD 0 0) 44 4 else 8
def Ident.can (i : Ident) (bit : Nat) : Bool := i.valid && fld (i.words.getD 0 0) bit 1 == 1
def Ident.irqLines (i : Ident) : Nat := if i.valid then fld (i.words.getD 2 0) 16 5 else 0
def Ident.sbSignals (i : Ident) : Nat := if i.valid then fld (i.words.getD 2 0) 21 5 else 0

/-! ### What the SMBus target returns (R41, R43) -/

/-- The SMBus target address in use (R41, R586). -/
def State.smbAddr (s : State) : Nat := 0x58 + fld (BitVec.ofNat 8 s.sys.straps) 0 2

/-- A register command ends with a status (R43, R46, R48). DEDUCED, unsafe: log entry 146. -/
def State.smbEnd (s : State) (off st : Nat) : State :=
  let s := s.sf pgDEV DEV.SMB_STS_LAST_STATUS st
  if st == 1 || st == 4 then s.devError 3 off 0xFFFF else s

/-- Bytes that the target returns, followed by their PEC (R41): it covers every byte of the transfer from the address on.
PRESUMED, unsafe: log entry 162. -/
def State.smbReply (s : State) (sent back : List Nat) : State :=
  s.emit (.smb ((back ++ [crc8 ((sent ++ back).map (BitVec.ofNat 8))]).map (BitVec.ofNat 8)))

/-- Command 0x11 ends (R43): count 5, the status and the data are returned. -/
def State.smbAnswer (s : State) (off st : Nat) (w : Word) : State :=
  (s.smbEnd off st).smbReply ([2 * s.smbAddr, 0x11, 4] ++ (bytesOf 4 off).map BitVec.toNat ++ [2 * s.smbAddr + 1])
    ([5, st] ++ (bytesOf 4 w.toNat).map BitVec.toNat)

end Sys2Proof.Machine
end

