-- ==== Sys2Proof/Machine/Landing.lean ====
section
/-!
DEFINITION. The Landing interrupt controller (R429 to R456): assignment, delivery, the landing stacks and hold-off.
-/

namespace Sys2Proof.Machine

/-- A field of the registers of summary target t (R450). -/
def sumF (t : Nat) (f : Fld) : Fld := ⟨0x800 + 32 * t + f.off, f.lo, f.w⟩

/-- The landing stack of a summary target, top first. -/
def State.stack (s : State) (t : Nat) : List (Nat × Nat) := SMap.get (fun _ => []) s.lnd.stk t

def State.setStack (s : State) (t : Nat) (l : List (Nat × Nat)) : State :=
  { s with lnd := { s.lnd with stk := SMap.set (fun _ => []) s.lnd.stk t l } }

/-- Sources in a state of R432 at a target of a kind, with their priority, lowest number first. -/
def State.srcsAt (s : State) (state kind target : Nat) : List (Nat × Nat) :=
  ((s.listed .src).filter (fun e => fld e.2 T_SRC.STATE.lo 3 == state && fld e.2 T_SRC.TKIND.lo 1 == kind
    && fld e.2 T_SRC.TARGET.lo 15 == target)).map (fun e => (e.1, fld e.2 T_SRC.PRIO.lo 8))

/-- The source of highest priority, the lowest number among equals. -/
def bestSource : List (Nat × Nat) → Option (Nat × Nat)
  | [] => none
  | x :: t =>
    match bestSource t with
    | none => some x
    | some y => if x.2 < y.2 then some y else some x

/-- The source CLAIM would return (R440, R441). -/
def State.claimable (s : State) (t : Nat) : Option (Nat × Nat) :=
  if s.gb pgLND (sumF t SUM.SUM_CTL_EN) && !s.gb pgLND (sumF t SUM.SUM_STS_FAULT) && (s.stack t).length < 16 then
    bestSource ((s.srcsAt srcSUMMARY 1 t).filter (fun e =>
      s.gf pgLND (sumF t SUM.SUM_CTL_THRESH) ≤ e.2 &&
        (match s.stack t with | [] => true | top :: _ => decide (top.2 < e.2))))
  else none

/-- IRQ_OUT_N follows the requests of the targets with OUT 1 (R440); it is released while LND is not ACTIVE (R447). -/
def State.irqPin (s : State) : State :=
  let low := s.active pgLND && (List.range 64).any (fun t =>
    s.gb pgLND (sumF t SUM.SUM_CTL_OUT) && s.gb pgLND (sumF t SUM.SUM_STS_REQ))
  if low == s.lnd.irqLow then s
  else { s with lnd := { s.lnd with irqLow := low } }.emit (.pin "IRQ_OUT_N" (!low))

/-- The status of a summary target is brought up to date; a rise of REQ, or REQ left at 1 by a claim or completion
(again), sends its message through ENTRY when OUT is 0 (R440, R450). -/
def State.sumUpdate (s : State) (t : Nat) (again : Bool) : State :=
  let was := s.gb pgLND (sumF t SUM.SUM_STS_REQ)
  let req := (s.claimable t).isSome
  let s := s.sf pgLND (sumF t SUM.SUM_STS_DEPTH) (s.stack t).length
    |>.sf pgLND (sumF t SUM.SUM_STS_TOP_PRIO) (match s.stack t with | [] => 0 | e :: _ => e.2)
    |>.sf pgLND (sumF t SUM.SUM_STS_WAITING) (min (s.srcsAt srcSUMMARY 1 t).length 0xFFFF)
    |>.sf pgLND (sumF t SUM.SUM_STS_REQ) (b2n req)
  let s := if req && (!was || again) && !s.gb pgLND (sumF t SUM.SUM_CTL_OUT) then
      { s with lnd := { s.lnd with sumMsgs := s.lnd.sumMsgs ++ [t] } } else s
  s.irqPin

/-- The Pending Bit of an entry: some source is held at it (R438). -/
def State.pendUpdate (s : State) (e : Nat) : State :=
  s.st .vec e T_VEC.PEND (b2n (!(s.srcsAt srcHELD 0 e).isEmpty))

/-- The service of a source ends (R432): IDLE, or PENDING when it fired meanwhile. -/
def State.endService (s : State) (x : Nat) : State :=
  if s.tf .src x T_SRC.STATE == srcACTPEND then s.becomePending x else s.st .src x T_SRC.STATE srcIDLE

/-- The hold-off timer of a source's group starts (R444). DESIGN CHOICE, unsafe: log entry 105. -/
def State.startHold (s : State) (x : Nat) : State :=
  let g := s.srcGroup x
  let us_ := s.tf .hof g T_HOF.HOLD_US
  if us_ == 0 then s else
    { s with lnd := { s.lnd with holds := s.lnd.holds.filter (fun e => e.1 != g) ++ [(g, s.clock + us us_)] } }

/-! ### Assignment -/

/-- What a target of a set is to a source: not enabled, not permitted, asleep, a masked entry, or free to take it. -/
inductive TargetView where
  | off | denied | asleep | masked | ready
  deriving DecidableEq, Repr

/-- How the k-th target entry looks to source x (R433, R435, R439). -/
def State.viewTarget (s : State) (x k : Nat) : TargetView :=
  if 32767 < k then .off
  else if !s.tb .tgt k T_TGT.EN then .off
  else
    let i := s.tf .tgt k T_TGT.INDEX
    if s.tb .tgt k T_TGT.KIND then
      if 63 < i then .off
      else if (s.srcHall x).isSome then .denied
      else if s.gb pgLND (sumF i SUM.SUM_CTL_EN) && !s.gb pgLND (sumF i SUM.SUM_STS_FAULT) then .ready else .asleep
    else
      match s.srcHall x with
      | some h =>
        if s.tf .hcx h T_HCX.VEC_FIRST ≤ i ∧ i < s.tf .hcx h T_HCX.VEC_FIRST + s.tf .hcx h T_HCX.VEC_COUNT then
          if s.entryAsleep i then .asleep else if s.entryMasked i then .masked else .ready
        else .denied
      | none => if s.entryAsleep i then .asleep else if s.entryMasked i then .masked else .ready

/-- The offsets of a set in round-robin order, from the target after NEXT (R434). -/
def State.setOrder (s : State) (set : Nat) : List Nat :=
  let n := min (s.tf .tse set T_TSE.COUNT) 64
  (List.range n).map (fun i => (s.tf .tse set T_TSE.NEXT + 1 + i) % n)

/-- The offsets of a source's set with what they are to it, in the order of the search. DESIGN CHOICE, unsafe: log entry 102. -/
def State.search (s : State) (x : Nat) : List (Nat × TargetView) :=
  let set := s.tf .src x T_SRC.TSET
  (s.setOrder set).map (fun o => (o, s.viewTarget x (s.tf .tse set T_TSE.FIRST + o)))

/-- The target a search ends at: the first ready one, else the first masked one (R434). -/
def chosen (l : List (Nat × TargetView)) : Option (Nat × TargetView) :=
  match l.find? (fun e => e.2 == .ready) with
  | some e => some e
  | none => l.find? (fun e => e.2 == .masked)

/-- The part of a search that was looked at: up to a ready target, or all of it. -/
def searched (l : List (Nat × TargetView)) : List (Nat × TargetView) := l.takeWhile (fun e => e.2 != .ready)

/-- The eligible sources (R433) with their priority. -/
def State.eligible (s : State) : List (Nat × Nat) :=
  ((s.listed .src).filter (fun e => fld e.2 T_SRC.STATE.lo 3 == srcPENDING && fld e.2 T_SRC.EN.lo 1 == 1
    && !s.holding (s.srcGroup e.1))).map (fun e => (e.1, fld e.2 T_SRC.PRIO.lo 8))

/-- The targets a source skips as not permitted are counted and reported (R435). -/
def State.denials (s : State) (x : Nat) (l : List (Nat × TargetView)) : State :=
  s.each (l.filter (fun e => e.2 == .denied)) (fun e s =>
    (s.cnt pgLND LND.CNT_TGT_DENIED).error pgLND 2 0x03 x
      (s.tf .tgt (s.tf .tse (s.tf .src x T_SRC.TSET) T_TSE.FIRST + e.1) T_TGT.INDEX) ((s.srcHall x).getD 0))

/-- PME for the functions of the asleep targets of a set that have PME_En set (R439). -/
def State.pmeForSet (s : State) (x : Nat) (l : List (Nat × TargetView)) : State :=
  let set := s.tf .src x T_SRC.TSET
  let fs := (l.filter (fun e => e.2 == .asleep)).filterMap (fun e =>
    let k := s.tf .tse set T_TSE.FIRST + e.1
    if s.tb .tgt k T_TGT.KIND then none else s.entryFunc (s.tf .tgt k T_TGT.INDEX))
  s.each (fs.dedup.filter (fun f => s.cfgRaw f .pmeEnable == 1)) (fun f s => s.emit (.pme f))

/-- Source x is assigned to the target at an offset of its set (R434). DESIGN CHOICE, unsafe: log entry 103. -/
def State.assignTo (s : State) (x off : Nat) : State :=
  let set := s.tf .src x T_SRC.TSET
  let k := s.tf .tse set T_TSE.FIRST + off
  let i := s.tf .tgt k T_TGT.INDEX
  let s := s.st .tse set T_TSE.NEXT off |>.st .src x T_SRC.TARGET i
  let s := { s with lnd := { s.lnd with waited := s.lnd.waited.filter (· != x) } }
  if s.tb .tgt k T_TGT.KIND then
    (s.st .src x T_SRC.TKIND 1 |>.st .src x T_SRC.STATE srcSUMMARY |>.startHold x).sumUpdate i false
  else
    let s := s.st .src x T_SRC.TKIND 0
    if s.entryMasked i then
      (s.st .src x T_SRC.STATE srcHELD |>.cnt pgLND LND.CNT_HELD_MASKED).pendUpdate i
    else
      let s := s.st .src x T_SRC.STATE srcACTIVE
      { s with lnd := { s.lnd with order := s.lnd.order ++ [x] } }

/-- Source x finds no available target (R434): it waits, or its set holds no enabled target. DESIGN CHOICE, unsafe: log entry 102. -/
def State.noTarget (s : State) (x : Nat) (l : List (Nat × TargetView)) : State :=
  let s := { s with lnd := { s.lnd with waited := x :: s.lnd.waited } }
  if l.all (fun e => e.2 == .off) then s.error pgLND 3 0x04 x (s.tf .src x T_SRC.TSET) 0
  else (s.cnt pgLND LND.CNT_ASLEEP_WAITS).pmeForSet x l

/-- SOURCE_ASSIGN (R433 to R435): the eligible source of highest priority that has an available target, or that has not
yet been found waiting, is taken. -/
def State.assign (s : State) : State :=
  if s.active pgLND && !s.quiesce pgLND then
    match bestSource (s.eligible.filter (fun e => (chosen (s.search e.1)).isSome || !s.lnd.waited.contains e.1)) with
    | none => s
    | some (x, _) =>
      let l := s.search x
      let s := s.denials x (searched l)
      match chosen l with
      | some (off, _) => s.assignTo x off
      | none => s.noTarget x l
  else s

/-- DESIGN CHOICE, unsafe: log entry 102. -/
def execSourceAssign (s : State) : Host.Outcome State Fault Refusal := done s.assign

/-! ### Firing -/

/-- The level or pulse a pin's filtered level makes of its mode (R431): the new level of a level source, and whether an
edge pulses the source. -/
def evinEffect (mode : Nat) (was now : Bool) : Option Bool × Bool :=
  match mode with
  | 0 => (some now, false)
  | 1 => (some (!now), false)
  | 2 => (none, !was && now)
  | 3 => (none, was && !now)
  | 4 => (none, was != now)
  | _ => (some false, false)

/-- A pin's filtered level is seen by its source under the mode in force (R431). -/
def State.evinSee (s : State) (i : Nat) (was now : Bool) : State :=
  match evinEffect (s.gf pgLND (LND.EVIN_CFG_MODE i)) was now with
  | (some l, _) => s.setLevel (0xA000 + i) l
  | (none, true) => s.setLevel (0xA000 + i) false |>.fire (0xA000 + i)
  | (none, false) => s.setLevel (0xA000 + i) false

/-- EVIN_CHANGE (R431): the filtered level of a pin changes. -/
def State.evin (s : State) (i : Nat) (now : Bool) : State :=
  if 16 ≤ i then s else
    let was := bitAt (s.gf pgLND LND.EVIN_STS_LEVEL) i
    (s.sf pgLND LND.EVIN_STS_LEVEL (putBits (s.gf pgLND LND.EVIN_STS_LEVEL) i 1 (b2n now))).evinSee i was now

/-- A pin's mode is written: its source takes the filtered level under the new mode, and no edge (R431). -/
def State.evinMode (s : State) (i : Nat) : State :=
  let l := bitAt (s.gf pgLND LND.EVIN_STS_LEVEL) i
  s.evinSee i l l

def execEvinChange (pin : Nat) (level : Bool) (s : State) : Host.Outcome State Fault Refusal := done (s.evin pin level)

/-- SOURCE_FIRE (R430): a page source fires when it is still asserted, a side-band line takes its level, an EVENT line
and a software source pulse, and a pin is seen under its mode. A source of a reserved page is never asserted (R429). -/
def State.sourceInput (s : State) (x : Nat) (level : Bool) : State :=
  if 0x10000 ≤ x then s
  else if isPageSource x then
    if (blkOf x).isSome && s.tb .src x T_SRC.ASSERTED && level then s.fire x else s
  else if x < 0x6000 then s.setLevel x level
  else if 0xA000 ≤ x ∧ x < 0xA010 then s.evin (x - 0xA000) level
  else if level then s.fire x else s

def execSourceFire (source : Nat) (level : Bool) (s : State) : Host.Outcome State Fault Refusal :=
  done (s.sourceInput source level)

/-- SW_SET (R429, R449): a software source from 0xA010 to 0xFFFF is pulsed. -/
def State.swSet (s : State) (v : Word) : State :=
  if 0xA010 ≤ fld v 0 16 then s.fire (fld v 0 16) else s

def execSwSet (value : Word) (s : State) : Host.Outcome State Fault Refusal := 
  done (s.onPage pgLND (.swSet value) (s.swSet value))

/-! ### Delivery -/

/-- One message of an entry is sent (R436); a cascade member sends it toward the head (R320). -/
def State.sendMsix (s : State) (e : Nat) : State :=
  let s := s.cnt pgLND LND.CNT_MSGS_SENT
  let addr := s.tf .vec e T_VEC.ADDR
  let data := s.tf .vec e T_VEC.DATA
  if s.isMember then { s with lnd := { s.lnd with events := s.lnd.events ++ [(addr, data)] } }
  else s.emit (.msix ((s.entryFunc e).getD 0) addr data)

/-- The sources on their way to an entry that became masked are held there (R438). DESIGN CHOICE, unsafe: log entry 103. -/
def State.holdOrdered (s : State) (e : Nat) : State :=
  let xs := s.lnd.order.filter (fun x => s.tf .src x T_SRC.TARGET == e)
  let s := { s with lnd := { s.lnd with order := s.lnd.order.filter (fun x => s.tf .src x T_SRC.TARGET != e) } }
  (s.each xs (fun x s => s.st .src x T_SRC.STATE srcHELD)).pendUpdate e

/-- A source that reached its delivery point ends its service and starts its group's hold-off (R436, R438). -/
def State.delivered (s : State) (x : Nat) : State := (s.startHold x).endService x

/-- MSIX_DELIVERY (R436, R438, R440): the delivery point of an entry, which waits while HST issues no request (R29, R82). Held sources go
with one message; otherwise the
first source assigned to the entry, otherwise a summary request. DESIGN CHOICE, unsafe: log entry 103. -/
def State.deliver (s : State) (e : Nat) : State :=
  if !(s.active pgLND) || s.quiesce pgLND || s.entryAsleep e || (s.quiesce pgHST && !s.isMember) then s
  else if s.entryMasked e then s.holdOrdered e
  else
    match s.srcsAt srcHELD 0 e with
    | x :: t => ((s.sendMsix e).each (x :: t) (fun x s => s.delivered x.1)).pendUpdate e
    | [] =>
      match s.lnd.order.find? (fun x => s.tf .src x T_SRC.TARGET == e) with
      | some x =>
        let s := { s with lnd := { s.lnd with order := s.lnd.order.erase x } }
        (s.sendMsix e).delivered x
      | none =>
        match s.lnd.sumMsgs.find? (fun t => s.gf pgLND (sumF t SUM.SUM_CTL_ENTRY) == e) with
        | some t => { s with lnd := { s.lnd with sumMsgs := s.lnd.sumMsgs.erase t } }.sendMsix e
        | none => s


/-- HOLDOFF_EXPIRY (R444): a group's timer has expired and its sources become eligible. -/
def execHoldoffExpiry (group : Nat) (s : State) : Host.Outcome State Fault Refusal :=
  done { s with lnd := { s.lnd with holds := s.lnd.holds.filter (fun e => !(e.1 == group && s.due e.2)) } }

/-! ### Summary targets -/

/-- The word CLAIM and PEEK return (R441, R450). -/
def State.claimWord (s : State) (t : Nat) : Word :=
  match s.claimable t with
  | some (x, p) => BitVec.ofNat 32 (x + p * 2 ^ 16)
  | none => BitVec.ofNat 32 0x80000000

/-- A claim (R441): the claimable source is pushed and becomes ACTIVE. -/
def State.claim (s : State) (t : Nat) : State :=
  match s.claimable t with
  | some (x, p) =>
    ((s.setStack t ((x, p) :: s.stack t)).st .src x T_SRC.STATE srcACTIVE |>.cnt pgLND LND.CNT_CLAIMS).sumUpdate t true
  | none => s

/-- SUM_CLAIM (R43, R441): a read of CLAIM on either path returns the word and claims. -/
def execSumClaim (target : Nat) (path : Path) (s : State) : Host.Outcome State Fault Refusal :=
  if 64 ≤ target then done s
  else
    let off := raddr pgLND (0x800 + 32 * target + 8)
    done (s.onPage pgLND (.sumClaim target path) (match path with
      | .host => (s.claim target).emit (.regData off (s.claimWord target))
      | .smb => (s.claim target).smbAnswer off 0 (s.claimWord target)))

/-- Every source AT_SUMMARY at a target returns to PENDING (R443). DEDUCED, unsafe: log entry 104. -/
def State.sumReturn (s : State) (t : Nat) : State :=
  s.each (s.srcsAt srcSUMMARY 1 t) (fun e s => s.becomePending e.1)

/-- An out-of-order completion (R442, R443): the target enters FAULT and its waiting sources are reassigned. DEDUCED, unsafe: log entry 104. -/
def State.completeFault (s : State) (t x top depth : Nat) : State :=
  let s := (s.cnt pgLND LND.CNT_STACK_FAULTS).error pgLND 1 0x02 (t + x * 2 ^ 16) top depth
  ((s.sf pgLND (sumF t SUM.SUM_STS_FAULT) 1).sumReturn t).sumUpdate t false

/-- A write of COMPLETE (R442): the top source is popped, or the target enters FAULT. -/
def State.complete (s : State) (t x : Nat) : State :=
  if s.gb pgLND (sumF t SUM.SUM_STS_FAULT) then s
  else match s.stack t with
    | (y, p) :: rest =>
      if x = y then
        (((s.setStack t rest).endService x).cnt pgLND LND.CNT_COMPLETES).sumUpdate t true
      else s.completeFault t x y (((y, p) :: rest).length)
    | [] => s.completeFault t x 0 0

def execSumComplete (target source : Nat) (s : State) : Host.Outcome State Fault Refusal :=
  if 64 ≤ target then done s else done (s.onPage pgLND (.sumComplete target source) (s.complete target (source % 2 ^ 16)))

/-- STACK_RESET, or EN written 0 (R443): FAULT is left and the stack emptied. -/
def State.stackReset (s : State) (t : Nat) : State :=
  let l := s.stack t
  let s := (s.setStack t []).sf pgLND (sumF t SUM.SUM_STS_FAULT) 0
  (s.each l (fun e s => s.endService e.1)).sumUpdate t false

def execSumStackReset (target : Nat) (s : State) : Host.Outcome State Fault Refusal :=
  if 64 ≤ target then done s else done (s.onPage pgLND (.sumStackReset target) (s.stackReset target))

/-! ### Explicit writes to a source -/

/-- What its assignment left behind is brought up to date when a source leaves it. -/
def State.leaveTarget (s : State) (x : Nat) : State :=
  let i := s.tf .src x T_SRC.TARGET
  if s.tb .src x T_SRC.TKIND then s.sumUpdate i false else s.pendUpdate i

/-- CLR_PEND (R432, R451): the pending event of a source is discarded. -/
def State.clrPend (s : State) (x : Nat) : State :=
  let st := s.tf .src x T_SRC.STATE
  if st == srcPENDING then s.st .src x T_SRC.STATE srcIDLE
  else if st == srcSUMMARY || st == srcHELD then (s.st .src x T_SRC.STATE srcIDLE).leaveTarget x
  else s

def execSourceClrPend (source : Nat) (s : State) : Host.Outcome State Fault Refusal :=
  if 0x10000 ≤ source then done s else done (s.onPage pgLND (.sourceClrPend source) (s.clrPend source))

/-- REASSIGN (R451): a HELD or AT_SUMMARY source returns to PENDING. -/
def State.reassign (s : State) (x : Nat) : State :=
  let st := s.tf .src x T_SRC.STATE
  if st == srcSUMMARY || st == srcHELD then (s.becomePending x).leaveTarget x else s

def execSourceReassign (source : Nat) (s : State) : Host.Outcome State Fault Refusal :=
  if 0x10000 ≤ source then done s else done (s.onPage pgLND (.sourceReassign source) (s.reassign source))

/-- Every source the Oasis latched fires and reads FIRED 1 in its slot (R445). -/
def State.listFires (s : State) : State :=
  let fired := s.oas.wakeList.filter (fun e => s.oas.latched.contains e.1)
  let s := s.each fired (fun e s => (s.fire e.2).st .wkl e.1 T_WKL.FIRED 1)
  { s with oas := { s.oas with latched := [] } }

/-- LND becomes ACTIVE (R430, R445): every asserted source fires once, and so does what the Oasis latched. -/
def State.lndActivated (s : State) : State :=
  (s.each ((s.listed .src).filter (fun e => fld e.2 T_SRC.ASSERTED.lo 1 == 1)) (fun e s => s.fire e.1)).listFires.irqPin

/-- Every source held at the entries of a function returns to PENDING (R438). -/
def State.unholdFunc (s : State) (f : Nat) : State :=
  let xs := (s.listed .src).filter (fun e => fld e.2 T_SRC.STATE.lo 3 == srcHELD && fld e.2 T_SRC.TKIND.lo 1 == 0
    && s.entryFunc (fld e.2 T_SRC.TARGET.lo 15) == some f)
  s.each xs (fun e s => (s.becomePending e.1).leaveTarget e.1)

end Sys2Proof.Machine
end

