-- ==== Sys2Proof/Machine/Cistern.lean ====
section
/-!
DEFINITION. The Cistern's allowances: the admission test, grants without a test, returns, and the totals (R18, R34, R522
to R524).
-/

namespace Sys2Proof.Machine

/-- OVER follows GRANTED and BUDGET; its rise is an event (R523, R533). -/
def State.overUpdate (s : State) : State :=
  let above := s.gf pgCIS CIS.BUDGET_VDD < s.gf pgCIS CIS.GRANTED_VDD || s.gf pgCIS CIS.BUDGET_VDDL < s.gf pgCIS CIS.GRANTED_VDDL
  let was := s.gb pgCIS CIS.STATUS_OVER
  let s := s.sf pgCIS CIS.STATUS_OVER (b2n above)
  if above && !was then s.event pgCIS 2 else s

/-- An allowance is added to a page's PAGE_DRAW and to the granted totals (R34). DEDUCED, unsafe: log entry 171. -/
def State.addDraw (s : State) (p v l : Nat) : State :=
  (s.sf p HDR.PAGE_DRAW_VDD (s.gf p HDR.PAGE_DRAW_VDD + v) |>.sf p HDR.PAGE_DRAW_VDDL (s.gf p HDR.PAGE_DRAW_VDDL + l)
    |>.sf pgCIS CIS.GRANTED_VDD (s.gf pgCIS CIS.GRANTED_VDD + v)
    |>.sf pgCIS CIS.GRANTED_VDDL (s.gf pgCIS CIS.GRANTED_VDDL + l)).overUpdate

/-- A page returns part of its allowance; a return is always accepted (R523). DEDUCED, unsafe: log entry 171. -/
def State.giveBack (s : State) (p v l : Nat) : State :=
  let v := min v (s.gf p HDR.PAGE_DRAW_VDD)
  let l := min l (s.gf p HDR.PAGE_DRAW_VDDL)
  (s.sf p HDR.PAGE_DRAW_VDD (s.gf p HDR.PAGE_DRAW_VDD - v) |>.sf p HDR.PAGE_DRAW_VDDL (s.gf p HDR.PAGE_DRAW_VDDL - l)
    |>.sf pgCIS CIS.GRANTED_VDD (s.gf pgCIS CIS.GRANTED_VDD - v)
    |>.sf pgCIS CIS.GRANTED_VDDL (s.gf pgCIS CIS.GRANTED_VDDL - l)).overUpdate

/-- A page returns all its allowance. -/
def State.giveBackAll (s : State) (p : Nat) : State :=
  s.giveBack p (s.gf p HDR.PAGE_DRAW_VDD) (s.gf p HDR.PAGE_DRAW_VDDL)

/-- A page's allowance is set to new values, by a grant without the test or a return (R19, R178). DEDUCED, unsafe: log entry 171. -/
def State.setDraw (s : State) (p v l : Nat) : State := (s.giveBackAll p).addDraw p v l

/-- The admission test for v units of VDD and l of VDDL (R523). -/
def State.admissible (s : State) (v l : Nat) : Bool :=
  s.gf pgCIS CIS.GRANTED_VDD + v + s.gf pgCIS CIS.RESERVE_VDD ≤ s.gf pgCIS CIS.BUDGET_VDD
    && s.gf pgCIS CIS.GRANTED_VDDL + l + s.gf pgCIS CIS.RESERVE_VDDL ≤ s.gf pgCIS CIS.BUDGET_VDDL
    && !s.gb pgCIS CIS.TEMP_THROTTLING

/-- A refusal (R524): counted, reported with the requesting page, and NOT_ADMITTED set there. -/
def State.refuse (s : State) (p v l : Nat) : State :=
  let cap1 := match blkOf p with | some (b, k) => b.id + instanceField b k * 2 ^ 8 | none => 0
  let granted := (s.reg (raddr pgCIS 0x48)).toNat
  (s.cnt pgCIS CIS.CNT_REFUSED).error pgCIS 0 0x01 cap1 (v + l * 2 ^ 16) granted |>.sf p HDR.PAGE_STS_NOT_ADMITTED 1

/-- The totals of a request for several allowances (R523). -/
def totalDraw (reqs : List (Nat × Nat × Nat)) : Nat × Nat :=
  reqs.foldl (fun t r => (t.1 + r.2.1, t.2 + r.2.2)) (0, 0)

/-- A request of page p for allowances (page, VDD, VDDL), admitted whole or refused whole (R18, R523). -/
def State.askCistern (s : State) (p : Nat) (reqs : List (Nat × Nat × Nat)) : State × Bool :=
  let tot := totalDraw reqs
  if s.admissible tot.1 tot.2 then
    ((s.each reqs (fun r s => s.addDraw r.1 r.2.1 r.2.2)).cnt pgCIS CIS.CNT_ADMITTED |>.sf p HDR.PAGE_STS_NOT_ADMITTED 0,
      true)
  else (s.refuse p tot.1 tot.2, false)

end Sys2Proof.Machine
end

