-- ==== Sys2Proof/Machine/Wire.lean ====
section
/-!
DEFINITION. What stands on a pair: levels (R145), blocks and their scrambling (R148, R149), training frames (R151), markers
(R164), and the codewords a lane sends (R187 to R189).
-/

namespace Sys2Proof.Machine

/-! ### Levels (R145) -/

/-- The level of a bit in NRZ: conductor P above N for 1. -/
def nrzLevel (b : Bool) : Int := if b then 1 else -1

/-- The level of two bits in PAM4, the earlier one first. -/
def pam4Level (earlier later : Bool) : Int :=
  match earlier, later with
  | false, false => -3
  | false, true => -1
  | true, true => 1
  | true, false => 3

/-- Bits two at a time. -/
def pam4Levels : List Bool → List Int
  | e :: l :: t => pam4Level e l :: pam4Levels t
  | _ => []

/-- The levels of bits at a rate: PAM4 at 5G, NRZ below (R144). -/
def lineLevels (rate : Nat) (bs : List Bool) : List Int := if rate == 3 then pam4Levels bs else bs.map nrzLevel

/-- The lowest bits of a number, bit 0 first. -/
def bitList (n x : Nat) : List Bool := (List.range n).map (bitAt x)

/-- The time a bit takes at a rate, in units of 1/85 ns (R144): the line rate is 85/64, 85/32 or 85/16 Gb/s. -/
def bitTime (rate : Nat) : Nat := match rate with | 1 => 64 | 2 => 32 | _ => 16

/-! ### Blocks and the scrambler (R148, R149) -/

/-- The sync header of a block as bits 1:0: bits 0 then 1 for data, 1 then 0 for control. -/
def Block.header (b : Block) : Nat := if b.ctl then 1 else 2

/-- The 66 bits of a block, its payload as it stands. -/
def Block.bits66 (b : Block) (payload : Nat) : Nat := b.header + payload % 2 ^ 64 * 4

/-- What a sync header says: control or not; none for an invalid one. -/
def headerOf (h : Nat) : Option Bool := match h with | 1 => some true | 2 => some false | _ => none

/-- Scrambling of bits in sending order, from the last 58 bits sent: the sent bits, and the last 58 after them. -/
def scramble : Nat → Nat → Nat → Nat × Nat
  | 0, h, _ => (0, h)
  | n + 1, h, p =>
    let b := (p % 2) ^^^ (h / 2 ^ 19 % 2) ^^^ (h % 2)
    let r := scramble n (h / 2 + b * 2 ^ 57) (p / 2)
    (b + 2 * r.1, r.2)

/-- The scrambled payloads of blocks, and the last 58 bits sent. -/
def scrambleAll : List Block → Nat → List (Block × Nat) × Nat
  | [], h => ([], h)
  | b :: t, h =>
    let r := scramble 64 h b.body.toNat
    let u := scrambleAll t r.2
    ((b, r.1) :: u.1, u.2)

/-- Descrambling of bits from the last 58 received bits of the stream: the bits, and the last 58 after them. -/
def descramble (hist payload : Nat) : Nat × Nat :=
  let st := hist + payload * 2 ^ 58
  ((((st / 2 ^ 58) ^^^ (st / 2 ^ 19)) ^^^ st) % 2 ^ 2048, st / 2 ^ 2048)

/-! ### Training frames and markers (R151, R164) -/

/-- A training frame: a training block and 15 data blocks of zeros. -/
def trainFrame (tb : Word64) : List Block := ⟨true, tb⟩ :: List.replicate 15 ⟨false, 0⟩

/-- The bits of blocks in sending order, and the last 58 payload bits. -/
def sentBits (bs : List Block) (hist : Nat) : List Bool × Nat :=
  let r := scrambleAll bs hist
  (r.1.flatMap (fun e => bitList 66 (e.1.bits66 e.2)), r.2)

/-- An alignment marker, and its 66 bits, which are not scrambled. -/
def mkAm (lane width anchorId count : Nat) (spare : Bool) : Word64 :=
  mkBlk 0xC2 (lane % 16 + (width % 8 + b2n spare * 2 ^ 7) * 2 ^ 8 + anchorId % 2 ^ 16 * 2 ^ 16 + count % 2 ^ 16 * 2 ^ 32)
def amBits (am : Word64) : List Bool := bitList 66 (Block.bits66 ⟨true, am⟩ am.toNat)

/-! ### Codewords (R187 to R189) -/

/-- The codeword control field. -/
def mkCwc (num lane : Nat) (standby : Bool) : Nat := num % 256 + lane % 16 * 2 ^ 8 + b2n standby * 2 ^ 12

/-- The coefficients of x^5 down to x^0 of the generator polynomial, whose roots are α^0 to α^5. -/
def rsGen : List Nat :=
  ((List.range 6).foldl (fun (c : List Nat) i =>
    (0 :: c).zipWith (fun a b => a ^^^ b) ((c.map (gfMul (2 ^ i))) ++ [0])) [1]).reverse.drop 1

/-- The parity symbols of message symbols: the remainder of m(x) × x^6 by g(x), the coefficient of x^5 first. -/
def rsParity (syms : List Nat) : List Nat :=
  syms.foldl (fun r m =>
    let f := m ^^^ r.headD 0
    (r.drop 1 ++ [0]).zipWith (fun a g => a ^^^ gfMul f g) rsGen) (List.replicate 6 0)

/-- A codeword of 32 blocks with scrambled payloads. -/
def mkCodeword (cwc : Nat) (bs : List (Block × Nat)) : BitVec 2160 :=
  let map := ((bs.zipIdx).map (fun e => b2n e.1.1.ctl * 2 ^ e.2)).foldl (· + ·) 0
  let msg := cwc + map * 2 ^ 20 + ((bs.zipIdx).map (fun e => e.1.2 * 2 ^ (52 + 64 * e.2))).foldl (· + ·) 0
  let par := rsParity ((List.range 210).map (fun k => bits msg (10 * k) 10))
  BitVec.ofNat 2160 (msg + ((par.zipIdx).map (fun e => e.1 * 2 ^ (2100 + 10 * e.2))).foldl (· + ·) 0)

/-- The blocks of a decoded codeword whose bits stand in order: CWC at 0, MAP at 20, the descrambled payloads apart. -/
def cwBlocks (map payload : Nat) : List Block :=
  (List.range 32).map (fun j => ⟨bitAt map j, BitVec.ofNat 64 (payload / 2 ^ (64 * j))⟩)

/-- A frame as blocks (R194, R195): its header and payload as data, and an EOF with their CRC-32. -/
def frameBlocks (f : Frame) : List Block :=
  let ws : List Word64 := BitVec.ofNat 64 f.hdr.toNat :: BitVec.ofNat 64 (f.hdr.toNat / 2 ^ 64) :: f.words
  ws.map (fun w => ⟨false, w⟩) ++ [⟨true, mkBlk btEOF (crc32 (ws.flatMap (fun w => bytesOf 8 w.toNat)))⟩]

end Sys2Proof.Machine
end

