-- ==== Sys2Proof/Machine/LinkBase.lean ====
section
/-!
DEFINITION. What the physical layer and the link layer share: the ports, links and Larduper sides, the members of a
link, and the changes of link state (R214, R215, R220, R223).
-/

namespace Sys2Proof.Machine

/-! ### Records of instances -/

def State.port (s : State) (n : Nat) : Port := SMap.get (fun _ => Port.reset) s.ports n
def State.setPort (s : State) (n : Nat) (p : Port) : State :=
  { s with ports := SMap.set (fun _ => Port.reset) s.ports n p }
def State.link (s : State) (a : Nat) : Link := SMap.get (fun _ => Link.reset) s.links a
def State.setLink (s : State) (a : Nat) (l : Link) : State :=
  { s with links := SMap.set (fun _ => Link.reset) s.links a l }
def State.lard (s : State) (a : Nat) : Lard := SMap.get (fun _ => Lard.reset) s.lards a
def State.setLard (s : State) (a : Nat) (l : Lard) : State :=
  { s with lards := SMap.set (fun _ => Lard.reset) s.lards a l }

/-- Port states (R154) and link states (R214). -/
def phDISABLED : Nat := 0
def phSLEEP : Nat := 1
def phDETECT : Nat := 2
def phECHOLEAD : Nat := 3
def phECHOFOLLOW : Nat := 4
def phDUPLEX : Nat := 5
def phSWITCH : Nat := 6
def phALIGN : Nat := 7
def phACTIVE : Nat := 8
def phRETRAIN : Nat := 9
def phFAULT : Nat := 10
def phWAKING : Nat := 11
def lkDISABLED : Nat := 0
def lkDOWN : Nat := 1
def lkINIT : Nat := 2
def lkUP : Nat := 3
def lkSPARING : Nat := 4
def lkSLEEP : Nat := 5

/-- The state of a port and of a link. -/
def State.ph (s : State) (n : Nat) : Nat := s.gf (pgPRT n) PRT.PHY_STS_STATE
def State.lk (s : State) (a : Nat) : Nat := s.gf (pgPRT a) LNK.LINK_STS_STATE

/-- The anchor of the link a port belongs to (R223); the port itself when it belongs to none. -/
def State.anchorOf (s : State) (n : Nat) : Nat := s.gf (pgPRT n) LNK.LINK_STS_ANCHOR

/-- Whether a register is a LINK register of a member's or spare's page, which reads 0 and takes no write (R223). -/
def State.linkBarred (s : State) (a : Nat) : Bool :=
  match blkOf (a / 4096) with
  | some (.prt, n) => 0x100 ≤ a % 4096 && a % 4096 != 0x104 && s.anchorOf n != n
  | _ => false

/-- The width a WIDTH code stands for (R152); 0 for a reserved one. -/
def widthOf (code : Nat) : Nat := match code with | 0 => 1 | 1 => 2 | 2 => 4 | 3 => 8 | 4 => 16 | _ => 0

/-- The width of a link, its spare if one is named, and the port that carries each lane (R191, R225). -/
def State.width (s : State) (a : Nat) : Nat := max 1 (widthOf (s.gf (pgPRT a) LNK.BOND_CTL_WIDTH))
def State.spareOf (s : State) (a : Nat) : Option Nat :=
  if s.gb (pgPRT a) LNK.BOND_CTL_SPARE_EN && s.lk a != lkDISABLED then some (s.gf (pgPRT a) LNK.BOND_CTL_SPARE_PORT)
  else none
def State.lanePort (s : State) (a lane : Nat) : Nat :=
  if s.gb (pgPRT a) LNK.LINK_STS_SPARE_IN_USE && s.gf (pgPRT a) LNK.LINK_STS_SPARE_LANE == lane then
    s.gf (pgPRT a) LNK.BOND_CTL_SPARE_PORT
  else a + lane
def State.members (s : State) (a : Nat) : List Nat :=
  if s.lk a == lkDISABLED then [a] else (List.range (s.width a)).map (s.lanePort a)

/-- The standby spare of a link (R224), and whether a port is one. -/
def State.standby (s : State) (a : Nat) : Option Nat :=
  if s.gb (pgPRT a) LNK.LINK_STS_SPARE_IN_USE then none else s.spareOf a
def State.isStandby (s : State) (n : Nat) : Bool := s.standby (s.anchorOf n) == some n

/-- Members and the standby spare of a link; a port outside every enabled link stands alone. -/
def State.crew (s : State) (a : Nat) : List Nat := s.members a ++ (s.standby a).toList

/-- Whether a port trains alone (R223, R224, R226): a standby spare, the port a switchover is about to replace, or one it replaced. -/
def State.apart (s : State) (n : Nat) : Bool :=
  let a := s.anchorOf n
  s.isStandby n || !(s.crew a).contains n
    || (s.lk a == lkSPARING && (match (s.lard a).spare with | some x => s.lanePort a x.lane == n | none => false))

/-- The lane a port carries in its link. -/
def State.laneOf (s : State) (n : Nat) : Nat :=
  let a := s.anchorOf n
  match (List.range (s.width a)).find? (fun l => s.lanePort a l == n) with | some l => l | none => 0

/-- The highest rate and the role of a port, as its last full training took them (R181, R223). -/
def State.rateMax (s : State) (n : Nat) : Nat := (s.port n).cfg.maxRate
def State.isLeader (s : State) (n : Nat) : Bool := !(s.port n).cfg.follower

/-- Whether the link uses marker mode (R164). -/
def State.markers (s : State) (a : Nat) : Bool := (s.lk a != lkDISABLED && 1 < s.width a) || (s.port a).cfg.align
def State.marksPort (s : State) (n : Nat) : Bool :=
  if (s.crew (s.anchorOf n)).contains n then s.markers (s.anchorOf n) else (s.port n).cfg.align

/-- A field of the anchor page, with 0 acting as 1. -/
def State.gf1 (s : State) (p : Nat) (f : Fld) : Nat := max 1 (s.gf p f)

/-! ### Allowances of ports (R178) -/

/-- VDD and VDDL of a port at a RATE_MAX, of a port in SLEEP, and of an awake group. -/
def portDraw (rateMax : Nat) : Nat × Nat := match rateMax with | 1 => (2, 6) | 2 => (3, 8) | _ => (4, 11)
def sleepDraw : Nat × Nat := (0, 1)
def groupDraw : Nat × Nat := (2, 7)

/-- RATE_MAX of the page that governs a port (R223), and the highest rate its next full training takes: the rate of an enabled
link changes only through a training started from DISABLED (R181, R215). DEDUCED, unsafe: log entry 163. -/
def State.rateReg (s : State) (n : Nat) : Nat := max 1 (s.gf (pgPRT (s.anchorOf n)) PRT.PHY_CTL_RATE_MAX)
/-- DEDUCED, unsafe: log entry 163. -/
def State.newRate (s : State) (n : Nat) : Nat :=
  if s.lk (s.anchorOf n) == lkDISABLED then s.rateReg n else s.rateMax (s.anchorOf n)

/-- A port takes its highest rate, and its allowance follows (R178, R181): a lower rate returns what is over; a higher one is
taken when the Cistern admits the difference, and a port that is off asks at its enable or wake. DEDUCED, unsafe: log entry 163. -/
def State.takeRate (s : State) (n r : Nat) : State :=
  let take := fun (s : State) => s.setPort n { s.port n with cfg := { (s.port n).cfg with maxRate := r } }
  let old := portDraw (s.rateMax n)
  let new := portDraw r
  if s.rateMax n == r || s.ph n == phDISABLED || s.ph n == phSLEEP || s.ph n == phWAKING then take s
  else if new.1 ≤ old.1 then take (s.giveBack (pgPRT n) (old.1 - new.1) (old.2 - new.2))
  else match s.askCistern (pgPRT n) [(pgPRT n, new.1 - old.1, new.2 - old.2)] with
    | (s, true) => take s
    | (s, false) => s

/-- A full training takes the role, marker mode and polarity correction of the port's registers (R181, R223). DEDUCED, unsafe: log entry 163. -/
def State.takeRole (s : State) (n : Nat) : State :=
  let a := s.anchorOf n
  s.setPort n { s.port n with cfg := { (s.port n).cfg with
    follower := s.gf (pgPRT a) PRT.PHY_CTL_ROLE == 1
    align := s.gb (pgPRT a) PRT.PHY_CTL_ALIGN
    polAuto := s.gb (pgPRT n) PRT.PHY_CTL_POL_AUTO } }

/-! ### Port state -/

/-- A port enters a state (R154, R181): RATE reads 0 unless ACTIVE, RETRAIN or SLEEP, VALID is 0 once DETECT is entered, and the
group's ACTIVE_MAP follows. What is counted per state begins anew. -/
def State.enterPh (s : State) (n st : Nat) : State :=
  let s := s.setPort n { s.port n with
    since := s.clock, waiting := false, acks := 0, heard := false, gotAck := false, seen0 := false, ackSent := 0
    exDone := false, cd := 256, frames := 0, gap := 0, txAt := 85 * s.clock, rxCws := [] }
  let s := s.sf (pgPRT n) PRT.PHY_STS_STATE st
    |>.sf (pgPRT n) PRT.PHY_STS_RATE (if st == phACTIVE || st == phRETRAIN || st == phSLEEP then (s.port n).rate else 0)
  let s := if st == phDETECT then s.sf (pgPRT n) PRT.PEER_CAP_VALID 0 else s
  let g := pgPRT (groupBase n)
  s.sf g PRT.GRP_STS_ACTIVE_MAP (putBits (s.gf g PRT.GRP_STS_ACTIVE_MAP) (n % 16) 1 (b2n (st == phACTIVE)))

/-- What a full training begins with (R156, R163): 1.25G, no lock, no marker, no inversion. -/
def State.freshPort (s : State) (n : Nat) : State :=
  let s := s.setPort n { s.port n with
    rate := 1, bad := 0, reach := 7, locked := false, goodAm := 0, badAm := 0, badCw := 0, toSleep := none, amNo := 0 }
  s.sf (pgPRT n) PRT.PHY_STS_POL_INV 0 |>.sf (pgPRT n) PRT.PHY_STS_BLOCK_LOCK 0 |>.sf (pgPRT n) PRT.PHY_STS_ALIGNED 0

/-- A port starts a full training (R156, R181). -/
def State.startTraining (s : State) (n : Nat) : State :=
  if s.ph n == phDISABLED || s.ph n == phSLEEP || s.ph n == phWAKING then s else
  (((s.takeRate n (s.newRate n)).takeRole n).freshPort n).enterPh n phDETECT

/-- A port in ACTIVE enters RETRAIN (R167). -/
def State.enterRetrain (s : State) (n : Nat) : State :=
  if s.ph n == phRETRAIN || s.ph n == phDISABLED then s else
  let s := s.setPort n { s.port n with goodAm := 0, badAm := 0, badCw := 0, toSleep := none }
  (((s.enterPh n phRETRAIN).sf (pgPRT n) PRT.PHY_STS_ALIGNED 0).cnt (pgPRT n) PRT.CNT_RETRAINS).event (pgPRT n) 2
    |>.emit (.phy n "RETRAIN")

/-! ### Link state -/

/-- The time a link has been UP in total (R246). -/
def State.upTime (s : State) (a : Nat) : Nat :=
  let l := s.link a
  l.upTotal + (match l.upSince with | some t => s.clock - t | none => 0)

/-- The read-ahead slots that a condition names are discarded; those with unread bytes are counted and reported (R115). -/
def State.raDiscard (s : State) (c : RaSlot → Bool) : State :=
  let hit := s.brg.slots.filter (fun e => c e.2)
  let unread := (hit.filter (fun e => !e.2.bytes.isEmpty)).length
  let s := { s with brg := { s.brg with slots := s.brg.slots.filter (fun e => !c e.2) } }
  if unread == 0 then s else (s.cnt pgBRG BRG.CNT_RA_DISCARDS unread).event pgBRG 5

/-- The side-band sources of a link follow inbound slot 15 while it is up, and are deasserted while it is down (R129). -/
def State.sideUpdate (s : State) (a : Nat) (up : Bool) : State :=
  let v := s.tf .mir a (T_MIR.IN 15)
  s.each (List.range 16) (fun i s =>
    let level := up && bitAt v i
    if s.tb .src (0x2000 + 16 * a + i) T_SRC.ASSERTED == level then s else s.setLevel (0x2000 + 16 * a + i) level)

/-- A link state is written, with the time UP and the HELD bit (R230). A link that goes down discards its read-ahead slots
(R115), and the side-band sources follow (R129). -/
def State.setLk (s : State) (a st : Nat) : State :=
  let l := s.link a
  let up := fun (x : Nat) => x == lkUP || x == lkSPARING
  let s := s.setLink a { l with
    upTotal := s.upTime a, upSince := if up st then some s.clock else none
    downAt := if up st || (!up (s.lk a) && s.lk a != lkDISABLED) then l.downAt else s.clock }
  let s := s.sf (pgPRT a) LNK.LINK_STS_STATE st
    |>.sf (pgPRT a) LNK.LINK_STS_HELD (b2n (!l.held.isEmpty && st != lkUP && st != lkSPARING))
  let s := s.sideUpdate a (up st)
  if st == lkDOWN || st == lkDISABLED || st == lkSLEEP then s.raDiscard (fun x => x.link == a && x.dev == 0) else s

/-- The link leaves UP, SPARING or INIT for DOWN (R215): a pending sleep request lapses, a time round is abandoned, what stood on
the pairs is gone, and what a full training or retrain needs is left to the members. -/
def State.linkDrop (s : State) (a : Nat) : State :=
  let st := s.lk a
  if st == lkUP || st == lkSPARING || st == lkINIT || st == lkSLEEP then
    let d := s.lard a
    let s := (s.setLk a lkDOWN).setLard a { d with
      round := none, sleepReq := false, sleepSent := none, spare := none,
      idleAuto := false }
    let s := s.setLink a { s.link a with toSend := [], sending := [], outAt := s.out.length, corrupt := false, data := [] }
    if st == lkUP || st == lkSPARING then s.event (pgPRT a) 9 else s
  else s

/-- Every member of a link starts a full training (R215). DESIGN CHOICE, unsafe: log entry 53. -/
def State.trainLink (s : State) (a : Nat) : State :=
  (s.linkDrop a).each (s.crew a) (fun n s => s.startTraining n)

/-- One member enters DETECT or FAULT, so every other one starts a full training (R215); a port apart goes alone. DESIGN CHOICE, unsafe:
log entry 53. -/
def State.othersTrain (s : State) (n : Nat) : State :=
  let a := s.anchorOf n
  if s.apart n then s else (s.linkDrop a).each ((s.crew a).filter (· != n)) (fun m s => s.startTraining m)

/-- Every member of a link enters RETRAIN (R203, R215). DESIGN CHOICE, unsafe: log entry 53. -/
def State.retrainLink (s : State) (a : Nat) : State :=
  let all := s.crew a
  (s.linkDrop a).each all (fun n s => if s.ph n == phACTIVE then s.enterRetrain n else s)

/-- One member enters RETRAIN, and so every one does (R215); a port apart goes alone. -/
def State.retrainFrom (s : State) (n : Nat) : State :=
  if s.apart n then (if s.ph n == phACTIVE then s.enterRetrain n else s) else s.retrainLink (s.anchorOf n)

/-- A full training of a port, and with it of its link (R215). -/
def State.trainFrom (s : State) (n : Nat) : State := (s.othersTrain n).startTraining n

/-- The epoch the bridge presents on a link (R219): the boot number, or what it has advanced to. -/
def State.localEpoch (s : State) (a : Nat) : Nat :=
  match (s.link a).localEp with
  | some e => e
  | none => s.gf pgVLT VLT.VLT_STS_BOOT_NUMBER

/-- An epoch or boot number advances, skipping 0 (R219, R538). -/
def nextEpoch (e : Nat) : Nat := if e % 65536 == 65535 then 1 else e % 65536 + 1

/-- The bytes of receive buffer of a link, the VCs in use, and each VC's share (R208, R209). -/
def State.rxBytes (s : State) (a : Nat) : Nat := 8192 * s.width a
def State.vcs (s : State) (a : Nat) : Nat := vcCount (s.gf (pgPRT a) LNK.VC_CTL_VCS_USED)
def State.shareSum (s : State) (a : Nat) : Nat :=
  ((List.range (s.vcs a)).map (fun v => 64 * s.gf (pgPRT a) (LNK.VC_CFG_SHARE v))).foldl (· + ·) 0
def State.share (s : State) (a v : Nat) : Nat :=
  let sum := s.shareSum a
  let own := 64 * s.gf (pgPRT a) (LNK.VC_CFG_SHARE v)
  let zeros := ((List.range (s.vcs a)).filter (fun v => s.gf (pgPRT a) (LNK.VC_CFG_SHARE v) == 0)).length
  if s.rxBytes a < sum then s.rxBytes a / s.vcs a
  else if own != 0 then own else (s.rxBytes a - sum) / max 1 zeros

/-- The headroom threshold of a VC in units (R210): the rate is 1.26, 2.52 or 5.04 Gb/s net per lane. -/
def State.xoffTh (s : State) (a v : Nat) : Nat :=
  let rate := match (s.port a).rate with | 1 => 126 | 2 => 252 | 3 => 504 | _ => 0
  let rtt := ceilDiv (s.gf1 (pgPRT a) LNK.VC_CTL_RTT * 10 * s.width a * rate) 800
  ceilDiv (rtt + maxPayBytes (s.gf (pgPRT a) (LNK.VC_CFG_MAXPAY v)) + 24) 64

/-- Free bytes in a VC's share. -/
def State.rxFree (s : State) (a v : Nat) : Int :=
  (s.share a v : Int) - ((((s.link a).rxBuf.filter (fun f => f.vc == v)).map (fun f => f.payload + 24)).foldl (· + ·) 0 : Nat)

/-- The flow state of each used VC is brought up to date (R210); a change is due to be sent as FLOW (R211). A quiesced page turns
every VC off, so that the peer keeps what it has (R29). DEDUCED, unsafe: log entry 164. -/
def State.flowUpdate (s : State) (a : Nat) : State :=
  s.each (List.range (s.vcs a)) (fun v s =>
    let off := bitAt (s.gf (pgPRT a) LNK.RX_STS_XOFF_SENT) v
    let free := s.rxFree a v
    let th := s.xoffTh a v
    let none_ := ((s.link a).rxBuf.filter (fun f => f.vc == v)).isEmpty
    let s' := fun (b : Nat) => (s.sf (pgPRT a) LNK.RX_STS_XOFF_SENT (putBits (s.gf (pgPRT a) LNK.RX_STS_XOFF_SENT) v 1 b)).setLink a
      { s.link a with flowDue := true }
    let held := s.quiesce (pgPRT a)
    if off then if !held && (((th + 1) * 64 : Nat) ≤ free || none_) then s' 0 else s
    else if held || (free < (th * 64 : Nat) && !none_) then (s' 1).cnt (pgPRT a) LNK.CNT_XOFF_TX
    else s)

/-- XOFF_TH and BAD of every VC (R209, R210, R230). -/
def State.vcStatus (s : State) (a : Nat) : State :=
  let over_ := s.rxBytes a < s.shareSum a
  s.each (List.range 8) (fun v s =>
    let used := v < s.vcs a
    s.sf (pgPRT a) (LNK.VC_CFG_XOFF_TH v) (if used then s.xoffTh a v else 0)
     |>.sf (pgPRT a) (LNK.VC_CFG_BAD v) (b2n (used && (over_ || decide (s.share a v < (s.xoffTh a v + 1) * 64)))))

/-- The MAXPAY word of LINK_PARAM from VC_CFG (R193). -/
def State.maxPayWord (s : State) (a : Nat) : Nat :=
  ((List.range 8).map (fun v => s.gf (pgPRT a) (LNK.VC_CFG_MAXPAY v) * 2 ^ (3 * v))).foldl (· + ·) 0

/-- The LINK_INIT of the bridge (R216): RESUME means link state held, or the decision once made. DESIGN CHOICE, unsafe: log entry 48. -/
def State.initBlock (s : State) (a : Nat) : Word64 :=
  let l := s.link a
  let resume := if l.init.got then l.init.resumed == some true else l.hasState
  mkInit (s.localEpoch a) (s.gf (pgPRT a) LNK.RX_STS_RX_NEXT) resume l.init.got
    (s.gb (pgPRT a) LNK.LINK_CTL_CASCADE) (128 * s.width a) (s.gf (pgPRT a) LNK.VC_CTL_VCS)

/-- The LINK_INIT and LINK_PARAM the bridge sends (R216), as every codeword of INIT carries them. DESIGN CHOICE, unsafe: log entry 48. -/
def State.sendInit (s : State) (a : Nat) : State :=
  let s := s.emit (.ctl a (s.initBlock a)) |>.emit (.ctl a (mkParam (s.maxPayWord a)))
  s.setLink a { s.link a with init := { (s.link a).init with sentAck := (s.link a).init.got } }

/-- The INIT exchange starts, as every member is ACTIVE or the peer began it again (R214, R216, R217): a time round is abandoned (R262). -/
def State.enterInit (s : State) (a : Nat) : State :=
  let s := (s.setLk a lkINIT).setLard a { s.lard a with round := none, spare := none }
  (s.setLink a { s.link a with init := { InitX.reset with start := s.clock }, sending := [], data := [], corrupt := false }).sendInit a

/-- A failed training attempt of a port (R161): counted, captured with its own code or 0x01 (0: its
code was captured already), and DETECT entered, where a leader waits. -/
def State.trainFail (s : State) (n : Nat) (own : Option (Nat × Nat × Nat)) : State :=
  let p := s.port n
  let st := s.ph n
  let pg := pgPRT n
  let s := s.sf pg PRT.PHY_STS_ATTEMPTS (min 255 (s.gf pg PRT.PHY_STS_ATTEMPTS + 1)) |>.cnt pg PRT.CNT_TRAIN_FAILS
  let s := match own with
    | none => s.error pg 1 0x01 (st + p.rate * 16) (s.gf pg PRT.PHY_STS_ATTEMPTS) 0
    | some (0, _, _) => s.event pg 1
    | some (code, c1, c2) => s.error pg 1 code c1 c2 0
  let bad := if 1 < p.rate then p.bad ||| 2 ^ (p.rate - 1) else p.bad
  let s := s.startTraining n
  s.setPort n { s.port n with waiting := s.isLeader n, bad := bad }

/-- A failure of a port fails its link: every other member starts a full training too (R215). -/
def State.failLink (s : State) (n : Nat) (own : Option (Nat × Nat × Nat)) : State := (s.othersTrain n).trainFail n own

end Sys2Proof.Machine
end

