-- ==== Sys2Proof/Machine/Phy.lean ====
section
/-!
DEFINITION. The Ihlesh physical layer (R144 to R185): training, lock and polarity, markers, retrain, cable diagnostics,
and the sleep and wake of ports and groups.
-/

namespace Sys2Proof.Machine

/-! ### Cable faults -/

/-- DIST_CM of a reflection at a tap (R170); the tap period is in units of 10 fs: 75,294 or 37,647. -/
def distCm (tap period vf boardPs : Nat) : Nat :=
  let t := tap * period - 1000 * boardPs
  let v := if vf == 0 || 100 < vf then 70 else vf
  (t * v * 299792458 * 2 + 2 * 10 ^ 14) / (4 * 10 ^ 14)

/-- The tap period of in-service readings at a rate (R170). -/
def livePeriod (rate : Nat) : Nat := if rate ≤ 1 then 75294 else 37647

/-- A diagnostic result in DIAG_STS (R169, R181). -/
def State.setDiag (s : State) (n fault tap : Nat) (cond : Bool) (period : Nat) : State :=
  let pg := pgPRT n
  let dist := distCm tap period (s.gf pg PRT.DIAG_CTL_VF) (s.gf pg PRT.DIAG_CTL_BOARD_PS)
  s.sf pg PRT.DIAG_STS_FAULT fault |>.sf pg PRT.DIAG_STS_COND (if fault == 3 then b2n cond else 0)
    |>.sf pg PRT.DIAG_STS_TAP (min tap 159) |>.sf pg PRT.DIAG_STS_DIST_CM (min dist 65535) |>.sf pg PRT.DIAG_STS_DONE 1

/-- A fault that stops training is reported (R169, R172): counted, captured as 0x02 or, for fault 0x5, as 0x03. -/
def State.faultReport (s : State) (n fault : Nat) (own : Option (Nat × Nat)) : State :=
  let pg := pgPRT n
  let s := s.sf pg PRT.DIAG_STS_FAULT fault |>.cnt pg PRT.CNT_CABLE_FAULTS
  match own with
  | some (c1, c2) => s.error pg 3 0x03 c1 c2 0
  | none => s.error pg 3 0x02 (fault + s.gf pg PRT.DIAG_STS_COND * 16) (s.gf pg PRT.DIAG_STS_TAP)
      (s.gf pg PRT.DIAG_STS_DIST_CM)

/-- A fault that stops training: reported, and FAULT entered while the other members of the link start a full training (R169, R215).
A port that is in FAULT with the same fault stays as it is (R184). DEDUCED, unsafe: log entry 47. -/
def State.cableFault (s : State) (n fault : Nat) (own : Option (Nat × Nat)) : State :=
  if s.ph n == phFAULT && s.gf (pgPRT n) PRT.DIAG_STS_FAULT == fault then s
  else (((s.othersTrain n).enterPh n phFAULT).faultReport n fault own)

/-- The result of a sweep that found fault 0x1, 0x2 or 0x3 (R169): in FAULT it is reported when FAULT changes. -/
def State.sweepFault (s : State) (n fault tap : Nat) (cond : Bool) : State :=
  let same := s.ph n == phFAULT && s.gf (pgPRT n) PRT.DIAG_STS_FAULT == fault
  let t := s.setDiag n fault tap cond 75294
  if same then t else if s.ph n == phFAULT then t.faultReport n fault none
  else ((t.othersTrain n).enterPh n phFAULT).faultReport n fault none

/-- The rates a port offers (R156): limited by RATE_MAX, by its loss estimate and by what failed in this training. -/
def State.offered (s : State) (n : Nat) : Nat :=
  let p := s.port n
  (2 ^ s.rateMax n - 1) &&& p.reach &&& (7 ^^^ (p.bad &&& 7))

/-- A port enters ECHO_LEAD at the rate of its phase (R154). -/
def State.echoLead (s : State) (n : Nat) (locked : Bool) : State :=
  let s := s.enterPh n phECHOLEAD
  s.setPort n { s.port n with locked := locked }

/-- A clean sweep goes to ECHO_LEAD, unless no rate is left: fault 0x8 (R154, R156). -/
def State.sweepClean (s : State) (n rates : Nat) : State :=
  let s := s.setPort n { s.port n with reach := rates, rate := 1 }
  if s.offered n == 0 then s.cableFault n 8 none else (s.echoLead n false).emit (.phy n "ECHO_LEAD")

/-- CABLE_SWEEP_DONE (R154, R156, R168): the leader's sweep in DETECT, or its repeated sweep in FAULT, has classified the
pair. A clean sweep in FAULT begins a new full training. -/
def State.sweepDone (s : State) (n fault tap : Nat) (cond : Bool) (rates : Nat) : State :=
  let inFault := s.ph n == phFAULT
  if s.isLeader n && ((s.ph n == phDETECT && !(s.port n).waiting) || inFault) then
    if fault == 1 || fault == 2 || fault == 3 then s.sweepFault n fault tap cond
    else
      let s := s.setDiag n fault tap cond 75294
      let s := if inFault then ((s.takeRate n (s.newRate n)).takeRole n).freshPort n else s
      s.sweepClean n rates
  else s

def execCableSweepDone (port fault tap : Nat) (cond : Bool) (rates : Nat) (s : State) : Host.Outcome State Fault Refusal :=
  done (s.sweepDone port fault tap cond rates)

/-! ### Training -/

/-- The time of a training frame at a rate, in units of 1/85 ns (R151): 16 blocks of 66 bits. -/
def frameTime (rate : Nat) : Nat := 1056 * bitTime rate

/-- A time in units of 1/85 ns as the ns by which it has passed. -/
def nsOf (t : Nat) : Nat := ceilDiv t 85

/-- Whether the frame a port sent last has ended (R151). -/
def State.frameOver (s : State) (n : Nat) : Bool := decide ((s.port n).txAt ≤ 85 * s.clock)

/-- Whether a port sends the frames of its present echo phase (R154): the leader in ECHO_LEAD, the follower in ECHO_FOLLOW. -/
def State.leadsPhase (s : State) (n : Nat) : Bool :=
  (s.ph n == phECHOLEAD && s.isLeader n) || (s.ph n == phECHOFOLLOW && !s.isLeader n)

/-- An echo phase has ended (R154, R155): the frame with COUNTDOWN 0 was sent, or one was seen. -/
def State.echoOver (s : State) (n : Nat) : Bool :=
  if s.leadsPhase n then (s.port n).cd == 0 && s.frameOver n else (s.port n).seen0

/-- A follower that has not locked returns to DETECT, and its link trains anew (R154, R215). -/
def State.backToDetect (s : State) (n : Nat) : State := s.trainFrom n

/-- ECHO_PHASE_END (R154 to R156): COUNTDOWN 0 was sent or seen. The first echo phase ends with the rates within reach. A follower
that has not locked returns to DETECT. -/
def State.echoEnd (s : State) (n rates : Nat) : State :=
  let st := s.ph n
  if !((st == phECHOLEAD || st == phECHOFOLLOW) && s.echoOver n) then s
  else if st == phECHOLEAD && !s.isLeader n && !(s.port n).locked then s.backToDetect n
  else
    let s := if (s.port n).rate == 1 then s.setPort n { s.port n with reach := (s.port n).reach &&& rates } else s
    if s.offered n == 0 then s.cableFault n 8 none
    else if st == phECHOLEAD then (s.enterPh n phECHOFOLLOW).emit (.phy n "ECHO_FOLLOW")
    else (s.enterPh n phDUPLEX).emit (.phy n "DUPLEX")

def execEchoPhaseEnd (echo : EchoResult) (s : State) : Host.Outcome State Fault Refusal := done (s.echoEnd echo.port echo.rates)

/-- RATE_SWITCH_END (R158): 4 µs of silence have passed and ECHO_LEAD starts at the new rate. -/
def execRateSwitchEnd (port : Nat) (s : State) : Host.Outcome State Fault Refusal :=
  done (if s.ph port == phSWITCH && s.due ((s.port port).since + us 4) then s.echoLead port false else s)

/-- The lane, width and spare bit a training block must carry for a port (R172): one outside every link is a single port. -/
def State.expectLane (s : State) (n : Nat) : Nat × Nat × Bool :=
  let a := s.anchorOf n
  let w := s.gf (pgPRT a) LNK.BOND_CTL_WIDTH
  if s.lk a == lkDISABLED || !(s.crew a).contains n then (0, 0, false)
  else if s.spareOf a == some n then (0, w, true) else (n - a, w, false)

/-- The received block is recorded in PEER_CAP (R181). -/
def State.peerCap (s : State) (n : Nat) (tb : Word64) : State :=
  let pg := pgPRT n
  s.sf pg PRT.PEER_CAP_RX_ID (fld tb 32 16) |>.sf pg PRT.PEER_CAP_RATES (fld tb 16 3)
    |>.sf pg PRT.PEER_CAP_ROLE (fld tb 13 1) |>.sf pg PRT.PEER_CAP_LANE (fld tb 24 4)
    |>.sf pg PRT.PEER_CAP_WIDTH (fld tb 28 3) |>.sf pg PRT.PEER_CAP_VALID 1

/-- The highest rate code in a set of rates. -/
def topRate (rates : Nat) : Nat := if bitAt rates 2 then 3 else if bitAt rates 1 then 2 else if bitAt rates 0 then 1 else 0

/-- The training block a port sends (R152), with ACK or not and a countdown. -/
def State.mkTb (s : State) (n : Nat) (ack : Bool) (countdown : Nat) : Word64 :=
  let e := s.expectLane n
  let b := 0xC1 + s.ph n % 16 * 2 ^ 8 + b2n ack * 2 ^ 12 + b2n (s.isLeader n) * 2 ^ 13
    + s.gf (pgPRT n) PRT.PHY_STS_POL_INV * 2 ^ 14 + s.offered n * 2 ^ 16 + b2n (s.marksPort n) * 2 ^ 19
    + (s.port n).rate % 4 * 2 ^ 20 + e.1 % 16 * 2 ^ 24 + e.2.1 % 8 * 2 ^ 28 + b2n e.2.2 * 2 ^ 31
    + s.gf (pgPRT (s.anchorOf n)) PRT.LOCAL_ID_ID * 2 ^ 32 + countdown % 256 * 2 ^ 48
  BitVec.ofNat 64 (b + crc8 (bytesOf 7 b) * 2 ^ 56)

/-- The frames a retrain spends on adaptation (R167): 25.4 µs at every rate. -/
def adaptFrames (rate : Nat) : Nat := match rate with | 1 => 32 | 2 => 64 | _ => 128

/-- Whether a port is in the exchange of R157: in DUPLEX, or in RETRAIN once its adaptation has ended (R167). -/
def State.exchanging (s : State) (n : Nat) : Bool :=
  s.ph n == phDUPLEX || (s.ph n == phRETRAIN && !(s.port n).exDone && adaptFrames (s.port n).rate ≤ (s.port n).frames)

/-- Whether the exchange of R157 has ended: 8 blocks with ACK were sent, and one was received. -/
def State.exchanged (s : State) (n : Nat) : Bool :=
  let p := s.port n
  p.gotAck && (8 < p.ackSent || (p.ackSent == 8 && s.frameOver n))

/-- A block of the exchange was received (R157): the eighth in a row sets ACK, one with ACK is remembered. DEDUCED, unsafe: log entry 47. -/
def State.exchange (s : State) (n : Nat) (tb : Word64) : State :=
  let p := s.port n
  s.setPort n { p with acks := p.acks + 1, gotAck := p.gotAck || fld tb 12 1 == 1 }

/-- What was received is no block of the exchange: fewer than 8 in a row count anew (R157). DEDUCED, unsafe: log entry 47. -/
def State.breakRun (s : State) (n : Nat) : State :=
  if (s.port n).acks < 8 then s.setPort n { s.port n with acks := 0 } else s

/-- The ports of a link that send the frames of ALIGN, and so do in a retrain (R159, R167). -/
def State.aligning (s : State) (n : Nat) : Bool := s.ph n == phALIGN || (s.ph n == phRETRAIN && (s.port n).exDone)

/-- A port begins ALIGN (R159): frames, markers and countdown run with those of the members that have begun (R164). -/
def State.startAlign (s : State) (n : Nat) : State :=
  match ((s.crew (s.anchorOf n)).filter (fun m => m != n && s.aligning m && !s.apart n)).head? with
  | some m => s.setPort n { s.port n with cd := 16, gap := (s.port m).gap, amNo := (s.port m).amNo, txAt := (s.port m).txAt }
  | none => s.setPort n { s.port n with cd := 16, gap := 0 }

/-- The exchange ends (R157, R158, R167). DUPLEX goes on to the agreed rate, the highest both offer, or at that rate to ALIGN; a
retrain goes on as ALIGN does. DEDUCED, unsafe: log entry 47. -/
def State.exchangeEnd (s : State) (n : Nat) : State :=
  if s.ph n == phRETRAIN then (s.setPort n { s.port n with exDone := true }).startAlign n
  else
    let agreed := topRate (s.offered n &&& s.gf (pgPRT n) PRT.PEER_CAP_RATES)
    if (s.port n).rate == 1 && 1 < agreed then
      let s := s.setPort n { s.port n with rate := agreed }
      (s.enterPh n phSWITCH).emit (.phy n "RATE_SWITCH")
    else ((s.enterPh n phALIGN).startAlign n).emit (.phy n "ALIGN")

/-- A block of the exchange that is under way, which may end it. -/
def State.exchangeIn (s : State) (n : Nat) (tb : Word64) : State :=
  let s := if s.exchanging n then s.exchange n tb else s
  if s.exchanging n && s.exchanged n then s.exchangeEnd n else s

/-- Two leaders face each other (R161): code 0x04, and FAULT. -/
def State.twoLeaders (s : State) (n id : Nat) : State :=
  if s.ph n == phFAULT then s
  else ((s.othersTrain n).enterPh n phFAULT).errorNoEvent (pgPRT n) 0x04 id 0 0

/-- A follower joins a full training (R154, R179): outside DETECT its link starts one first. -/
def State.joinTraining (s : State) (n : Nat) (tb : Word64) : State :=
  let s := if s.ph n == phDETECT then s else s.trainFrom n
  ((s.echoLead n true).peerCap n tb)

/-- COUNTDOWN 0 of the other end is noted, and that a block came (R154, R155). DEDUCED, unsafe: log entry 47. -/
def State.noteTb (s : State) (n : Nat) (tb : Word64) : State :=
  let p := s.port n
  s.setPort n { p with
    heard := true, locked := p.locked || s.ph n == phECHOLEAD
    seen0 := p.seen0 || (fld tb 48 8 == 0 && fld tb 8 4 == s.ph n) }

/-- Whether a block makes a follower join a full training (R179): STATE 0x3, but for one of the training it is in. -/
def State.joins (s : State) (n : Nat) (tb : Word64) : Bool :=
  let st := s.ph n
  !s.isLeader n && fld tb 8 4 == phECHOLEAD
    && !((st == phECHOLEAD || st == phSWITCH) && fld tb 20 2 == (s.port n).rate)

/-- A training block with a good CRC and a sent state reaches a port (R154 to R157, R161, R167, R172, R179). DEDUCED, unsafe: log
entry 47. -/
def State.tbAccept (s : State) (n : Nat) (tb : Word64) (freq : Int) : State :=
  let st := s.ph n
  let pg := pgPRT n
  let sent := fld tb 8 4
  let id := fld tb 32 16
  let e := s.expectLane n
  let s := s.peerCap n tb
  let join := s.joins n tb
  if st == phACTIVE && !join then if sent == phRETRAIN then s.retrainFrom n else s
  else if s.isLeader n && fld tb 13 1 == 1 then s.twoLeaders n id
  else if (s.port n).waiting || (st == phFAULT && !join) then s
  else if 20 < freq.natAbs then s.failLink n (some (0x05, ofSigned freq 32, 0))
  else if fld tb 24 4 != e.1 || fld tb 28 3 != e.2.1 || (fld tb 31 1 == 1) != e.2.2 then
    s.failLink n (some (0x08, e.1 + fld tb 24 4 * 16, 0))
  else if s.gb pg PRT.PHY_CTL_PEER_CHK && id != s.gf pg PRT.PEER_ID_EXPECT then
    s.cableFault n 5 (some (id, s.gf pg PRT.PEER_ID_EXPECT))
  else if st == phRETRAIN && sent == phRETRAIN && id != (s.port n).trained then
    (s.errorNoEvent pg 0x03 id (s.port n).trained 0).trainFrom n
  else if join then s.joinTraining n tb
  else
    let s := s.noteTb n tb
    if (st == phDUPLEX || st == phRETRAIN) && sent == st && fld tb 20 2 == (s.port n).rate then s.exchangeIn n tb
    else s.breakRun n

/-- TRAINING_BLOCK_RX (R152, R153): a block of another type, with a wrong CRC, with a state that is never sent, or on a
port that is off is ignored. Training frames received while a port stops for sleep act as a RETRAIN block (R174). DEDUCED, unsafe: log entry 155. -/
def State.tbRx (s : State) (n : Nat) (tb : Word64) (freq : Int) : State :=
  let sent := fld tb 8 4
  if s.ph n == phDISABLED || s.ph n == phSLEEP || s.ph n == phWAKING then s
  else if blkType tb != 0xC1 || !blkGood tb
      || !(sent == phECHOLEAD || sent == phECHOFOLLOW || sent == phDUPLEX || sent == phALIGN || sent == phRETRAIN) then s.breakRun n
  else if (s.port n).toSleep.isSome then s.retrainLink (s.anchorOf n)
  else s.tbAccept n tb freq

def execTrainingBlockRx (port : Nat) (tb : Word64) (freqPpm : Int) (s : State) : Host.Outcome State Fault Refusal :=
  done (s.tbRx port tb freqPpm)

/-- Whether a port has what ALIGN waits for: marker lock, where it uses markers (R159, R164). -/
def State.alignReady (s : State) (n : Nat) : Bool := !s.marksPort n || 2 ≤ (s.port n).goodAm

/-- Whether ALIGN may end for a port (R159): every member of its link has marker lock and deskew; a port apart waits for itself. -/
def State.linkReady_ (s : State) (n : Nat) : Bool :=
  if s.apart n then s.alignReady n
  else (s.members (s.anchorOf n)).all (fun m => (s.aligning m || s.ph m == phACTIVE) && s.alignReady m)

/-- A port becomes ACTIVE (R159): a full training is counted, and its taps and the ID it trained with are kept. RX_QUAL
takes a measured value, which the spec does not give: a free value. DESIGN CHOICE, safe: log entry 46. -/
def State.becomeActive (s : State) (n : Nat) (taps : List Int) (full : Bool) : State :=
  let pg := pgPRT n
  let s := s.setPort n { s.port n with trained := s.gf pg PRT.PEER_CAP_RX_ID, taps := taps, badCw := 0, bad := 0 }
  let s := (s.enterPh n phACTIVE).sf pg PRT.PHY_STS_ALIGNED 1 |>.sf pg PRT.PHY_STS_ATTEMPTS 0
  let s := s.setReg (raddr pg 0x64) (BitVec.ofNat 32 (s.nextFree 16)) |>.drawn
  if full then (s.cnt pg PRT.CNT_TRAININGS).event pg 0 else s

/-- The link of a port enters INIT once every member is ACTIVE (R214); its first codeword starts when the port's last frame ended, in
units of 1/85 ns (R159, R188). -/
def State.linkActive (s : State) (n ended : Nat) : State :=
  let a := s.anchorOf n
  if !(s.members a).all (fun m => s.ph m == phACTIVE) || (s.members a).contains n == false then s
  else
    let t := s.setLink a { s.link a with cw := 0, cwAt := ended, cwGap := 0, outAt := s.out.length }
    if s.lk a == lkDOWN || s.lk a == lkSLEEP then t.enterInit a else if s.lk a == lkDISABLED then t else s

/-- ALIGN_DONE (R159, R167): the frame with COUNTDOWN 0 has ended and the first codeword starts, in ALIGN or in a retrain
whose exchange has ended. -/
def State.alignDone (s : State) (n : Nat) (taps : List Int) : State :=
  if s.aligning n && s.linkReady_ n && (s.port n).cd == 0 && s.frameOver n then
    (s.becomeActive n taps (s.ph n == phALIGN)).linkActive n (s.port n).txAt
  else s

def execAlignDone (port : Nat) (taps : List Int) (s : State) : Host.Outcome State Fault Refusal :=
  done (s.alignDone port taps)

/-- The time limit of a training state (R154); none where the table gives none. A follower must lock within 128 frames, a leader hear
a block within 50 µs of its last frame. -/
def State.trainLimit (s : State) (n : Nat) : Option Nat :=
  let st := s.ph n
  let p := s.port n
  if st == phECHOLEAD && !s.isLeader n && !p.locked then some (nsOf (85 * p.since + 128 * frameTime p.rate))
  else if st == phECHOFOLLOW && s.isLeader n && !p.heard then some (p.since + us 50)
  else if st == phDUPLEX then some (p.since + us 500)
  else if st == phALIGN then some (p.since + us 200)
  else none

/-- TRAIN_TIMEOUT (R154, R161, R169): a limit has passed. A follower that did not lock returns to DETECT; a leader without
an answer in ECHO_FOLLOW finds no peer, fault 0x6; DUPLEX and ALIGN fail. -/
def State.trainTimeout (s : State) (n : Nat) : State :=
  match s.trainLimit n with
  | none => s
  | some t =>
    if !s.due t then s
    else if s.ph n == phECHOLEAD then s.backToDetect n
    else if s.ph n == phECHOFOLLOW then (s.setDiag n 6 0 false 75294).cableFault n 6 none
    else s.failLink n none

def execTrainTimeout (port : Nat) (s : State) : Host.Outcome State Fault Refusal := done (s.trainTimeout port)

/-- TRAIN_RETRY_WAIT_END (R161): after 1 ms, or 100 ms from the eighth failure on, the leader sweeps again. -/
def execTrainRetryWaitEnd (port : Nat) (s : State) : Host.Outcome State Fault Refusal :=
  let p := s.port port
  let wait := if s.gf (pgPRT port) PRT.PHY_STS_ATTEMPTS < 8 then ms 1 else ms 100
  done (if s.ph port == phDETECT && p.waiting && s.isLeader port && s.due (p.since + wait) then
    (s.setPort port { p with waiting := false }).emit (.phy port "SWEEP") else s)

/-- FAULT_SWEEP_TIMER (R154): a leader in FAULT repeats its sweep every 10 ms. -/
def execFaultSweepTimer (port : Nat) (s : State) : Host.Outcome State Fault Refusal :=
  done (if s.ph port == phFAULT && s.isLeader port && s.due ((s.port port).since + ms 10) then
    (s.setPort port { s.port port with since := s.clock }).emit (.phy port "SWEEP") else s)

/-! ### Lock and polarity -/

/-- BLOCK_LOCK_GAINED (R162). -/
def execBlockLockGained (port : Nat) (s : State) : Host.Outcome State Fault Refusal :=
  done (if s.ph port == phDISABLED || s.ph port == phSLEEP then s
    else (s.sf (pgPRT port) PRT.PHY_STS_BLOCK_LOCK 1).setPort port { s.port port with locked := true })

/-- BLOCK_LOCK_LOST (R162). -/
def execBlockLockLost (port : Nat) (s : State) : Host.Outcome State Fault Refusal :=
  done ((s.sf (pgPRT port) PRT.PHY_STS_BLOCK_LOCK 0).setPort port { s.port port with locked := false })

/-- POLARITY_CORRECT (R163): with POL_AUTO the receiver inverts its input; without, the attempt fails with fault 0x4. -/
def State.polarity (s : State) (n : Nat) : State :=
  let pg := pgPRT n
  if s.ph n < phDETECT || s.ph n == phACTIVE || phRETRAIN < s.ph n then s
  else if (s.port n).cfg.polAuto then
    (s.sf pg PRT.PHY_STS_POL_INV (1 - s.gf pg PRT.PHY_STS_POL_INV)).sf pg PRT.DIAG_STS_FAULT 4 |>.event pg 5
  else (s.sf pg PRT.DIAG_STS_FAULT 4).failLink n none

def execPolarityCorrect (port : Nat) (s : State) : Host.Outcome State Fault Refusal := done (s.polarity port)

/-! ### Loss of lock and retrain -/

/-- A switchover or a spare fails (R226): captured as 0x19 with its reason, and the link retrains, or trains in full when a member is in
full training already (R215). DEDUCED, unsafe: log entry 55. -/
def State.spareFail (s : State) (a lane reason : Nat) : State :=
  let s := s.error (pgPRT a) 16 0x19 lane reason 0
  if (s.crew a).all (fun m => s.ph m == phACTIVE || s.ph m == phRETRAIN) then s.retrainLink a else s.trainLink a

/-- A member that fails in ACTIVE on a bond with a standby spare starts the switchover (R225): it alone retrains, SPARE_SW goes out on
the spare with AT 16 codewords ahead, a time round is abandoned (R262), and the link enters SPARING. DEDUCED, unsafe: log entry 55. -/
def State.startSparing (s : State) (a n lane spare : Nat) : State :=
  let at_ := ((s.link a).cw + 16) % 256
  let s := s.enterRetrain n
  let s := s.setLard a { s.lard a with spare := some ⟨lane, s.clock, at_, none, false⟩, round := none }
  (s.setLk a lkSPARING).emit (.phy spare "SWITCH_LANE")

/-- A lane has lost lock (R166, R225, R226): captured and counted. With a standby spare that is ACTIVE and free the link spares it,
otherwise its members retrain; a port apart retrains alone. DEDUCED, unsafe: log entry 55. -/
def State.laneLost (s : State) (n cause : Nat) : State :=
  if s.ph n != phACTIVE then s else
  let a := s.anchorOf n
  let pg := pgPRT n
  let s := (s.cnt pg PRT.CNT_LOCK_LOSSES).errorNoEvent pg 0x06 (cause % 4) 0 0
  let lane := s.laneOf n
  if s.apart n then
    if s.isStandby n && s.lk a == lkSPARING then (s.enterRetrain n).spareFail a (match (s.lard a).spare with | some x => x.lane | none => 0) 1
    else s.enterRetrain n
  else if s.lk a == lkDISABLED || s.width a == 1 then s.retrainLink a
  else match s.spareOf a with
    | none => s.spareFail a lane 0
    | some sp =>
      if s.gb (pgPRT a) LNK.LINK_STS_SPARE_IN_USE || s.lk a == lkSPARING then s.spareFail a lane 2
      else if s.ph sp != phACTIVE then s.spareFail a lane 1
      else if s.lk a == lkUP then s.startSparing a n lane sp
      else s.retrainLink a

/-- LREF of a group is lost (R147, R166, R181): the PLL is unlocked, LREF_IN is absent where the group takes it, and every lane of the
group in ACTIVE loses lock. DEDUCED, unsafe: log entry 165. -/
def State.lrefLost (s : State) (b : Nat) : State :=
  let s := s.sf (pgPRT b) PRT.GRP_STS_PLL_LOCK 0
  let s := if s.gb (pgPRT b) PRT.GRP_CTL_LREF_SRC then s.sf (pgPRT b) PRT.GRP_STS_LREF_IN_OK 0 else s
  let s := s.each (List.range 16) (fun i s => s.sf (pgPRT (b + i)) PRT.PHY_STS_LREF_OK 0)
  s.each (List.range 16) (fun i s => s.laneLost (b + i) 2)

/-- LOCK_LOSS (R166): 8 uncorrectable codewords in a row, marker lock lost, or LREF lost. DEDUCED, unsafe: log entry 165. -/
def State.lockLoss (s : State) (n cause : Nat) : State :=
  match cause with
  | 0 => if 8 ≤ (s.port n).badCw then s.laneLost n 0 else s
  | 1 => if s.marksPort n && (s.port n).goodAm < 2 then s.laneLost n 1 else s
  | 2 => if s.ph n == phACTIVE then s.lrefLost (groupBase n) else s
  | _ => s

def execLockLoss (port cause : Nat) (s : State) : Host.Outcome State Fault Refusal := done (s.lockLoss port cause)

/-- RETRAIN_WRITE (R167, R181): ignored unless the port is ACTIVE. The members of a link retrain together. -/
def State.retrainWrite (s : State) (port : Nat) : State := if s.ph port == phACTIVE then s.retrainFrom port else s
def execRetrainWrite (port : Nat) (s : State) : Host.Outcome State Fault Refusal := done (s.retrainWrite port)

/-- RETRAIN_TIMEOUT (R167): ACTIVE not reached within 150 µs, so a full training starts. -/
def execRetrainTimeout (port : Nat) (s : State) : Host.Outcome State Fault Refusal :=
  done (if s.ph port == phRETRAIN && s.due ((s.port port).since + us 150) then s.trainFrom port else s)

/-! ### Markers -/

/-- The port whose training blocks named the anchor that markers carry (R164, R223): the first member's, or a single port's own. -/
def State.idPort (s : State) (n : Nat) : Nat :=
  if (s.crew (s.anchorOf n)).contains n then (s.members (s.anchorOf n)).headD n else n

/-- The anchor identity a marker must carry (R164): the peer's, as its training blocks sent it. -/
def State.amGood (s : State) (n : Nat) (am : Word64) : Bool :=
  let e := s.expectLane n
  fld am 8 4 == e.1 && fld am 16 3 == e.2.1 && (fld am 23 1 == 1) == e.2.2
    && fld am 24 16 == s.gf (pgPRT (s.idPort n)) PRT.PEER_CAP_RX_ID

/-- Marker lock is lost (R164, R166): in ACTIVE, so is the lane's. -/
def State.markerLost (s : State) (n : Nat) : State :=
  ((s.setPort n { s.port n with goodAm := 0, badAm := 3 }).sf (pgPRT n) PRT.PHY_STS_ALIGNED 0).laneLost n 1

/-- Expected markers were missing or invalid (R164): the third in a row loses marker lock. DEDUCED, unsafe: log entry 166. -/
def State.amMissed (s : State) (n k : Nat) : State :=
  let p := s.port n
  if 3 ≤ p.badAm + k then s.markerLost n else s.setPort n { s.port n with badAm := p.badAm + k }

/-- A valid marker (R164): those its number shows missing before it count as missing, and two in a row give lock. DEDUCED, unsafe: log
entry 166. -/
def State.amCount (s : State) (n count : Nat) : State :=
  let p := s.port n
  let skipped := if p.goodAm == 0 then 0 else subMod count (p.lastAm + 1) 16
  let s := if skipped == 0 then s else s.amMissed n skipped
  let p := s.port n
  s.setPort n { p with goodAm := (if skipped == 0 then p.goodAm else if 2 ≤ p.goodAm then p.goodAm else 0) + 1, badAm := 0, lastAm := count }

/-- AM_RX (R164, R165): a marker with a wrong CRC counts as invalid; one of another lane, width or anchor, or a skew above
60 ns, fails training with code 0x08; a good one counts toward marker lock. -/
def State.amRx (s : State) (n : Nat) (am : Word64) (skew : Nat) : State :=
  let st := s.ph n
  if !(st == phALIGN || st == phRETRAIN || st == phACTIVE) || !s.marksPort n || blkType am != 0xC2 then s
  else if !blkGood am then s.amMissed n 1
  else if st == phACTIVE then if s.amGood n am then s.amCount n (fld am 40 16) else s.amMissed n 1
  else if !s.amGood n am || 60 < skew then s.failLink n (some (0x08, (s.expectLane n).1 + fld am 8 4 * 16, skew))
  else s.amCount n (fld am 40 16)

def execAmRx (port : Nat) (am : Word64) (skewNs : Nat) (s : State) : Host.Outcome State Fault Refusal :=
  done (s.amRx port am skewNs)

/-- MARKER_LOCK_GAINED (R164): two valid markers at the expected spacing. -/
def execMarkerLockGained (port : Nat) (s : State) : Host.Outcome State Fault Refusal :=
  done (if s.marksPort port && phALIGN ≤ s.ph port && s.ph port ≤ phRETRAIN then
    (s.setPort port { s.port port with goodAm := max 2 (s.port port).goodAm, badAm := 0 }).sf (pgPRT port) PRT.PHY_STS_ALIGNED
      (b2n (s.ph port == phACTIVE)) else s)

/-- MARKER_LOCK_LOST (R164, R166): three markers in a row missing or invalid. -/
def execMarkerLockLost (port : Nat) (s : State) : Host.Outcome State Fault Refusal :=
  done (if s.marksPort port then s.markerLost port else s)

/-! ### Diagnostics -/

/-- A diagnostic run (R171): in ACTIVE the taps are read out; in DETECT, FAULT or training a sweep runs and ends the attempt as a
failure, or in FAULT when it finds a fault that stops training (R161, R169); elsewhere nothing happens. DEDUCED, unsafe: log entries 138, 155. -/
def State.diagRun (s : State) (n fault tap : Nat) (cond : Bool) : State :=
  let st := s.ph n
  let pg := pgPRT n
  if st == phDISABLED || st == phSLEEP || st == phWAKING then s
  else if st == phACTIVE then
    s.setDiag n (s.gf pg PRT.DIAG_STS_FAULT) tap (s.gb pg PRT.DIAG_STS_COND) (livePeriod (s.port n).rate)
  else if fault == 1 || fault == 2 || fault == 3 then s.sweepFault n fault tap cond
  else (s.failLink n none).setDiag n fault tap cond 75294

/-- The tap whose gain has changed most, with the change. -/
def largestChange (old new : List Int) : Nat × Nat :=
  ((List.range (max old.length new.length)).map (fun i => (i, (new.getD i 0 - old.getD i 0).natAbs))).foldl
    (fun m e => if m.2 < e.2 then e else m) (0, 0)

/-- CABLE_CHANGE (R171): the current taps are compared with those stored on entry to ACTIVE. -/
def State.cableChange (s : State) (n : Nat) (taps : List Int) : State :=
  let pg := pgPRT n
  let p := s.port n
  let big := (p.taps.map Int.natAbs).foldl max 0
  let c := largestChange p.taps taps
  if s.ph n == phACTIVE && s.gb pg PRT.PHY_CTL_DIAG_LIVE && s.gf1 pg PRT.DIAG_CTL_CHG_THR * big < c.2 * 256 then
    let dist := distCm c.1 (livePeriod p.rate) (s.gf pg PRT.DIAG_CTL_VF) (s.gf pg PRT.DIAG_CTL_BOARD_PS)
    (s.setPort n { p with taps := taps }).sf pg PRT.DIAG_STS_TAP (min c.1 159)
      |>.sf pg PRT.DIAG_STS_DIST_CM (min dist 65535) |>.cnt pg PRT.CNT_CABLE_CHANGES |>.event pg 4
  else s

def execCableChange (port : Nat) (taps : List Int) (s : State) : Host.Outcome State Fault Refusal :=
  done (s.cableChange port taps)

/-! ### Allowances, wake and sleep -/

/-- Whether the group of a port is awake. -/
def State.groupAwake (s : State) (n : Nat) : Bool := s.gb (pgPRT (groupBase n)) PRT.GRP_STS_AWAKE

/-- The enabled ports of the group of a port. -/
def State.groupPorts (s : State) (n : Nat) : List Nat :=
  ((List.range 16).map (groupBase n + ·)).filter (fun m => s.ph m != phDISABLED)

/-- Whether a port that wakes has kept its coefficients (R174, R176): its group stayed awake. -/
def State.keptCoeffs (s : State) (m : Nat) : Bool := s.groupAwake m && (s.port m).rate != 0

/-- The highest rate a port wakes with (R178, R181): a retrain keeps the one it has, a full training takes that of its page. -/
def State.wakeRate (s : State) (m : Nat) : Nat := if s.keptCoeffs m then s.rateMax m else s.newRate m

/-- The allowances a wake of ports asks for (R176, R178, R223): each sleeping port's at RATE_MAX, less its sleep allowance
where its group is awake; and for each asleep group its share and the sleep allowance of its other enabled ports. -/
def State.wakeReqs (s : State) (ports : List Nat) : List (Nat × Nat × Nat) :=
  let own := ports.map (fun m =>
    let d := portDraw (s.wakeRate m)
    (pgPRT m, d.1, if s.groupAwake m then d.2 - 1 else d.2))
  let groups := ((ports.filter (fun m => !s.groupAwake m)).map groupBase).dedup
  own ++ groups.flatMap (fun g =>
    (pgPRT g, groupDraw.1, groupDraw.2) ::
      ((s.groupPorts g).filter (fun m => !ports.contains m)).map (fun m => (pgPRT m, sleepDraw.1, sleepDraw.2)))

/-- The groups of ports become awake; their PLLs start (R176). -/
def State.wakeGroups (s : State) (ports : List Nat) : State :=
  s.each ((ports.map groupBase).dedup) (fun g s =>
    (if s.gb (pgPRT g) PRT.GRP_STS_AWAKE then s else
      (s.sf (pgPRT g) PRT.GRP_STS_AWAKE 1).emit (.phy g "PLL_START")).sf (pgPRT g) PRT.GRP_STS_NOT_ADMITTED 0)

/-- A port whose coefficients were lost wakes (R176): it waits for its group's PLL, and 100 µs more. DEDUCED, unsafe: log entry 151. -/
def State.wakeCold (s : State) (m : Nat) : State :=
  let s := (s.takeRate m (s.newRate m)).enterPh m phWAKING
  if s.gb (pgPRT (groupBase m)) PRT.GRP_STS_PLL_LOCK then s.setPort m { s.port m with wakeAt := some (s.clock + us 100) } else s

/-- A wake of a port and with it of its whole link (R174, R176, R223), asked for by the line or by the bridge; the result says
whether it was admitted. A port whose group has slept has lost its coefficients. DEDUCED, unsafe: log entry 151. -/
def State.wakePort (s : State) (n : Nat) : State × Bool :=
  let pg := pgPRT n
  let ports := (n :: s.crew (s.anchorOf n)).dedup.filter (fun m => s.ph m == phSLEEP)
  let reqs := s.wakeReqs ports
  let s := s.cnt pg PRT.CNT_WAKES
  match s.askCistern pg reqs with
  | (s, true) =>
    let warm := ports.filter s.keptCoeffs
    let cold := ports.filter (fun m => !s.keptCoeffs m)
    let s := s.wakeGroups ports
    let s := s.each warm (fun m s => s.enterRetrain m)
    let s := s.each cold (fun m s => s.wakeCold m)
    let s := if s.lk (s.anchorOf n) == lkSLEEP then s.setLk (s.anchorOf n) lkDOWN else s
    (s.each ports (fun m s => (s.setPort m { s.port m with armed := false, toSleep := none }).event (pgPRT m) 7), true)
  | (s, false) =>
    let tot := totalDraw reqs
    let s := (s.cnt pg PRT.CNT_WAKE_REFUSED).error pg 6 0x07 n tot.2 tot.1
    let s := if s.groupAwake n then s else s.sf (pgPRT (groupBase n)) PRT.GRP_STS_NOT_ADMITTED 1
    (s.setPort n { s.port n with armed := false, lockout := some (s.clock + ms 1) }, false)

/-- LREF output g starts or stops when it is enabled, with its source (R147). -/
def State.lrefOut (s : State) (g : Nat) (on : Bool) : State :=
  if s.gb (pgPRT (16 * g)) PRT.GRP_CTL_LREF_OE then s.emit (.lref g (s.gf (pgPRT (16 * g)) PRT.GRP_CTL_LREF_SRC) on) else s

/-- GRP_CTL is written (R147, R181): LREF output follows LREF_OE and LREF_SRC while the group is awake and its PLL locked. -/
def State.grpCtlWrite (s : State) (g : Nat) (w : Word) : State :=
  let pg := pgPRT (16 * g)
  let runs := s.gb pg PRT.GRP_STS_PLL_LOCK
  let t := s.setReg (raddr pg 0x50) w
  let same := s.gf pg PRT.GRP_CTL_LREF_OE == t.gf pg PRT.GRP_CTL_LREF_OE && s.gf pg PRT.GRP_CTL_LREF_SRC == t.gf pg PRT.GRP_CTL_LREF_SRC
  if !runs || same then t
  else if t.gb pg PRT.GRP_CTL_LREF_OE then t.lrefOut g true
  else t.emit (.lref g (s.gf pg PRT.GRP_CTL_LREF_SRC) false)

/-- GROUP_PLL_LOCKED (R147, R176, R181): the PLL of an awake group locks to its reference, which is present then, LREF output starts when
enabled, and 100 µs later the waking ports enter DETECT. DEDUCED, unsafe: log entry 165. -/
def State.pllLocked (s : State) (g : Nat) : State :=
  let b := 16 * g
  if g < 64 && s.gb (pgPRT b) PRT.GRP_STS_AWAKE && !s.gb (pgPRT b) PRT.GRP_STS_PLL_LOCK then
    let s := s.sf (pgPRT b) PRT.GRP_STS_PLL_LOCK 1
    let s := if s.gb (pgPRT b) PRT.GRP_CTL_LREF_SRC then s.sf (pgPRT b) PRT.GRP_STS_LREF_IN_OK 1 else s
    let s := s.lrefOut g true
    s.each (List.range 16) (fun i s =>
      let s := s.sf (pgPRT (b + i)) PRT.PHY_STS_LREF_OK 1
      if s.ph (b + i) == phWAKING then s.setPort (b + i) { s.port (b + i) with wakeAt := some (s.clock + us 100) } else s)
  else s

def execGroupPllLocked (group : Nat) (s : State) : Host.Outcome State Fault Refusal := done (s.pllLocked group)

/-- WAKE_DETECT_DELAY (R176): a waking port enters DETECT for a full training. -/
def execWakeDetectDelay (port : Nat) (s : State) : Host.Outcome State Fault Refusal :=
  done (match (s.port port).wakeAt with
    | some t =>
      if s.ph port == phWAKING && s.due t then
        let s := s.setPort port { s.port port with wakeAt := none }
        (s.enterPh port phDETECT).startTraining port
      else s
    | none => s)

/-- WAKE_LOCKOUT_END (R176): 1 ms after a refused wake the detector is armed again. -/
def execWakeLockoutEnd (port : Nat) (s : State) : Host.Outcome State Fault Refusal :=
  done (match (s.port port).lockout with
    | some t =>
      if s.due t then s.setPort port { s.port port with
        lockout := none
        armed := s.ph port == phSLEEP && s.gb (pgPRT port) PRT.PHY_CTL_ACT_WAKE }
      else s
    | none => s)

/-- A group sleeps (R177): LREF output and PLL stop, coefficients are lost, and its allowances are returned. DEDUCED, unsafe: log entry 151. -/
def State.groupSleep (s : State) (g : Nat) : State :=
  let b := 16 * g
  let s := s.sf (pgPRT b) PRT.GRP_STS_AWAKE 0 |>.sf (pgPRT b) PRT.GRP_STS_PLL_LOCK 0
  let s := s.lrefOut g false
  s.each (List.range 16) (fun i s =>
    let s := (s.sf (pgPRT (b + i)) PRT.PHY_STS_LREF_OK 0).giveBackAll (pgPRT (b + i))
    s.setPort (b + i) { s.port (b + i) with rate := 0 })

/-- Whether a group has rested long enough to sleep (R177): every enabled port has been in SLEEP for IDLE × 100 µs, or, where none is
enabled, so long has passed since the last was disabled. -/
def State.groupRested (s : State) (b : Nat) : Bool :=
  let wait := s.gf1 (pgPRT b) PRT.GRP_CTL_IDLE * us 100
  let all := (List.range 16).map (b + ·)
  let on := s.groupPorts b
  on.all (fun m => s.ph m == phSLEEP) && (if on.isEmpty then all else on).all (fun m => s.due ((s.port m).since + wait))

/-- GROUP_AUTO_SLEEP (R177): the group of a number sleeps when it may and has rested. -/
def execGroupAutoSleep (group : Nat) (s : State) : Host.Outcome State Fault Refusal :=
  let b := 16 * group
  done (if group < 64 && s.gb (pgPRT b) PRT.GRP_CTL_AUTO_SLEEP && s.gb (pgPRT b) PRT.GRP_STS_AWAKE && s.groupRested b then
    s.groupSleep group else s)

/-- A port enters SLEEP (R174, R178): its allowance falls to the sleep allowance and its detector is armed by ACT_WAKE. -/
def State.portSleeps (s : State) (n : Nat) : State :=
  let s := s.enterPh n phSLEEP
  let share := if n == groupBase n then groupDraw else (0, 0)
  let s := s.setDraw (pgPRT n) (share.1 + sleepDraw.1) (share.2 + sleepDraw.2)
  s.setPort n { s.port n with
    toSleep := none
    armed := s.gb (pgPRT n) PRT.PHY_CTL_ACT_WAKE && (s.port n).lockout.isNone }

/-- DETECTOR_ARM (R174): 1 µs after the transmitters stopped, the members enter SLEEP and the link is in SLEEP. DEDUCED, unsafe: log entry 114. -/
def State.detectorArm (s : State) (a : Nat) : State :=
  match (s.port ((s.members a).headD a)).toSleep with
  | some t =>
    if s.due (t + us 1) then
      let all := s.crew a
      let d := s.lard a
      ((s.each all (fun n s => s.portSleeps n)).setLk a lkSLEEP).setLard a { d with
        sleepReq := false, sleepSent := none, idleAuto := false, round := none }
    else s
  | none => s

def execDetectorArm (anchor : Nat) (s : State) : Host.Outcome State Fault Refusal := done (s.detectorArm anchor)

end Sys2Proof.Machine
end

