-- ==== Sys2Proof/Machine/Gate.lean ====
section
/-!
DEFINITION. The time windows of a gate list (R334 to R336): positions in the cycle, windows, and the frames that fit them.
-/

namespace Sys2Proof.Machine

/-- A stretch of a cycle: the classes open in it, and its length in ns. -/
abbrev Stretch := Nat × Nat

/-- The cycle of a list in ns (R348). -/
def Gate.cycle (g : Gate) : Nat := min 1000000000 (max 1000 (fld g.ctl T_GCT.CYCLE.lo T_GCT.CYCLE.w))

/-- The guard time. -/
def Gate.guard (g : Gate) : Nat := fld g.ctl T_GCT.GUARD_NS.lo T_GCT.GUARD_NS.w

/-- The position in the cycle at a DEVTIME (R334). -/
def Gate.pos (g : Gate) (t : Nat) : Nat :=
  (((t : Int) - (fld g.ctl T_GCT.BASE.lo T_GCT.BASE.w : Nat)) % (g.cycle : Nat)).toNat

/-- The number of the cycle a DEVTIME lies in. -/
def Gate.lap (g : Gate) (t : Nat) : Int := ((t : Int) - (fld g.ctl T_GCT.BASE.lo T_GCT.BASE.w : Nat)) / (g.cycle : Nat)

/-- The entries of a list with a duration. -/
def Gate.used (g : Gate) : List Stretch :=
  (g.entries.map (fun e => (fld e T_GEN.OPEN.lo T_GEN.OPEN.w, fld e T_GEN.DURATION.lo T_GEN.DURATION.w))).filter (fun x => x.2 != 0)

/-- The stretches of a whole cycle: the last entry lasts to its end, and the cycle cuts the list short (R334). -/
def fitCycle : Nat → List Stretch → List Stretch
  | _, [] => []
  | left, x :: t =>
    if left == 0 then []
    else if t.isEmpty || left ≤ x.2 then [(x.1, left)]
    else x :: fitCycle (left - x.2) t
def Gate.stretches (g : Gate) : List Stretch := fitCycle g.cycle g.used

/-- The stretch at a position, with what is left of it, and the stretches after it. -/
def stretchAt : Nat → List Stretch → Option (Stretch × List Stretch)
  | _, [] => none
  | p, x :: t => if p < x.2 then some ((x.1, x.2 - p), t) else stretchAt (p - x.2) t

/-- How long a class stays open along a list of stretches. -/
def openRun (c : Nat) : List Stretch → Nat
  | [] => 0
  | x :: t => if bitAt x.1 c then x.2 + openRun c t else 0

/-- The classes open at a DEVTIME. -/
def Gate.openAt (g : Gate) (t : Nat) : Nat :=
  match stretchAt (g.pos t) g.stretches with | some (x, _) => x.1 | none => 0

/-- Whether a class is open for the whole cycle, or in none of it (R335). -/
def Gate.always (g : Gate) (c : Nat) : Bool := g.stretches.all (fun x => bitAt x.1 c)
def Gate.never (g : Gate) (c : Nat) : Bool := g.stretches.all (fun x => !bitAt x.1 c)

/-- What is left of the window of a class at a DEVTIME, in ns; 0 when it is closed. -/
def Gate.left (g : Gate) (c t : Nat) : Nat :=
  match stretchAt (g.pos t) g.stretches with
  | some (x, rest) => openRun c (x :: rest ++ g.stretches)
  | none => 0

/-- The longest window of a class (R335). -/
def Gate.maxWin (g : Gate) (c : Nat) : Nat :=
  let l := g.stretches ++ g.stretches
  ((List.range l.length).map (fun i => openRun c (l.drop i))).foldl max 0

/-- The gate list of a link, if one is in force. -/
def State.gate (s : State) (a : Nat) : Option Gate := (s.sch.gates.find? (fun e => e.1 == a)).map (·.2)

/-- The bytes a frame is charged (R327) and its sending time on a link (R336). -/
def frameBytes (f : Frame) : Nat := f.payload + 24
def State.sendTime (s : State) (a len : Nat) : Nat :=
  let rate := match (s.port a).rate with | 1 => 126 | 2 => 252 | _ => 504
  ceilDiv (800 * len) (s.width a * rate)

/-- The class of a frame that a queue gave to a link (R338); none for the bridge's own frames. -/
def Cargo.cls (c : Cargo) (cascade : Bool) : Option Nat :=
  if cascade then c.frame.words.head?.map (fun w => fld w 3 3)
  else if c.frame.op == opMSG then some c.frame.cls
  else c.tgt.map (·.2.2)

/-- The replayed frames that end after the close of their class's window advance OVERRUNS (R338). DESIGN CHOICE, unsafe: log entry 15. -/
def State.overruns (s : State) (a : Nat) (cs : List Cargo) : State :=
  match s.gate a with
  | none => s
  | some g =>
    let r := cs.foldl (fun (t : Nat × Nat) c =>
      let upTo := t.1 + s.sendTime a (frameBytes c.frame)
      let late := match c.cls (s.gb (pgPRT a) LNK.LINK_CTL_CASCADE) with
        | some k => !g.always k && g.left k s.sys.devtime < upTo
        | none => false
      (upTo, if late then t.2 + 1 else t.2)) (0, 0)
    if r.2 == 0 then s else s.cnt pgSCH SCH.CNT_OVERRUNS r.2

/-- The gate list as the tables of a link hold it. -/
def State.gateTables (s : State) (n : Nat) : Gate :=
  ⟨s.ent .gct n, (List.range (min 64 (s.tf .gct n T_GCT.LEN))).map (fun i => s.ent .gen (64 * n + i)), s.sys.devtime⟩

/-- GATE_CYCLE_START (R334, R339): at a cycle start, or while no list is in force, the list of the tables is put in force; one
without a duration acts as disabled and is reported. DESIGN CHOICE, unsafe: log entry 79. -/
def State.gateStart (s : State) (n : Nat) : State :=
  let due := match s.gate n with
    | none => true
    | some g => g.lap s.sys.devtime != g.lap g.from_
  if 1024 ≤ n || !s.active pgSCH || !due then s else
  let g := s.gateTables n
  let rest := s.sch.gates.filter (fun e => e.1 != n)
  if !s.tb .gct n T_GCT.EN || g.entries.isEmpty then { s with sch := { s.sch with gates := rest } }
  else if g.used.isEmpty then ({ s with sch := { s.sch with gates := rest } }).error pgSCH 1 0x03 n 0 0
  else { s with sch := { s.sch with gates := rest ++ [(n, g)] } }

/-- DEVTIME was stepped forward (R343): a frame the sender holds whose window the step closes is an overrun, and a cycle start that was
skipped puts the new list in force. DESIGN CHOICE, unsafe: log entry 15. -/
def State.gateStep (s : State) (was n : Nat) : State :=
  match s.gate n with
  | none => s
  | some g =>
    let casc := s.gb (pgPRT n) LNK.LINK_CTL_CASCADE
    let shut := fun (c : Cargo) => match c.cls casc with
      | some k => bitAt (g.openAt was) k && !bitAt (g.openAt s.sys.devtime) k
      | none => false
    let l := s.link n
    let cut := (l.held.filter (fun e => l.sending.any (fun x => x.1 == e.1) && shut e.2)).length
    (if !s.active pgSCH || cut == 0 then s else s.cnt pgSCH SCH.CNT_OVERRUNS cut).gateStart n

end Sys2Proof.Machine
end

