-- ==== Sys2Proof/Machine/Link.lean ====
section
/-!
DEFINITION. The Ihlesh link layer (R186 to R233): frames, acknowledgement and replay, the window and its audit,
flow control, the INIT exchange, bonds and the spare, and the sleep exchange.
-/

namespace Sys2Proof.Machine

/-- Whether frames flow on a link (R214). -/
def State.flows (s : State) (a : Nat) : Bool := s.lk a == lkUP || s.lk a == lkSPARING

/-- A received control block of a wanted type with a good CRC (R192); otherwise BAD_CTL advances. -/
def State.ctlOk (s : State) (a t : Nat) (b : Word64) (f : State → State) : State :=
  if blkType b == t && blkGood b then f s else s.cnt (pgPRT a) LNK.CNT_BAD_CTL

/-- The frames a sender may start: the oldest given to it on each VC (R204, R242). -/
def State.txHeads (s : State) (a : Nat) : List Cargo :=
  let q := (s.link a).txq
  let vc := fun (c : Cargo) => c.frame.onVc (s.vcs a)
  q.filter (fun c => q.find? (fun x => vc x == vc c) == some c)

/-- The units of the frames at the heads of a link: given to its sender, or first in one of its Gallery queues (R204, R207). -/
def State.headUnits (s : State) (a : Nat) : List Nat :=
  (s.txHeads a).map (·.frame.units) ++ (List.range 8).filterMap (fun c =>
    match SMap.get (fun _ => []) s.gal.queues (8 * a + c) with
    | r :: _ => (s.gal.frames.find? (fun e => e.1 == r.frame)).map (fun e =>
        ceilDiv (20 + e.2.frame.payload + (if r.word.isSome then 8 else 0)) 64)
    | [] => none)

/-- Whether a link waits with nothing held and a window below the units of every head (R207). -/
def State.starved (s : State) (a : Nat) : Bool :=
  let us_ := s.headUnits a
  (s.link a).held.isEmpty && !us_.isEmpty && us_.all (fun u => decide ((s.link a).win < (u : Nat)))

/-- The wait of R207 runs while a link is starved. -/
def State.starveWatch (s : State) (a : Nat) : State :=
  let l := s.link a
  s.setLink a { l with starve := if s.starved a then (match l.starve with | some t => some t | none => some s.clock) else none }

/-- The registers that show the sender's state (R230), and the wait of a starved window (R207). -/
def State.txStatus (s : State) (a : Nat) : State :=
  let s := s.starveWatch a
  let l := s.link a
  let pg := pgPRT a
  let used := (l.held.map (fun e => e.2.frame.units)).foldl (· + ·) 0
  s.sf pg LNK.SEQ_STS_TX_OLDEST (match l.held with | [] => s.gf pg LNK.SEQ_STS_TX_NEXT | e :: _ => e.1)
    |>.sf pg LNK.REPLAY_STS_USED used |>.sf pg LNK.REPLAY_STS_FRAMES l.held.length
    |>.sf pg LNK.WIN_STS_WIN (ofSigned (max l.win (-4096)) 13)
    |>.sf pg LNK.LINK_STS_HELD (b2n (!l.held.isEmpty && !s.flows a))

/-! ### Receiving frames (R196 to R200, R205, R209 to R213) -/

/-- An ACK or NAK is sent with the credits not yet returned and the flow state (R200, R205, R211). -/
def State.sendAck (s : State) (a : Nat) (nak : Bool) : State :=
  let l := s.link a
  let pg := pgPRT a
  let next := s.gf pg LNK.RX_STS_RX_NEXT
  let cr := min l.credits 2047
  let s := s.setLink a { l with
    ackUnits := 0, ackSince := none, credits := l.credits - cr
    credSince := if l.credits - cr == 0 then none else some s.clock }
  s.emit (.ctl a (mkAck nak (if nak then next else next + 4095) cr (s.gf pg LNK.RX_STS_XOFF_SENT)))

/-- The credit of a frame ended by an EOF (R205). -/
def State.creditFrame (s : State) (a d : Nat) : State :=
  let l := s.link a
  s.setLink a { l with
    credits := l.credits + ceilDiv (8 * d + 4) 64
    credSince := match l.credSince with | some t => some t | none => some s.clock }

/-- A gap (R199): outside NAK state a NAK is sent. -/
def State.gap (s : State) (a : Nat) : State :=
  let pg := pgPRT a
  if s.gb pg LNK.RX_STS_NAK_STATE then s
  else ((s.sf pg LNK.RX_STS_NAK_STATE 1).cnt pg LNK.CNT_NAKS_TX).sendAck a true

/-- RX_NEXT advances past a frame taken or acknowledged, which ends NAK state; the ACK coalescing counts it (R199, R200). -/
def State.rxAdvance (s : State) (a units : Nat) : State :=
  let pg := pgPRT a
  let s := s.sf pg LNK.RX_STS_RX_NEXT (s.gf pg LNK.RX_STS_RX_NEXT + 1) |>.sf pg LNK.RX_STS_NAK_STATE 0
  let l := s.link a
  let s := s.setLink a { l with
    ackUnits := l.ackUnits + units
    ackSince := match l.ackSince with | some t => some t | none => some s.clock }
  if s.gf1 pg LNK.ACK_CTL_ACK_COAL ≤ l.ackUnits + units then s.sendAck a false else s

/-- The number of the device in its cascade (R310). -/
def State.device (s : State) : Nat := s.gf pgWAD WAD.CASC_CTL_DEVICE

/-- Whether a link runs in cascade mode (R227). -/
def State.cascadeLink (s : State) (a : Nat) : Bool := s.gb (pgPRT a) LNK.LINK_CTL_CASCADE

/-- An accepted frame is buffered, unless a station sent it against R234 or R240: then it is discarded and reported. DEDUCED, unsafe: log entry 56. -/
def State.takeFrame (s : State) (a : Nat) (f : Frame) : State :=
  let s := s.cnt (pgPRT a) LNK.CNT_FRAMES_RX
  if s.cascadeLink a then
    ((s.cnt pgWAD WAD.CNT_CASC_RX).setLink a { s.link a with rxBuf := (s.link a).rxBuf ++ [f] }).flowUpdate a
  else if !stationMay f.op then s.stationReport a s.device 0x1 f.op f.seq
  else if f.op != opRSP && f.malformed then s.stationReport a s.device 0x7 f.op f.seq
  else (s.setLink a { s.link a with rxBuf := (s.link a).rxBuf ++ [f] }).flowUpdate a

/-- A good frame with the expected SEQ (R209, R212, R213). -/
def State.rxExpected (s : State) (a : Nat) (f : Frame) : State :=
  let pg := pgPRT a
  let unused := s.vcs a ≤ f.vc
  let big := maxPayBytes (s.gf pg (LNK.VC_CFG_MAXPAY f.vc)) < f.payload
  if unused || big then
    (s.error pg 20 0x17 (f.seq + f.vc * 2 ^ 12 + f.len8 * 2 ^ 16) (b2n unused + 2 * b2n big) 0).rxAdvance a f.units
  else if s.rxFree a f.vc < (f.payload + 24 : Nat) then
    ((s.cnt pg LNK.CNT_RX_OVERRUNS).error pg 19 0x16 f.vc (s.rxFree a f.vc).toNat 0).gap a
  else (s.takeFrame a f).rxAdvance a f.units

/-- Whether the receiver of a link is in frame (R196): after a data block, or after a lost one. DEDUCED, unsafe: log entry 167. -/
def State.inFrame (s : State) (a : Nat) : Bool := !(s.link a).data.isEmpty || (s.link a).corrupt

/-- A data block (R196): it starts a frame or belongs to one; 259 without an EOF make it corrupt. DEDUCED, unsafe: log entry 167. -/
def State.dataIn (s : State) (a : Nat) (w : Word64) : State :=
  if !s.flows a then s else
  let l := s.link a
  s.setLink a { l with data := l.data ++ [w], corrupt := l.corrupt || 258 ≤ l.data.length }

/-- A lost block (R196): the receiver is in frame with a corrupt frame. -/
def State.lostBlock (s : State) (a : Nat) : State := s.setLink a { s.link a with corrupt := true }

/-- The blocks of a received frame have ended with a good EOF (R197, R199): judged good or bad, and taken, or a duplicate, or a gap. -/
def State.frameEnd (s : State) (a : Nat) (blocks : List Word64) (crc : Nat) (corrupt : Bool) : State :=
  let pg := pgPRT a
  let d := blocks.length
  let f : Frame := ⟨BitVec.ofNat 128 ((blocks.getD 0 0).toNat + (blocks.getD 1 0).toNat * 2 ^ 64), blocks.drop 2⟩
  let good := 2 ≤ d && f.len8 + 2 == d && crc32 (blocks.flatMap (fun w => bytesOf 8 w.toNat)) == crc && !corrupt
  let next := s.gf pg LNK.RX_STS_RX_NEXT
  let s := s.setLink a { s.link a with corrupt := false, data := [], lastUse := s.clock }
  let s := s.creditFrame a d
  if !good then (s.cnt pg LNK.CNT_CRC_ERRORS).gap a
  else if f.seq == next then s.rxExpected a f
  else if 2048 < subMod f.seq next 12 then s.sendAck a false
  else s.gap a

/-- An EOF (R196): with a wrong CRC-8 it is discarded and makes the frame corrupt; out of frame it is discarded. DEDUCED, unsafe: log
entry 167. -/
def State.eofIn (s : State) (a : Nat) (eof : Word64) : State :=
  if !s.flows a then s
  else if blkType eof != btEOF || !blkGood eof then
    let s := s.cnt (pgPRT a) LNK.CNT_BAD_CTL
    if s.inFrame a then s.lostBlock a else s
  else if !s.inFrame a then s.cnt (pgPRT a) LNK.CNT_BAD_CTL
  else s.frameEnd a (s.link a).data (fld eof 8 32) (s.link a).corrupt

/-- FRAME_RX (R196 to R199): the data blocks of a frame and the EOF that ends it. -/
def State.frameIn (s : State) (a : Nat) (blocks : List Word64) (eof : Word64) : State :=
  (s.each blocks (fun w s => s.dataIn a w)).eofIn a eof

def execFrameRx (anchor : Nat) (blocks : List Word64) (eof : Word64) (s : State) : Host.Outcome State Fault Refusal :=
  done (s.frameIn anchor blocks eof)

/-- ACK_TIMER (R200): ACK_T × 10 ns have passed since the first frame, or credit, not yet acknowledged. -/
def execAckTimer (anchor : Nat) (s : State) : Host.Outcome State Fault Refusal :=
  let l := s.link anchor
  let wait := s.gf1 (pgPRT anchor) LNK.ACK_CTL_ACK_T * 10
  let up := fun (t : Option Nat) => match t with | some t => s.due (t + wait) | none => false
  done (if s.flows anchor && (up l.ackSince || up l.credSince) then s.sendAck anchor false else s)

/-- The first frame of an OP, in the order of arrival, that heads its VC: what the rows that consume received frames take (R244). DESIGN
CHOICE, unsafe: log entry 50. -/
def State.rxHead (s : State) (a op : Nat) : Option Frame :=
  let q := (s.link a).rxBuf
  q.find? (fun f => f.op == op && q.find? (fun x => x.vc == f.vc) == some f)

/-- A received frame leaves the buffer. DESIGN CHOICE, unsafe: log entry 50. -/
def State.rxTake (s : State) (a : Nat) (f : Frame) : State :=
  (s.setLink a { s.link a with rxBuf := (s.link a).rxBuf.erase f }).flowUpdate a

/-! ### Sending, acknowledgement and replay (R198, R201 to R207) -/

/-- Frames a replay has still to send are taken back from it (R202): counted and charged at its start, they were not sent. DESIGN CHOICE,
unsafe: log entry 48. -/
def State.cutReplay (s : State) (a : Nat) (keep : Nat → Bool) : State :=
  let l := s.link a
  let cut := (l.sending.drop 1).filter (fun e => e.2.1 && !keep e.1)
  if cut.isEmpty then s else
  let units : Nat := (cut.map (fun e => ceilDiv (8 * e.2.2.length - 4) 64)).foldl (· + ·) 0
  let c := raddr (pgPRT a) LNK.CNT_FRAMES_REPLAYED
  let n := (s.reg c).toNat
  (s.setLink a { l with
    win := l.win + (units : Int)
    sending := l.sending.take 1 ++ (l.sending.drop 1).filter (fun e => !e.2.1 || keep e.1) }).setReg c
    (BitVec.ofNat 32 (if n == 2 ^ 32 - 1 then n else n - cut.length))

/-- The held frames up to a count are released (R201): the replay timer restarts, and a replay leaves them out (R202). -/
def State.release (s : State) (a count : Nat) : State :=
  if count == 0 then s else
  let l := s.link a
  let rest := l.held.drop count
  ((s.setLink a { l with
    held := rest, inRow := 0, timer := s.clock
    emptyAt := if rest.isEmpty then some s.clock else none }).cutReplay a (fun q => rest.any (fun e => e.1 == q))).txStatus a

/-- Window credit and flow state of an ACK or NAK (R205, R211). -/
def State.takeCredit (s : State) (a : Nat) (b : Word64) : State :=
  let l := s.link a
  let pg := pgPRT a
  let s := s.setLink a { l with win := min (s.gf pg LNK.WIN_STS_WIN_INIT : Int) (l.win + ackCredit b) }
  (s.sf pg LNK.RX_STS_XOFF_RCVD (ackXoff b)).txStatus a

/-- The frames a number releases: those before it for a NAK, and it too for an ACK. None does where it is earlier than the oldest;
a number of frames never sent is out of range (R198, R201). -/
def State.releasable (s : State) (a : Nat) (b : Word64) (nak : Bool) : Option Nat :=
  let l := s.link a
  let oldest := match l.held with | [] => s.gf (pgPRT a) LNK.SEQ_STS_TX_NEXT | e :: _ => e.1
  let d := subMod (ackSeq b) oldest 12
  let n := if nak then d else d + 1
  if 2048 < d then some 0 else if n ≤ l.held.length then some n else none

/-- An ACK or NAK out of range (R201): ignored and captured. -/
def State.outOfRange (s : State) (a : Nat) (b : Word64) (nak : Bool) : State :=
  s.error (pgPRT a) 22 0x1C (ackSeq b + b2n nak * 2 ^ 12) (ackCredit b) (s.gf (pgPRT a) LNK.SEQ_STS_TX_NEXT)

/-- A received ACK (R201). -/
def State.ackIn (s : State) (a : Nat) (b : Word64) : State :=
  if !s.flows a then s else
  s.ctlOk a btACK b fun s =>
    match s.releasable a b false with
    | none => s.outOfRange a b false
    | some n => (s.release a n).takeCredit a b

/-- A SYNC or ECHO that is sent again is stamped again, and its round knows it (R260, R261, R320). -/
def State.stampAgain (s : State) (a : Nat) (again : List Frame) : State :=
  let d := s.lard a
  let sent := fun (kind id : Nat) => again.any (fun f => f.op == opTIME && f.kind == kind && f.roundId == id)
  s.setLard a { d with
    round := d.round.map (fun r => if sent 0 r.id then { r with again := true, t1 := s.sys.devtime } else r)
    echo := d.echo.map (fun x => if sent 2 x.id then { x with again := true, s3 := s.sys.devtime } else x) }

/-- A replay from a number (R202, R203): at the end of the frame being sent the held frames from the number on are sent again, and
take the window with them; a replay under way is broken off. New frames not begun follow. DESIGN CHOICE, unsafe: log entry 48. -/
def State.replay (s : State) (a seq : Nat) : State :=
  let s := s.cutReplay a (fun _ => false)
  let l := s.link a
  let pg := pgPRT a
  let fresh := l.sending.drop 1
  let again := (l.held.dropWhile (fun e => e.1 != seq)).filter (fun e => !fresh.any (fun x => x.1 == e.1))
  let units : Nat := (again.map (fun e => e.2.frame.units)).foldl (· + ·) 0
  let s := (s.cnt pg LNK.CNT_REPLAYS).cnt pg LNK.CNT_FRAMES_REPLAYED again.length |>.event pg 10
  let s := (s.emits (again.map (fun e => Out.frame a e.2.frame))).overruns a (again.map (·.2))
  let s := s.setLink a { s.link a with
    win := l.win - (units : Int), lastUse := s.clock
    inRow := if l.inRow != 0 && l.rowFrom == seq then l.inRow + 1 else 1
    rowFrom := seq
    sending := l.sending.take 1 ++ again.map (fun e => (e.1, true, frameBlocks e.2.frame)) ++ fresh }
  (s.stampAgain a (again.map (fun e => e.2.frame))).txStatus a

/-- Whether a NAK received during a replay leaves it as it is (R202): its number is later than the frame being resent. -/
def State.replayPast (s : State) (a seq : Nat) : Bool :=
  let l := s.link a
  match l.sending with
  | e :: _ => l.sending.any (fun x => x.2.1) && seq != e.1 && subMod seq e.1 12 ≤ 2048
  | [] => false

/-- NAK_RX (R201, R202): earlier frames are released and a replay starts, unless the number is the next new one. -/
def State.nakIn (s : State) (a : Nat) (b : Word64) : State :=
  if !s.flows a then s else
  s.ctlOk a btNAK b fun s =>
    let s := s.cnt (pgPRT a) LNK.CNT_NAKS_RX
    match s.releasable a b true with
    | none => s.outOfRange a b true
    | some n =>
      let s := (s.release a n).takeCredit a b
      if (s.link a).held.any (fun e => e.1 == ackSeq b) && !s.replayPast a (ackSeq b) then s.replay a (ackSeq b) else s

/-- FLOW_RX (R211): the sender's flow state is the last received. -/
def State.flowIn (s : State) (a : Nat) (b : Word64) : State :=
  if s.flows a then s.ctlOk a btFLOW b (fun s => s.sf (pgPRT a) LNK.RX_STS_XOFF_RCVD (flowXoff b)) else s
def execFlowRx (anchor : Nat) (blk : Word64) (s : State) : Host.Outcome State Fault Refusal := done (s.flowIn anchor blk)

/-- FLOW_SEND (R211): a FLOW block carries the flow state, after a change or as a repetition. -/
def execFlowSend (anchor : Nat) (s : State) : Host.Outcome State Fault Refusal :=
  done (if s.flows anchor then
    (s.setLink anchor { s.link anchor with flowDue := false }).emit
      (.ctl anchor (mkFlow (s.gf (pgPRT anchor) LNK.RX_STS_XOFF_SENT))) else s)

/-- What keeps the sender from starting its head frame (R204): buffer, window or count; flow state; link state, a stop
for sleep (R174), or a payload above what the peer accepts on the VC (R213). DEDUCED, unsafe: log entry 168. -/
inductive StartView where
  | ready | stalled | off | down
  deriving DecidableEq, Repr

/-- DEDUCED, unsafe: log entry 168. -/
def State.startView (s : State) (a : Nat) (f : Frame) : StartView :=
  let l := s.link a
  let pg := pgPRT a
  if !s.flows a || l.stopped || (s.crew a).any (fun m => (s.port m).toSleep.isSome)
      || maxPayBytes (bits l.peerPay (3 * f.onVc (s.vcs a)) 3) < f.payload then .down
  else if 128 * s.width a < s.gf pg LNK.REPLAY_STS_USED + f.units || l.win < (f.units : Nat) || 2047 ≤ l.held.length then .stalled
  else if bitAt (s.gf pg LNK.RX_STS_XOFF_RCVD) (f.onVc (s.vcs a)) then .off
  else .ready

/-- A frame is sent as the next new one (R198, R204, R205): numbered, held, and taken from the window. SYNC is stamped
(R260), and a request's tag counts its lifetime from here (R246). DESIGN CHOICE, unsafe: log entry 48; DEDUCED, unsafe: log entry 56. -/
def State.sendFrame (s : State) (a : Nat) (c : Cargo) : State :=
  let pg := pgPRT a
  let seq := s.gf pg LNK.SEQ_STS_TX_NEXT
  let f := c.frame.withLink seq (c.frame.onVc (s.vcs a))
  let l := s.link a
  let s := s.setLink a { l with
    held := l.held ++ [(seq, { c with frame := f })], win := l.win - (f.units : Int), txq := l.txq.erase c
    timer := if l.held.isEmpty then s.clock else l.timer
    emptyAt := none, lastUse := s.clock, sending := l.sending ++ [(seq, false, frameBlocks f)] }
  let s := if s.cascadeLink a then s.cnt pgWAD WAD.CNT_CASC_TX else s
  let d := s.lard a
  let s := s.setLard a { d with
    tags := if takesTag f then
        d.tags.map (fun t => if t.tag == f.tag then { t with sent := s.upTime a } else t) else d.tags
    round := match d.round with
      | some r => if f.op == opTIME && f.kind == 0 then some { r with t1 := s.sys.devtime, start := s.clock } else some r
      | none => none
    echo := match d.echo with
      | some x => if f.op == opTIME && f.kind == 2 && f.roundId == x.id then some { x with s3 := s.sys.devtime } else some x
      | none => none }
  ((s.sf pg LNK.SEQ_STS_TX_NEXT (seq + 1)).cnt pg LNK.CNT_FRAMES_TX |>.sf pg LNK.REPLAY_STS_STALLED 0).emit (.frame a f)
    |>.txStatus a

/-- The sender stalls at a frame (R204, R207): a stall for want of buffer, window or count is counted when it is new. -/
def State.markStall (s : State) (a : Nat) (f : Frame) : State :=
  let pg := pgPRT a
  if s.startView a f == .stalled then
    let s := if s.gb pg LNK.REPLAY_STS_STALLED then s else s.cnt pg LNK.CNT_REPLAY_STALLS
    (s.starveWatch a).sf pg LNK.REPLAY_STS_STALLED 1
  else s.sf pg LNK.REPLAY_STS_STALLED 1

/-- FRAME_START (R204): the sender starts the first frame given to it that it may, or stalls. DESIGN CHOICE, unsafe: log entry 80. -/
def State.frameStart (s : State) (a : Nat) : State :=
  match s.txHeads a with
  | [] => s
  | h :: t =>
    match (h :: t).find? (fun c => s.startView a c.frame == .ready) with
    | some c => s.sendFrame a c
    | none => s.markStall a h.frame

def execFrameStart (anchor : Nat) (s : State) : Host.Outcome State Fault Refusal := done (s.frameStart anchor)

/-- REPLAY_TIMER (R203): REPLAY_US have passed with frames held; after REPLAY_MAX replays in a row the link retrains. -/
def State.replayTimer (s : State) (a : Nat) : State :=
  let l := s.link a
  let pg := pgPRT a
  match l.held with
  | [] => s
  | (seq, _) :: _ =>
    if s.flows a && s.due (l.timer + us (s.gf1 pg LNK.ACK_CTL_REPLAY_US)) then
      if s.gf1 pg LNK.ACK_CTL_REPLAY_MAX ≤ l.inRow && l.rowFrom == seq then
        let s := s.error pg 11 0x14 seq l.inRow 0
        (s.setLink a { s.link a with stopped := true }).retrainLink a
      else (s.setLink a { l with timer := s.clock }).replay a seq
    else s

def execReplayTimer (anchor : Nat) (s : State) : Host.Outcome State Fault Refusal := done (s.replayTimer anchor)

/-- CREDIT_AUDIT (R206): the buffer has been empty for 2 × ACK_T × 10 ns. -/
def State.creditAudit (s : State) (a : Nat) : State :=
  let l := s.link a
  let pg := pgPRT a
  match l.emptyAt with
  | none => s
  | some t =>
    if s.flows a && l.held.isEmpty && s.due (t + 2 * s.gf1 pg LNK.ACK_CTL_ACK_T * 10) then
      let init := s.gf pg LNK.WIN_STS_WIN_INIT
      let def_ := min 4095 ((init : Int) - l.win).toNat
      let th := s.gf pg LNK.AUDIT_CTL_LEAK_TH
      let s := (s.setLink a { l with emptyAt := none }).sf pg LNK.AUDIT_STS_DEFICIT def_
        |>.sf pg LNK.AUDIT_STS_DEFICIT_MAX (max def_ (s.gf pg LNK.AUDIT_STS_DEFICIT_MAX))
      if th != 0 && th ≤ def_ then
        let s := s.error pg 12 0x15 def_ init 0
        if s.gb pg LNK.LINK_CTL_AUTO_RESYNC then s.retrainLink a else s
      else s
    else s

def execCreditAudit (anchor : Nat) (s : State) : Host.Outcome State Fault Refusal := done (s.creditAudit anchor)

/-- WINDOW_STARVE_TIMER (R207): nothing held, the window below the head frame for REPLAY_US. -/
def execWindowStarveTimer (anchor : Nat) (s : State) : Host.Outcome State Fault Refusal :=
  done (match (s.link anchor).starve with
    | some t =>
      if s.flows anchor && s.starved anchor && s.due (t + us (s.gf1 (pgPRT anchor) LNK.ACK_CTL_REPLAY_US)) then
        (s.setLink anchor { s.link anchor with starve := none }).retrainLink anchor
      else s
    | none => s)

/-- LINK_RESYNC (R206): ignored unless the link is UP. -/
def State.linkResync (s : State) (a : Nat) : State := if s.lk a == lkUP then s.retrainLink a else s
def execLinkResync (anchor : Nat) (s : State) : Host.Outcome State Fault Refusal := done (s.linkResync anchor)

/-! ### The INIT exchange (R216 to R219, R227) -/

/-- What a fresh start did, for the blocks that act on it (R125, R127, R284): whether a station had been met, whether its
epoch changed, and the frames that were held. -/
structure Fresh where
  met       : Bool
  discarded : List Cargo
  deriving DecidableEq, Repr

/-- The decision of R218: whether the side resumes. -/
def State.mayResume (s : State) (a : Nat) (b : Word64) : Bool :=
  let l := s.link a
  let pg := pgPRT a
  let oldest := s.gf pg LNK.SEQ_STS_TX_OLDEST
  let next := s.gf pg LNK.SEQ_STS_TX_NEXT
  l.hasState && initResume b && initEpoch b == s.gf pg LNK.EPOCH_STATION
    && subMod (initRxNext b) oldest 12 ≤ subMod next oldest 12

/-- Resuming (R218): what the peer has is released, the rest is replayed once the link is UP. -/
def State.resume (s : State) (a : Nat) (b : Word64) : State :=
  s.release a (subMod (initRxNext b) (s.gf (pgPRT a) LNK.SEQ_STS_TX_OLDEST) 12)

/-- A fresh start (R218, R219): held frames are discarded, numbers restart at 0, the peer's epoch is recorded and the
bridge's advances. A recorded epoch of 0 means that no station was ever met: nothing is captured then. -/
def State.freshStart (s : State) (a : Nat) (b : Word64) : State × Fresh :=
  let l := s.link a
  let pg := pgPRT a
  let old := s.gf pg LNK.EPOCH_STATION
  let new := initEpoch b
  let n := l.held.length
  let s := s.cnt pg LNK.CNT_HELD_DISCARDS n
  let s := if 0 < n then s.event pg 14 else s
  let s := if old != 0 && old != new then s.error pg 13 0x13 (old + new * 2 ^ 16) n 0
    else if old != 0 && l.hasState then
      s.errorNoEvent pg 0x12 new (initRxNext b + b2n (initResume b) * 2 ^ 12) (s.gf pg LNK.SEQ_STS_TX_OLDEST)
    else s
  let s := s.setLink a { s.link a with
    held := [], inRow := 0, emptyAt := none, credits := 0, credSince := none, ackUnits := 0, ackSince := none
    localEp := some (nextEpoch (s.localEpoch a)), txq := [], sending := [] }
  let s := s.sf pg LNK.SEQ_STS_TX_NEXT 0 |>.sf pg LNK.RX_STS_RX_NEXT 0 |>.sf pg LNK.RX_STS_NAK_STATE 0
    |>.sf pg LNK.EPOCH_STATION new |>.sf pg HDR.PAGE_GEN_GEN new |>.sf pg LNK.EPOCH_LOCAL (s.localEpoch a)
    |>.sf pg LNK.REPLAY_STS_STALLED 0
  (s.txStatus a, ⟨old != 0, l.held.map (·.2) ++ l.txq⟩)

/-- The values of the last LINK_INIT and LINK_PARAM are taken (R217): VCs, MAXPAY and the window. -/
def State.initValues (s : State) (a : Nat) (b p : Word64) : State :=
  let pg := pgPRT a
  let win := min (128 * s.width a) (initWin b)
  let mine := s.gf pg LNK.VC_CTL_VCS
  let used := if vcCount (initVcs b) ≤ vcCount mine then initVcs b else mine
  let s := s.sf pg LNK.WIN_STS_WIN_INIT win |>.sf pg LNK.VC_CTL_VCS_USED (if vcCount used == 2 then 0 else used)
    |>.sf pg LNK.AUDIT_STS_DEFICIT_MAX 0
  (((s.setLink a { s.link a with win := win, peerPay := paramMaxPay p }).txStatus a).vcStatus a).flowUpdate a

/-- The link enters UP (R216): what a resumed exchange left held is replayed, and a fresh start owes IDENT (R251).
DEDUCED, unsafe: log entry 157. -/
def State.enterUp (s : State) (a : Nat) : State :=
  let l := s.link a
  let resumed := l.init.resumed == some true
  let s := s.setLk a lkUP
  let s := s.setLink a { s.link a with
    hasState := true, stopped := false, corrupt := false, lastUse := s.clock
    emptyAt := if l.held.isEmpty then some s.clock else none }
  let s := s.event (pgPRT a) 8
  let s := s.setLard a { s.lard a with identDue := (!resumed && !s.cascadeLink a) || ((s.lard a).identDue) }
  match resumed, l.held with
  | true, (seq, _) :: _ => s.replay a seq
  | _, _ => s.txStatus a

/-- An INIT failure (R216, R227): every member starts a full training, counted as a failure. -/
def State.initFail (s : State) (a code c1 : Nat) : State :=
  ((s.error (pgPRT a) 17 code c1 0 0).linkDrop a).failLink ((s.members a).headD a) (some (0, 0, 0))

/-- The decision at a valid LINK_INIT (R216): made once, and again when the peer's values change; a fresh start is made
at most once in an exchange, and resuming is counted once. -/
def State.initDecide (s : State) (a : Nat) (b : Word64) : State × Option Fresh :=
  let x := (s.link a).init
  let key := initEpoch b + initRxNext b * 2 ^ 16 + b2n (initResume b) * 2 ^ 28
  let put_ := fun (s : State) (x : InitX) => s.setLink a { s.link a with init := x }
  if x.got && x.seen == key then (s, none)
  else if x.fresh then
    (put_ (s.sf (pgPRT a) LNK.EPOCH_STATION (initEpoch b) |>.sf (pgPRT a) HDR.PAGE_GEN_GEN (initEpoch b))
      { x with seen := key }, none)
  else if s.mayResume a b then
    let s := s.resume a b
    let s := if x.got then s else s.cnt (pgPRT a) LNK.CNT_RESYNCS
    (put_ s { x with got := true, resumed := some true, seen := key }, none)
  else
    let (s, f) := s.freshStart a b
    (put_ s { x with got := true, resumed := some false, fresh := true, seen := key }, some f)

/-- A received LINK_INIT (R192, R216, R217, R227): kept where it is valid; an UP link restarts the exchange at INIT_ACK 0, and a CASCADE
that differs fails it at once. The result says whether the exchange goes on with it. -/
def State.initGot (s : State) (a : Nat) (b : Word64) : State × Bool :=
  if blkType b != btINIT || !blkGood b then (s.cnt (pgPRT a) LNK.CNT_BAD_CTL, false)
  else if !(s.lk a == lkINIT || (s.flows a && !initAckBit b)) then (s, false)
  else
    let s := if s.flows a then s.enterInit a else s
    if initCascade b != s.cascadeLink a then
      (s.initFail a 0x1A (b2n (s.cascadeLink a) + 2 * b2n (initCascade b)), false)
    else
      let x := (s.link a).init
      (s.setLink a { s.link a with init := { x with lastInit := some b, gotAck := x.gotAck || initAckBit b } }, true)

/-- A received LINK_PARAM (R192, R216). -/
def State.paramGot (s : State) (a : Nat) (p : Word64) : State :=
  if blkType p != btPARAM || !blkGood p then s.cnt (pgPRT a) LNK.CNT_BAD_CTL
  else if s.lk a != lkINIT then s
  else s.setLink a { s.link a with init := { (s.link a).init with param := some p } }

/-- The exchange goes on (R216, R217): with a LINK_INIT and a LINK_PARAM the side decides, takes their values and answers, and it
enters UP once both INIT_ACKs have been exchanged. -/
def State.initStep (s : State) (a : Nat) : State × Option Fresh :=
  match (s.link a).init.lastInit, (s.link a).init.param with
  | some b, some p =>
    if s.lk a != lkINIT then (s, none) else
    let (s, f) := s.initDecide a b
    let s := (s.initValues a b p).sendInit a
    (if (s.link a).init.gotAck && (s.link a).init.sentAck then s.enterUp a else s, f)
  | _, _ => (s, none)

/-- INIT_TIMEOUT (R216): UP not reached within 100 µs. -/
def execInitTimeout (anchor : Nat) (s : State) : Host.Outcome State Fault Refusal :=
  let x := (s.link anchor).init
  done (if s.lk anchor == lkINIT && s.due (x.start + us 100) then
    s.initFail anchor 0x11 (b2n x.lastInit.isSome + 2 * b2n x.gotAck) else s)

/-! ### Enabling and disabling (R221 to R223) -/

/-- Every port another enabled link uses. -/
def State.usedPorts (s : State) (a : Nat) : List Nat :=
  ((List.range 1024).filter (fun b => b != a && s.lk b != lkDISABLED)).flatMap s.crew

/-- The first rule of R222 a link's configuration breaks: the cause of code 0x10 and the conflicting port. -/
def State.cfgError (s : State) (a : Nat) : Option (Nat × Nat) :=
  let pg := pgPRT a
  let w := widthOf (s.gf pg LNK.BOND_CTL_WIDTH)
  let sp := s.gf pg LNK.BOND_CTL_SPARE_PORT
  let spOn := s.gb pg LNK.BOND_CTL_SPARE_EN
  let ports := (List.range w).map (a + ·) ++ (if spOn then [sp] else [])
  if w == 0 then some (2, 0)
  else if a % w != 0 || groupBase (a + w - 1) != groupBase a then some (1, 0)
  else if spOn && (w < 8 || !((groupBase sp == groupBase a && !(a ≤ sp && sp < a + w))
      || (sp == groupBase a + 16 && groupBase a + 16 < 1024))) then some (3, sp)
  else match ports.find? (fun p => (s.usedPorts a).contains p) with
    | some p => some (4, p)
    | none => if s.cascadeLink a && (w != 16 || !s.gb pgDEV DEV.FEAT_EN_CASCADE) then some (5, 0) else none

/-- LINK_ENABLE (R181, R222, R223): LINK_EN becomes 1. A valid configuration takes effect, every port of it takes the anchor's
RATE_MAX, and every enabled one starts a full training. DESIGN CHOICE, unsafe: log entry 137. -/
def State.linkEnable (s : State) (a : Nat) : State :=
  let pg := pgPRT a
  if s.gb pg LNK.LINK_CTL_LINK_EN || s.lk a != lkDISABLED || s.anchorOf a != a then s else
  let s := s.sf pg LNK.LINK_CTL_LINK_EN 1
  match s.cfgError a with
  | some (cause, p) => (s.sf pg LNK.LINK_STS_CFG_ERR 1).error pg 18 0x10 cause p 0
  | none =>
    let s := s.sf pg LNK.LINK_STS_CFG_ERR 0 |>.sf pg LNK.LINK_STS_SPARE_IN_USE 0 |>.setLk a lkDOWN
    let s := s.each (s.members a) (fun n s => s.sf (pgPRT n) LNK.LINK_STS_ANCHOR a |>.sf (pgPRT n) LNK.LINK_STS_MEMBER 1)
    let s := match s.spareOf a with
      | some p => s.sf (pgPRT p) LNK.LINK_STS_ANCHOR a |>.sf (pgPRT p) LNK.LINK_STS_STANDBY 1
      | none => s
    s.each (s.crew a) (fun n s => (s.takeRate n (s.rateReg a)).startTraining n)

def execLinkEnable (anchor : Nat) (s : State) : Host.Outcome State Fault Refusal := done (s.linkEnable anchor)

/-- LINK_EN written 0 (R221): held frames are discarded and the link's state is given up; its ports stand alone again. -/
def State.linkOff (s : State) (a : Nat) : State :=
  let pg := pgPRT a
  let l := s.link a
  let n := l.held.length
  let all := s.crew a
  let s := s.sf pg LNK.LINK_CTL_LINK_EN 0 |>.sf pg LNK.LINK_STS_CFG_ERR 0
  let s := s.cnt pg LNK.CNT_HELD_DISCARDS n
  let s := if 0 < n then s.event pg 14 else s
  let s := s.setLk a lkDISABLED
  let s := match l.bond with | some w => s.setReg (raddr pg 0x108) w | none => s
  let s := s.setLink a { s.link a with
    bond := none
    held := [], win := 0, inRow := 0, emptyAt := none, txq := [], hasState := false, credits := 0, credSince := none
    ackUnits := 0, ackSince := none, stopped := false, toSend := [], sending := [], corrupt := false, data := [], starve := none }
  let s := s.sf pg LNK.SEQ_STS_TX_NEXT 0 |>.sf pg LNK.RX_STS_RX_NEXT 0 |>.sf pg LNK.RX_STS_NAK_STATE 0
    |>.sf pg LNK.WIN_STS_WIN_INIT 0 |>.sf pg LNK.LINK_STS_SPARE_IN_USE 0 |>.sf pg LNK.LINK_STS_SPARE_LANE 0
    |>.sf pg LNK.REPLAY_STS_STALLED 0
  let s := s.setLard a { s.lard a with spare := none, round := none, sleepReq := false, sleepSent := none, idleAuto := false }
  let s := s.each all (fun p s => s.sf (pgPRT p) LNK.LINK_STS_ANCHOR p |>.sf (pgPRT p) LNK.LINK_STS_MEMBER 0
    |>.sf (pgPRT p) LNK.LINK_STS_STANDBY 0)
  s.txStatus a

/-! ### The spare (R225, R226) -/

/-- The peer's switchover is answered (R225): with this side's own AT, and the spare taken for the lane from the peer's AT on. DEDUCED,
unsafe: log entry 55. -/
def State.answerSpare (s : State) (a lane at_ sp : Nat) : State :=
  let s := s.setLard a { s.lard a with spare := some ⟨lane, s.clock, ((s.link a).cw + 16) % 256, some at_, true⟩, round := none }
  (s.setLk a lkSPARING).emit (.phy sp "SWITCH_LANE")

/-- SPARE_SW_RX (R225, R226): the echo of a switchover begun here, or the peer's own, which is answered and followed. A block that names
another anchor, a repeated one, and the echo of nothing are ignored. DEDUCED, unsafe: log entry 55. -/
def State.spareIn (s : State) (a : Nat) (b : Word64) : State :=
  if !s.flows a then s else
  s.ctlOk a btSPARE b fun s =>
    let lane := spareLane b
    if fld b 24 16 != s.gf (pgPRT ((s.members a).headD a)) PRT.PEER_CAP_RX_ID then s else
    match (s.lard a).spare with
    | some x =>
      if x.lane != lane then s.spareFail a lane 3
      else if x.peer.isSome then s
      else s.setLard a { s.lard a with spare := some { x with peer := some (spareAt b) } }
    | none =>
      if s.gb (pgPRT a) LNK.LINK_STS_SPARE_IN_USE then
        if s.gf (pgPRT a) LNK.LINK_STS_SPARE_LANE == lane then s else s.spareFail a lane 2
      else if spareEcho b || s.lk a != lkUP then s
      else match s.spareOf a with
        | none => s.spareFail a lane 0
        | some sp => if s.ph sp != phACTIVE then s.spareFail a lane 1 else s.answerSpare a lane (spareAt b) sp

def execSpareSwRx (anchor : Nat) (blk : Word64) (s : State) : Host.Outcome State Fault Refusal :=
  done (s.spareIn anchor blk)

/-- Whether this side has reached the codeword from which it sends the lane on the spare (R225). -/
def State.switched (s : State) (a : Nat) (x : Spare) : Bool := decide (subMod (s.link a).cw x.own 8 < 128)

/-- SPARE_SWITCH_DONE (R225, R226): both directions have switched; the spare is a member and the link UP again, the failed port leaves
the link and trains as a single port. DEDUCED, unsafe: log entry 55. -/
def State.spareDone (s : State) (a : Nat) : State :=
  match (s.lard a).spare, s.spareOf a with
  | some x, some sp =>
    if s.lk a == lkSPARING && x.peer.isSome && s.switched a x then
      let pg := pgPRT a
      let lost := a + x.lane
      let s := s.setLard a { s.lard a with spare := none }
      let s := s.sf pg LNK.LINK_STS_SPARE_IN_USE 1 |>.sf pg LNK.LINK_STS_SPARE_LANE x.lane
        |>.sf (pgPRT sp) LNK.LINK_STS_STANDBY 0 |>.sf (pgPRT sp) LNK.LINK_STS_MEMBER 1
        |>.sf (pgPRT lost) LNK.LINK_STS_MEMBER 0 |>.sf (pgPRT lost) LNK.LINK_STS_ANCHOR lost
      (((s.setLk a lkUP).cnt pg LNK.CNT_SPARE_SWITCHES).error pg 15 0x18 (x.lane + lost * 16) 0 0).startTraining lost
    else s
  | _, _ => s

def execSpareSwitchDone (anchor : Nat) (s : State) : Host.Outcome State Fault Refusal := done (s.spareDone anchor)

/-- SPARE_ECHO_TIMEOUT (R226): no echo within 100 µs. -/
def execSpareEchoTimeout (anchor : Nat) (s : State) : Host.Outcome State Fault Refusal :=
  done (match (s.lard anchor).spare with
    | some x => if s.lk anchor == lkSPARING && x.peer.isNone && s.due (x.start + us 100) then
        s.spareFail anchor x.lane 4 else s
    | none => s)

/-! ### The sleep exchange (R174, R228) -/

/-- Whether a frame is queued for a link: given to its sender or in one of its Gallery queues (R228). -/
def State.queuedFor (s : State) (a : Nat) : Bool :=
  !(s.link a).txq.isEmpty || (List.range 8).any (fun c => !(SMap.get (fun _ => []) s.gal.queues (8 * a + c)).isEmpty)

/-- The first three items of the idle condition, and the whole of it (R228). -/
def State.idle3 (s : State) (a : Nat) : Bool :=
  let l := s.link a
  l.held.isEmpty && l.ackSince.isNone && l.credits == 0 && !s.queuedFor a
def State.idleAll (s : State) (a : Nat) : Bool :=
  s.idle3 a && s.due ((s.link a).lastUse + s.gf1 (pgPRT a) LNK.LINK_CTL_IDLE * us 10)

/-- Whether a link may ask for or grant sleep (R174). -/
def State.sleepOn (s : State) (a : Nat) : Bool := s.lk a == lkUP && s.gb (pgPRT a) PRT.PHY_CTL_SLEEP_EN

/-- SLEEP_REQ_WRITE (R174, R181): ignored unless ACTIVE with SLEEP_EN 1; pending until it can be sent. -/
def State.sleepReqWrite (s : State) (port : Nat) : State :=
  let a := s.anchorOf port
  if s.ph port == phACTIVE && s.gb (pgPRT port) PRT.PHY_CTL_SLEEP_EN then s.setLard a { s.lard a with sleepReq := true } else s
def execSleepReqWrite (port : Nat) (s : State) : Host.Outcome State Fault Refusal := done (s.sleepReqWrite port)

/-- LINK_IDLE_TIMER (R228): the whole idle condition holds, the idle time included. -/
def execLinkIdleTimer (anchor : Nat) (s : State) : Host.Outcome State Fault Refusal :=
  done (if s.sleepOn anchor && s.idleAll anchor then s.setLard anchor { s.lard anchor with idleAuto := true } else s)

/-- SLEEP_REQ_SEND (R174): a written request goes once the first three items hold, an automatic one once all do. -/
def execSleepReqSend (anchor : Nat) (s : State) : Host.Outcome State Fault Refusal :=
  let d := s.lard anchor
  done (if s.sleepOn anchor && d.sleepSent.isNone && ((d.sleepReq && s.idle3 anchor) || (d.idleAuto && s.idleAll anchor)) then
    (s.setLard anchor { d with sleepSent := some s.clock }).emit (.ctl anchor (mkBlk 0xC3 0)) else s)

/-- The time of a codeword of a link, and when the k-th codeword from the next on ends (R164, R189), in units of 1/85 ns. -/
def State.cwTime (s : State) (a : Nat) : Nat := 2160 * bitTime (s.port ((s.members a).headD a)).rate
def State.cwEnd (s : State) (a k : Nat) : Nat :=
  let l := s.link a
  let am := if s.markers a && 1024 < l.cwGap + k then 66 * bitTime (s.port ((s.members a).headD a)).rate else 0
  max l.cwAt (85 * s.clock) + k * s.cwTime a + am

/-- The transmitters of a link stop at the end of a codeword to come (R174): the first for a requester, the second, after the one that
carries SLEEP_ACK, for a responder. DEDUCED, unsafe: log entry 114. -/
def State.stopTx (s : State) (a k : Nat) : State :=
  let t := nsOf (s.cwEnd a k)
  s.each (s.crew a) (fun n s => (s.setPort n { s.port n with toSleep := some t }).emit (.phy n "STOP"))

/-- A sleep attempt ends with a refusal or no answer (R174). -/
def State.sleepOver (s : State) (a : Nat) : State :=
  s.setLard a { s.lard a with sleepReq := false, sleepSent := none, idleAuto := false }

/-- SLEEP_REQ_RX (R174): answered with SLEEP_ACK or SLEEP_NAK, or taken as SLEEP_ACK when both sides asked. -/
def State.sleepReqIn (s : State) (a : Nat) (b : Word64) : State :=
  if !(s.lk a == lkUP) then s else s.ctlOk a 0xC3 b (fun s =>
    if (s.lard a).sleepSent.isSome then s.stopTx a 1
    else if s.sleepOn a && s.idle3 a then (s.emit (.ctl a (mkBlk 0xC4 0))).stopTx a 2
    else s.emit (.ctl a (mkBlk 0xC5 0)))
def execSleepReqRx (anchor : Nat) (blk : Word64) (s : State) : Host.Outcome State Fault Refusal := done (s.sleepReqIn anchor blk)

/-- SLEEP_ACK_RX (R174): the requester stops after the next codeword. -/
def State.sleepAckIn (s : State) (a : Nat) (b : Word64) : State :=
  if !(s.lk a == lkUP) then s else s.ctlOk a 0xC4 b (fun s => if (s.lard a).sleepSent.isSome then s.stopTx a 1 else s)
def execSleepAckRx (anchor : Nat) (blk : Word64) (s : State) : Host.Outcome State Fault Refusal := done (s.sleepAckIn anchor blk)

/-- SLEEP_NAK_RX (R174): the attempt ends. -/
def State.sleepNakIn (s : State) (a : Nat) (b : Word64) : State :=
  if !(s.lk a == lkUP) then s else s.ctlOk a 0xC5 b (fun s => if (s.lard a).sleepSent.isSome then s.sleepOver a else s)
def execSleepNakRx (anchor : Nat) (blk : Word64) (s : State) : Host.Outcome State Fault Refusal := done (s.sleepNakIn anchor blk)

/-- SLEEP_ANSWER_TIMEOUT (R174): no answer within 8 µs counts as SLEEP_NAK. -/
def execSleepAnswerTimeout (anchor : Nat) (s : State) : Host.Outcome State Fault Refusal :=
  done (match (s.lard anchor).sleepSent with
    | some t => if s.due (t + us 8) && (s.port ((s.members anchor).headD anchor)).toSleep.isNone then s.sleepOver anchor else s
    | none => s)

end Sys2Proof.Machine
end

