-- ==== Sys2Proof/Machine/BridgeBase.lean ====
section
/-!
DEFINITION. What the bridge engine, the Gallery and the halls share: accesses and their parts, tags (R105, R246), the
posted-write error log (R117 to R121), the delayed-read store (R106 to R108), and the hall contexts (R393 to R401).
-/

namespace Sys2Proof.Machine

/-! ### Halls -/

/-- Hall states (R393). -/
def hlFREE : Nat := 0
def hlBOUND : Nat := 1
def hlRESETTING : Nat := 2
def hlWAITING : Nat := 3
def hlERROR : Nat := 4

/-- The state, the generation, the function and the interface state of a hall. -/
def State.hallSt (s : State) (h : Nat) : Nat := s.tf .hcx h T_HCX.STATE
def State.hallGen (s : State) (h : Nat) : Nat := s.tf .hcx h T_HCX.GEN
def State.hallFunc (s : State) (h : Nat) : Nat := s.tf .hcx h T_HCX.FUNC
def State.hallTdisp (s : State) (h : Nat) : Nat := s.tf .hcx h T_HCX.TDISP

/-- Whether PASID is shown (R58). -/
def State.pasidShown (s : State) : Bool := s.gb pgDEV DEV.FEAT_EN_PASID

/-- The PASID a request for a hall carries toward the host (R72): none when PASID is not shown or the hall has none. -/
def State.hallPasid (s : State) (h : Nat) : Option Nat :=
  if s.pasidShown then some (s.tf .hcx h T_HCX.PASID) else none

/-- The reason an access for a hall through a window of a function fails R401; 0 when it passes. -/
def State.isoReason (s : State) (h func : Nat) (pasid : Option Nat) : Nat :=
  if !s.active pgHLM || !s.gb pgDEV DEV.FEAT_EN_HALLS then 7
  else if s.hallSt h == hlERROR || (s.hallSt h == hlBOUND && (s.hallTdisp h == 1 || s.hallTdisp h == 3)) then 5
  else if s.hallSt h != hlBOUND then 1
  else if s.hallFunc h != func then 2
  else if !s.pasidShown then 0
  else match pasid with
    | some p => if p == s.tf .hcx h T_HCX.PASID then 0 else 3
    | none => if s.tb .hcx h T_HCX.NOPASID then 0 else 4

/-- A failed isolation check (R401): captured with its reason and counted. -/
def State.isoFail (s : State) (func : Nat) (pasid : Option Nat) (win hall reason : Nat) : State :=
  let pas := match pasid with | some p => p % 2 ^ 20 * 2 ^ 8 + 2 ^ 28 | none => 0
  (s.cnt pgHLM HLM.CNT_ISO_FAILS).error pgHLM 1 0x02 (func % 256 + pas) (win % 2 ^ 15 + hall % 2 ^ 12 * 2 ^ 16) reason

/-! ### Accesses -/

def State.acc? (s : State) (i : Nat) : Option Acc := (s.brg.accs.find? (fun e => e.1 == i)).map (·.2)

/-- Whether a Caravan engine made an access. -/
def Acc.isEngine (a : Acc) : Bool := match a.who with | .engine _ _ _ _ _ => true | _ => false

/-- Whether a cascade link relays an access (R319). -/
def Acc.isRelay (a : Acc) : Bool := match a.who with | .relay _ _ _ => true | _ => false

/-- Whether an access was answered without all of its data: by expiry or by a failure (R99, R103). -/
def Acc.failed (a : Acc) : Bool := a.ended && (a.total == 0 || a.sent != a.total)

/-- Whether an access was answered (a write needs no answer, but for a relayed non-posted one) and no part of it is pending. -/
def Acc.settled (a : Acc) : Bool :=
  (a.ended || (a.op == .write && !(a.isRelay && a.parts.any (fun p => !p.posted)))) && a.parts.all (fun p => p.st == .finished)

/-- An access replaced, or removed once it is settled; an engine's stays as long as a frame of it may still fail (R380). -/
def State.putAcc (s : State) (i : Nat) (a : Acc) : State :=
  let over_ := a.settled && !a.isEngine
  { s with brg := { s.brg with
      accs := if over_ then s.brg.accs.filter (fun e => e.1 != i)
        else s.brg.accs.map (fun e => if e.1 == i then (i, a) else e) } }

/-- A part of an access, and a part replaced. -/
def State.part? (s : State) (i k : Nat) : Option Part := match s.acc? i with | some a => a.parts[k]? | none => none
def State.setPart (s : State) (i k : Nat) (p : Part) : State :=
  match s.acc? i with
  | some a => s.putAcc i { a with parts := a.parts.set k p }
  | none => s

/-- Whether an access is a non-posted write in a part. -/
def isNpw (a : Acc) (p : Part) : Bool := a.op == .write && !p.posted

/-- The enabled bytes of a part, and the station address of the first of them. -/
def Part.count (p : Part) : Nat := (p.cells.filter (·.isSome)).length
def Part.first (p : Part) : Nat := p.base + p.cells.findIdx (·.isSome)

/-- The byte enables of a word of a part. -/
def enables (l : List (Option Byte)) : Nat :=
  ((List.range 8).map (fun i => b2n ((l.getD i none).isSome) * 2 ^ i)).foldl (· + ·) 0

/-! ### Tags (R105, R246) -/

/-- A free tag of a link, tried in turn from the last one taken. DESIGN CHOICE, unsafe: log entry 44. -/
def State.freeTag (s : State) (a : Nat) : Option Nat :=
  let d := s.lard a
  if 1024 ≤ d.tags.length then none else
  ((List.range 1024).map (fun i => (d.nextTag + i) % 1024)).find? (fun t => !d.tags.any (fun r => r.tag == t))

/-- A tag taken for a use. -/
def State.takeTag (s : State) (a t : Nat) (u : TagUse) : State :=
  let d := s.lard a
  s.setLard a { d with tags := d.tags ++ [⟨t, u, s.upTime a⟩], nextTag := (t + 1) % 1024 }

/-- A tag released. -/
def State.dropTag (s : State) (a t : Nat) : State :=
  let d := s.lard a
  s.setLard a { d with tags := d.tags.filter (fun r => r.tag != t) }

/-- Reserve cells returned (R273). -/
def State.unreserve (s : State) (n : Nat) : State := { s with brg := { s.brg with rsv := s.brg.rsv - n } }

/-- The response reserve (R291), and whether it has cells that no reservation holds. -/
def State.rsvCells (s : State) : Nat := max 64 (s.gf pgSWC SWC.RSV_CTL_RSV_CELLS)
def State.canReserve (s : State) (n : Nat) : Bool := s.brg.rsv + n ≤ s.rsvCells

/-- A part is finished: its tag is released and its reserve returned. -/
def State.endPart (s : State) (i k : Nat) : State :=
  match s.part? i k with
  | none => s
  | some p =>
    let s := match p.tag with
      | some t => s.dropTag p.anchor t
      | none => s
    (s.unreserve p.rsv).setPart i k { p with tag := none, rsv := 0, st := .finished }

/-! ### The posted-write error log (R117 to R121) -/

/-- What an entry of the log records beside its cause and the time. -/
structure PwEntry where
  np   : Bool
  func : Nat
  hall : Nat
  win  : Nat
  link : Nat
  dev  : Nat
  addr : Nat
  len  : Nat
  code : Nat
  deriving DecidableEq, Repr

/-- The AER report of an entry (R120): the advisory of a station-side failure, or an Unsupported Request. -/
def State.pwAer (s : State) (cause func : Nat) : State :=
  if cause == 1 || cause == 2 || cause == 3 || cause == 5 then s.aerStation func
  else if cause == 7 then s.aerUr func true
  else s

/-- A write failure enters the log, or is counted as lost while the log is full. DEDUCED, unsafe: log entry 64. -/
def State.pwLog (s : State) (cause : Nat) (e : PwEntry) : State :=
  let n := s.gf pgBRG BRG.PWLOG_STS_COUNT
  if 256 ≤ n then (s.cnt pgBRG BRG.CNT_PWLOG_LOST).errorNoEvent pgBRG 0x05 cause e.hall 0
  else
    let i := (s.gf pgBRG BRG.PWLOG_STS_OLDEST + n) % 256
    let v := cause + b2n e.np * 2 ^ 4 + e.func % 256 * 2 ^ 8 + e.hall % 2 ^ 12 * 2 ^ 16 + e.win % 2 ^ 15 * 2 ^ 32
      + e.link % 2 ^ 10 * 2 ^ 47 + e.dev % 64 * 2 ^ 57 + e.addr % 2 ^ 64 * 2 ^ 64 + s.stamp * 2 ^ 128
      + e.len % 2 ^ 13 * 2 ^ 176 + e.code % 256 * 2 ^ 192
    let s := (s.setEnt .pwl i (BitVec.ofNat 1024 v)).sf pgBRG BRG.PWLOG_STS_COUNT (n + 1) |>.cnt pgBRG BRG.CNT_PW_ERRORS
    let s := s.event pgBRG 0
    let s := if n + 1 == 256 then s.event pgBRG 1 else s
    s.pwAer cause e.func

/-- The entry a part of a write makes. -/
def Part.entry (a : Acc) (p : Part) (code : Nat) : PwEntry :=
  ⟨isNpw a p, a.func, p.hall, p.win, if p.typ == 3 then 0 else p.link, if p.typ == 3 then 0 else p.dev, p.first, p.count, code⟩

/-- PWLOG_RELEASE (R117): the oldest entries are freed and read zero. -/
def State.pwRelease (s : State) (v : Word) : State :=
  let n := s.gf pgBRG BRG.PWLOG_STS_COUNT
  let r := min (fld v 0 9) n
  let o := s.gf pgBRG BRG.PWLOG_STS_OLDEST
  let s := s.each (List.range r) (fun i s => s.setEnt .pwl ((o + i) % 256) 0)
  s.sf pgBRG BRG.PWLOG_STS_COUNT (n - r) |>.sf pgBRG BRG.PWLOG_STS_OLDEST ((o + r) % 256)

def execPwlogRelease (value : Word) (s : State) : Host.Outcome State Fault Refusal := done (s.onPage pgBRG (.pwlogRelease value) (s.pwRelease value))

/-! ### The delayed-read store (R106 to R108) -/

/-- DR_MAP follows the entries. -/
def State.drMap (s : State) (i : Nat) (v : Bool) : State :=
  let f := if i < 32 then BRG.DR_MAP_LO_MAP else BRG.DR_MAP_HI_MAP
  s.sf pgBRG f (putBits (s.gf pgBRG f) (i % 32) 1 (b2n v))

/-- An entry of the store freed. -/
def State.drFree (s : State) (i : Nat) : State := (s.setEnt .drd i 0).drMap i false

/-- An entry discarded unreleased (R108). -/
def State.drDiscard (s : State) (i : Nat) : State :=
  ((s.drFree i).cnt pgBRG BRG.CNT_DR_TIMED_OUT).event pgBRG 4

/-- A late response (R106), stamped with the time it arrived (R107): stored, or discarded with error code 0x03. The bytes are
those the host asked for, after conversion; a part fetched for read-ahead alone has none, and is never stored. DEDUCED,
unsafe: log entry 66. -/
def State.lateResponse (s : State) (a : Acc) (p : Part) (tag stamp : Nat) (err : Bool) (data : List Byte) : State :=
  match (List.range 64).find? (fun i => !s.tb .drd i T_DRD.VALID) with
  | some i =>
    if s.gb pgBRG BRG.BRG_CTL_DR_EN && p.keep && p.len != 0 then
      let len := match a.op with | .atomic _ => p.count | _ => p.len
      let v := 1 + b2n (64 < len) * 2 + b2n err * 4 + a.func % 256 * 2 ^ 8 + p.hall % 2 ^ 12 * 2 ^ 16 + p.win % 2 ^ 15 * 2 ^ 32
        + len % 2 ^ 13 * 2 ^ 64 + p.addr % 2 ^ 64 * 2 ^ 128 + stamp * 2 ^ 192
        + (if err then 0 else ofBytes (data.take 64) * 2 ^ 256)
      ((s.setEnt .drd i (BitVec.ofNat 1024 v)).drMap i true).event pgBRG 3
    else (s.cnt pgBRG BRG.CNT_LATE_DISCARDED).errorNoEvent pgBRG 0x03 (p.anchor + tag * 2 ^ 10) p.hall 0
  | none => (s.cnt pgBRG BRG.CNT_LATE_DISCARDED).errorNoEvent pgBRG 0x03 (p.anchor + tag * 2 ^ 10) p.hall 0

/-- DR_RELEASE (R108): an entry released by software. -/
def State.drRelease (s : State) (v : Word) : State :=
  if bitAt v.toNat 8 && s.tb .drd (fld v 0 6) T_DRD.VALID then s.drFree (fld v 0 6) else s
def execDrRelease (value : Word) (s : State) : Host.Outcome State Fault Refusal := done (s.onPage pgBRG (.drRelease value) (s.drRelease value))

/-- DR_HOLD_EXPIRY (R108): HOLD_US after its stamp an entry is discarded. -/
def execDrHoldExpiry (index : Nat) (s : State) : Host.Outcome State Fault Refusal :=
  done (if index < 64 && s.tb .drd index T_DRD.VALID
      && us (s.gf1 pgBRG BRG.DR_CTL_HOLD_US) ≤ subMod s.stamp (s.tf .drd index T_DRD.STAMP) 48 then s.drDiscard index else s)

/-! ### Completions to the host (R63) -/

/-- The pieces of a read's data from one offset up to another: at most the maximum payload each, every one but the last
ending at a multiple of the read completion boundary. DEDUCED, unsafe: log entry 61. -/
def cplPieces (fuel base from_ upTo mps rcb : Nat) (last : Bool) : List (Nat × Nat) :=
  match fuel with
  | 0 => []
  | fuel + 1 =>
    if upTo ≤ from_ then []
    else
      let cap := min upTo (from_ + mps)
      let cut := if cap == upTo && last then upTo else (base + cap) / rcb * rcb - base
      if cut ≤ from_ then [] else (from_, cut) :: cplPieces fuel base cut upTo mps rcb last

/-- The maximum payload and the read completion boundary of a function. -/
def State.mps (s : State) (func : Nat) : Nat := 128 * 2 ^ min 5 (s.cfgRaw func .maxPayload)
def State.rcbOf (s : State) (func : Nat) : Nat := if s.cfgRaw func .rcb == 1 then 128 else 64

/-- A successful completion of a whole read. DESIGN CHOICE, unsafe: log entry 23; DEDUCED, unsafe: log entry 61. -/
def State.complete_ (s : State) (func tag addr : Nat) (data : List Byte) : State :=
  s.each (cplPieces 128 addr 0 data.length (s.mps func) (s.rcbOf func) true) (fun e s =>
    s.emit (.cpl tag .sc ((data.drop e.1).take (e.2 - e.1))))

/-- An Unsupported Request answer of a non-posted host request (R75, R85). -/
def State.urAnswer (s : State) (func tag : Nat) (hdr : List Word := []) : State :=
  ((s.cnt pgHST HST.CNT_UR_SENT).emit (.cpl tag .ur [])).aerUr func false hdr

/-- A Completer Abort answer (R98): Signaled Target Abort is set, and no AER message is sent. -/
def State.caAnswer (s : State) (func tag : Nat) : State :=
  (s.setCfg func .sigTargetAbort 1).emit (.cpl tag .ca [])

end Sys2Proof.Machine
end

