-- ==== Sys2Proof/Machine/Gallery.lean ====
section
/-!
DEFINITION. The Gallery (R265 to R298): cells, accounts and admission, WRED, queues, held traffic, flush and session sweep,
bank retirement, the auditor, and spill into the Erg.
-/

namespace Sys2Proof.Machine

/-! ### Frames and queues -/

def State.galFrame (s : State) (i : Nat) : Option GFrame := (s.gal.frames.find? (fun e => e.1 == i)).map (·.2)
def State.putFrame (s : State) (i : Nat) (g : GFrame) : State :=
  { s with gal := { s.gal with frames := s.gal.frames.map (fun e => if e.1 == i then (i, g) else e) } }
def State.queue (s : State) (q : Nat) : List Ref := SMap.get (fun _ => []) s.gal.queues q
def State.setQueue (s : State) (q : Nat) (l : List Ref) : State :=
  { s with gal := { s.gal with queues := SMap.set (fun _ => []) s.gal.queues q l } }

/-- Queue and account numbers (R269, R271). -/
def hostQueue (h c : Nat) : Nat := 8192 + 8 * h + c
def portQueue (n c : Nat) : Nat := 8 * n + c
def isHostQueue (q : Nat) : Bool := 8192 ≤ q

/-- The cells a frame takes (R266), its cascade word apart. -/
def frameCells (f : Frame) : Nat := ceilDiv (16 + f.payload) 256

/-! ### Space (R272) -/

/-- Whether a bank is retired or being retired (R287). -/
def State.bankRetired (s : State) (b : Nat) : Bool :=
  bitAt (s.gf pgSWC (if b < 32 then SWC.RETIRED_LO_MAP else SWC.RETIRED_HI_MAP)) (b % 32)
def State.bankOut (s : State) (b : Nat) : Bool := s.bankRetired b || s.gal.retiring.any (fun e => e.1 == b)

/-- Cells in service, in use, and in use by responses. -/
def State.allCells (s : State) : Nat := (64 - s.gf pgSWC SWC.GAL_STS_RETIRED_N) * 4096
def State.cellsUsed (s : State) : Nat := (s.gal.frames.map (fun e => e.2.cells.length)).foldl (· + ·) 0
def State.cellsResp (s : State) : Nat :=
  ((s.gal.frames.filter (fun e => e.2.acct.isNone)).map (fun e => e.2.cells.length)).foldl (· + ·) 0

/-- Whether k free cells outside the response reserve exist. DEDUCED, unsafe: log entry 70. -/
def State.hasCells (s : State) (k : Nat) : Bool := s.cellsUsed - s.cellsResp + k + s.rsvCells ≤ s.allCells

/-- T, the sum of the guarantees, the pool size S, the shared cells of an account and of all, and the free shared space F. -/
def State.spaceT (s : State) : Nat := s.allCells + s.gf pgSWC SWC.SPILL_STS_SPILL_CELLS
def State.guarSum (s : State) : Nat := ((s.listed .acc).map (fun e => fld e.2 T_ACC.MIN.lo T_ACC.MIN.w)).foldl (· + ·) 0
def State.guarOver (s : State) : Bool := s.spaceT < s.guarSum + s.rsvCells
def State.poolSize (s : State) : Nat := s.spaceT - s.guarSum - s.rsvCells
def State.sharedAll (s : State) : Nat :=
  ((s.listed .acc).map (fun e => fld e.2 T_ACC.USED.lo T_ACC.USED.w - fld e.2 T_ACC.MIN.lo T_ACC.MIN.w)).foldl (· + ·) 0
def State.freeShared (s : State) : Nat := s.poolSize - s.sharedAll

/-- The dynamic threshold factor in 64ths (R292). -/
def alpha64 (a : Nat) : Nat := if 1 ≤ a ∧ a ≤ 10 then 2 ^ (a - 1) else 0

/-- The admission test (R274). -/
def State.admits (s : State) (a k : Nat) : Bool :=
  let used := s.tf .acc a T_ACC.USED
  let mn := s.tf .acc a T_ACC.MIN
  let f := s.freeShared
  used + k ≤ mn || ((used + k - mn) * 64 ≤ alpha64 (s.tf .acc a T_ACC.ALPHA) * f && (used + k - mn) - (used - mn) ≤ f)

/-- The spill cells in use, of a channel and of all. -/
def State.spillUsed (s : State) (c : Nat) : Nat :=
  ((s.gal.frames.filter (fun e => e.2.spill == some c && e.2.back != 2)).map (fun e => e.2.size)).foldl (· + ·) 0

/-- SPILLING follows the free cells (R280). -/
def State.spillUpdate (s : State) : State :=
  let on_ := s.gf pgSWC SWC.SPILL_ON_ON
  let off := max on_ (s.gf pgSWC SWC.SPILL_OFF_OFF)
  let free := s.allCells - s.cellsUsed
  let was := s.gb pgSWC SWC.GAL_STS_SPILLING
  if !s.gb pgSWC SWC.SWC_CTL_SPILL_EN || s.gf pgSWC SWC.SPILL_STS_SPILL_CELLS == 0 then s.sf pgSWC SWC.GAL_STS_SPILLING 0
  else if !was && free < on_ then (s.sf pgSWC SWC.GAL_STS_SPILLING 1).event pgSWC 4
  else if was && off < free then s.sf pgSWC SWC.GAL_STS_SPILLING 0
  else s

/-- The frames inside that recorded the former epoch (R309). -/
def State.oldFrames (s : State) : Nat :=
  let old := fun (g : GFrame) => g.epoch == some (!s.gb pgWAD WAD.EPOCH_STS_CUR)
  (s.gal.frames.filter (fun e => old e.2)).length + (s.gal.waiting.filter (fun w => old w.frame)).length

/-- The status registers of the Gallery are brought up to date; a rise of GUAR_OVER is reported (R272, R290). DEDUCED, unsafe: log entry 70. -/
def State.galUpdate (s : State) : State :=
  if !s.active pgSWC then s else
  let s := s.sf pgSWC SWC.GAL_STS_FREE (s.allCells - s.cellsUsed) |>.sf pgSWC SWC.POOL_STS_SHARED_SIZE s.poolSize
    |>.sf pgSWC SWC.SHARED_USED_USED s.sharedAll |>.sf pgSWC SWC.GUAR_SUM_SUM s.guarSum
    |>.sf pgSWC SWC.SPILL_USED_USED (((List.range 4).map s.spillUsed).foldl (· + ·) 0)
  let inUse := (s.gal.frames.filter (fun e => e.2.back == 2)).length
  let s := s.sf pgSWC SWC.RESEQ_STS_IN_USE inUse |>.sf pgSWC SWC.RESEQ_STS_PEAK (max inUse (s.gf pgSWC SWC.RESEQ_STS_PEAK))
    |>.sf pgWAD WAD.EPOCH_STS_OLD_FRAMES s.oldFrames
  let was := s.gb pgSWC SWC.GUAR_SUM_GUAR_OVER
  let s := s.sf pgSWC SWC.GUAR_SUM_GUAR_OVER (b2n s.guarOver)
  let s := if s.guarOver && !was then s.error pgSWC 6 0x07 s.guarSum s.spaceT s.rsvCells else s
  s.spillUpdate

/-! ### Cells -/

/-- The first cell number from i on that is not taken. -/
def firstFree : Nat → Nat → List Nat → Nat
  | 0, i, _ => i
  | n + 1, i, l => if l.contains i then firstFree n (i + 1) l else i

/-- k cells from different banks in turn, beginning with a bank (R265); banks that are out or full are passed over.
DESIGN CHOICE, unsafe: log entry 44. -/
def pickCells (out : Nat → Bool) : Nat → Nat → List Nat → List Nat × Nat
  | 0, b, _ => ([], b)
  | k + 1, b, taken =>
    match ((List.range 64).map (fun i => (b + i) % 64)).find? (fun b => !out b && firstFree 4096 (4096 * b) taken < 4096 * (b + 1)) with
    | none => ([], b)
    | some b' =>
      let c := firstFree 4096 (4096 * b') taken
      let r := pickCells out k ((b' + 1) % 64) (c :: taken)
      (c :: r.1, r.2)

/-- Cells are taken from the free list. -/
def State.takeCells (s : State) (k : Nat) : State × List Nat :=
  let r := pickCells s.bankOut k s.gal.bank s.gal.taken
  ({ s with gal := { s.gal with bank := r.2, taken := r.1 ++ s.gal.taken } }, r.1)

/-- Cells return to the free list. -/
def State.freeCells (s : State) (l : List Nat) : State :=
  { s with gal := { s.gal with taken := s.gal.taken.filter (fun c => !l.contains c) } }

/-! ### Leaving a queue -/

/-- The last reference of a frame is gone: its cells, its charge or its reserve, and its place are released (R273, R274). -/
def State.releaseFrame (s : State) (i : Nat) (g : GFrame) : State :=
  let s := s.freeCells g.cells
  let s := match g.acct with
    | some a => s.st .acc a T_ACC.USED (s.tf .acc a T_ACC.USED - g.size)
    | none => s.unreserve g.size
  { s with gal := { s.gal with frames := s.gal.frames.filter (fun e => e.1 != i) } }

/-- A reference leaves a queue. -/
def State.dropRef (s : State) (q : Nat) (r : Ref) : State :=
  let s := s.setQueue q ((s.queue q).filter (fun x => !(x.frame == r.frame && x.esn == r.esn)))
  match s.galFrame r.frame with
  | none => s
  | some g =>
    let s := s.st .que q T_QUE.DEPTH (s.tf .que q T_QUE.DEPTH - g.size) |>.st .que q T_QUE.FRAMES (s.tf .que q T_QUE.FRAMES - 1)
    let g := { g with refs := g.refs - 1 }
    (if g.refs == 0 then s.releaseFrame r.frame g else s.putFrame r.frame g).galUpdate

/-- The log entry a discarded write frame makes: its window is its context, its bytes are the enabled ones. -/
def frameEntry (anchor : Nat) (c : Cargo) (word : Option Word64) : PwEntry :=
  let f := c.frame
  let n := f.words.length
  let fb := f.fbe
  let lb := if n ≤ 1 then fb else f.lbe
  let lead := (List.range 8).findIdx (fun i => bitAt fb i)
  let count := if n ≤ 1 then popCount 8 fb else popCount 8 fb + 8 * (n - 2) + popCount 8 lb
  let far := match c.tgt, word with
    | some (l, d, _), _ => (l, d)
    | none, some w => (fld w 12 10, fld w 6 6)
    | none, none => (anchor, 0)
  ⟨f.op == opNPW, c.func, c.hall.getD 0, f.ctx, far.1, far.2, f.addr + lead, count, 0⟩

/-- What a frame carries of its owner when it leaves the Gallery. -/
def GFrame.cargo (g : GFrame) : Cargo :=
  ⟨g.frame, g.hall, g.func, g.tgt, match g.load with | .request a k => some (a, k) | _ => none⟩

/-- A write frame of the host or a Caravan engine that a fresh start discards is logged with CAUSE 0x3 (R125); the part of a
non-posted request is at its end, and a write that expired has its entry already. -/
def State.loseCargo (s : State) (anchor : Nat) (c : Cargo) (word : Option Word64) (log : Bool) : State :=
  let f := c.frame
  match c.acc with
  | none => s
  | some (i, k) =>
    if f.op == opPW then if log then s.pwLog 3 (frameEntry anchor c word) else s
    else
      match s.acc? i, s.part? i k with
      | some a, some p =>
        if p.st == .finished then s else
        let s := if log && f.op == opNPW && !a.ended then s.pwLog 3 { p.entry a 0 with np := true } else s
        s.endPart i k
      | _, _ => s

/-- Why a stored frame is discarded. -/
inductive Loss where
  | flushed | stale | ecc (bank : Nat) | generation | gate | refused | detached
  deriving DecidableEq, Repr

/-- An uncorrectable frame is reported (R282, R286): with the channel when it was spilled, with the cell otherwise. Host and
Caravan traffic makes the report of an internal fault. -/
def State.eccReport (s : State) (q : Nat) (g : GFrame) (cell : Nat) : State :=
  let s := s.cnt pgSWC SWC.CNT_ECC_DISCARDS
  let s := match g.spill with
    | some c => s.error pgSWC 0 0x05 c q 0
    | none => s.error pgSWC 0 0x01 (cell / 4096 + cell % 4096 * 2 ^ 6) q 0
  match g.load with
  | .request _ _ | .memWr _ _ _ _ | .memRd _ _ => s.internalReport pgSWC (if g.spill.isSome then 0x05 else 0x01) g.hall
  | .msg | .rsp _ _ | .relay => s

/-- One reference of a queue is discarded (R279, R284 to R286, R337, R409). -/
def State.discardRef (s : State) (q : Nat) (r : Ref) (why : Loss) : State :=
  match s.galFrame r.frame with
  | none => s.dropRef q r
  | some g =>
    let anchor := q / 8
    let s := match why with
      | .flushed => s.cnt pgSWC SWC.CNT_FLUSHED
      | .stale => match g.load with
        | .request _ _ => if g.mc then s.cnt pgSWC SWC.CNT_STALE_DISCARDS else s
        | _ => s.cnt pgSWC SWC.CNT_STALE_DISCARDS
      | .ecc cell => s.eccReport q g cell
      | .generation => s.cnt pgHLM HLM.CNT_GEN_DISCARDS
      | .detached => (s.cnt pgSWC SWC.CNT_MC_DETACHED).event pgSWC 8
      | .gate | .refused => s
    let s := match g.load with
      | .request _ _ => s.loseCargo anchor g.cargo r.word (why == Loss.stale && !g.mc)
      | .rsp i k => s.endPart i k
      | .msg | .memWr _ _ _ _ | .memRd _ _ | .relay => s
    s.dropRef q r

/-! ### Entering a queue -/

/-- Whether a reference to a queue of a link is released at once: multicast, past the detach time (R279). -/
def State.detaches (s : State) (a : Nat) : Bool :=
  let d := s.gf pgSWC SWC.MC_CTL_DETACH_MS
  d != 0 && s.lk a != lkUP && s.lk a != lkSPARING && s.due ((s.link a).downAt + ms d)

/-- A reference is appended to a queue with the session and the next egress sequence number (R269, R281, R284). A queue of a
DISABLED link discards it as flushed (R285). -/
def State.appendRef (s : State) (i q : Nat) (word : Option Word64) : State :=
  match s.galFrame i with
  | none => s
  | some g =>
    let esn := SMap.get (fun _ => 0) s.gal.esns q
    let r : Ref := ⟨i, if isHostQueue q then s.hallGen ((q - 8192) / 8) else (s.link (q / 8)).session, esn, word⟩
    let s := { s with gal := { s.gal with esns := SMap.set (fun _ => 0) s.gal.esns q ((esn + 1) % 65536) } }
    let s := (s.setQueue q (s.queue q ++ [r])).st .que q T_QUE.DEPTH (s.tf .que q T_QUE.DEPTH + g.size)
      |>.st .que q T_QUE.FRAMES (s.tf .que q T_QUE.FRAMES + 1)
    if isHostQueue q then s
    else if s.lk (q / 8) == lkDISABLED then s.discardRef q r .flushed
    else if g.mc && s.detaches (q / 8) then s.discardRef q r .detached
    else s

/-- The Erg channel the next spilled frame goes to (R282): the next counted one with room. -/
def State.spillChan (s : State) (k : Nat) : Option Nat :=
  ((List.range 4).map (fun i => (s.gal.chan + i) % 4)).find? (fun c => s.gal.joined.contains c
    && s.spillUsed c + k ≤ min 128 (s.gf (pgERGC c) ERGC.CH_CTL_SPILL_SIZE) * 262144)

/-- A frame with its references enters the Gallery (R269, R271, R273, R280): charged, stored in cells or in the Erg, counted
and appended. The response reserve has been checked by the caller. -/
def State.storeIn (s : State) (g : GFrame) (queues : List (Nat × Option Word64)) (spill : Option Nat) : State :=
  let (s, cells) := if spill.isSome then (s, []) else s.takeCells g.size
  let i := s.gal.next
  let g := { g with cells := cells, spill := spill, refs := queues.length, order := s.gal.arrival }
  let s := { s with gal := { s.gal with
      frames := s.gal.frames ++ [(i, g)], next := i + 1, arrival := s.gal.arrival + 1
      chan := match spill with | some c => (c + 1) % 4 | none => s.gal.chan } }
  let s := match g.acct with
    | some a => s.st .acc a T_ACC.USED (s.tf .acc a T_ACC.USED + g.size)
    | none => s
  let s := s.cnt pgSWC SWC.CNT_FRAMES_IN
  let s := match spill with
    | some c => (s.cnt pgSWC SWC.CNT_SPILLED).cnt (pgERGC c) ERGC.CNT_SPILL_WRITES
    | none => s
  (s.each queues (fun e s => s.appendRef i e.1 e.2)).galUpdate

/-- Whether a frame should be spilled (R280). DEDUCED, unsafe: log entry 72. -/
def State.wantsSpill (s : State) (g : GFrame) (queues : List (Nat × Option Word64)) : Bool :=
  s.gb pgSWC SWC.SWC_CTL_SPILL_EN && s.gf pgSWC SWC.SPILL_STS_SPILL_CELLS != 0 && s.gb pgSWC SWC.GAL_STS_SPILLING
    && !g.mc && g.acct.isSome && queues.all (fun e => s.tb .que e.1 T_QUE.SPILL_OK)

/-- Placement of an admitted frame (R275, R280): in the Erg, in the Gallery, or nowhere; nowhere with the spill region full is
reported. DEDUCED, unsafe: log entry 72. -/
def State.place (s : State) (g : GFrame) (queues : List (Nat × Option Word64)) : State × Bool :=
  if s.wantsSpill g queues then
    match s.spillChan g.size with
    | some c => (s.storeIn g queues (some c), true)
    | none =>
      if s.hasCells g.size then (s.storeIn g queues none, true)
      else (s.error pgSWC 5 0x06 (match queues with | e :: _ => e.1 | [] => 0) 0 0, false)
  else if s.hasCells g.size then (s.storeIn g queues none, true)
  else (s, false)

/-- A charged frame is admitted and placed, or not (R274, R289). -/
def State.tryStore (s : State) (g : GFrame) (queues : List (Nat × Option Word64)) : State × Bool :=
  match g.acct with
  | none => (s.storeIn g queues none, true)
  | some a => if s.active pgSWC && !s.quiesce pgSWC && s.admits a g.size then s.place g queues else (s, false)

/-- The frames of an account that wait, and whether a frame must queue behind them or behind other host-port frames (R275).
DEDUCED, unsafe: log entry 63. -/
def State.mustWait (s : State) (a : Nat) (host : Bool) : Bool :=
  s.gal.waiting.any (fun w => w.frame.acct == some a || (host && w.host))

/-- A host, Caravan, REQUEST or EVENT frame is admitted or waits (R275, R317). DEDUCED, unsafe: log entry 63. -/
def State.storeOrWait (s : State) (g : GFrame) (queues : List (Nat × Option Word64)) (host : Bool) : State :=
  match g.acct with
  | none => s.storeIn g queues none
  | some a =>
    let wait := fun (s : State) =>
      let s := { s with gal := { s.gal with waiting := s.gal.waiting ++ [(⟨g, queues, host⟩ : GWait)] } }
      (s.cnt pgSWC SWC.CNT_HOST_WAITS).st .acc a T_ACC.WAITING 1
    if s.mustWait a host then wait s
    else match s.tryStore g queues with
      | (s, true) => s
      | (s, false) => wait s

/-- The first waiting frame of an account, unless an earlier host-port frame keeps it waiting. -/
def State.nextWait (s : State) (a : Nat) : Option GWait :=
  match s.gal.waiting.find? (fun w => w.frame.acct == some a) with
  | none => none
  | some w =>
    if w.host && (s.gal.waiting.find? (fun v => v.host)) != some w then none else some w

/-- ADMISSION_RESUME (R275): the first waiting frame of an account is admitted when R274 allows. -/
def State.resumeAdmission (s : State) (a : Nat) : State :=
  match s.nextWait a with
  | none => s
  | some w =>
    match s.tryStore w.frame w.queues with
    | (s', true) =>
      let s' := { s' with gal := { s'.gal with waiting := s'.gal.waiting.erase w } }
      s'.st .acc a T_ACC.WAITING (b2n (s'.gal.waiting.any (fun v => v.frame.acct == some a)))
    | (s', false) => s'

/-! ### WRED (R276, R277) -/

/-- The thresholds of a colour (0 green, 1 yellow, 2 red) of a profile. -/
def State.wredCurve (s : State) (prof colour : Nat) : Nat × Nat × Nat :=
  match colour with
  | 0 => (s.tf .wrp prof T_WRP.G_MIN_TH, s.tf .wrp prof T_WRP.G_MAX_TH, s.tf .wrp prof T_WRP.G_MAX_P)
  | 1 => (s.tf .wrp prof T_WRP.Y_MIN_TH, s.tf .wrp prof T_WRP.Y_MAX_TH, s.tf .wrp prof T_WRP.Y_MAX_P)
  | _ => (s.tf .wrp prof T_WRP.R_MIN_TH, s.tf .wrp prof T_WRP.R_MAX_TH, s.tf .wrp prof T_WRP.R_MAX_P)

/-- The new average of a queue at an enqueue attempt (R276). -/
def wredAvg (avg depth w : Nat) : Nat := ((avg : Int) + ((depth : Int) - (avg : Int)) / (2 ^ w : Nat)).toNat

/-- The decision of a curve for an average and a draw of 16 bits (R277): true drops. -/
def wredDrops (mn mx p avg r : Nat) : Bool :=
  if mx ≤ avg then true
  else if avg < mn then false
  else r * (mx - mn) < p * 256 * (avg - mn)

/-- WRED at a queue for a station frame of a colour: the average moves, and the frame is dropped or passed. -/
def State.wred (s : State) (q colour : Nat) : State × Bool :=
  if s.tb .que q T_QUE.WRED_EN then
    let avg := wredAvg (s.tf .que q T_QUE.AVG) (s.tf .que q T_QUE.DEPTH) (s.tf .que q T_QUE.WRED_W)
    let s := s.st .que q T_QUE.AVG avg
    let (mn, mx, p) := s.wredCurve (s.tf .que q T_QUE.WRED_PROF) colour
    if wredDrops mn mx p avg (s.nextFree 16) then (s.drawn.cnt pgSWC SWC.CNT_WRED_DROPS, true) else (s.drawn, false)
  else (s, false)

/-! ### Flush, sweep, detach (R279, R284, R285) -/

/-- Every reference of a queue is discarded as flushed, and its average is 0. DEDUCED, unsafe: log entry 73. -/
def State.flushQueue (s : State) (q : Nat) : State :=
  (s.each (s.queue q) (fun r s => s.discardRef q r .flushed)).st .que q T_QUE.AVG 0

/-- QUEUE_FLUSH (R285): a GO for an existing queue while no flush runs. DEDUCED, unsafe: log entry 73. -/
def State.queueFlush (s : State) (v : Word) : State :=
  let q := fld v 0 16
  if s.gb pgSWC SWC.QFLUSH_BUSY then s.sf pgSWC SWC.QFLUSH_QUEUE q
  else
    let s := s.sf pgSWC SWC.QFLUSH_QUEUE q
    if bitAt v.toNat 16 && q < 40960 then
      let s := s.sf pgSWC SWC.QFLUSH_BUSY 1
      { s with gal := { s.gal with flushing := some q } }.flushQueue q
    else s

def execQueueFlush (value : Word) (s : State) : Host.Outcome State Fault Refusal := 
  done (s.onPage pgSWC (.queueFlush value) (s.queueFlush value))

/-- QUEUE_FLUSH_DONE (R285): BUSY clears and FLUSH_DONE is set. -/
def execQueueFlushDone (s : State) : Host.Outcome State Fault Refusal :=
  done (if s.gb pgSWC SWC.QFLUSH_BUSY then
    { s with gal := { s.gal with flushing := none } }.sf pgSWC SWC.QFLUSH_BUSY 0 |>.event pgSWC 9 else s)

/-- A fresh start with a station met before advances the session and discards what the link's queues held (R284). DEDUCED, unsafe: log entry 73. -/
def State.sessionSweep (s : State) (a : Nat) : State :=
  let l := s.link a
  let new := (l.session + 1) % 256
  let s := s.setLink a { l with session := new, sweeping := true }
  let n := ((List.range 8).map (fun c => ((s.queue (8 * a + c)).filter (fun r => r.session != new)).length)).foldl (· + ·) 0
  let s := s.each (List.range 8) (fun c s =>
    s.each ((s.queue (8 * a + c)).filter (fun r => r.session != new)) (fun r s => s.discardRef (8 * a + c) r .stale))
  s.error pgSWC 7 0x08 (a + new * 2 ^ 10) n 0

/-- SESSION_SWEEP_DONE (R284): the link sends queued frames again. -/
def execSessionSweepDone (anchor : Nat) (s : State) : Host.Outcome State Fault Refusal :=
  done (s.setLink anchor { s.link anchor with sweeping := false })

/-- MC_DETACH (R279): the multicast references of a queue whose link has been out of UP for DETACH_MS are released. -/
def State.mcDetach (s : State) (q : Nat) : State :=
  if !isHostQueue q && s.detaches (q / 8) then
    s.each ((s.queue q).filter (fun r => match s.galFrame r.frame with | some g => g.mc | none => false))
      (fun r s => s.discardRef q r .detached)
  else s

def execMcDetach (queue : Nat) (s : State) : Host.Outcome State Fault Refusal := done (s.mcDetach queue)

/-! ### Banks (R287) -/

/-- The retirement of a bank is decided: at most four banks. -/
def State.retireBank (s : State) (b : Nat) (auto : Bool) : State :=
  if 64 ≤ b || s.bankOut b then s
  else if 4 ≤ s.gf pgSWC SWC.GAL_STS_RETIRED_N + s.gal.retiring.length then s.error pgSWC 2 0x03 b 0 0
  else { s with gal := { s.gal with retiring := s.gal.retiring ++ [(b, auto)] } }

/-- BANK_RETIRE (R287, R291). -/
def State.bankRetire (s : State) (bank : Nat) : State :=
  (s.sf pgSWC SWC.BANK_CTL_BANK bank).onlyIf (s.active pgSWC) (fun s => s.retireBank (bank % 64) false)
def execBankRetire (bank : Nat) (s : State) : Host.Outcome State Fault Refusal := 
  done (s.onPage pgSWC (.bankRetire bank) (s.bankRetire bank))

/-- BANK_RETIRE_AUTO (R287): an uncorrectable error, or more than ECC_TH corrected ones within 1 ms. -/
def execBankRetireAuto (bank : Nat) (uncorrectable : Bool) (corrected : Nat) (s : State) :
    Host.Outcome State Fault Refusal :=
  done (if s.active pgSWC && s.gb pgSWC SWC.SWC_CTL_AUTO_RETIRE
      && (uncorrectable || s.gf1 pgSWC SWC.SWC_CTL_ECC_TH < corrected) then s.retireBank bank true else s)

/-- The cells of a frame in a bank move to other banks; a frame with an unreadable cell is marked. -/
def State.moveFrame (s : State) (b : Nat) (unreadable : List Nat) (i : Nat) : State :=
  match s.galFrame i with
  | none => s
  | some g =>
    if g.cells.any (fun c => unreadable.contains c) then
      s.putFrame i { g with
        bad := true
        cells := g.cells.filter (fun c => unreadable.contains c) ++ g.cells.filter (fun c => !unreadable.contains c) }
    else
      let old := g.cells.filter (fun c => c / 4096 == b)
      let (s, new) := s.takeCells old.length
      if new.length == old.length then
        (s.putFrame i { g with cells := g.cells.filter (fun c => c / 4096 != b) ++ new }).freeCells old
      else s.freeCells new

/-- Whether a frame has a cell in a bank whose cells still move: it is not read out (R287). -/
def State.moving (s : State) (g : GFrame) : Bool := g.cells.any (fun c => s.gal.retiring.any (fun e => e.1 == c / 4096))

/-- BANK_RETIRE_DONE (R287): the cells have moved and the retirement is recorded. -/
def State.retireDone (s : State) (b : Nat) (unreadable : List Nat) : State :=
  match s.gal.retiring.find? (fun e => e.1 == b) with
  | none => s
  | some (_, auto) =>
    let hit := s.gal.frames.filter (fun e => e.2.cells.any (fun c => c / 4096 == b))
    let bad := hit.filter (fun e => e.2.cells.any (fun c => unreadable.contains c))
    let moved := ((hit.filter (fun e => !bad.contains e)).map
      (fun e => (e.2.cells.filter (fun c => c / 4096 == b)).length)).foldl (· + ·) 0
    let s := s.each hit (fun e s => s.moveFrame b unreadable e.1)
    let f := if b < 32 then SWC.RETIRED_LO_MAP else SWC.RETIRED_HI_MAP
    let s := s.sf pgSWC f (putBits (s.gf pgSWC f) (b % 32) 1 1)
      |>.sf pgSWC SWC.GAL_STS_RETIRED_N (s.gf pgSWC SWC.GAL_STS_RETIRED_N + 1)
    let s := { s with gal := { s.gal with retiring := s.gal.retiring.filter (fun e => e.1 != b) } }
    (s.error pgSWC 1 0x02 (b + b2n auto * 2 ^ 6) moved bad.length).galUpdate

def execBankRetireDone (bank : Nat) (unreadable : List Nat) (s : State) : Host.Outcome State Fault Refusal :=
  done (s.retireDone bank unreadable)

/-! ### The auditor (R288) -/

/-- AUDIT_SWEEP: the timer starts a sweep when none is running. -/
def execAuditSweep (s : State) : Host.Outcome State Fault Refusal :=
  done (if s.active pgSWC && s.gb pgSWC SWC.AUD_CTL_EN && s.gal.audit.isNone
      && s.due (s.gal.auditAt + ms (s.gf1 pgSWC SWC.AUD_CTL_INTERVAL_MS)) then
    { s with gal := { s.gal with audit := some s.clock, auditAt := s.clock } } else s)

/-- The end of a sweep: a taken cell that no frame has, in this sweep and in the one before, is returned. DESIGN CHOICE, unsafe: log entry 74. -/
def State.auditEnd (s : State) : State :=
  let lost := s.gal.taken.filter (fun c => !s.gal.frames.any (fun e => e.2.cells.contains c))
  let twice := lost.filter (fun c => s.gal.unowned.contains c)
  let s := { s with gal := { s.gal with audit := none, unowned := lost.filter (fun c => !twice.contains c) } }
  if twice.isEmpty then s else
    let s := (s.freeCells twice).cnt pgSWC SWC.CNT_LEAKED_CELLS twice.length |>.sf pgSWC SWC.AUD_STS_LAST_LEAKED twice.length
    (s.error pgSWC 3 0x04 twice.length (twice.foldl min (2 ^ 19)) 0).galUpdate

/-- AUDIT_SWEEP_DONE: every cell has been visited at one cell per 4 ns. -/
def execAuditSweepDone (s : State) : Host.Outcome State Fault Refusal :=
  done (match s.gal.audit with
    | some t => if s.due (t + 4 * (262144 + s.gf pgSWC SWC.SPILL_STS_SPILL_CELLS)) then s.auditEnd else s
    | none => s)

/-! ### Spill read-back (R281, R282) -/

/-- Whether a reference is old (R407): its hall's generation is no longer the one it was made under. -/
def State.refOld (s : State) (q : Nat) (r : Ref) : Bool :=
  if isHostQueue q then r.session != s.hallGen ((q - 8192) / 8)
  else match s.galFrame r.frame with
    | some g => (match g.hall with | some h => g.gen != s.hallGen h | none => false)
    | none => false

/-- The first frame among the first eight of a queue that is spilled and not being read back. -/
def State.readbackNext (s : State) (q : Nat) : Option (Ref × GFrame) :=
  ((s.queue q).take 8).findSome? (fun r => match s.galFrame r.frame with
    | some g => if g.spill.isSome && g.back == 0 && !g.bad then some (r, g) else none
    | none => none)

/-- SPILL_READBACK: it waits for a resequencer entry and for free cells; an old frame is discarded (R409). -/
def State.readback (s : State) (q : Nat) : State :=
  match s.readbackNext q with
  | none => s
  | some (r, g) =>
    if s.refOld q r then s.discardRef q r .generation
    else if (s.gal.frames.filter (fun e => e.2.back != 0)).length < 4096 && s.hasCells g.size then
      let (s, cells) := s.takeCells g.size
      (s.putFrame r.frame { g with back := 1, cells := cells }).galUpdate
    else s

def execSpillReadback (queue : Nat) (s : State) : Host.Outcome State Fault Refusal := done (s.readback queue)

/-- SPILL_READBACK_DONE: the copy enters the resequencer, or the frame is marked to be discarded at its turn. -/
def State.readbackDone (s : State) (i : Nat) (ok : Bool) : State :=
  match s.galFrame i with
  | none => s
  | some g =>
    if g.back != 1 then s
    else match g.spill with
      | none => s
      | some c =>
        let s := s.cnt (pgERGC c) ERGC.CNT_SPILL_READS
        (s.putFrame i { g with back := if ok then 2 else 1, bad := !ok }).galUpdate

def execSpillReadbackDone (frame : Nat) (ok : Bool) (s : State) : Host.Outcome State Fault Refusal :=
  done (s.readbackDone frame ok)

/-! ### Refused wakes of SWC (R18) -/

/-- NA_LOCKOUT_END: 100 µs after a refusal new requests for the group are allowed. -/
def execNaLockoutEnd (group : Nat) (s : State) : Host.Outcome State Fault Refusal :=
  done { s with gal := { s.gal with naLock := s.gal.naLock.filter (fun e => !(e.1 == group && s.due e.2)) } }

/-- Whether a group is locked out. -/
def State.naLocked (s : State) (a : Nat) : Bool := s.gal.naLock.any (fun e => e.1 == a / 16)

end Sys2Proof.Machine
end

