-- ==== Sys2Proof/Machine/CaravanBase.lean ====
section
/-!
DEFINITION. What the bridge engine tells a Caravan engine (R367, R374, R378, R380): the data of its reads, and the failures
of its writes.
-/

namespace Sys2Proof.Machine

/-- An engine beside its page, and its replacement. -/
def State.eng (s : State) (e : Nat) : Engine := SMap.get (fun _ => Engine.reset) s.cvn.engines e
def State.setEng (s : State) (e : Nat) (x : Engine) : State :=
  { s with cvn := { s.cvn with engines := SMap.set (fun _ => Engine.reset) s.cvn.engines e x } }

/-- The states of an engine (R390). -/
def enIDLE : Nat := 0
def enFETCH : Nat := 1
def enMOVE : Nat := 2
def enSTALL : Nat := 3
def enFENCE : Nat := 4
def enSTATUS : Nat := 5
def State.engSt (s : State) (e : Nat) : Nat := s.gf (pgCVE e) CVE.ENG_STS_STATE
def State.setEngSt (s : State) (e st : Nat) : State := s.sf (pgCVE e) CVE.ENG_STS_STATE st

/-- Ring states (R385). -/
def rgDISABLED : Nat := 0
def rgIDLE : Nat := 1
def rgPENDING : Nat := 2
def rgRUNNING : Nat := 3
def rgSTOPPED : Nat := 4
def rgNOTADM : Nat := 5
def State.ringSt (s : State) (g : Nat) : Nat := s.tf .rng g T_RNG.STATE

/-- The data, or the failure code, of a read that an engine made (R363): read number 0 is a fence. A read it no longer waits
for is discarded. -/
def State.engineGot (s : State) (e num code : Nat) (data : List Byte) : State :=
  let x := s.eng e
  if num == 0 then
    if x.fence == some none then s.setEng e { x with fence := some (some (code == 0)) } else s
  else
    s.setEng e { x with reads := x.reads.map (fun r => if r.num == num && r.got.isNone then { r with got := some (code, data) } else r) }

/-- A tail error of a ring (R380): the failure of a write whose descriptor has completed. -/
def State.tailError (s : State) (ring count hop code : Nat) : State :=
  let s := if s.tb .rng ring T_RNG.TAIL_VALID then s else
    s.st .rng ring T_RNG.TAIL_VALID 1 |>.st .rng ring T_RNG.TAIL_CODE code |>.st .rng ring T_RNG.TAIL_COUNT count
      |>.st .rng ring T_RNG.TAIL_HOP hop
  let add := fun (l : List Nat) => if l.contains ring then l else l ++ [ring]
  let s := { s with cvn := { s.cvn with
      prior := add s.cvn.prior
      stopDue := if s.tb .rng ring T_RNG.TAIL_STOP then add s.cvn.stopDue else s.cvn.stopDue } }
  let s := s.event (pgHAL (ring / 8)) (8 + ring % 8)
  (s.cnt pgCVN CVN.CNT_TAIL_ERRORS).error pgCVN 3 0x04 (ring + count % 2 ^ 16 * 2 ^ 16) hop code

/-- The failure of a write of an engine (R378, R380): of the descriptor in progress, or a tail error. -/
def State.engineWriteFailed (s : State) (e ring count hop code : Nat) : State :=
  let x := s.eng e
  if x.ring == some ring && s.gf (pgCVE e) CVE.ENG_CNT_COUNT == count && x.hop == hop
      && (s.engSt e == enMOVE || s.engSt e == enSTALL) then
    if x.code == 0 then s.setEng e { x with code := code } else s
  else s.tailError ring count hop code

/-- What a failed write means to who made it; a host learns of it through the log only (R98). -/
def State.writeFailed (s : State) (w : Who) (code : Nat) : State :=
  match w with
  | .engine e ring count hop _ => s.engineWriteFailed e ring count hop code
  | .host _ | .relay _ _ _ => s

end Sys2Proof.Machine
end

