-- ==== Sys2Proof/Machine/WadiBase.lean ====
section
/-!
DEFINITION. Multicast groups, routes and cascade words (R305 to R307, R311 to R316).
-/

namespace Sys2Proof.Machine

/-- The kinds of a cascade word (R314). -/
def cwPORT : Nat := 1
def cwHOST : Nat := 2
def cwREQUEST : Nat := 3
def cwRETURN : Nat := 4
def cwEVENT : Nat := 5

/-- A cascade word (R313). -/
def mkWord (kind cls ddev dport hall sdev sport hops : Nat) : Word64 :=
  BitVec.ofNat 64 (kind % 8 + cls % 8 * 2 ^ 3 + ddev % 64 * 2 ^ 6 + dport % 1024 * 2 ^ 12 + hall % 4096 * 2 ^ 22
    + sdev % 64 * 2 ^ 34 + sport % 1024 * 2 ^ 40 + hops % 64 * 2 ^ 50)

def cwKind (w : Word64) : Nat := fld w 0 3
def cwClass (w : Word64) : Nat := fld w 3 3
def cwDestDev (w : Word64) : Nat := fld w 6 6
def cwDestPort (w : Word64) : Nat := fld w 12 10
def cwHall (w : Word64) : Nat := fld w 22 12
def cwSrcDev (w : Word64) : Nat := fld w 34 6
def cwSrcPort (w : Word64) : Nat := fld w 40 10
def cwHops (w : Word64) : Nat := fld w 50 6

/-- The anchor of the cascade link toward a device (R311). -/
def State.routeOf (s : State) (d : Nat) : Option Nat :=
  if s.tb .rte d T_RTE.VALID then some (s.tf .rte d T_RTE.ANCHOR) else none

/-- Whether a port is the anchor of an enabled link (R304). -/
def State.linkEnabled (s : State) (a : Nat) : Bool := s.lk a != lkDISABLED

/-- Whether a hall exists for the Wadi (R304). -/
def State.hallExists (s : State) (h : Nat) : Bool := s.hallSt h == hlBOUND || s.hallSt h == hlERROR

/-- A discard for a missing route or the hop limit (R315). DEDUCED, unsafe: log entry 69. -/
def State.routeDrop (s : State) (ddev hops anchor : Nat) : State :=
  (s.cnt pgWAD WAD.CNT_ROUTE_DROPS).error pgWAD 3 0x02 (ddev + hops * 2 ^ 6) anchor 0

/-- The member entries of a group (R305). -/
def State.groupMembers (s : State) (g : Nat) : List Nat :=
  ((List.range (min 1024 (s.tf .grp g T_GRP.COUNT))).map (s.tf .grp g T_GRP.FIRST + ·)).filter (· < 65536)

/-- What a multicast frame is resolved for: a station frame with its ingress, or a host write. -/
structure McView where
  cls    : Nat
  port   : Option Nat
  deriving DecidableEq, Repr

/-- The queue, with the cascade word, that a member entry gives a frame (R307); none for a member that is skipped. -/
def State.memberQueue (s : State) (g : Nat) (v : McView) (m : Nat) : Option (Nat × Option Word64) :=
  let port := s.tf .mbr m T_MBR.PORT
  let dev := s.tf .mbr m T_MBR.DEVICE
  let hall := s.tf .mbr m T_MBR.HALL
  let src := v.port.getD 0
  let local_ := fun (_ : Unit) =>
    if s.tb .grp g T_GRP.NO_ECHO && v.port == some port then none
    else if s.linkEnabled port then some (portQueue port v.cls, (none : Option Word64)) else none
  match s.tf .mbr m T_MBR.KIND with
  | 1 => local_ ()
  | 2 =>
    if v.port.isNone then none
    else if s.isMember then
      (s.routeOf 0).map (fun a => (portQueue a v.cls, some (mkWord cwHOST v.cls 0 0 hall s.device src 0)))
    else if s.hallExists hall then some (hostQueue hall v.cls, none) else none
  | 3 =>
    if dev == s.device then local_ ()
    else (s.routeOf dev).map (fun a =>
      (portQueue a v.cls, some (mkWord (if v.port.isSome then cwPORT else cwREQUEST) v.cls dev port 0 s.device src 0)))
  | _ => none

/-- The queues of a group for a frame. -/
def State.groupQueues (s : State) (g : Nat) (v : McView) : List (Nat × Option Word64) :=
  (s.groupMembers g).filterMap (s.memberQueue g v)

/-- The multicast burst of a group (R96, R305). -/
def State.mcBurst (s : State) (g : Nat) : Nat := 8 * 2 ^ min 8 (s.tf .grp g T_GRP.MC_BURST)

/-- The current epoch bit (R308). -/
def State.epochCur (s : State) : Bool := s.gb pgWAD WAD.EPOCH_STS_CUR

end Sys2Proof.Machine
end

