-- ==== Sys2Proof/Machine/Bridge.lean ====
section
/-!
DEFINITION. The bridge engine (R89 to R125): window lookup and translation, the cutting of an access into Larduper requests,
the order and the waits before they leave, the answers, read-ahead, expiry, and the mirage slots.
-/

namespace Sys2Proof.Machine

/-! ### Windows (R89 to R94) -/

/-- What an access takes from a window when it is decoded (R11). -/
structure Win where
  n      : Nat
  typ    : Nat
  func   : Nat
  hall   : Nat
  posted : Bool
  ahead  : Bool
  atomic : Bool
  wdis   : Bool
  swap   : Nat
  keep   : Bool
  cls    : Nat
  link   : Nat
  dev    : Nat
  group  : Nat
  base   : Nat
  limit  : Nat
  target : Nat
  deriving DecidableEq, Repr

def State.win (s : State) (n : Nat) : Win where
  n := n
  typ := s.tf .win n T_WIN.TYPE
  func := s.tf .win n T_WIN.FUNC
  hall := s.tf .win n T_WIN.HALL
  posted := s.tb .win n T_WIN.POSTED || s.tf .win n T_WIN.TYPE == 1
  ahead := s.tb .win n T_WIN.PREFETCH
  atomic := s.tb .win n T_WIN.ATOMIC
  wdis := s.tb .win n T_WIN.WRITE_DIS
  swap := s.tf .win n T_WIN.SWAP
  keep := s.tb .win n T_WIN.KEEP_LATE
  cls := s.tf .win n T_WIN.CLASS
  link := if s.tf .win n T_WIN.TYPE == 0 then s.tf .win n T_WIN.LINK else 1024
  dev := if s.tf .win n T_WIN.TYPE == 0 then s.tf .win n T_WIN.DEVICE else 0
  group := s.tf .win n T_WIN.GROUP
  base := s.tf .win n T_WIN.BASE
  limit := s.tf .win n T_WIN.LIMIT
  target := s.tf .win n T_WIN.TARGET

/-- Whether a window entry is valid and covers a page of a function's aperture (R89, R92). -/
def winCovers (e : Entry) (func page : Nat) : Bool :=
  fld e 0 1 == 1 && fld e 1 3 < 4 && fld e 8 8 == func && fld e 64 34 ≤ page && page ≤ fld e 128 34

/-- The window that covers a page: the lowest-numbered valid one; none while BRG.PAGE_CTL.EN is 0 (R89, R90). -/
def State.windowAt (s : State) (func page : Nat) : Option Nat :=
  if s.gb pgBRG HDR.PAGE_CTL_EN && s.active pgBRG then
    ((s.listed .win).find? (fun e => winCovers e.2 func page)).map (·.1)
  else none

/-- The target address of an aperture offset through a window (R94). -/
def Win.addr (w : Win) (off : Nat) : Nat := (w.target * 4096 + (off - w.base * 4096)) % 2 ^ 64

/-- A stretch of an access in one page of the aperture: its window, aperture offset, place and length. -/
structure Span where
  win : Option Nat
  off : Nat
  pos : Nat
  len : Nat
  deriving DecidableEq, Repr

/-- The stretches of an access, page by page. -/
def State.spans (s : State) (func : Nat) : Nat → Nat → Nat → Nat → List Span
  | 0, _, _, _ => []
  | fuel + 1, off, pos, rem =>
    if rem == 0 then [] else
      let n := min rem (4096 - off % 4096)
      ⟨s.windowAt func (off / 4096), off, pos, n⟩ :: s.spans func fuel (off + n) (pos + n) (rem - n)

/-! ### Cutting (R96, R109) -/

/-- The burst B of a link (R253). -/
def State.linkBurst (s : State) (a : Nat) : Nat :=
  match (s.lard a).ident with
  | none => 8
  | some i => min i.burst (min (maxPayBytes (fld (BitVec.ofNat 24 (s.link a).peerPay) 0 3))
      (maxPayBytes (s.gf (pgPRT a) (LNK.VC_CFG_MAXPAY 1))))

/-- The boundary at which the accesses of a window are cut (R96, R109, R318, R486). -/
def State.cutOf (s : State) (w : Win) : Nat :=
  match w.typ with
  | 1 => s.mcBurst w.group
  | 3 => 2048
  | _ => if w.dev != 0 then 1024 else s.linkBurst w.link

/-- A range cut at every multiple of k: address, length and place. -/
def cuts (k : Nat) : Nat → Nat → Nat → Nat → List (Nat × Nat × Nat)
  | 0, _, _, _ => []
  | fuel + 1, a, n, pos =>
    if n == 0 then [] else
      let m := min n (k - a % k)
      (a, m, pos) :: cuts k fuel (a + m) (n - m) (pos + m)

/-- The bytes of the 8-byte words that hold a range, in station order after byte conversion (R93): the byte at translated
address x stands at station address x xor (2^SWAP − 1). -/
def stationCells (addr swap : Nat) (bs : List (Option Byte)) : Nat × List (Option Byte) :=
  let lo := addr / 8 * 8
  let hi := ceilDiv (addr + bs.length) 8 * 8
  (lo, (List.range (hi - lo)).map (fun i =>
    let x := (lo + i) ^^^ (2 ^ swap - 1)
    if addr ≤ x then bs.getD (x - addr) none else none))

/-- Words with no enabled byte at either end are left out (R241). -/
def trimFront : Nat → Nat → List (Option Byte) → Nat × List (Option Byte)
  | 0, lo, l => (lo, l)
  | n + 1, lo, l => if !l.isEmpty && (l.take 8).all (·.isNone) then trimFront n (lo + 8) (l.drop 8) else (lo, l)
def trimBack : Nat → List (Option Byte) → List (Option Byte)
  | 0, l => l
  | n + 1, l => if !l.isEmpty && (l.drop (l.length - 8)).all (·.isNone) then trimBack n (l.take (l.length - 8)) else l
def trimCells (x : Nat × List (Option Byte)) : Nat × List (Option Byte) :=
  let y := trimFront (x.2.length / 8) x.1 x.2
  (y.1, trimBack (y.2.length / 8) y.2)

/-- The parts of a range through a window: bytes from a place of the access, of which the last `extra` were not asked for. -/
def mkParts (w : Win) (gen cut addr off want : Nat) (bs : List (Option Byte)) (cmp : List Byte) : List Part :=
  ((cuts cut (bs.length + 1) addr bs.length 0).map (fun c =>
    let sl := (bs.drop c.2.2).take c.2.1
    let cells := trimCells (stationCells c.1 w.swap sl)
    let n := min c.2.1 (want - c.2.2)
    { win := w.n, typ := w.typ, hall := w.hall, gen := gen, cls := w.cls, link := w.link, dev := w.dev, anchor := w.link
      swap := w.swap, posted := w.posted, keep := w.keep, addr := c.1, len := n, off := off + c.2.2, extra := c.2.1 - n
      base := cells.1, cells := cells.2, cmp := cmp, tag := none, rsv := 0, st := .waiting, got := [], stamp := 0 })).filter
    (fun p => !p.cells.isEmpty)

/-! ### Frames of parts (R235, R241) -/

/-- The words of a part, a byte that is not enabled being 0. -/
def Part.words (p : Part) : List Word64 := wordsOf (p.cells.length / 8) (p.cells.map (·.getD 0))

/-- The compare operand of a CAS in the lanes of its word. -/
def Part.cmpWord (p : Part) : Word64 :=
  (wordsOf 1 ((stationCells p.addr p.swap (p.cmp.map some)).2.map (·.getD 0))).getD 0 0

/-- The words a read of a part asks for. -/
def Part.nw (p : Part) : Nat := p.cells.length / 8

/-- The Larduper request of a part. -/
def Part.frame (op : AccOp) (p : Part) : Frame :=
  let fb := enables (p.cells.take 8)
  let lb := if p.nw ≤ 1 then 0 else enables (p.cells.drop (p.cells.length - 8))
  let tag := p.tag.getD 0
  match op with
  | .write => if p.posted then mkPw p.win fb lb p.base p.words else mkMem opNPW tag fb lb p.base p.words
  | .read | .zero => mkMem opRD tag fb lb p.base [BitVec.ofNat 64 p.nw]
  | .atomic .fadd => mkMem opFADD tag fb 0 p.base p.words
  | .atomic .swap => mkMem opSWAP tag fb 0 p.base p.words
  | .atomic .cas => mkMem opCAS tag fb 0 p.base (p.cmpWord :: p.words)

/-- The reserve cells a part's response needs (R273). -/
def Part.reserve (op : AccOp) (p : Part) : Nat :=
  match op with
  | .write => 1
  | .read | .zero => ceilDiv (16 + 8 * p.nw) 256
  | .atomic _ => 1

/-- The bytes of a response in the order of the access, from the words the station returned (R93, R245). -/
def Part.take (p : Part) (ws : List Word64) : List Byte :=
  let bs := ws.flatMap (fun w => bytesOf 8 w.toNat)
  (List.range (p.len + p.extra)).map (fun j => bs.getD (((p.addr + j) ^^^ (2 ^ p.swap - 1)) - p.base) 0)

/-! ### Waiting and leaving (R95, R105, R122, R273) -/

/-- Whether two parts are of one hall, link, device and class through station windows. -/
def Part.sameKey (p q : Part) : Bool :=
  p.typ == 0 && q.typ == 0 && p.hall == q.hall && p.link == q.link && p.dev == q.dev && p.cls == q.cls

/-- Every part in the order of arrival, with its access and its place there. -/
def State.allParts (s : State) : List (Nat × Acc × Nat × Part) :=
  s.brg.accs.flatMap (fun e => e.2.parts.zipIdx.map (fun q => (e.1, e.2, q.2, q.1)))

/-- Whether a part of an access waits behind others (R95, R122): everything behind an earlier waiting part of its key, and a
read, atomic or zero-length read behind an earlier non-posted write that is neither answered nor expired. -/
def State.partHeld (s : State) (i k : Nat) (a : Acc) (p : Part) : Bool :=
  let before := s.allParts.filter (fun e => (e.1 < i || (e.1 == i && e.2.2.1 < k)) && e.2.2.2.sameKey p)
  before.any (fun e => e.2.2.2.st == .waiting)
    || (a.op != .write && before.any (fun e => isNpw e.2.1 e.2.2.2 && e.2.2.2.st != .finished && !e.2.1.ended))

/-- Whether a station supports an atomic of a size (R113). DEDUCED, unsafe: log entry 67. -/
def Ident.atomicOk (i : Ident) (size : Nat) : Bool := (if size == 4 then i.can 48 else i.can 49) && size ≤ i.busW

/-- The Erg channel of a part, and whether it takes one more access (R487, R495): it holds up to 256. -/
def ergChan (p : Part) : Nat := p.base / 2 ^ 36 % 4
def State.ergTakes (s : State) (c : Nat) : Bool :=
  !(s.active (pgERGC c) && s.quiesce (pgERGC c))
    && (s.allParts.filter (fun e => e.2.2.2.typ == 3 && e.2.2.2.st == .erg && ergChan e.2.2.2 == c)).length < 256

/-- Whether a part needs a tag: every request but a posted write and a zero-length read; and the link whose tag it takes. -/
def Part.tagged (op : AccOp) (p : Part) : Bool := p.typ == 0 && op != .zero && !(op == .write && p.posted)
def State.tagLink (s : State) (p : Part) : Option Nat := if p.dev == 0 then some p.link else s.routeOf p.dev

/-- The requests that wait for a tag of a link (R105): what R95 and R122 hold back does not. -/
def State.tagWaiters (s : State) (n : Nat) : Nat :=
  if (s.freeTag n).isSome then 0 else
  (s.allParts.filter (fun e => e.2.2.2.st == .waiting && e.2.2.2.tagged e.2.1.op && s.tagLink e.2.2.2 == some n
    && !s.partHeld e.1 e.2.2.1 e.2.1 e.2.2.2)).length

/-- Whether a part may leave BRG now. DEDUCED, unsafe: log entry 67. -/
def State.mayLaunch (s : State) (i k : Nat) (a : Acc) (p : Part) : Bool :=
  if a.op == .zero then false
  else if p.typ == 1 then true
  else if p.typ == 3 then s.ergTakes (ergChan p)
  else
    let known := match a.op with | .atomic _ => p.dev != 0 || (s.lard p.link).ident.isSome | _ => true
    !s.partHeld i k a p && known && (!p.tagged a.op || (match s.tagLink p with
      | none => true
      | some x => (s.freeTag x).isSome && !(s.lard x).identDue && s.canReserve (p.reserve a.op)))

/-- The account a part's frame is charged to, and its ingress. -/
def Acc.account (a : Acc) (p : Part) : Nat :=
  match a.who with
  | .relay anchor _ cls => portQueue anchor cls
  | _ => hostQueue p.hall p.cls
def Acc.ingress (a : Acc) : Nat :=
  match a.who with
  | .host _ => 1024
  | .engine e _ _ _ _ => 2048 + e
  | .relay anchor _ _ => anchor
def Acc.fromHost (a : Acc) : Bool := match a.who with | .host _ => true | _ => false

/-- The stored frame of a part. -/
def Acc.gframe (a : Acc) (i k : Nat) (p : Part) (epoch : Option Bool) : GFrame :=
  let f := p.frame a.op
  { frame := f, load := .request i k, acct := some (a.account p), cells := [], size := frameCells f, spill := none, back := 0
    bad := false, mc := p.typ == 1, hall := if a.isRelay then none else some p.hall, gen := p.gen, func := a.func
    src := a.ingress, order := 0, epoch := epoch
    tgt := if p.typ == 0 then some (p.link, p.dev, p.cls) else none, refs := 0 }

/-- A multicast write whose group yields no queue is discarded by the Wadi (R17, R304). DEDUCED, unsafe: log entries 65, 76. -/
def State.noMembers (s : State) (group : Nat) : State :=
  (s.cnt pgWAD WAD.CNT_NO_TARGET).error pgWAD 4 0x03 (2 * 2 ^ 20) group 0

/-- A part leaves BRG: to the Erg, to every queue of a multicast group, or to the queue of its link or route (R96, R318). A
posted write is then handed on; the others hold a tag and the reserve of their response. -/
def State.launch (s : State) (i k : Nat) (a : Acc) (p : Part) : State :=
  if p.typ == 3 then s.setPart i k { p with st := .erg }
  else if p.typ == 1 then
    let qs := s.groupQueues (s.tf .win p.win T_WIN.GROUP) ⟨p.cls, none⟩
    let s := s.setPart i k { p with st := .finished }
    if qs.isEmpty then s.noMembers (s.tf .win p.win T_WIN.GROUP) else s.storeOrWait (a.gframe i k p (some s.epochCur)) qs a.fromHost
  else
    match s.tagLink p with
    | none => (s.setPart i k { p with st := .finished }).routeDrop p.dev 0 0
    | some x =>
      let word := if p.dev == 0 then none else some (mkWord cwREQUEST p.cls p.dev p.link 0 s.device 0 0)
      let q := portQueue x p.cls
      if a.op == .write && p.posted then
        (s.setPart i k { p with anchor := x, st := .finished }).storeOrWait (a.gframe i k p none) [(q, word)] a.fromHost
      else
        let t := (s.freeTag x).getD 0
        let n := p.reserve a.op
        let p := { p with anchor := x, tag := some t, rsv := n, st := .queued }
        let s := s.takeTag x t (.access i k)
        let s := { s with brg := { s.brg with rsv := s.brg.rsv + n } }
        (s.setPart i k p).storeOrWait (a.gframe i k p none) [(q, word)] a.fromHost

/-! ### Answers (R98, R103) -/

/-- The frame of a part that has not left its queue is taken out of the Gallery (R102). -/
def State.withdrawFrame (s : State) (i k : Nat) : State :=
  match s.gal.frames.find? (fun e => e.2.load == .request i k) with
  | some (f, _) =>
    s.each s.gal.queues (fun e s => s.each (e.2.filter (fun r => r.frame == f)) (fun r s => s.dropRef e.1 r))
  | none =>
    { s with gal := { s.gal with waiting := s.gal.waiting.filter (fun w => w.frame.load != .request i k) } }

/-- The parts of an access that have not left their queue are withdrawn (R102, R103); the result says whether any was.
DEDUCED, unsafe: log entry 62. -/
def State.withdraw (s : State) (i : Nat) : State × Bool :=
  match s.acc? i with
  | none => (s, false)
  | some a =>
    let own := a.parts.zipIdx.filter (fun e => e.1.st == .waiting || e.1.st == .queued)
    (s.each own (fun e s => ((if e.1.st == .queued then s.withdrawFrame i e.2 else s).endPart i e.2)),
      !own.isEmpty && a.op != .zero)

/-- The data of an access from its start on, as far as it has come without a gap. -/
def Acc.avail (a : Acc) : List Byte :=
  (a.parts.takeWhile (fun p => p.len == 0 || (p.st == .finished && p.got.length == p.len))).flatMap (·.got)

/-- An access is marked as answered. -/
def State.endAcc (s : State) (i : Nat) : State :=
  match s.acc? i with | some a => s.putAcc i { a with ended := true } | none => s

/-- What has come is returned in address order (R63, R103, R124); an engine is given its read whole. -/
def State.progress (s : State) (i : Nat) : State :=
  match s.acc? i with
  | none => s
  | some a =>
    if a.ended then s.putAcc i a else
    let av := a.avail
    match a.who with
    | .host tag =>
      let ps := cplPieces 128 a.haddr a.sent av.length (s.mps a.func) (s.rcbOf a.func) (av.length == a.total)
      let s := s.each ps (fun e s => s.emit (.cpl tag .sc ((av.drop e.1).take (e.2 - e.1))))
      let sent := ps.foldl (fun _ e => e.2) a.sent
      s.putAcc i { a with sent := sent, ended := sent == a.total && 0 < a.total }
    | .engine e _ _ _ num =>
      if av.length == a.total then (s.putAcc i { a with ended := true }).engineGot e num 0 av else s
    | .relay _ _ _ => s

/-- A read or atomic fails (R98, R103): Completer Abort for what was not yet returned, the code for an engine; its parts
that have not left are withdrawn. -/
def State.failRead (s : State) (i code : Nat) : State :=
  match s.acc? i with
  | none => s
  | some a =>
    if a.ended || a.isRelay then s else
    let s := match a.who with
      | .host tag => s.caAnswer a.func tag
      | .engine e _ _ _ num => s.engineGot e num code []
      | .relay _ _ _ => s
    match (s.endAcc i).withdraw i with
    | (s, true) => s.cnt pgBRG BRG.CNT_READS_WITHDRAWN
    | (s, false) => s

/-- A part leaves BRG, or an atomic that its station does not support is answered (R113). -/
def State.launchOrFail (s : State) (i k : Nat) (a : Acc) (p : Part) : State :=
  match a.op, (s.lard p.link).ident with
  | .atomic _, some d => if p.typ == 0 && p.dev == 0 && !a.isRelay && !d.atomicOk p.len then (s.endPart i k).failRead i 0x06 else s.launch i k a p
  | _, _ => s.launch i k a p

/-- Whether a stored or sent frame is an earlier write of a part's key (R104). -/
def Cargo.before (c : Cargo) (i : Nat) (p : Part) : Bool :=
  (c.frame.op == opPW || c.frame.op == opNPW) && c.hall == some p.hall && c.tgt == some (p.link, p.dev, p.cls)
    && (match c.acc with | some (j, _) => j < i | none => false)

/-- Whether a zero-length read may complete (R104): every earlier write of its key has been acknowledged by the link's peer,
or, through an Erg window, written. Writes that were discarded stand nowhere, and hold it back no longer. DEDUCED, unsafe:
log entry 62. -/
def State.zeroReady (s : State) (i : Nat) (a : Acc) (p : Part) : Bool :=
  if p.typ == 3 then
    !s.allParts.any (fun e => e.1 < i && e.2.1.op == .write && e.2.2.2.typ == 3 && e.2.2.2.hall == p.hall
      && e.2.2.2.cls == p.cls && e.2.2.2.st != .finished)
  else
    !s.partHeld i 0 a p
      && !(s.gal.frames.any (fun e => e.2.cargo.before i p)) && !(s.gal.waiting.any (fun w => w.frame.cargo.before i p))
      && !(s.links.any (fun l => l.2.txq.any (fun c => c.before i p) || l.2.held.any (fun c => c.2.before i p)))

/-- A zero-length read completes: with 0 in the mirage (R25, R132); elsewhere the value of its one dword is not stated (a free
value). DESIGN CHOICE, safe: log entry 60. -/
def State.zeroDone (s : State) (i : Nat) (a : Acc) : State :=
  let s := (match a.who with
    | .host tag => if a.parts.any (fun p => p.typ == 2) then s.emit (.cpl tag .sc (bytesOf 4 0))
      else s.drawn.emit (.cpl tag .sc (bytesOf 4 (s.nextFree 32)))
    | _ => s)
  s.putAcc i { a with ended := true, parts := a.parts.map (fun p => { p with st := .finished }) }

/-- A frame of the bridge's own is given to a link's sender. -/
def State.ownFrame (s : State) (a : Nat) (f : Frame) : State :=
  s.setLink a { s.link a with txq := (s.link a).txq ++ [(⟨f, none, 0, none, none⟩ : Cargo)] }

/-- A due IDENT takes the next free tag of its link, ahead of every other request (R251). -/
def State.sendIdent (s : State) (a : Nat) : State :=
  match s.freeTag a with
  | some t =>
    let s := s.takeTag a t .ident
    (s.setLard a { s.lard a with identDue := false }).ownFrame a (mkCtl opIDENT t 0 [])
  | none => s
def State.identPump (s : State) : State :=
  s.each (s.lards.filter (fun e => e.2.identDue)) (fun e s => if s.flows e.1 && !s.quiesce (pgPRT e.1) then s.sendIdent e.1 else s)

/-- Whether a frame of an access stands in the Gallery or at a link's sender. -/
def State.framed (s : State) (i : Nat) : Bool :=
  let mine := fun (c : Cargo) => match c.acc with | some (j, _) => j == i | none => false
  s.gal.frames.any (fun e => mine e.2.cargo) || s.gal.waiting.any (fun w => mine w.frame.cargo)
    || s.links.any (fun l => l.2.txq.any mine || l.2.held.any (fun e => mine e.2))

/-- The settled accesses of engines leave BRG with their last frame. -/
def State.reap (s : State) : State :=
  { s with brg := { s.brg with accs := s.brg.accs.filter (fun e => !(e.2.settled && e.2.isEngine && !s.framed e.1)) } }

/-- Everything that can leave BRG leaves it, in the order of arrival; zero-length reads that are ready complete.
DESIGN CHOICE, unsafe: log entry 14. -/
def State.pump (s : State) : State :=
  let s := s.reap.identPump
  let s := s.each (s.allParts.filter (fun e => e.2.2.2.st == .waiting)) (fun e s =>
    match s.acc? e.1, s.part? e.1 e.2.2.1 with
    | some a, some p =>
      if p.st == .waiting && s.mayLaunch e.1 e.2.2.1 a p then s.launchOrFail e.1 e.2.2.1 a p else s
    | _, _ => s)
  s.each (s.brg.accs.filter (fun e => e.2.op == .zero && !e.2.ended)) (fun e s =>
    match e.2.parts with
    | p :: _ => if s.zeroReady e.1 e.2 p then s.zeroDone e.1 e.2 else s
    | [] => s)

/-! ### Mirage slots (R126, R130 to R133) -/

/-- A host write of an outbound slot. -/
def State.mirWrite (s : State) (n slot : Nat) (v : Nat) : State :=
  let d := s.lard n
  let s := if bitAt d.changed slot then s.cnt pgMIR MIR.CNT_OUT_COALESCED else s
  (s.st .mir n (T_MIR.OUT slot) v).setLard n { d with changed := d.changed ||| 2 ^ slot }

/-- The port and the slot (16 to 31 are inbound) of a byte offset within a mirage window (R131). -/
def Win.mirPort (w : Win) (off : Nat) : Nat := w.target % 1024 + (off - w.base * 4096) / 128
def Win.mirSlot (w : Win) (off : Nat) : Nat := (off - w.base * 4096) % 128 / 4

/-- The dwords of a stretch: its bytes from the aligned offset below, four at a time. -/
def dwords (off : Nat) (bs : List (Option Byte)) : List (Nat × List (Option Byte)) :=
  let pad := List.replicate (off % 4) (none : Option Byte) ++ bs
  (List.range (ceilDiv pad.length 4)).map (fun i => (off / 4 * 4 + 4 * i, (pad.drop (4 * i)).take 4))

/-- A write of a stretch of a mirage window (R25, R132, R133): a dword not wholly enabled is discarded. It is served whether or
not MIR is ACTIVE, SWAP does not act, and a refused dword makes an entry of its own. DEDUCED, unsafe: log entry 58. -/
def State.mirWindow (s : State) (r : Req) (w : Win) (off : Nat) (bs : List (Option Byte)) : State :=
  s.each (dwords off bs) (fun d s =>
    let n := w.mirPort d.1
    let slot := w.mirSlot d.1
    if d.2.all (·.isNone) then s
    else if d.2.length != 4 || d.2.any (·.isNone) then s.devError 0 d.1 r.rid
    else if 1024 ≤ n || 16 ≤ slot then s
    else if w.wdis then s.pwLog 6 ⟨false, r.func, w.hall, w.n, 0, 0, w.addr d.1, 4, 0⟩
    else s.mirWrite n slot (ofBytes (d.2.map (·.getD 0))))

/-- The bytes a mirage window reads, unconverted. DEDUCED, unsafe: log entry 58. -/
def State.mirBytes (s : State) (w : Win) (off len : Nat) : List Byte :=
  (List.range len).map (fun i =>
    let o := off + i
    let n := w.mirPort o
    if 1024 ≤ n then 0 else
      (bytesOf 4 (s.tf .mir n ⟨32 * w.mirSlot o, 32⟩)).getD (o % 4) 0)

/-! ### Decoding (R89, R97, R98, R401, R403) -/

/-- The reason a request fails the isolation check at a window; 0 when it passes. -/
def State.winCheck (s : State) (r : Req) (w : Win) : Nat :=
  match r.ring with
  | some h => if s.active pgHLM && w.hall != h then 6 else s.isoReason w.hall r.func r.pasid
  | none => s.isoReason w.hall r.func r.pasid

/-- The window of a stretch when there is one and the check passes, with the failure captured. -/
def State.admitSpan (s : State) (r : Req) (sp : Span) : State × Option Win :=
  match sp.win with
  | none => (s, none)
  | some n =>
    let w := s.win n
    match s.winCheck r w with
    | 0 => (s, some w)
    | reason => (s.isoFail r.func r.pasid n w.hall reason, none)

/-- A new access, after everything before it. -/
def State.addAcc (s : State) (i : Nat) (r : Req) (start : Nat) (parts : List Part) : State :=
  { s with brg := { s.brg with accs := s.brg.accs ++ [(i, (⟨r.op, r.who, r.func, r.haddr, start, r.cells.length, 0, false, parts⟩ : Acc))] } }

/-- The station address of the first enabled byte of a stretch, after conversion (R93, R118). DEDUCED, unsafe: log entry 64. -/
def firstByte (addr swap : Nat) (bs : List (Option Byte)) : Nat :=
  let c := stationCells addr swap bs
  c.1 + c.2.findIdx (·.isSome)

/-- A write of one stretch: refused and logged, done at once in the mirage, or cut into parts. DEDUCED, unsafe: log entries 64, 65, 69. -/
def State.writeSpan (s : State) (r : Req) (sp : Span) : State × List Part :=
  let bs := (r.cells.drop sp.pos).take sp.len
  let n := (bs.filter (·.isSome)).length
  if n == 0 then (s, []) else
  let first := bs.findIdx (·.isSome)
  match s.admitSpan r sp with
  | (s, none) => ((s.pwLog 7 ⟨false, r.func, r.ring.getD 0, 0x7FFF, 0, 0, sp.off + first, n, 0⟩).writeFailed r.who 0x07, [])
  | (s, some w) =>
    if w.typ == 2 then (s.mirWindow r w sp.off bs, [])
    else
      let addr := w.addr sp.off
      if w.wdis then (s.pwLog 6 ⟨!w.posted, r.func, w.hall, w.n, 0, w.dev, firstByte addr w.swap bs, n, 0⟩, [])
      else
        (if w.typ == 1 then s else s.raDiscard (fun x => x.link == w.link && x.dev == w.dev),
          mkParts w (s.hallGen w.hall) (s.cutOf w) addr sp.pos sp.len bs [])

/-- A decoded write (R95 to R97). -/
def State.decodeWrite (s : State) (i start : Nat) (r : Req) : State :=
  let t := (s.spans r.func 1025 r.off 0 r.cells.length).foldl (fun t sp =>
    let u := t.1.writeSpan r sp
    (u.1, t.2 ++ u.2)) (s, ([] : List Part))
  if t.2.isEmpty then t.1 else (t.1.addAcc i r start t.2).pump

/-- A read or atomic that BRG does not carry out (R98): Unsupported Request, or the code for an engine. DEDUCED, unsafe: log entry 69. -/
def State.refuseRead (s : State) (r : Req) : State :=
  match r.who with
  | .host tag => s.urAnswer r.func tag
  | .engine e _ _ _ num => s.engineGot e num 0x07 []
  | .relay _ _ _ => s

/-- The admitted windows of the stretches of a read, or nothing when one of them is refused. DEDUCED, unsafe: log entry 64. -/
def State.admitAll (s : State) (r : Req) : List Span → State × Option (List (Span × Win))
  | [] => (s, some [])
  | sp :: t =>
    match s.admitSpan r sp with
    | (s, none) => (s, none)
    | (s, some w) =>
      match s.admitAll r t with
      | (s, some l) => (s, some ((sp, w) :: l))
      | (s, none) => (s, none)

/-- The read-ahead slot that holds every byte of a range (R114). -/
def State.raHit (s : State) (w : Win) (addr len : Nat) : Option (Nat × RaSlot) :=
  s.brg.slots.find? (fun e => e.2.hall == w.hall && e.2.win == w.n
    && (List.range len).all (fun j => e.2.bytes.any (fun c => c.1 == addr + j)))

/-- The bytes of a slot leave it; an empty slot is free. -/
def State.raTake (s : State) (n : Nat) (x : RaSlot) (addr len : Nat) : State :=
  let rest := x.bytes.filter (fun c => !(addr ≤ c.1 && c.1 < addr + len))
  { s with brg := { s.brg with
      slots := if rest.isEmpty then s.brg.slots.filter (fun e => e.1 != n)
        else s.brg.slots.map (fun e => if e.1 == n then (n, { x with bytes := rest, used := s.clock }) else e) } }

/-- The bytes a read fetches beyond what was asked (R114): to the end of the block after the last byte's, within the window. -/
def State.aheadOf (s : State) (r : Req) (w : Win) (sp : Span) : Nat :=
  if s.gb pgBRG BRG.BRG_CTL_RA_EN && w.ahead && (w.typ == 0 || w.typ == 3) && r.ring.isNone then
    let size := 64 * 2 ^ s.gf pgBRG BRG.RA_CTL_SIZE
    let addr := w.addr sp.off
    let upTo := ((addr + sp.len - 1) / size + 2) * size
    min (upTo - (addr + sp.len)) ((w.limit + 1) * 4096 - (sp.off + sp.len))
  else 0

/-- A slot is taken for a fetch: a free one, or the least recently used (R115). DEDUCED, unsafe: log entry 68. -/
def State.raAlloc (s : State) (i : Nat) (w : Win) : State :=
  let s := if s.brg.slots.length < 512 then s else
    match s.brg.slots with
    | [] => s
    | e :: t =>
      let old := t.foldl (fun o x => if x.2.used < o.2.used then x else o) e
      s.raDiscard (fun x => x == old.2)
  match (List.range 512).find? (fun n => !s.brg.slots.any (fun e => e.1 == n)) with
  | none => s
  | some n => { s with brg := { s.brg with
      slots := s.brg.slots ++ [(n, (⟨i, w.hall, w.n, w.link, w.dev, [], s.clock, s.clock⟩ : RaSlot))] } }

/-- Bytes fetched ahead enter the slot of their access, if it still is there. DEDUCED, unsafe: log entry 68. -/
def State.raFill (s : State) (i addr : Nat) (bs : List Byte) : State :=
  if bs.isEmpty then s else
  { s with brg := { s.brg with
      slots := s.brg.slots.map (fun e => if e.2.acc == i then
        (e.1, { e.2 with bytes := e.2.bytes ++ (bs.zipIdx.map (fun b => ((addr + b.2, b.1) : Host.Cell))), filled := s.clock })
        else e) } }

/-- The parts of one stretch of a read: read from the mirage or a slot at once, or cut. -/
def State.readSpan (s : State) (i : Nat) (r : Req) (sp : Span) (w : Win) : State × List Part :=
  let bs := (r.cells.drop sp.pos).take sp.len
  let gen := s.hallGen w.hall
  let addr := w.addr sp.off
  let whole := fun (data : List Byte) => (mkParts w gen 8192 addr sp.pos sp.len bs []).map (fun p =>
    { p with st := .finished, got := data })
  if w.typ == 2 then (s, whole (s.mirBytes w sp.off sp.len))
  else
    match (if s.gb pgBRG BRG.BRG_CTL_RA_EN && w.ahead && r.ring.isNone then s.raHit w addr sp.len else none) with
    | some (n, x) =>
      (s.raTake n x addr sp.len, whole ((List.range sp.len).map (fun j =>
        match x.bytes.find? (fun c => c.1 == addr + j) with | some c => c.2 | none => 0)))
    | none =>
      let ext := s.aheadOf r w sp
      (if ext == 0 then s else s.raAlloc i w,
        mkParts w gen (s.cutOf w) addr sp.pos sp.len (bs ++ List.replicate ext (some 0)) [])

/-- A host read that begins or ends in the mirage covers the whole dwords there (R25, R132). -/
def Req.whole (r : Req) (front back : Bool) : Req :=
  let f := if front then r.off % 4 else 0
  let b := if back then (4 - (r.off + r.cells.length) % 4) % 4 else 0
  { r with off := r.off - f, haddr := r.haddr - f, cells := List.replicate f (some 0) ++ r.cells ++ List.replicate b (some 0) }

/-- A decoded read (R98, R99, R103): wholly inside valid windows, none of them multicast. -/
def State.decodeRead (s : State) (i start : Nat) (r : Req) : State :=
  match s.admitAll r (s.spans r.func 1025 r.off 0 r.cells.length) with
  | (s, none) => s.refuseRead r
  | (s, some l) =>
    if l.any (fun e => e.2.typ == 1) then s.refuseRead r else
    let mir := fun (e : Option (Span × Win)) => r.who.isHost && (match e with | some x => x.2.typ == 2 | none => false)
    let r := r.whole (mir l.head?) (mir l.getLast?)
    let l := (s.spans r.func 1025 r.off 0 r.cells.length).zip (l.map (·.2))
    let t := l.foldl (fun t e =>
      let u := t.1.readSpan i r e.1 e.2
      (u.1, t.2 ++ u.2)) (s, ([] : List Part))
    ((t.1.addAcc i r start t.2).progress i).pump

/-- A decoded AtomicOp (R113). -/
def State.decodeAtomic (s : State) (i start : Nat) (r : Req) : State :=
  match s.admitAll r (s.spans r.func 1025 r.off 0 r.cells.length) with
  | (s, some [(sp, w)]) =>
    if !(w.typ == 0 || w.typ == 3) || !w.atomic then s.refuseRead r
    else
      (s.addAcc i r start (mkParts w (s.hallGen w.hall) 8 (w.addr sp.off) 0 r.cells.length r.cells r.cmp)).pump
  | (s, _) => s.refuseRead r

/-- A decoded zero-length read (R104). DESIGN CHOICE, safe: log entry 60. -/
def State.decodeZero (s : State) (i start : Nat) (r : Req) : State :=
  match s.admitAll r (s.spans r.func 2 r.off 0 1) with
  | (s, some [(sp, w)]) =>
    if w.typ == 1 then s.refuseRead r
    else
      let parts := mkParts w (s.hallGen w.hall) 8 (w.addr sp.off) 0 0 [some 0] []
      let s := s.addAcc i { r with cells := [] } start parts
      match w.typ, s.acc? i with
      | 2, some a => s.zeroDone i a
      | _, _ => s.pump
  | (s, _) => s.refuseRead r

/-- A request is decoded. -/
def State.decode (s : State) (i start : Nat) (r : Req) : State :=
  match r.op with
  | .write => s.decodeWrite i start r
  | .read => s.decodeRead i start r
  | .atomic _ => s.decodeAtomic i start r
  | .zero => s.decodeZero i start r

/-- Whether requests wait before BRG: BRG is quiesced (R29), or HLM is, which makes no isolation check then (R29, R473).
DEDUCED, unsafe: log entry 154. -/
def State.heldBack (s : State) : Bool :=
  s.active pgBRG && s.gb pgBRG HDR.PAGE_CTL_EN && (s.quiesce pgBRG || (s.active pgHLM && s.quiesce pgHLM))

/-- A request reaches BRG, or waits before it; its expiry runs. -/
def State.accept (s : State) (r : Req) : State :=
  let r := { r with came := s.clock }
  let i := s.brg.next
  let s := { s with brg := { s.brg with next := i + 1 } }
  if s.heldBack then
    let s := { s with brg := { s.brg with held := s.brg.held ++ [(i, r)] } }
    if r.op == .write then s else s.addAcc i r s.clock []
  else s.decode i s.clock r

/-- The requests held are decoded in order when nothing holds them; one that expired meanwhile is gone. -/
def State.acceptHeld (s : State) : State :=
  if s.heldBack then s else
  let l := s.brg.held
  let s := { s with brg := { s.brg with held := [] } }
  s.each l (fun e s =>
    if e.2.op == .write then s.decode e.1 e.2.came e.2
    else match s.acc? e.1 with
      | some a =>
        if a.ended then s else
        { s with brg := { s.brg with accs := s.brg.accs.filter (fun x => x.1 != e.1) } }.decode e.1 a.start e.2
      | none => s)

/-! ### Responses (R106, R248, R410) -/

/-- Whether an RSP is malformed for a part (R240, R245, R248). DEDUCED, unsafe: log entry 90. -/
def rspMalformed (a : Acc) (p : Part) (f : Frame) : Bool :=
  let n := f.words.length
  if f.code != 0 then n != 0
  else if isNpw a p then false
  else match a.op with
    | .atomic _ => n != 1
    | _ => n != p.nw

/-- What an answer says: whether it is an error, and its CODE, 0 for a malformed one (R248). -/
def rspError (a : Acc) (p : Part) (f : Frame) : Bool := rspMalformed a p f || f.code != 0
def rspCode (a : Acc) (p : Part) (f : Frame) : Nat := if rspMalformed a p f then 0 else f.code

/-- An answer has left the Gallery for its requester (R98, R101, R106, R248, R267): a write ends, logged where it failed; an error fails
the access; data is returned, or it is late; what was fetched ahead fills its slot (R114). DEDUCED, unsafe: log entries 66, 68. -/
def State.deliverPart (s : State) (i k : Nat) (f : Frame) : State :=
  match s.acc? i, s.part? i k with
  | some a, some p =>
    let err := rspError a p f
    if isNpw a p then
      if err then ((s.pwLog 1 (p.entry a (rspCode a p f))).writeFailed a.who 0x0A).endPart i k else s.endPart i k
    else if a.failed then (s.lateResponse a p f.tag p.stamp err ((p.take f.words).take p.len)).endPart i k
    else if err then (if p.len == 0 then s else s.failRead i 0x06).endPart i k
    else
      let data := p.take f.words
      let s := s.raFill i (p.addr + p.len) (data.drop p.len)
      (s.setPart i k { p with st := .finished, got := data.take p.len }).progress i
  | _, _ => s

/-- An RSP to a part (R246, R248, R267): its tag is released; an old generation is discarded (R410); one whose access has ended
meanwhile is late and ends here (R101, R106); any other enters the Gallery's host queue. DEDUCED, unsafe: log entry 66. -/
def State.respond (s : State) (anchor i k : Nat) (f : Frame) : State :=
  match s.acc? i, s.part? i k with
  | some a, some p =>
    let s := if rspMalformed a p f then s.stationReport anchor s.device 2 f.op f.seq else s
    let err := rspError a p f
    if !a.isRelay && p.gen != s.hallGen p.hall then
      ((s.cnt pgHLM HLM.CNT_LATE_DISCARDS).errorNoEvent pgHLM 0x05 (p.hall + p.gen % 2 ^ 16 * 2 ^ 12) anchor 0).endPart i k
    else if a.isRelay then
      if a.ended then s.endPart i k
      else (s.dropTag p.anchor (p.tag.getD 0)).setPart i k
        { p with tag := none, st := .finished, keep := err, gen := rspCode a p f, got := if err then [] else p.take f.words }
    else if isNpw a p && a.ended then (s.cnt pgBRG BRG.CNT_LATE_DISCARDED).endPart i k
    else if a.failed then (s.lateResponse a p f.tag s.stamp err ((p.take f.words).take p.len)).endPart i k
    else
      let s := (s.dropTag p.anchor (p.tag.getD 0)).setPart i k { p with tag := none, rsv := 0, st := .stored, stamp := s.stamp }
      let s := { s with brg := { s.brg with rsv := s.brg.rsv - p.rsv + frameCells f } }
      s.storeIn
        { frame := f, load := .rsp i k, acct := none, cells := [], size := frameCells f, spill := none, back := 0, bad := false
          mc := false, hall := some p.hall, gen := p.gen, func := a.func, src := anchor, order := 0, epoch := none
          tgt := none, refs := 0 }
        [(hostQueue p.hall p.cls, none)] none
  | _, _ => s

/-- A response whose tag nothing holds (R139): BRG code 0x04. -/
def State.staleTag (s : State) (anchor tag : Nat) : State := s.errorNoEvent pgBRG 0x04 (anchor + tag * 2 ^ 10) 0 0

/-! ### Expiry (R99, R101) -/

/-- Whether a request that waits before BRG goes to the mirage alone, where nothing expires (R104, R132). -/
def State.heldMirage (s : State) (r : Req) : Bool :=
  (s.spans r.func 1025 r.off 0 r.cells.length).all (fun sp => match sp.win with | some n => (s.win n).typ == 2 | none => false)

/-- A read, atomic or zero-length read expires; one that still waits before BRG is withdrawn (R102). DEDUCED, unsafe: log entries
62, 97. -/
def State.readExpire (s : State) (i : Nat) : State :=
  match s.acc? i with
  | none => s
  | some a =>
    if a.ended || a.op == .write || a.isRelay || !s.due (a.start + us (s.gf1 pgBRG BRG.EXPIRY_READ_US)) then s else
    let held := s.brg.held.filter (fun e => e.1 == i)
    if held.any (fun e => s.heldMirage e.2) then s else
    let p? := a.parts.find? (fun p => !(p.st == .finished && p.got.length == p.len))
    let (win, hall, addr) := match p? with | some p => (p.win, p.hall, p.first) | none => (0, 0, 0)
    let s := { s with brg := { s.brg with held := s.brg.held.filter (fun e => e.1 != i) } }
    let s := s.failRead i 0x06
    let s := if held.isEmpty || a.op == .zero then s else s.cnt pgBRG BRG.CNT_READS_WITHDRAWN
    (s.cnt pgBRG BRG.CNT_READS_EXPIRED).error pgBRG 2 0x02 (win + hall * 2 ^ 16) (addr % 2 ^ 32) (addr / 2 ^ 32)

/-- The non-posted writes of an access expire. DEDUCED, unsafe: log entry 97. -/
def State.npwExpire (s : State) (i : Nat) : State :=
  match s.acc? i with
  | none => s
  | some a =>
    if a.ended || a.op != .write || a.isRelay || !s.due (a.start + us (s.gf1 pgBRG BRG.EXPIRY_READ_US)) then s else
    let open_ := a.parts.filter (fun p => isNpw a p && p.st != .finished && p.st != .stored)
    if open_.isEmpty then s else
    let s := s.each open_ (fun p s => (s.pwLog 5 { p.entry a 0 with np := true }).writeFailed a.who 0x0B)
    s.endAcc i

/-! ### Fresh starts (R125, R127) -/

/-- Whether the frame of a part waits for admission to the Gallery. -/
def State.awaitsAdmission (s : State) (i k : Nat) : Bool := s.gal.waiting.any (fun w => w.frame.load == .request i k)

/-- Whether a tag is held by a request that is not yet appended to a Gallery queue, which a fresh start leaves alone (R125). -/
def State.tagKept (s : State) (t : TagRec) : Bool := match t.use with | .access i k => s.awaitsAdmission i k | _ => false

/-- What BRG does at a fresh start of a link whose recorded epoch was not 0: every tag is released, the writes discarded
with the replay buffer are logged, and the requests are counted. A request not yet appended to a Gallery queue stays, and takes
its tag again. DEDUCED, unsafe: log entry 55. -/
def State.brgFresh (s : State) (anchor : Nat) (lost : List Cargo) : State :=
  let kept := (s.lard anchor).tags.filter s.tagKept
  let tags := (s.lard anchor).tags.filter (fun t => !s.tagKept t)
  let queuedPw := ((List.range 8).flatMap (fun c => s.queue (portQueue anchor c))).filter (fun r =>
    match s.galFrame r.frame with
    | some g => g.frame.op == opPW && (match g.load with | .request _ _ => true | _ => false)
    | none => false)
  let pws := lost.filter (fun c => c.acc.isSome && c.frame.op == opPW)
  let n := tags.length + pws.length + queuedPw.length
  let s := s.each lost (fun c s =>
    s.loseCargo anchor (if s.cascadeLink anchor then { c with frame := c.frame.stripped } else c) none true)
  let s := s.each tags (fun t s =>
    match t.use with
    | .access i k =>
      match s.acc? i, s.part? i k with
      | some a, some p =>
        if p.st == .finished then s else
        let s := if isNpw a p && !a.ended then (s.pwLog 3 (p.entry a 0)).writeFailed a.who 0x0C else s
        s.endPart i k
      | _, _ => s
    | .ident | .poll | .stationCmd _ => s)
  let s := s.setLard anchor { s.lard anchor with tags := kept, round := none, pollTag := none }
  if n == 0 then s else (s.cnt pgBRG BRG.CNT_EPOCH_DISCARDS n).error pgBRG 7 0x06 anchor n 0

/-- What the mirage does at a new station epoch (R127, R129). -/
def State.mirFresh (s : State) (anchor : Nat) : State :=
  let s := s.each (List.range 16) (fun i s => s.st .mir anchor (T_MIR.IN i) 0)
  (s.setLard anchor { s.lard anchor with changed := 0xFFFF }).sideUpdate anchor (s.flows anchor)

end Sys2Proof.Machine
end

