-- ==== Sys2Proof/Machine/HostOut.lean ====
section
/-!
DEFINITION. What the device asks of host memory: non-posted requests and their limits (R64, R66), translations (R69 to R71),
memory writes, and the dirty-page log (R413 to R415).
-/

namespace Sys2Proof.Machine

/-! ### May the host port send? -/

/-- Whether a function can master requests: the link is up, Bus Master is set, the function and PF0 are in D0 (R504), and no FLR
runs; and whether it may issue one now: HST is not quiesced (R82). -/
def State.masters (s : State) (func : Nat) : Bool :=
  s.gb pgHST HST.LINK_STS_DL_UP && s.cfgRaw func .busMaster == 1
    && s.cfgRaw func .powerState == 0 && s.cfgRaw 0 .powerState == 0 && !s.host.flrs.any (fun f => f.1 == func)
/-- DESIGN CHOICE, unsafe: log entry 83. -/
def State.mayMaster (s : State) (func : Nat) : Bool := s.masters func && !s.quiesce pgHST

/-- The tags a function may use (R63): the lowest and how many. PRESUMED, unsafe: log entry 160. -/
def State.tagRange (s : State) (func : Nat) : Nat × Nat :=
  if s.gb pgHST HST.LINK_STS_FLIT then (0, 8192) else if s.cfgRaw func .tenBitTag == 1 then (256, 768) else (0, 256)

/-- NP_LIMIT (R64): 0 and values above 8,192 act as 8,192. -/
def State.npLimit (s : State) : Nat :=
  let v := s.gf pgHST HST.NP_CTL_NP_LIMIT
  if v == 0 || 8192 < v then 8192 else v

/-- The non-posted requests outstanding are shown. -/
def State.npUpdate (s : State) : State := s.sf pgHST HST.NP_CTL_NP_OUT s.host.reqs.length

/-- Whether one more non-posted request of a function fits both limits. -/
def State.npFits (s : State) (func : Nat) : Bool :=
  s.host.reqs.length < s.npLimit && (s.host.reqs.filter (fun r => r.func == func)).length < (s.tagRange func).2

/-- A free tag of a function, in turn. DESIGN CHOICE, unsafe: log entry 44; PRESUMED, unsafe: log entry 160. -/
def State.hostTag (s : State) (func : Nat) : Option Nat :=
  let (lo, n) := s.tagRange func
  ((List.range n).map (fun i => lo + (s.host.nextTag + i) % n)).find? (fun t => !s.host.reqs.any (fun r => r.func == func && r.tag == t))

/-- The transaction ID by which a completion names a request: its function and tag. DESIGN CHOICE, safe: log entry 160. -/
def HostReq.txn (r : HostReq) : Nat := r.func * 2 ^ 14 + r.tag

/-- The Gallery cells reserved for the completion of a request (R64, R273). DEDUCED, unsafe: log entry 169. -/
def HostReq.reserve (r : HostReq) : Nat := ceilDiv (16 + r.len) 256

/-- A non-posted request is issued when everything allows it (R64, R82, R273), and sent by `f` of its tag. DEDUCED, unsafe: log entry 169. -/
def State.hostIssue (s : State) (func addr len : Nat) (owner : Owner) (hall : Option Nat) (cached : Bool) (f : Nat → Out) : State × Bool :=
  match s.hostTag func with
  | none => (s, false)
  | some t =>
    let r : HostReq := ⟨t, func, addr, len, owner, hall, (match hall with | some h => s.hallGen h | none => 0), s.clock, cached, []⟩
    if !s.mayMaster func || !s.npFits func || !s.canReserve r.reserve then (s, false) else
    let s := { s with
      host := { s.host with
        reqs := s.host.reqs ++ [r]
        nextTag := t + 1 }
      brg := { s.brg with rsv := s.brg.rsv + r.reserve } }
    ((s.emit (f t)).npUpdate, true)

/-! ### Translations (R69 to R71) -/

/-- Whether a function translates. -/
def State.atsOn (s : State) (func : Nat) : Bool := s.capShown func 0x10F && s.cfgRaw func .atsEnable == 1

/-- The first page of the smallest translation unit that a page of a hall lies in (R69), and the pages of a unit. -/
def State.stuPages (s : State) (h : Nat) : Nat := 2 ^ s.cfgRaw (s.hallFunc h) .atsStu
def State.stuPage (s : State) (h page : Nat) : Nat := page / s.stuPages h * s.stuPages h

/-- What is known of a page of a hall: the address to send and whether it came from the cache, or that it must be asked for. -/
def State.xlat (s : State) (h addr : Nat) : Option (Nat × Bool) :=
  if s.atsOn (s.hallFunc h) then
    let unit := s.stuPage h (addr / 4096)
    (s.host.cache.find? (fun e => e.1 == h && e.2.1 == unit)).map (fun e => (e.2.2 * 4096 + (addr - unit * 4096), true))
  else some (addr, false)

/-- A used translation becomes the most recently used. -/
def State.xlatUsed (s : State) (h addr : Nat) : State :=
  let mine := fun (e : Nat × Nat × Nat) => e.1 == h && e.2.1 == s.stuPage h (addr / 4096)
  { s with host := { s.host with cache := s.host.cache.filter mine ++ s.host.cache.filter (fun e => !mine e) } }

/-- A translation request for the unit of a page, unless it is outstanding or waits for the host's answer to a page request. -/
def State.askXlat (s : State) (h addr : Nat) : State :=
  let page := s.stuPage h (addr / 4096)
  let f := s.hallFunc h
  if s.host.reqs.any (fun r => r.owner == .xlat h page) || s.host.prgs.any (fun g => g.1 == h && g.2.2 == page) then s
  else (s.hostIssue f (page * 4096) 8 (.xlat h page) (some h) false (fun _ => .atsReq f (s.hallPasid h) (page * 4096))).1

/-! ### Reads -/

/-- A memory read request of a hall is issued when everything allows it (R64, R72, R273). The result says whether it was. A page
that must be translated is asked for. DESIGN CHOICE, unsafe: log entries 23, 44. -/
def State.askHost (s : State) (h : Nat) (owner : Owner) (addr len : Nat) : State × Bool :=
  let f := s.hallFunc h
  match s.xlat h addr with
  | none => (s.askXlat h addr, false)
  | some (real, cached) =>
    match s.hostIssue f addr len owner (some h) cached (fun t => .memRd t f (s.hallPasid h) real len) with
    | (s, true) => (s.xlatUsed h addr, true)
    | (s, false) => (s, false)

/-- A PF0 read of a bitmap word (R414), without PASID and never translated. -/
def State.askBitmap (s : State) (h addr : Nat) : State :=
  if s.host.reqs.any (fun r => r.owner == .bitmap h addr) then s
  else (s.hostIssue 0 addr 8 (.bitmap h addr) none false (fun t => .memRd t 0 none addr 8)).1

/-- A request is over: its tag and its reserve are free, and an invalidation no longer waits for it (R70). -/
def State.endHostReq (s : State) (r : HostReq) : State :=
  let left := s.host.invals.map (fun v => { v with tags := v.tags.filter (fun t => t != r.txn) })
  let s := { s with host := { s.host with reqs := s.host.reqs.filter (fun x => x.txn != r.txn), invals := left } }
  (s.unreserve r.reserve).npUpdate

/-! ### The dirty-page log (R413 to R415) -/

/-- The base address of a hall's bitmap. -/
def State.dlBase (s : State) (h : Nat) (second : Bool) : Nat :=
  (if second then s.tf .hcx h T_HCX.DL_BASE1 else s.tf .hcx h T_HCX.DL_BASE0) * 4096

/-- A cached bitmap word is written back whole; it waits in the cache while the host port may send nothing (R82). DESIGN CHOICE, safe: log
entry 32. -/
def State.dlWriteBack (s : State) (w : DlWord) : State :=
  if !s.mayMaster 0 then s else
  let s := { s with hlm := { s.hlm with words := s.hlm.words.filter (fun x => !(x.hall == w.hall && x.addr == w.addr)) } }
  match w.old with
  | some v => s.emit (.memWr 0 none false w.addr (bytesOf 8 (v ||| w.bits)))
  | none => s

/-- A bit is set in a bitmap word: the word is cached, and read from host memory first. -/
def State.dlSet (s : State) (h addr bit : Nat) : State :=
  if s.hlm.words.any (fun w => w.hall == h && w.addr == addr) then
    { s with hlm := { s.hlm with
        words := s.hlm.words.map (fun w =>
        if w.hall == h && w.addr == addr then { w with bits := w.bits ||| 2 ^ bit } else w) } }
  else
    let s := if s.hlm.words.length < 4096 then s else
      match s.hlm.words.find? (fun w => w.old.isSome) with
      | some w => s.dlWriteBack w
      | none => s
    { s with hlm := { s.hlm with words := s.hlm.words ++ [(⟨h, addr, 2 ^ bit, none⟩ : DlWord)] } }.askBitmap h addr

/-- A memory write for a hall is logged (R413). -/
def State.dlLog (s : State) (h addr len : Nat) : State :=
  if s.tb .hcx h T_HCX.DL_EN then
    s.each ((List.range ((addr + max len 1 - 1) / 4096 - addr / 4096 + 1)).map (addr / 4096 + ·)) (fun p s =>
      let from_ := s.tf .hcx h T_HCX.DL_START
      let pages := s.tf .hcx h T_HCX.DL_PAGES / 64 * 64
      if from_ ≤ p && p - from_ < pages then
        s.dlSet h (s.dlBase h (s.tb .hcx h T_HCX.DL_ACTIVE) + (p - from_) / 64 * 8) ((p - from_) % 64)
      else (s.st .hcx h T_HCX.DL_OVER 1).errorNoEvent pgHLM 0x04 h (addr % 2 ^ 32) (addr / 2 ^ 32))
  else s

/-- Bitmap words that have not been asked for are asked for. DESIGN CHOICE, safe: log entry 32. -/
def State.dlAsk (s : State) : State :=
  s.each (s.hlm.words.filter (fun w => w.old.isNone)) (fun w s => s.askBitmap w.hall w.addr)

/-! ### Writes -/

/-- A range cut at pages and at the maximum payload: address and length. -/
def hostChunks (mps : Nat) : Nat → Nat → Nat → List (Nat × Nat)
  | 0, _, _ => []
  | fuel + 1, a, n =>
    if n == 0 then [] else
      let m := min n (min mps (4096 - a % 4096))
      (a, m) :: hostChunks mps fuel (a + m) (n - m)

/-- Whether every page of a write of a hall can be sent now; a page that must be translated is asked for. DEDUCED, unsafe: log entry 31. -/
def State.writeReady (s : State) (h addr len : Nat) : State × Bool :=
  let pages := (List.range ((addr + max len 1 - 1) / 4096 - addr / 4096 + 1)).map (addr / 4096 + ·)
  match pages.find? (fun p => (s.xlat h (p * 4096)).isNone) with
  | some p => (s.askXlat h (p * 4096), false)
  | none => (s, s.mayMaster (s.hallFunc h))

/-- A memory write of a hall leaves HST (R65, R72), cut at pages and the maximum payload, and is logged. -/
def State.writeHost (s : State) (h : Nat) (ro : Bool) (addr : Nat) (data : List Byte) : State :=
  let f := s.hallFunc h
  let s := s.each (hostChunks (s.mps f) 64 addr data.length) (fun c s =>
    match s.xlat h c.1 with
    | some (real, _) =>
      (s.xlatUsed h c.1).emit (.memWr f (s.hallPasid h) ro real ((data.drop (c.1 - addr)).take c.2))
    | none => s)
  s.dlLog h addr data.length

end Sys2Proof.Machine
end

