-- ==== Sys2Proof/Machine/Caravan.lean ====
section
/-!
DEFINITION. The Caravan (R357 to R392): rings and doorbells, engines and their assignment, descriptors, the movement of data,
chains, fences, completion and failure.
-/

namespace Sys2Proof.Machine

/-! ### Rings -/

def ringHall (g : Nat) : Nat := g / 8
def State.ringSize (s : State) (g : Nat) : Nat := max 4 (s.tf .rng g T_RNG.SIZE)
def State.setRing (s : State) (g st : Nat) : State := s.st .rng g T_RNG.STATE st
def State.setPending (s : State) (l : List Nat) : State := { s with cvn := { s.cvn with pending := l } }

/-- A ring enters the PENDING list at its end, unless it is there. -/
def State.ringPending (s : State) (g : Nat) : State :=
  (s.setRing g rgPENDING).setPending (if s.cvn.pending.contains g then s.cvn.pending else s.cvn.pending ++ [g])

/-- The address of the slot of a count (R357). -/
def State.slotAddr (s : State) (g count : Nat) : Nat :=
  s.tf .rng g T_RNG.BASE * 64 + 32 * (count % 2 ^ s.ringSize g)

/-- Whether the hall of a ring lets it work (R408, R417). -/
def State.ringServed (s : State) (g : Nat) : Bool :=
  s.hallSt (ringHall g) == hlBOUND && s.hallTdisp (ringHall g) != 1 && s.hallTdisp (ringHall g) != 3

/-- A doorbell (R358, R383, R417): accepted when the producer count lies within the ring. DEDUCED, unsafe: log entry 139. -/
def State.doorbell (s : State) (g p : Nat) : State :=
  let cc := s.tf .rng g T_RNG.CCOUNT
  let fenced := s.hallSt (ringHall g) != hlFREE && !s.ringServed g
  if subMod p cc 16 ≤ 2 ^ s.ringSize g && !fenced then
    let s := s.st .rng g T_RNG.PCOUNT p
    let st := s.ringSt g
    if s.active pgCVN && (st == rgIDLE || st == rgNOTADM) && p % 65536 != cc then s.ringPending g else s
  else (s.cnt pgCVN CVN.CNT_DB_IGNORED).error pgCVN 1 0x02 (g + p % 65536 * 2 ^ 16) cc (s.ringSize g)

/-- RING_ENABLE (R358): EN changes from 0 to 1 and the counts become 0. -/
def State.ringEnable (s : State) (g : Nat) : State :=
  let s := s.st .rng g T_RNG.EN 1 |>.st .rng g T_RNG.PCOUNT 0 |>.st .rng g T_RNG.CCOUNT 0 |>.st .rng g T_RNG.DCOUNT 0
  if s.ringSt g == rgDISABLED then s.setRing g rgIDLE else s

def execRingEnable (ring : Nat) (s : State) : Host.Outcome State Fault Refusal :=
  done (s.onPage pgCVN (.ringEnable ring) (if ring < 32768 && !s.tb .rng ring T_RNG.EN then s.ringEnable ring else s))

/-- RING_DISABLE (R381): a held ring finishes its descriptor first; a PENDING one leaves the list. -/
def State.ringDisable (s : State) (g : Nat) : State :=
  let s := s.st .rng g T_RNG.EN 0
  if s.ringSt g == rgRUNNING then s
  else (s.setRing g rgDISABLED).setPending (s.cvn.pending.filter (· != g))

def execRingDisable (ring : Nat) (s : State) : Host.Outcome State Fault Refusal :=
  done (s.onPage pgCVN (.ringDisable ring) (if ring < 32768 && s.tb .rng ring T_RNG.EN then s.ringDisable ring else s))

/-- RING_RESUME (R379): only a stopped ring resumes. -/
def State.ringResume (s : State) (g : Nat) : State :=
  if s.ringSt g == rgSTOPPED then
    let s := s.st .rng g T_RNG.STOP_CODE 0
    let s := { s with cvn := { s.cvn with stopDue := s.cvn.stopDue.filter (· != g) } }
    if s.tf .rng g T_RNG.PCOUNT != s.tf .rng g T_RNG.CCOUNT then s.ringPending g else s.setRing g rgIDLE
  else s

def execRingResume (ring : Nat) (s : State) : Host.Outcome State Fault Refusal :=
  done (s.onPage pgCVN (.ringResume ring) (s.ringResume ring))

/-- TAIL_CLEAR (R380, R385). -/
def execTailClear (ring : Nat) (s : State) : Host.Outcome State Fault Refusal :=
  done (s.onPage pgCVN (.tailClear ring) (if ring < 32768 then s.st .rng ring T_RNG.TAIL_VALID 0 else s))

/-! ### Engines -/

/-- The fields of a descriptor (R361). -/
def dSrc (d : BitVec 256) : Nat := fld d 0 64
def dDst (d : BitVec 256) : Nat := fld d 64 64
def dLen (d : BitVec 256) : Nat := fld d 128 24
def dOp (d : BitVec 256) : Nat := fld d 152 3
def dSrcSp (d : BitVec 256) : Bool := fld d 155 1 == 1
def dDstSp (d : BitVec 256) : Bool := fld d 156 1 == 1
def dPhase (d : BitVec 256) : Bool := fld d 157 1 == 1
def dIrq (d : BitVec 256) : Bool := fld d 158 1 == 1
def dEnd (d : BitVec 256) : Bool := fld d 159 1 == 1

/-- The count of the ring slot an engine works on. -/
def State.engCount (s : State) (e : Nat) : Nat := s.gf (pgCVE e) CVE.ENG_CNT_COUNT

/-- The page shows the hop, the bytes left, and what the engine holds (R390). -/
def State.engShow (s : State) (e : Nat) : State :=
  let x := s.eng e
  let left := match x.desc with | some d => if dOp d == 1 then dLen d - x.wrote else 0 | none => 0
  s.sf (pgCVE e) CVE.ENG_HOP_HOP x.hop |>.sf (pgCVE e) CVE.ENG_REMAIN_REMAIN left
    |>.sf (pgCVE e) CVE.ENG_HOLD_HELD (min 128 x.hold.length) |>.sf (pgCVE e) CVE.ENG_HOLD_READS x.reads.length

/-- Whether something an engine handed on was not yet taken (R371). -/
def State.engStalled (s : State) (e : Nat) : Bool :=
  s.gal.waiting.any (fun w => w.frame.src == 2048 + e)
    || s.allParts.any (fun p => p.2.2.2.st == .waiting && p.2.1.op == .write && p.2.1.ingress == 2048 + e)
    || s.brg.held.any (fun h => h.2.op == .write && (match h.2.who with | .engine x _ _ _ _ => x == e | _ => false))

/-- A frame of an engine for its hall's host queue (R371, R372). -/
def State.engFrame (s : State) (e g : Nat) (load : Load) (len : Nat) : State :=
  let h := ringHall g
  let c := (s.eng e).cls
  s.storeOrWait
    { frame := mkFrame 0 (List.replicate (ceilDiv len 8) 0), load := load, acct := some (hostQueue h c), cells := []
      size := ceilDiv (16 + len) 256, spill := none, back := 0, bad := false, mc := false, hall := some h
      gen := s.hallGen h, func := s.hallFunc h, src := 2048 + e, order := 0, epoch := none, tgt := none, refs := 0 }
    [(hostQueue h c, none)] false

/-- A status write (R361, R372, R380): DONE, TAIL_PRIOR, the code and RESIDUAL; never Relaxed Ordering. DEDUCED, unsafe: log entry 93. -/
def State.engStatus (s : State) (e g addr code residual : Nat) : State :=
  let prior := s.cvn.prior.contains g
  let s := { s with cvn := { s.cvn with prior := s.cvn.prior.filter (· != g) } }
  s.engFrame e g (.memWr e (addr + 24) false (bytesOf 8 (1 + b2n prior * 2 + code % 256 * 2 ^ 8 + residual % 2 ^ 24 * 2 ^ 16))) 8

/-- An engine gives up its ring and is idle (R365); it keeps its allowance for a while (R366). DEDUCED, unsafe: log entry 95. -/
def State.engRelease (s : State) (e g : Nat) : State :=
  let h := ringHall g
  let s := s.st .enl h T_ENL.ENG_NOW (s.tf .enl h T_ENL.ENG_NOW - 1)
  let x := s.eng e
  ((s.setEng e { Engine.reset with nextRd := x.nextRd, idleAt := s.clock, rest := x.rest }).setEngSt e enIDLE).engShow e

/-- The descriptor at an address is to be fetched next (R376), with CLASS and RO as the ring context now has them (R381). -/
def State.engFetchAt (s : State) (e addr : Nat) : State :=
  let x := s.eng e
  let (cls, relax) := match x.ring with
    | some g => (s.tf .rng g T_RNG.CLASS, s.tb .rng g T_RNG.RO)
    | none => (x.cls, x.relax)
  ((s.setEng e { x with
    cls := cls, relax := relax
    desc := none, failed := false, addr := addr, asked := 0, wrote := 0, reads := [], hold := [], code := 0, fence := none }).setEngSt
    e enFETCH).engShow e

/-- The next ring slot is to be fetched. -/
def State.engSlot (s : State) (e g : Nat) : State :=
  let c := s.tf .rng g T_RNG.CCOUNT
  let s := s.sf (pgCVE e) CVE.ENG_CNT_COUNT c
  (s.setEng e { s.eng e with chain := false, hop := 0, irq := false }).engFetchAt e (s.slotAddr g c)

/-- A ring stops with a code, and its engine leaves it. DEDUCED, unsafe: log entry 94. -/
def State.ringStop (s : State) (e g code : Nat) : State :=
  ((s.setRing g rgSTOPPED).st .rng g T_RNG.STOP_CODE code).engRelease e g

/-- A ring slot is over (R365, R380, R381): the ring is disabled, stopped, empty, back in the list, or goes on. DEDUCED, unsafe: log entry 93. -/
def State.engNext (s : State) (e g : Nat) : State :=
  let x := s.eng e
  let s := s.setEng e { x with slots := x.slots + 1 }
  if !s.tb .rng g T_RNG.EN then (s.setRing g rgDISABLED).engRelease e g
  else if s.cvn.stopDue.contains g then
    let s := { s with cvn := { s.cvn with stopDue := s.cvn.stopDue.filter (· != g) } }
    s.ringStop e g (s.tf .rng g T_RNG.TAIL_CODE)
  else if s.tf .rng g T_RNG.PCOUNT == s.tf .rng g T_RNG.CCOUNT then (s.setRing g rgIDLE).engRelease e g
  else if s.gf1 pgCVN CVN.CVN_CTL_BATCH ≤ x.slots + 1 || s.quiesce (pgCVE e) || s.quiesce pgCVN || s.quiesce (pgHAL (ringHall g)) then
    (s.ringPending g).engRelease e g
  else s.engSlot e g

/-- RING_DONE of a descriptor with IRQ (R373). -/
def State.ringDone (s : State) (g : Nat) (irq : Bool) : State :=
  if irq then s.event (pgHAL (ringHall g)) (g % 8) else s

/-- The ring slot of an engine is completed: its DCOUNT advances and the ring goes on. -/
def State.slotDone (s : State) (e g : Nat) : State :=
  (s.st .rng g T_RNG.DCOUNT (s.tf .rng g T_RNG.DCOUNT + 1)).engNext e g

/-- A capture of an engine (R392). DEDUCED, unsafe: log entry 96. -/
def State.engCapture (s : State) (e g code hop residual : Nat) : State :=
  s.error (pgCVE e) (if code == 0x0E then 1 else 0) code (g + s.engCount e * 2 ^ 16) hop residual

/-- A descriptor or fetch fails (R71, R362, R376 to R378): status at the failed descriptor (`own`) and at the ring slot that began a
chain, RING_ERR, the capture, and the ring stops. Codes 0x02 and 0x03 in a ring slot write no status. DEDUCED, unsafe: log entries 94, 96. -/
def State.engFail (s : State) (e code : Nat) (own : Bool) : State :=
  let x := s.eng e
  match x.ring with
  | none => s
  | some g =>
    let residual := match x.desc with | some d => if dOp d == 1 then dLen d - x.wrote else 0 | none => 0
    let silent := !x.chain && !own
    let s := if own then s.engStatus e g x.addr code residual else s
    let s := if x.chain then s.engStatus e g (s.slotAddr g (s.engCount e)) code 0 else s
    let s := if silent then s else
      (s.st .rng g T_RNG.DCOUNT (s.tf .rng g T_RNG.DCOUNT + 1)).cnt (pgCVE e) CVE.CNT_ERRORS
    let s := s.event (pgHAL (ringHall g)) (8 + g % 8)
    (s.engCapture e g code x.hop residual).ringStop e g code

/-- A chain would exceed the hop limit (R376). DEDUCED, unsafe: log entry 95. -/
def State.engLoop (s : State) (e : Nat) : State := (s.cnt pgCVN CVN.CNT_LOOPS).engFail e 0x0D false

/-- The next descriptor of a chain is fetched, one hop further. -/
def State.engHop (s : State) (e addr : Nat) : State :=
  let x := s.eng e
  if s.gf1 pgCVN CVN.CVN_CTL_HOP_LIMIT < x.hop + 1 then s.engLoop e
  else (s.setEng e { x with chain := true, hop := x.hop + 1 }).engFetchAt e addr

/-- A descriptor completes (R372, R373, R375). -/
def State.engComplete (s : State) (e : Nat) : State :=
  let x := s.eng e
  match x.ring, x.desc with
  | some g, some d =>
    let s := (s.engStatus e g x.addr 0 0).cnt (pgCVE e) CVE.CNT_DESCRIPTORS
    let s := s.ringDone g (dIrq d)
    if x.chain then
      if dEnd d then
        let s := (s.engStatus e g (s.slotAddr g (s.engCount e)) 0 0).cnt (pgCVE e) CVE.CNT_DESCRIPTORS
        (s.ringDone g x.irq).slotDone e g
      else s.engHop e (x.addr + 32)
    else s.slotDone e g
  | _, _ => s

/-! ### Moving the data (R367 to R371) -/

/-- Who an access of an engine is made by. -/
def State.engWho (s : State) (e g num : Nat) : Who := .engine e g (s.engCount e) (s.eng e).hop num

/-- A request of an engine to the aperture of its hall's function (R367). -/
def State.engReq (s : State) (e g num : Nat) (op : AccOp) (off : Nat) (cells : List (Option Byte)) : Req :=
  let h := ringHall g
  ⟨op, s.engWho e g num, s.hallFunc h, s.hallPasid h, some h, off, off, cells, [], s.hallFunc h, 0⟩

/-- The largest host read of a function (R368). -/
def State.mrrs (s : State) (func : Nat) : Nat := 128 * 2 ^ min 5 (s.cfgRaw func .maxReadReq)

/-- The next source read is made, while reads remain, fewer than 16 are open, and the engine is not stalled (R368). -/
def State.engRead (s : State) (e g : Nat) (d : BitVec 256) : State :=
  let x := s.eng e
  if dLen d ≤ x.asked || 16 ≤ x.reads.length || s.engStalled e then s else
  let a := (dSrc d + x.asked) % 2 ^ 64
  let n := min (dLen d - x.asked) (512 - a % 512)
  let n := if dSrcSp d then n else min n (s.mrrs (s.hallFunc (ringHall g)))
  let num := x.nextRd + 1
  let taken := { x with asked := x.asked + n, nextRd := num, reads := x.reads ++ [(⟨num, a, n, none⟩ : SrcRead)] }
  if dSrcSp d then (s.setEng e taken).accept (s.engReq e g num .read a (List.replicate n (some 0)))
  else match s.askHost (ringHall g) (.srcRead e num) a n with
    | (s, true) => s.setEng e taken
    | (s, false) => s

/-- The next destination write leaves when the holding register holds all of its bytes (R369). -/
def State.engWrite (s : State) (e g : Nat) (d : BitVec 256) : State :=
  let x := s.eng e
  let a := (dDst d + x.wrote) % 2 ^ 64
  let n := min (dLen d - x.wrote) (128 - a % 128)
  if n == 0 || x.hold.length < n || x.code != 0 || s.engStalled e then s else
  let data := x.hold.take n
  let total := x.rest + n
  let next := { x with wrote := x.wrote + n, hold := x.hold.drop n, rest := total % 1024 }
  let go := fun (s : State) => (s.setEng e next).cnt (pgCVE e) CVE.CNT_KBYTES (total / 1024)
  if dDstSp d then (go s).accept (s.engReq e g 0 .write a (data.map some))
  else if (s.xlat (ringHall g) a).isNone then s.askXlat (ringHall g) a
  else (go s).engFrame e g (.memWr e a x.relax data) n

/-- The same change, a number of times. DESIGN CHOICE, unsafe: log entry 148. -/
def State.again (s : State) (f : State → State) : Nat → State
  | 0 => s
  | n + 1 => (f s).again f n

/-- An engine goes on with what it is at (R368 to R371, R378): it asks for its descriptor, or writes, reads and completes.
DESIGN CHOICE, unsafe: log entries 14, 148; DEDUCED, unsafe: log entry 31. -/
def State.engRun (s : State) (e : Nat) : State :=
  let x := s.eng e
  match x.ring with
  | none => s
  | some g =>
    let st := s.engSt e
    if st == enFETCH then
      if x.desc.isNone && !x.failed && !s.engStalled e && !s.host.reqs.any (fun r => r.owner == .fetch e) then
        if x.code != 0 then
          (if x.chain then s else s.st .rng g T_RNG.CCOUNT (s.engCount e + 1)).engFail e x.code true
        else (s.askHost (ringHall g) (.fetch e) x.addr 32).1
      else s
    else if st == enMOVE || st == enSTALL then
      if x.code != 0 then s.engFail e x.code true
      else
        match x.desc with
        | none => s
        | some d =>
          let s := s.again (fun s => s.engWrite e g d) 8
          let s := if s.engStalled e then s else s.again (fun s => s.engRead e g d) 16
          if (s.eng e).code != 0 then s.engFail e (s.eng e).code true
          else if s.engStalled e then (s.setEngSt e enSTALL).engShow e
          else if dLen d ≤ (s.eng e).wrote then s.engComplete e
          else (s.setEngSt e enMOVE).engShow e
    else s

/-- Everything that can go on goes on: BRG, then the engines that hold a ring, then bitmap reads. DESIGN CHOICE, unsafe: log entry 14. -/
def State.settle (s : State) : State :=
  let s := s.pump
  let s := s.each (s.cvn.engines.filter (fun e => e.2.ring.isSome)) (fun e s => s.engRun e.1)
  s.dlAsk

/-! ### Assignment (R364, R366) -/

/-- The rings of the list that may be given an engine. -/
def State.ringReady (s : State) (g : Nat) : Bool :=
  let h := ringHall g
  s.tf .enl h T_ENL.ENG_NOW < min 128 (max 1 (s.tf .enl h T_ENL.ENG_MAX)) && s.ringServed g && !s.quiesce (pgHAL h)

/-- An engine that may be given a ring. DESIGN CHOICE, unsafe: log entry 148. -/
def State.engReady (s : State) (e : Nat) : Bool :=
  s.active (pgCVE e) && !s.quiesce (pgCVE e) && s.engSt e == enIDLE && (s.eng e).ring.isNone

/-- CVN gives the first ready ring of the list the lowest-numbered idle engine, which asks the Cistern for its start. -/
def State.engAssign (s : State) : State :=
  if !s.active pgCVN || s.quiesce pgCVN then s else
  match s.cvn.pending.find? s.ringReady, (List.range 128).find? s.engReady with
  | some g, some e =>
    let left := s.cvn.pending.filter (· != g)
    let (s, ok) := if s.gb (pgCVE e) CVE.ENG_STS_POWERED then (s, true) else
      match s.askCistern (pgCVE e) [(pgCVE e, 12, 0)] with
      | (s, true) => ((s.sf (pgCVE e) CVE.ENG_STS_POWERED 1).cnt (pgCVE e) CVE.CNT_STARTS, true)
      | (s, false) => (s, false)
    let s := s.setPending left
    if ok then
      let h := ringHall g
      let s := (s.cnt pgCVN CVN.CNT_ASSIGNS).setRing g rgRUNNING |>.st .enl h T_ENL.ENG_NOW (s.tf .enl h T_ENL.ENG_NOW + 1)
      let s := s.sf (pgCVE e) CVE.ENG_STS_RING g
      let x := s.eng e
      let s := s.setEng e { Engine.reset with ring := some g, nextRd := x.nextRd, rest := x.rest }
      if s.cvn.stopDue.contains g then
        let s := { s with cvn := { s.cvn with stopDue := s.cvn.stopDue.filter (· != g) } }
        s.ringStop e g (s.tf .rng g T_RNG.TAIL_CODE)
      else (s.engSlot e g).engRun e
    else
      ((s.setRing g rgNOTADM).cnt pgCVN CVN.CNT_START_REFUSED).error pgCVN 2 0x03 g e 12 |>.event (pgCVE e) 2
  | _, _ => s

def execEngineAssign (s : State) : Host.Outcome State Fault Refusal := done s.engAssign

/-- ENGINE_POWER_DOWN (R366): 10 µs without a ring return the allowance. -/
def execEnginePowerDown (engine : Nat) (s : State) : Host.Outcome State Fault Refusal :=
  done (if engine < 128 && s.gb (pgCVE engine) CVE.ENG_STS_POWERED && (s.eng engine).ring.isNone
      && s.due ((s.eng engine).idleAt + us 10) then
    (s.sf (pgCVE engine) CVE.ENG_STS_POWERED 0).giveBack (pgCVE engine) 12 0 else s)

/-! ### Descriptors (R359, R362, R374 to R377) -/

/-- What a fetched descriptor does, after the PHASE check of a ring slot and the advance of CCOUNT. -/
def State.descAct (s : State) (e : Nat) (ok : Nat → Bool) (f : Nat → BitVec 256 → State → State) : State :=
  let x := s.eng e
  match x.ring, x.desc with
  | some g, some d =>
    if s.engSt e != enFETCH || !ok (dOp d) || s.engStalled e then s
    else if x.chain then f g d s
    else
      let c := s.engCount e
      if dPhase d != bitAt c (s.ringSize g) then s.engFail e 0x02 false
      else f g d ((s.st .rng g T_RNG.CCOUNT (c + 1)).setEng e { x with irq := dIrq d })
  | _, _ => s

/-- DESC_NOP. -/
def execDescNop (engine : Nat) (s : State) : Host.Outcome State Fault Refusal :=
  done (s.descAct engine (· == 0) (fun _ _ s => s.engComplete engine)).settle

/-- DESC_COPY: the movement begins with the source reads. -/
def execDescCopy (engine : Nat) (s : State) : Host.Outcome State Fault Refusal :=
  done (s.descAct engine (· == 1) (fun _ d s =>
    if dLen d == 0 then s.engFail engine 0x01 true
    else ((s.setEngSt engine enMOVE).engShow engine).engRun engine)).settle

/-- DESC_FENCE: the fence read is made, in host memory through the host queue, or through the aperture. -/
def execDescFence (engine : Nat) (s : State) : Host.Outcome State Fault Refusal :=
  done (s.descAct engine (· == 2) (fun g d s =>
    if dDst d % 4 != 0 then s.engFail engine 0x01 true
    else
      let s := (s.setEng engine { s.eng engine with fence := some none }).setEngSt engine enFENCE
      if dDstSp d then s.accept (s.engReq engine g 0 .read (dDst d) (List.replicate 4 (some 0)))
      else s.engFrame engine g (.memRd engine (dDst d)) 4)).settle

/-- DESC_JUMP: the chain goes on at DST. -/
def execDescJump (engine : Nat) (s : State) : Host.Outcome State Fault Refusal :=
  done (s.descAct engine (· == 3) (fun _ d s =>
    if dDst d % 32 != 0 then s.engFail engine 0x01 true else s.engHop engine (dDst d))).settle

/-- DESC_RESERVED_OP. -/
def execDescReservedOp (engine : Nat) (s : State) : Host.Outcome State Fault Refusal :=
  done (s.descAct engine (4 ≤ ·) (fun _ _ s => s.engFail engine 0x01 true)).settle

/-- DESC_FETCH_FAIL (R377): in a ring slot the ring stops where it is; in a chain the slot that began it gets the code. -/
def execDescFetchFail (engine : Nat) (s : State) : Host.Outcome State Fault Refusal :=
  done (if (s.eng engine).failed && s.engSt engine == enFETCH then (s.engFail engine 0x03 false).settle else s)

/-- CARAVAN_READ_DATA (R368, R369): the oldest source read enters the holding register, or ends the COPY. -/
def State.engData (s : State) (e : Nat) : State :=
  let x := s.eng e
  let st := s.engSt e
  if !(st == enMOVE || st == enSTALL) || s.engStalled e || 128 ≤ x.hold.length then s else
  match x.reads with
  | r :: t =>
    match r.got with
    | some (0, data) => (s.setEng e { x with reads := t, hold := x.hold ++ data }).engRun e
    | some (code, _) => (s.setEng e { x with code := code }).engRun e
    | none => s
  | [] => s

def execCaravanReadData (engine : Nat) (s : State) : Host.Outcome State Fault Refusal := done (s.engData engine).settle

/-- FENCE_DONE (R372, R374). -/
def execFenceDone (engine : Nat) (s : State) : Host.Outcome State Fault Refusal :=
  done (if s.engSt engine == enFENCE then
    (match (s.eng engine).fence with
      | some (some true) => (s.engComplete engine).settle
      | some (some false) => (s.engFail engine 0x0F true).settle
      | _ => s) else s)

/-- An engine whose hall is reset stops at once (R382). -/
def State.engAbort (s : State) (e g : Nat) : State :=
  let x := s.eng e
  let residual := match x.desc with | some d => if dOp d == 1 then dLen d - x.wrote else 0 | none => 0
  ((s.cnt pgCVN CVN.CNT_HALL_ABORTS).engCapture e g 0x0E x.hop residual).engRelease e g

end Sys2Proof.Machine
end

