-- ==== Sys2Proof/Machine/MgqBase.lean ====
section
/-!
DEFINITION. What ends a management command (R457 to R462, R465): the completion in its ring slot or the MCTP response, and the
MCTP packets a response leaves in (R44).
-/

namespace Sys2Proof.Machine

/-! ### MCTP messages out (R41, R44) -/

/-- A message cut into bodies of at most 64 bytes. -/
def chunks64 : Nat → List Byte → List (List Byte)
  | 0, _ => []
  | fuel + 1, l => if l.isEmpty then [] else l.take 64 :: chunks64 fuel (l.drop 64)

/-- The SMBus bytes of one packet of a response (DSP0237): target address, command, count, source address, the MCTP header, the
body and PEC. PRESUMED, unsafe: log entry 20. -/
def State.mctpBytes (s : State) (i n : Nat) (body : List Byte) : List Byte :=
  let b := fun (x : Nat) => (BitVec.ofNat 8 x : Byte)
  let flags := b2n (i == 0) * 128 + b2n (i + 1 == n) * 64 + i % 4 * 16 + s.smb.peerTag % 8
  let l := [b (s.smb.peerAddr * 2), b 0x0F, b (5 + body.length), b (s.smbAddr * 2 + 1), b 1, b s.smb.peerEid, b s.smb.eid, b flags] ++ body
  l ++ [b (crc8 l)]

/-- A response message is sent to whoever sent the request. -/
def State.mctpSend (s : State) (msg : List Byte) : State :=
  let ps := chunks64 40 msg
  s.each ps.zipIdx (fun e s => s.emit (.mctp (s.mctpBytes e.2 ps.length e.1)))

/-! ### Commands (R460, R462) -/

def mqOp (c : BitVec 512) : Nat := fld c 0 8
def mqPhase (c : BitVec 512) : Bool := fld c 8 1 == 1
def mqIrq (c : BitVec 512) : Bool := fld c 9 1 == 1
def mqStage (c : BitVec 512) : Bool := fld c 10 1 == 1
def mqArg0 (c : BitVec 512) : Nat := fld c 32 32
def mqAddr (c : BitVec 512) : Nat := fld c 68 60 * 16
def mqArg1 (c : BitVec 512) : Nat := fld c 128 32
def mqArg2 (c : BitVec 512) : Nat := fld c 160 32

/-- The states of the ring (R480). -/
def mqDISABLED : Nat := 0
def mqIDLE : Nat := 1
def mqRUNNING : Nat := 2
def mqSTOPPED : Nat := 3

/-- The base address of the ring, the log of its size, and the address of a slot (R457, R480). -/
def State.mqBase (s : State) : Nat := s.gf pgMGQ MGQ.RING_LO_BASE_LO * 64 + s.gf pgMGQ MGQ.RING_HI_BASE_HI * 2 ^ 32
def State.mqSize (s : State) : Nat := min 12 (max 4 (s.gf pgMGQ MGQ.RING_CTL_SIZE))
def State.mqSlot (s : State) (k : Nat) : Nat := s.mqBase + 64 * (k % 2 ^ s.mqSize)

/-- What a command ends with: its status, its three results, and data for the buffer or the MCTP response. -/
structure MgqEnd where
  status : Nat
  r0     : Nat
  r1     : Nat
  r2     : Nat
  data   : List Byte
  deriving DecidableEq, Repr

def mqStatus (status : Nat) : MgqEnd := ⟨status, 0, 0, 0, []⟩

/-- Completion bytes 48 to 63 of a command (R460). -/
def MgqEnd.bytes (e : MgqEnd) : List Byte :=
  bytesOf 16 (1 + e.status % 256 * 2 ^ 8 + e.r0 % 2 ^ 32 * 2 ^ 32 + e.r1 % 2 ^ 32 * 2 ^ 64 + e.r2 % 2 ^ 32 * 2 ^ 96)

/-- The bridge's memory writes for MGQ leave through the host port in their order; while it may send nothing they wait (R82).
The completion of a WAIT is sent although the stop sequence has quiesced HST (R506). DESIGN CHOICE, unsafe: log entry 159. -/
def State.mgqFlush (s : State) : State :=
  let l := s.mgq.outbox
  { s.each l (fun w s => s.emit (.memWr 0 none false w.1 w.2)) with
    mgq := { s.mgq with outbox := [] } }
/-- DESIGN CHOICE, unsafe: log entry 159. -/
def State.mgqSend (s : State) (run : MgqRun) (addr : Nat) (data : List Byte) : State :=
  let s := { s with mgq := { s.mgq with outbox := s.mgq.outbox ++ [(addr, data)] } }
  if s.mayMaster 0 || (mqOp run.cmd == 0x05 && s.masters 0) then s.mgqFlush else s

/-- A command ends (R459): its data, then its completion in its slot or its response over MCTP; events and counters.
DESIGN CHOICE, unsafe: log entry 23. -/
def State.mgqEnd (s : State) (run : MgqRun) (e : MgqEnd) : State :=
  let s := { s with mgq := { s.mgq with cur := none } }
  let s := if run.mctp then
      (s.mctpSend ([0x7E, 0x1F, 0x3C, 0x81].map (fun (x : Nat) => (BitVec.ofNat 8 x : Byte)) ++ e.bytes ++ e.data)).cnt pgMGQ MGQ.CNT_MCTP_CMDS
    else
      let s := s.each (hostChunks (s.mps 0) 1048576 (mqAddr run.cmd) e.data.length) (fun c s =>
        s.mgqSend run c.1 ((e.data.drop (c.1 - mqAddr run.cmd)).take c.2))
      (s.mgqSend run (s.mqSlot run.count + 48) e.bytes).cnt pgMGQ MGQ.CNT_RING_CMDS
  let s := s.sf pgMGQ MGQ.EXEC_STS_BUSY 0 |>.sf pgMGQ MGQ.EXEC_STS_OP 0 |>.sf pgMGQ MGQ.EXEC_STS_SOURCE 0
  let s := if !run.mctp && s.gf pgMGQ MGQ.RING_STS_STATE == mqRUNNING && s.gf pgMGQ MGQ.DB_COUNT == s.gf pgMGQ MGQ.RING_STS_CCOUNT then
      s.sf pgMGQ MGQ.RING_STS_STATE mqIDLE else s
  let s := if mqIrq run.cmd then s.event pgMGQ 0 else s
  if e.status == 0 then s else (s.cnt pgMGQ MGQ.CNT_CMD_ERRORS).event pgMGQ 1

/-- The command in progress ends, if a condition on its wait holds. -/
def State.mgqFinish (s : State) (c : MgqWait → Bool) (e : MgqEnd) : State :=
  match s.mgq.cur with
  | some run => if c run.wait then s.mgqEnd run e else s
  | none => s

/-- A command waits. -/
def State.mgqWait (s : State) (run : MgqRun) (w : MgqWait) : State := { s with mgq := { s.mgq with cur := some { run with wait := w } } }

/-- The answer of a station to a STATION command (R464): the register's value, or its code. -/
def State.stationAnswer (s : State) (anchor tag : Nat) (f : Frame) (bad : Bool) : State :=
  s.mgqFinish (fun w => match w with | .station a t _ => a == anchor && t == tag | _ => false)
    (if bad then ⟨0x11, 0, 0, 0, []⟩ else if f.code != 0 then ⟨0x11, f.code, 0, 0, []⟩
      else ⟨0, fld (f.words.getD 0 0) 0 32, 0, 0, []⟩)

end Sys2Proof.Machine
end

