-- ==== Sys2Proof/Machine/Larduper.lean ====
section
/-!
DEFINITION. Received acknowledgements and LINK_INIT with all they release, link disable, the wakes BRG and SWC ask for
(R176), the BRG rows of time and registers, and the Larduper operations of stations (R234 to R264, R126 to R129).
-/

namespace Sys2Proof.Machine

/-! ### Time (R73, R74, R261) -/

/-- A measured error of DEVTIME, in ns, is corrected (R74): a step forward, or a slew. A step starts new time rounds (R262). -/
def State.correctTime (s : State) (err : Int) : State :=
  if 1000 < err then
    let was := s.sys.devtime
    let s := { s with sys := { s.sys with devtime := s.sys.devtime + err.toNat, slew := 0, slewIn := 0, slewFast := false } }
    let s := s.sf pgFLT FLT.FLT_STS_STEPS (s.gf pgFLT FLT.FLT_STS_STEPS + 1)
    let s := s.each (s.sch.gates.map (·.1)) (fun n s => s.gateStep was n)
    { s with lards := s.lards.map (fun e => (e.1, { e.2 with roundAt := none })) }
  else
    { s with sys := { s.sys with slew := err, slewFast := decide (err < -1000), slewIn := 0 } }

/-- The present slew of DEVTIME in parts per 10^9 (R74, R259). -/
def State.slewPpb (s : State) : Int :=
  if s.sys.slew == 0 then 0
  else if s.sys.slewFast then -1000000
  else if 0 < s.sys.slew then 100000 else -100000

/-! ### Acknowledgements -/

/-- A follower's ECHO has been acknowledged: ECHO_FU follows with s3 (R261, R320). -/
def State.echoDone (s : State) (a : Nat) : State :=
  let d := s.lard a
  match d.echo with
  | some x =>
    let out := ((s.link a).txq ++ (s.link a).held.map (·.2)).any (fun c => c.frame.op == opTIME && c.frame.kind == 2)
    if x.fu || out then s
    else (s.setLard a { d with echo := some { x with fu := true } }).ownFrame a
      (mkTime 3 x.id [BitVec.ofNat 64 x.s3, BitVec.ofNat 64 (b2n x.again)])
  | none => s

/-- ACK_RX (R201): held frames are released, and what waited for that goes on (R104, R261). -/
def execAckRx (anchor : Nat) (blk : Word64) (s : State) : Host.Outcome State Fault Refusal :=
  done ((s.ackIn anchor blk).echoDone anchor).settle

/-- NAK_RX (R201, R202). -/
def execNakRx (anchor : Nat) (blk : Word64) (s : State) : Host.Outcome State Fault Refusal :=
  done ((s.nakIn anchor blk).echoDone anchor).settle

/-! ### LINK_INIT and link disable -/

/-- What a fresh start does beyond the link layer (R125, R127, R218, R251, R284): the old epoch is the one recorded before. -/
def State.afterFresh (s : State) (a old : Nat) (f : Fresh) : State :=
  let s := if f.met then (s.brgFresh a f.discarded).sessionSweep a
    else s.each f.discarded (fun c s => s.loseCargo a c none false)
  let s := if s.gf (pgPRT a) LNK.EPOCH_STATION != old then s.mirFresh a else s
  s.setLard a { s.lard a with ident := none, round := none, pollTag := none, echo := none }

/-- A step of the INIT exchange with what a fresh start in it does (R218). -/
def State.initNext (s : State) (a : Nat) : State :=
  match s.initStep a with
  | (t, some f) => t.afterFresh a (s.gf (pgPRT a) LNK.EPOCH_STATION) f
  | (t, none) => t

/-- LINK_INIT_RX (R216 to R219). -/
def execLinkInitRx (anchor : Nat) (init param : Word64) (s : State) : Host.Outcome State Fault Refusal :=
  done (((s.initGot anchor init).1.paramGot anchor param).initNext anchor).settle

/-- LINK_DISABLE (R221, R285): the link's eight queues are flushed. -/
def State.linkDisable (s : State) (a : Nat) : State :=
  if s.anchorOf a != a then s
  else if s.lk a == lkDISABLED then (s.sf (pgPRT a) LNK.LINK_CTL_LINK_EN 0).sf (pgPRT a) LNK.LINK_STS_CFG_ERR 0
  else ((s.linkOff a).each (List.range 8) (fun c s => s.flushQueue (portQueue a c))).settle
def execLinkDisable (anchor : Nat) (s : State) : Host.Outcome State Fault Refusal := done (s.linkDisable anchor)

/-! ### Wakes (R18, R176) -/

/-- A request frame that a refused wake discards: a write is logged with CAUSE 0x4, a read fails (R18, R98); a relayed request
is discarded without an answer (R319). DEDUCED, unsafe: log entry 54. -/
def State.refusePart (s : State) (i k : Nat) (a : Acc) (p : Part) : State :=
  if a.isRelay then
    let s := s.endAcc i
    s.each ((List.range a.parts.length).filter (fun j => j != k && (match s.part? i j with | some q => q.st == .finished | none => false)) ++ [k])
      (fun j s => s.endPart i j)
  else if a.op == .write then
    ((s.pwLog 4 { p.entry a 0 with np := !p.posted }).writeFailed a.who 0x08).endPart i k
  else (s.failRead i 0x08).endPart i k

/-- One stored frame of a queue of a link whose wake was refused. DEDUCED, unsafe: log entry 54. -/
def State.refuseRef (s : State) (q : Nat) (r : Ref) : State :=
  match s.galFrame r.frame with
  | none => s.dropRef q r
  | some g =>
    match g.load with
    | .request i k =>
      let s := match s.acc? i, s.part? i k with
        | some a, some p => s.refusePart i k a p
        | _, _ => s.pwLog 4 (frameEntry (q / 8) g.cargo r.word)
      s.discardRef q r .refused
    | _ =>
      let s := (s.cnt pgSWC SWC.CNT_NA_DROPS).event pgSWC 10 |>.sf pgSWC HDR.PAGE_STS_NOT_ADMITTED 1
      let s := match g.acct with
        | some x => s.tcnt .acc x T_ACC.DROPS
        | none => s
      s.discardRef q r .refused

/-- The wake of a link was refused: its traffic is discarded in order. DEDUCED, unsafe: log entry 54. -/
def State.refuseWake (s : State) (a : Nat) : State :=
  let refs := (List.range 8).flatMap (fun c => (s.queue (portQueue a c)).map (fun r => (portQueue a c, r)))
  let isReq := fun (r : Ref) => match s.galFrame r.frame with
    | some g => (match g.load with | .request _ _ => true | _ => false)
    | none => false
  let waits := s.allParts.filter (fun e => e.2.2.2.st == .waiting && e.2.2.2.typ == 0
    && (if e.2.2.2.dev == 0 then some e.2.2.2.link else s.routeOf e.2.2.2.dev) == some a)
  let brg := refs.any (fun e => isReq e.2) || !waits.isEmpty
  let s := s.each refs (fun e s => s.refuseRef e.1 e.2)
  let s := s.each waits (fun e s => match s.part? e.1 e.2.2.1 with
    | some p => if p.st == .finished then s else s.refusePart e.1 e.2.2.1 e.2.1 p
    | none => s)
  let s := if brg then (s.event pgBRG 6).sf pgBRG HDR.PAGE_STS_NOT_ADMITTED 1 else s
  if refs.any (fun e => !isReq e.2) then
    { s with gal := { s.gal with naLock := s.gal.naLock.filter (fun e => e.1 != a / 16) ++ [(a / 16, s.clock + us 100)] } }
  else s

/-- BRIDGE_WAKE (R176): a sleeping link with traffic is woken; SWC asks for station frames alone only outside its lock-out. -/
def State.bridgeWake (s : State) (a : Nat) : State :=
  let reqs := (List.range 8).any (fun c => (s.queue (portQueue a c)).any (fun r => match s.galFrame r.frame with
    | some g => (match g.load with | .request _ _ => true | _ => false)
    | none => false))
  let waits := s.allParts.any (fun e => e.2.2.2.st == .waiting && e.2.2.2.typ == 0 && e.2.2.2.link == a)
  if s.lk a != lkSLEEP || !(s.queuedFor a || waits) then s
  else if s.naLocked a && !reqs && !waits then s.refuseWake a
  else match s.wakePort a with
    | (s, true) => s
    | (s, false) => (s.refuseWake a).settle
def execBridgeWake (anchor : Nat) (s : State) : Host.Outcome State Fault Refusal := done (s.bridgeWake anchor)

/-! ### BRG timers and admission -/

/-- READ_EXPIRY (R99 to R103). -/
def execReadExpiry (acc : Nat) (s : State) : Host.Outcome State Fault Refusal := done (s.readExpire acc).settle

/-- NPW_EXPIRY (R101): what was held behind the write goes on. -/
def execNpwExpiry (acc : Nat) (s : State) : Host.Outcome State Fault Refusal := done (s.npwExpire acc).settle

/-- RA_HOLD_EXPIRY (R115). -/
def State.raHold (s : State) (n : Nat) : State :=
  match s.brg.slots.find? (fun e => e.1 == n) with
  | some (_, x) =>
    if s.due (x.filled + us (s.gf1 pgBRG BRG.RA_CTL_HOLD_US)) && !x.bytes.isEmpty then s.raDiscard (fun y => y == x) else s
  | none => s
def execRaHoldExpiry (slot : Nat) (s : State) : Host.Outcome State Fault Refusal := done (s.raHold slot)

/-! ### Mirage and side-band polling (R126 to R129) -/

/-- MIRAGE_OUT_WRITE (R126, R133). -/
def execMirageOutWrite (port slot : Nat) (value : Word) (s : State) : Host.Outcome State Fault Refusal :=
  done (if port < 1024 && slot < 16 then s.mirWrite port slot value.toNat else s)

/-- Whether MIR works, and whether a station declared a capability. -/
def State.mirOn (s : State) : Bool := s.active pgMIR && !s.quiesce pgMIR
def State.stationCan (s : State) (a bit : Nat) : Bool := match (s.lard a).ident with | some i => i.can bit | none => false

/-- The words of a mirage update: the carried slots two to a word. -/
def mirageWords (vs : List Nat) : List Word64 :=
  (List.range (ceilDiv vs.length 2)).map (fun j => BitVec.ofNat 64 (vs.getD (2 * j) 0 % 2 ^ 32 + vs.getD (2 * j + 1) 0 % 2 ^ 32 * 2 ^ 32))

/-- MIRAGE_UPDATE_SEND (R126): every changed slot, once the previous update has been acknowledged. -/
def State.mirageSend (s : State) (a : Nat) : State :=
  let d := s.lard a
  let open_ := ((s.link a).txq ++ (s.link a).held.map (·.2)).any (fun c => c.frame.op == opMIRAGE)
  if s.mirOn && s.gb pgMIR MIR.MIR_CTL_OUT_EN && s.flows a && !s.quiesce (pgPRT a) && s.stationCan a 50 && d.changed != 0 && !open_ then
    let slots := (List.range 16).filter (fun i => bitAt d.changed i)
    let s := (s.setLard a { d with changed := 0 }).cnt pgMIR MIR.CNT_OUT_UPDATES
    s.ownFrame a (mkMirage d.changed (mirageWords (slots.map (fun i => s.tf .mir a (T_MIR.OUT i)))))
  else s
def execMirageUpdateSend (anchor : Nat) (s : State) : Host.Outcome State Fault Refusal := done (s.mirageSend anchor)

/-- An inbound slot takes a value. -/
def State.inSlot (s : State) (a i v : Nat) : State :=
  let s := s.st .mir a (T_MIR.IN i) v
  if i == 15 then s.sideUpdate a (s.flows a) else s

/-- SB_POLL_TIMER (R128): a poll every POLL_US; one not answered by then is missed. DEDUCED, unsafe: log entry 59. -/
def State.sbPoll (s : State) (a : Nat) : State :=
  let d := s.lard a
  let us_ := s.gf pgMIR MIR.MIR_CTL_POLL_US
  let now := match d.pollAt with | some t => s.due (t + us us_) | none => true
  if s.mirOn && us_ != 0 && s.flows a && !s.quiesce (pgPRT a) && s.stationCan a 51 && now then
    let s := if d.pollTag.isSome then (s.cnt pgMIR MIR.CNT_POLL_MISSED).error pgMIR 0 0x01 a 0 0 else s
    match s.freeTag a with
    | some t =>
      let s := s.takeTag a t .poll
      (s.setLard a { s.lard a with pollAt := some s.clock, pollTag := some t }).ownFrame a (mkCtl opPOLL t 0 [])
    | none => s.setLard a { s.lard a with pollAt := some s.clock, pollTag := none }
  else s
def execSbPollTimer (anchor : Nat) (s : State) : Host.Outcome State Fault Refusal := done (s.sbPoll anchor)

/-- The answer to a poll (R128): the last poll's enters inbound slot 15; an error or an answer to an earlier poll only releases
its tag. DEDUCED, unsafe: log entry 59. -/
def State.pollAnswer (s : State) (a : Nat) (f : Frame) : State :=
  let s := s.dropTag a f.tag
  let d := s.lard a
  let bad := if f.code == 0 then f.words.length != 1 else !f.words.isEmpty
  let s := if bad then s.stationReport a s.device 2 f.op f.seq else s
  if d.pollTag == some f.tag && !bad && f.code == 0 then
    (s.setLard a { s.lard a with pollTag := none }).inSlot a 15 (fld (f.words.getD 0 0) 0 32)
  else s

/-! ### Responses (R246 to R251) -/

/-- The answer to an IDENT (R251, R254): the first record identifies the link; an error answer asks again. -/
def State.identAnswer (s : State) (a : Nat) (f : Frame) : State :=
  let s := s.dropTag a f.tag
  let d := s.lard a
  if d.ident.isSome then s else
  let bad := if f.code == 0 then f.words.length != 4 else !f.words.isEmpty
  let s := if bad then s.stationReport a s.device 2 f.op f.seq else s
  if bad || f.code != 0 then s.setLard a { s.lard a with identDue := true }
  else
    let ok := recordValid f.words
    let s := s.setLard a { s.lard a with ident := some ⟨f.words, ok⟩, identDue := false }
    if ok then s else s.stationReport a s.device 4 f.op f.seq

/-- Whether an earlier MSG of a link still waits in its receive buffer before a response (R123, R270). DEDUCED, unsafe: log entry 51. -/
def State.behindMsg (s : State) (a : Nat) (f : Frame) : Bool :=
  ((s.link a).rxBuf.takeWhile (fun x => x != f)).any (fun x => x.op == opMSG)

/-- STATION_RSP (R246, R248): by what its tag was taken for; a tag nothing holds is stale. DEDUCED, unsafe: log entries 51, 66. -/
def State.stationRsp (s : State) (a : Nat) : State :=
  if s.cascadeLink a then s else
  match s.rxHead a opRSP with
  | none => s
  | some f =>
    let s0 := s
    let s := s.rxTake a f
    match (s.lard a).tags.find? (fun t => t.tag == f.tag) with
    | none => s.staleTag a f.tag
    | some t =>
      match t.use with
      | .access i k =>
        if !s0.active pgSWC || s0.quiesce pgSWC || s0.behindMsg a f then s0 else (s.respond a i k f).settle
      | .ident => (s.identAnswer a f).settle
      | .poll => (s.pollAnswer a f).settle
      | .stationCmd n =>
        let s := s.dropTag a f.tag
        let bad := if f.code != 0 then !f.words.isEmpty else f.words.length != n
        let s := if bad then s.stationReport a s.device 2 f.op f.seq else s
        (s.stationAnswer a f.tag f bad).settle
def execStationRsp (anchor : Nat) (s : State) : Host.Outcome State Fault Refusal := done (s.stationRsp anchor)

/-- SB_POLL_ANSWER (R128): a response whose tag a poll holds. -/
def execSbPollAnswer (anchor : Nat) (s : State) : Host.Outcome State Fault Refusal :=
  done (match s.rxHead anchor opRSP with
    | some f => if (s.lard anchor).tags.any (fun t => t.tag == f.tag && t.use == .poll) then s.stationRsp anchor else s
    | none => s)

/-- IDENT_RETRY (R251): 10 ms of UP time after the last IDENT of an unidentified link. -/
def execIdentRetry (anchor : Nat) (s : State) : Host.Outcome State Fault Refusal :=
  let d := s.lard anchor
  let mine := d.tags.filter (fun t => t.use == .ident)
  let last := (mine.map (·.sent)).foldl max 0
  let unsent := (s.link anchor).txq.any (fun c => c.frame.op == opIDENT)
  done (if s.flows anchor && !s.cascadeLink anchor && d.ident.isNone && !d.identDue && !unsent
      && (mine.isEmpty || last + ms 10 ≤ s.upTime anchor) then
    (s.setLard anchor { d with identDue := true }).identPump else s)

/-- TAG_LIFETIME (R246): a tag held for 1 s of UP time is released. -/
def State.tagEnds (s : State) (a tag : Nat) : State :=
  match (s.lard a).tags.find? (fun t => t.tag == tag) with
  | some t =>
    let sent := !(s.link a).txq.any (fun c => takesTag c.frame && c.frame.tag == tag) &&
      (match t.use with
        | .access i k => (match s.part? i k with | some p => p.st == .sent | none => true)
        | _ => true)
    if sent && t.sent + ms 1000 ≤ s.upTime a then
      match t.use with
      | .access i k => (s.endPart i k).settle
      | _ => (s.dropTag a tag).settle
    else s
  | none => s
def execTagLifetime (anchor tag : Nat) (s : State) : Host.Outcome State Fault Refusal := done (s.tagEnds anchor tag)

/-! ### Late error reports, events, mirage updates -/

/-- A late error report is logged (R250): the window's owner as it stands, the reporting link, the failed bytes.
DESIGN CHOICE, unsafe: log entry 57. -/
def State.errReport (s : State) (link dev : Nat) (f : Frame) : State :=
  let w := s.win f.ctx
  let x := f.words.getD 0 0
  s.pwLog 2 ⟨false, w.func, w.hall, f.ctx, link, dev, f.addr + fld x 12 3, fld x 0 12, f.code⟩

/-- ERR_RPT_RX (R249, R250, R319): a member sends the report toward the head in the response reserve. DESIGN CHOICE, unsafe: log entry 57. -/
def State.errRptRx (s : State) (a : Nat) : State :=
  if s.cascadeLink a then s else
  match s.rxHead a opERR with
  | none => s
  | some f =>
    if !s.stationCan a 54 then (s.rxTake a f).stationReport a s.device 3 f.op f.seq
    else if s.isMember then
      match s.routeOf 0 with
      | none => (s.rxTake a f).routeDrop 0 0 a
      | some up =>
        if !s.canReserve (frameCells f) then s else
        let s := s.rxTake a f
        let s := { s with brg := { s.brg with rsv := s.brg.rsv + frameCells f } }
        s.storeIn
          { frame := f, load := .relay, acct := none, cells := [], size := frameCells f, spill := none, back := 0, bad := false
            mc := false, hall := none, gen := 0, func := 0, src := a, order := 0, epoch := none, tgt := none, refs := 0 }
          [(portQueue up 0, some (mkWord cwRETURN 0 0 0 0 s.device a 0))] none
    else (s.rxTake a f).errReport a 0 f
def execErrRptRx (anchor : Nat) (s : State) : Host.Outcome State Fault Refusal := done (s.errRptRx anchor)

/-- STATION_EVENT (R257): one pulse of the line's source. -/
def execStationEvent (anchor : Nat) (s : State) : Host.Outcome State Fault Refusal :=
  done (if s.cascadeLink anchor then s else
    match s.rxHead anchor opEVENT with
    | none => s
    | some f =>
      let s := s.rxTake anchor f
      if s.stationCan anchor 53 then s.fire (0x6000 + 16 * anchor + f.line)
      else s.stationReport anchor s.device 5 f.op f.seq)

/-- MIRAGE_UPDATE_RX (R127, R128, R258): slot 15 is left out while polling is on, and a MASK of 0 is ignored. DEDUCED, unsafe: log entry 58. -/
def State.mirageRx (s : State) (a : Nat) : State :=
  if s.cascadeLink a || s.quiesce pgMIR then s else
  match s.rxHead a opMIRAGE with
  | none => s
  | some f =>
    let s := s.rxTake a f
    if !s.stationCan a 50 then s.stationReport a s.device 6 f.op f.seq
    else if f.mask == 0 || !s.active pgMIR then s
    else
      let slots := ((List.range 16).filter (fun i => bitAt f.mask i)).zipIdx
      let s := s.cnt pgMIR MIR.CNT_IN_UPDATES
      s.each slots (fun e s =>
        if e.1 == 15 && s.gf pgMIR MIR.MIR_CTL_POLL_US != 0 then s
        else s.inSlot a e.1 (fld (f.words.getD (e.2 / 2) 0) (32 * (e.2 % 2)) 32))
def execMirageUpdateRx (anchor : Nat) (s : State) : Host.Outcome State Fault Refusal := done (s.mirageRx anchor)

/-! ### Time rounds (R259 to R262, R320) -/

/-- Whether the bridge leads time rounds on a link: its station declares TIME, or it leads the cascade link. -/
def State.timeLeads (s : State) (a : Nat) : Bool :=
  if s.cascadeLink a then s.isLeader a else s.stationCan a 52

/-- TIME_ROUND_START (R262): SYNC with a new ID, every 1 ms or after a step. DESIGN CHOICE, unsafe: log entry 52. -/
def State.roundStart (s : State) (a : Nat) : State :=
  let d := s.lard a
  let now := match d.roundAt with | some t => s.due (t + ms 1) | none => true
  if s.flows a && !s.quiesce (pgPRT a) && s.timeLeads a && now then
    let id := (d.roundId + 1) % 256
    (s.setLard a { d with
      round := some ⟨id, s.sys.devtime, false, s.clock, none, 0⟩
      roundId := id
      roundAt := some s.clock }).ownFrame a (mkTime 0 id [])
  else s
def execTimeRoundStart (anchor : Nat) (s : State) : Host.Outcome State Fault Refusal := done (s.roundStart anchor)

/-- A received TIME frame of a kind. -/
def State.rxTime (s : State) (a kind : Nat) : Option Frame :=
  match s.rxHead a opTIME with
  | some f => if f.kind == kind then some f else none
  | none => none

/-- TIME_ECHO_RX (R260, R261): s2 and t4 of the round in progress; any other ECHO is ignored. DESIGN CHOICE, unsafe: log entry 52. -/
def execTimeEchoRx (anchor t4 : Nat) (s : State) : Host.Outcome State Fault Refusal :=
  done (match s.rxTime anchor 2 with
    | none => s
    | some f =>
      let s := s.rxTake anchor f
      let d := s.lard anchor
      match d.round with
      | some r =>
        if f.roundId == r.id && r.s2.isNone then
          s.setLard anchor { d with round := some { r with s2 := some (f.words.getD 0 0).toNat, t4 := t4 } }
        else s
      | none => s)

/-- D of a round (R261): half the difference of the two intervals, rounded to the nearest ns. DESIGN CHOICE, unsafe: log entry 52. -/
def roundDelay (t1 t4 s2 s3 : Nat) : Int := (((t4 : Int) - t1) - ((s3 : Int) - s2) + 1) / 2

/-- TIME_ECHO_FU_RX (R261): FOLLOW_UP with t1, D, VALID and the present slew. -/
def execTimeEchoFuRx (anchor : Nat) (s : State) : Host.Outcome State Fault Refusal :=
  done (match s.rxTime anchor 3 with
    | none => s
    | some f =>
      let s := s.rxTake anchor f
      let d := s.lard anchor
      match d.round with
      | some r =>
        match r.s2 with
        | some s2 =>
          if f.roundId == r.id then
            let s3 := (f.words.getD 0 0).toNat
            let delay := roundDelay r.t1 r.t4 s2 s3
            let ok := !r.again && fld (f.words.getD 1 0) 0 1 == 0 && decide ((r.t4 : Int) - r.t1 ≤ 1000000)
              && decide ((s3 : Int) - s2 ≤ (r.t4 : Int) - r.t1)
            (s.setLard anchor { d with round := none }).ownFrame anchor (mkTime 1 r.id
              [BitVec.ofNat 64 r.t1, BitVec.ofNat 64 (ofSigned delay 64), BitVec.ofNat 64 (b2n ok),
                BitVec.ofNat 64 (ofSigned s.slewPpb 32)])
          else s
        | none => s
      | none => s)

/-- TIME_ROUND_TIMEOUT (R261): no ECHO within 500 µs of the SYNC. -/
def execTimeRoundTimeout (anchor : Nat) (s : State) : Host.Outcome State Fault Refusal :=
  let d := s.lard anchor
  done (match d.round with
    | some r => if r.s2.isNone && s.due (r.start + us 500) then s.setLard anchor { d with round := none } else s
    | none => s)

/-- TIME_SYNC_RX (R320): a cascade follower stamps s2 and answers with ECHO. DESIGN CHOICE, unsafe: log entry 52. -/
def execTimeSyncRx (anchor s2 : Nat) (s : State) : Host.Outcome State Fault Refusal :=
  done (match s.rxTime anchor 0 with
    | none => s
    | some f =>
      let s := s.rxTake anchor f
      if s.cascadeLink anchor && !s.isLeader anchor then
        (s.setLard anchor { s.lard anchor with echo := some ⟨f.roundId, s2, s.sys.devtime, false, false⟩ }).ownFrame anchor
          (mkTime 2 f.roundId [BitVec.ofNat 64 s2])
      else s)

/-- TIME_FOLLOW_UP_RX (R320): a follower corrects its DEVTIME so that its time at s2 equals t1 + D, never stepping back. -/
def execTimeFollowUpRx (anchor : Nat) (s : State) : Host.Outcome State Fault Refusal :=
  done (match s.rxTime anchor 1 with
    | none => s
    | some f =>
      let s := s.rxTake anchor f
      match (s.lard anchor).echo with
      | some x =>
        if s.cascadeLink anchor && !s.isLeader anchor && f.roundId == x.id && fld (f.words.getD 2 0) 0 1 == 1 then
          (s.setLard anchor { s.lard anchor with echo := none }).correctTime
            ((((f.words.getD 0 0).toNat + (f.words.getD 1 0).toNat : Nat) : Int) - x.s2)
        else s
      | none => s)

end Sys2Proof.Machine
end

