-- ==== Sys2Proof/Machine/Sched.lean ====
section
/-!
DEFINITION. Token buckets (R329 to R331), policers (R340 to R342), gate lists in force (R334, R339), and the choice among the
children of a scheduler node (R332, R333).
-/

namespace Sys2Proof.Machine

/-! ### Token buckets -/

/-- A token bucket: its table, entry and place there, and the fields of its rate, its burst and its tokens. -/
structure Bkt where
  tbl   : Tbl
  i     : Nat
  kind  : Nat
  rate  : TFld
  burst : TFld
  tok   : TFld
  deriving DecidableEq, Repr

def egMax (e : Nat) : Bkt := ⟨.egn, e, 1, T_EGN.MAX_RATE, T_EGN.MAX_BURST, T_EGN.MAX_TOKENS⟩
def clMin (i : Nat) : Bkt := ⟨.cls, i, 0, T_EGN.MIN_RATE, T_EGN.MIN_BURST, T_EGN.MIN_TOKENS⟩
def clMax (i : Nat) : Bkt := ⟨.cls, i, 1, T_EGN.MAX_RATE, T_EGN.MAX_BURST, T_EGN.MAX_TOKENS⟩
def leafMin (l : Nat) : Bkt := ⟨.leaf, l, 0, T_LEAF.IN_MIN_RATE, T_LEAF.IN_MIN_BURST, T_LEAF.IN_MIN_TOKENS⟩
def leafMax (l : Nat) : Bkt := ⟨.leaf, l, 1, T_LEAF.IN_MAX_RATE, T_LEAF.IN_MAX_BURST, T_LEAF.IN_MAX_TOKENS⟩
def leafOut (l : Nat) : Bkt := ⟨.leaf, l, 2, T_LEAF.OUT_RATE, T_LEAF.OUT_BURST, T_LEAF.OUT_TOKENS⟩
def polC (p : Nat) : Bkt := ⟨.pole, p, 0, T_POLE.CIR, T_POLE.CBS, T_POLE.TC⟩
def polP (p : Nat) : Bkt := ⟨.pole, p, 1, T_POLE.PIR, T_POLE.PBS, T_POLE.TP⟩

/-- The buckets of an entry. In an egress node the MIN parameters have no effect (R346). -/
def bucketsOf (t : Tbl) (i : Nat) : List Bkt :=
  match t with
  | .egn => [egMax i]
  | .cls => [clMin i, clMax i]
  | .leaf => [leafMin i, leafMax i, leafOut i]
  | .pole => [polC i, polP i]
  | _ => []

def Bkt.key (b : Bkt) : Nat := tkey b.tbl b.i * 4 + b.kind
def Bkt.isPol (b : Bkt) : Bool := b.tbl == .pole

/-- The rate of a bucket in Mb/s as an entry gives it: a PIR below CIR acts as CIR (R341). -/
def Bkt.rateOf (b : Bkt) (e : Entry) : Nat :=
  let r := fld e b.rate.lo b.rate.w
  if b.isPol && b.kind == 1 then max r (fld e T_POLE.CIR.lo T_POLE.CIR.w) else r

/-- The bytes a bucket holds at most: a burst below 33 acts as 33 (R329). -/
def Bkt.capOf (b : Bkt) (e : Entry) : Nat := 64 * max 33 (fld e b.burst.lo b.burst.w)

def State.bucket (s : State) (b : Bkt) : Bucket := SMap.get (fun _ => ⟨0, 0⟩) s.sch.buckets b.key
def State.setBucket (s : State) (b : Bkt) (x : Bucket) : State :=
  { s with sch := { s.sch with buckets := SMap.set (fun _ => ⟨0, 0⟩) s.sch.buckets b.key x } }
def State.tokens (s : State) (b : Bkt) : Int := toSigned (s.tf b.tbl b.i b.tok) b.tok.w
def State.setTokens (s : State) (b : Bkt) (v : Int) : State := s.st b.tbl b.i b.tok (ofSigned v b.tok.w)

/-- A bucket is brought to the present (R330): RATE × 125,000 bytes per second are RATE units of 1/8000 byte per ns, and no
rounding error accumulates. A policer's bucket rests while POL is not ACTIVE (R344). DEDUCED, unsafe: log entry 78. -/
def State.bring (s : State) (b : Bkt) : State :=
  let e := s.ent b.tbl b.i
  let r := b.rateOf e
  if r == 0 || (b.isPol && !s.active pgPOL) then s else
  let k := s.bucket b
  let gain := k.frac + r * (s.clock - k.upTo)
  let t := s.tokens b + (gain / 8000 : Nat)
  let full := decide ((b.capOf e : Int) ≤ t)
  (s.setTokens b (if full then (b.capOf e : Int) else t)).setBucket b ⟨s.clock, if full then 0 else gain % 8000⟩

/-- Whether a bucket brought to the present passes (R329, R330). -/
def State.passes (s : State) (b : Bkt) : Bool := b.rateOf (s.ent b.tbl b.i) == 0 || decide (0 ≤ s.tokens b)

/-- A frame of a length is charged to a scheduler bucket (R327); an unshaped bucket never changes. -/
def State.charge (s : State) (b : Bkt) (len : Nat) : State :=
  if b.rateOf (s.ent b.tbl b.i) == 0 then s else s.setTokens b (s.tokens b - (len : Int))

/-- What a write of an entry does to one of its buckets, which was brought to the present before it (R331, R341). -/
def State.rebucket (s : State) (old : Entry) (b : Bkt) : State :=
  let e := s.ent b.tbl b.i
  let r := b.rateOf e
  let cap : Int := b.capOf e
  let start := (b.isPol && fld old 0 1 == 0 && fld e 0 1 == 1) || (b.rateOf old == 0 && r != 0)
  let t : Int := if start then cap else if r == 0 && !b.isPol then 0 else min cap (s.tokens b)
  (s.setTokens b t).setBucket b ⟨s.clock, if start || r == 0 then 0 else (s.bucket b).frac⟩

/-- An entry that holds buckets is replaced. -/
def State.writeBuckets (s : State) (t : Tbl) (i : Nat) (e : Entry) : State :=
  let s := s.each (bucketsOf t i) (fun b s => s.bring b)
  let old := s.ent t i
  let keep := (bucketsOf t i).foldl (fun (x : Entry) b => put x b.tok.lo b.tok.w (fld old b.tok.lo b.tok.w)) e
  (s.setEnt t i keep).each (bucketsOf t i) (fun b s => s.rebucket old b)

/-- The buckets of the policers rest (true) or go on (false) as POL stops or becomes ACTIVE. DEDUCED, unsafe: log entry 82. -/
def State.polRest (s : State) (stop : Bool) : State :=
  s.each (s.listed .pole) (fun e s => s.each (bucketsOf .pole (e.1 % 2 ^ 24)) (fun b s =>
    if stop then s.bring b else s.setBucket b { s.bucket b with upTo := s.clock }))

/-! ### Policers (R340, R341) -/

/-- The marker of RFC 2698 in its colour-aware mode (green is 0, yellow 1, red 2): of which a green input is the colour-blind one.
DEDUCED, unsafe: log entry 78. -/
def State.meter (s : State) (p colour len : Nat) : State × Nat :=
  let s := (s.bring (polC p)).bring (polP p)
  let tc := s.tokens (polC p)
  let tp := s.tokens (polP p)
  if colour == 2 || tp < (len : Int) then (s, 2)
  else if colour == 1 || tc < (len : Int) then (s.setTokens (polP p) (tp - (len : Int)), 1)
  else ((s.setTokens (polP p) (tp - (len : Int))).setTokens (polC p) (tc - (len : Int)), 0)

/-- One stage: the policer that a select entry names meters the frame, and may discard it. The result is its colour and
whether it was discarded. DEDUCED, unsafe: log entries 75, 82. -/
def State.police (s : State) (t : Tbl) (i colour len : Nat) : State × Nat × Bool :=
  let p := s.tf t i T_SEL.POLICER
  if !s.active pgPOL || !s.tb t i T_SEL.EN || !s.tb .pole p T_POLE.EN then (s, colour, false) else
  let r := s.meter p colour len
  let drop := (r.2 == 1 && s.tb .pole p T_POLE.Y_DROP) || (r.2 == 2 && s.tb .pole p T_POLE.R_DROP)
  (if drop then (r.1.cnt pgPOL POL.CNT_POL_DROPS).tcnt .pole p T_POLE.DROPS else r.1, r.2, drop)

/-- The final colour of a frame is counted (R355). -/
def State.countColour (s : State) (colour : Nat) : State :=
  if !s.active pgPOL then s
  else s.cnt pgPOL (match colour with | 0 => POL.CNT_GREEN | 1 => POL.CNT_YELLOW | _ => POL.CNT_RED)

/-! ### Gate lists (R334, R339) -/

/-- OPEN_NOW (R348): every class while no list is in force; while SCH is not ACTIVE it keeps its reset value. DESIGN CHOICE, unsafe: log entry 79. -/
def State.openNow (s : State) (n : Nat) : State :=
  if !s.active pgSCH then s.st .gct n T_GCT.OPEN_NOW 0 else
  s.st .gct n T_GCT.OPEN_NOW (match s.gate n with | some g => g.openAt s.sys.devtime | none => 0xFF)

def execGateCycleStart (anchor : Nat) (s : State) : Host.Outcome State Fault Refusal :=
  done (if anchor < 1024 then (s.gateStart anchor).openNow anchor else s)

/-- GATE_ENTRY_CHANGE (R334): the classes open now are those of the entry the cycle has reached. -/
def execGateEntryChange (anchor : Nat) (s : State) : Host.Outcome State Fault Refusal :=
  done (if anchor < 1024 then s.openNow anchor else s)

/-- What reads of the tables of SCH and POL show is brought to the present. -/
def State.schFresh (s : State) (t : Tbl) (i : Nat) : State :=
  match t with
  | .gct => s.openNow i
  | _ => s.each (bucketsOf t i) (fun b s => s.bring b)

/-! ### The choice among children (R332, R333) -/

/-- A backlogged child of a node: its number, the length of the frame it would send if it may send one, whether its MIN rate is
not 0 and its MIN bucket passes, and its effective weight. -/
structure Kid where
  key    : Nat
  ready  : Option Nat
  minOk  : Bool
  weight : Nat
  deriving DecidableEq, Repr

/-- The children after a number, then the others. DESIGN CHOICE, unsafe: log entry 77. -/
def turn (last : Option Nat) (kids : List Kid) : List Kid :=
  match last with
  | none => kids
  | some l => kids.filter (fun k => l < k.key) ++ kids.filter (fun k => k.key ≤ l)

/-- One pass of deficit round robin: each child visited gains its quantum, weight × 256 bytes; the first whose deficit covers
its frame is served. DESIGN CHOICE, unsafe: log entry 77. -/
def drr : List Kid → List (Nat × Int) → Option (Nat × List (Nat × Int))
  | [], _ => none
  | k :: t, d =>
    let v := SMap.get (fun _ => 0) d k.key + (k.weight * 256 : Nat)
    let len : Int := (k.ready.getD 0 : Nat)
    if len ≤ v then some (k.key, SMap.set (fun _ => 0) d k.key (v - len))
    else drr t (SMap.set (fun _ => 0) d k.key v)

/-- The choice of a node: the child and the phase (1 guaranteed, 2 excess), with the deficits after it. The child served last
goes on while its deficit lasts. DESIGN CHOICE, unsafe: log entry 77. -/
def pick (last1 last2 : Option Nat) (d : List (Nat × Int)) (kids : List Kid) : Option (Nat × Nat × List (Nat × Int)) :=
  let ready := kids.filter (·.ready.isSome)
  match turn last1 (ready.filter (·.minOk)) with
  | k :: _ => some (k.key, 1, d)
  | [] =>
    let go := (drr (List.replicate 16 (turn last2 ready)).flatten d).map (fun r => (r.1, 2, r.2))
    match ready.find? (fun k => last2 == some k.key) with
    | some k =>
      let v := SMap.get (fun _ => 0) d k.key
      let len : Int := (k.ready.getD 0 : Nat)
      if len ≤ v then some (k.key, 2, SMap.set (fun _ => 0) d k.key (v - len)) else go
    | none => go

/-- The numbers of scheduler nodes, under which their turns and deficits are kept. -/
def egNode (e : Nat) : Nat := 4 * e
def clNode (i : Nat) : Nat := 4 * i + 1
def leafNode (l : Nat) : Nat := 4 * l + 2

/-- The child of a node served last in a phase (3: the plain round robin of R344). DESIGN CHOICE, unsafe: log entry 77. -/
def State.lastKid (s : State) (node phase : Nat) : Option Nat :=
  (s.sch.last.find? (fun e => e.1 == 4 * node + phase)).map (·.2)
def State.setLastKid (s : State) (node phase kid : Nat) : State :=
  { s with sch := { s.sch with last := (4 * node + phase, kid) :: s.sch.last.filter (fun e => e.1 != 4 * node + phase) } }

/-- The choice of a node is made good: the turn moves, and the deficits of its children without frames are gone. -/
def State.commitPick (s : State) (node : Nat) (r : Nat × Nat × List (Nat × Int)) (mine : Nat → Bool) (kids : List Kid) : State :=
  let s := s.setLastKid node r.2.1 r.1
  { s with sch := { s.sch with deficits := r.2.2.filter (fun e => !mine e.1 || kids.any (fun k => k.key == e.1)) } }

end Sys2Proof.Machine
end

