-- ==== Sys2Proof/Machine/Wadi.lean ====
section
/-!
DEFINITION. The Wadi (R299 to R309): the lookup of a station MSG with policing, WRED and admission, and the epochs; and the
EVENT frames of a cascade member (R320).
-/

namespace Sys2Proof.Machine

/-! ### Station frames on their way into the Gallery -/

/-- A station frame is discarded: its account counts it (R292, R304). -/
def State.acctDrop (s : State) (a : Nat) : State := s.tcnt .acc a T_ACC.DROPS

/-- A frame for which there is no destination (R304, R325). -/
def State.noTarget_ (s : State) (dtag typ detail acct : Nat) : State :=
  ((s.cnt pgWAD WAD.CNT_NO_TARGET).error pgWAD 4 0x03 (dtag + typ * 2 ^ 20) detail 0).acctDrop acct

/-- Whether a queue's link is asleep in a group whose wake SWC may not ask for again yet (R18). -/
def State.lockedOut (s : State) (q : Nat) : Bool := !isHostQueue q && s.lk (q / 8) == lkSLEEP && s.naLocked (q / 8)

/-- A station MSG for its queues: WRED at each, then admission once (R276 to R278). Queues that a refused wake locks are left
out. A frame that no queue takes, or that is not admitted, is discarded. DEDUCED, unsafe: log entry 75. -/
def State.offer (s : State) (g : GFrame) (acct colour : Nat) (queues : List (Nat × Option Word64)) : State :=
  let locked := queues.filter (fun q => s.lockedOut q.1)
  let s := s.each locked (fun _ s =>
    ((s.cnt pgSWC SWC.CNT_NA_DROPS).acctDrop acct).event pgSWC 10 |>.sf pgSWC HDR.PAGE_STS_NOT_ADMITTED 1)
  let t := (queues.filter (fun q => !locked.contains q)).foldl (fun t q =>
    let u := t.1.wred q.1 colour
    (u.1, if u.2 then t.2 else t.2 ++ [q])) (s, ([] : List (Nat × Option Word64)))
  if t.2.isEmpty then (if locked.length == queues.length then t.1 else t.1.acctDrop acct)
  else match t.1.tryStore g t.2 with
    | (s, true) => s
    | (s, false) => (s.cnt pgSWC SWC.CNT_ADMIT_DROPS).acctDrop acct

/-- The stored frame of a MSG. -/
def msgFrame (f : Frame) (acct src : Nat) (mc : Bool) (epoch : Option Bool) : GFrame :=
  { frame := f, load := .msg, acct := some acct, cells := [], size := frameCells f, spill := none, back := 0, bad := false
    mc := mc, hall := none, gen := 0, func := 0, src := src, order := 0, epoch := epoch, tgt := none, refs := 0 }

/-! ### The lookup (R299 to R307, R316) -/

/-- Where a lookup leads: a drop, no target with its detail, a missing route, or queues. -/
inductive Aim where
  | drop
  | none_ (detail : Nat)
  | lost (dev : Nat)
  | to (mc : Bool) (queues : List (Nat × Option Word64))
  deriving DecidableEq, Repr

/-- The queue toward a port of another device, or toward the head (R316). -/
def State.routed (s : State) (kind cls dev port hall src : Nat) : Aim :=
  match s.routeOf dev with
  | none => .lost dev
  | some a => .to false [(portQueue a cls, some (mkWord kind cls dev port hall s.device src 0))]

/-- The local port queue of a class. -/
def State.localPort (s : State) (port cls : Nat) : Aim :=
  if s.linkEnabled port then .to false [(portQueue port cls, none)] else .none_ port

/-- What steering entry of a tag gives a frame of a class from a port (R303, R304). -/
def State.aim (s : State) (dtag cls src : Nat) : Aim :=
  let port := s.tf .ste dtag T_STE.PORT
  let dev := s.tf .ste dtag T_STE.DEVICE
  let hall := s.tf .ste dtag T_STE.HALL
  match s.tf .ste dtag T_STE.TYPE with
  | 1 => s.localPort port cls
  | 2 =>
    let g := s.tf .ste dtag T_STE.GROUP
    match s.groupQueues g ⟨cls, some src⟩ with
    | [] => .none_ g
    | qs => .to true qs
  | 3 =>
    if s.isMember then s.routed cwHOST cls 0 0 hall src
    else if s.hallExists hall then .to false [(hostQueue hall cls, none)] else .none_ hall
  | 4 => if dev == s.device then s.localPort port cls else s.routed cwPORT cls dev port 0 src
  | _ => .drop

/-- A MSG is too long for a cascade link (R316). DEDUCED, unsafe: log entry 76. -/
def State.tooLong (s : State) (f : Frame) : State :=
  (s.cnt pgWAD WAD.CNT_TOO_LONG).error pgWAD 5 0x04 f.dtag f.len8 0

/-- A MSG from a station link is looked up; `colour` is its colour after the ingress stage.
DESIGN CHOICE, unsafe: log entry 15; DEDUCED, unsafe: log entry 76. -/
def State.lookup (s : State) (a : Nat) (f : Frame) (acct colour : Nat) : State :=
  if !s.active pgWAD || !s.gb pgWAD HDR.PAGE_CTL_EN then ((s.countColour colour).cnt pgWAD WAD.CNT_DROPS).acctDrop acct else
  let s := s.cnt pgWAD WAD.CNT_LOOKUPS
  let f := if s.tb .ste f.dtag T_STE.CLASS_SET then f.withClass (s.tf .ste f.dtag T_STE.CLASS) else f
  match s.aim f.dtag f.cls a with
  | .drop => ((s.countColour colour).cnt pgWAD WAD.CNT_DROPS).acctDrop acct
  | .none_ d => (s.countColour colour).noTarget_ f.dtag (s.tf .ste f.dtag T_STE.TYPE) d acct
  | .lost d => ((s.countColour colour).routeDrop d 0 a).acctDrop acct
  | .to mc qs =>
    let t := if s.tf .ste f.dtag T_STE.TYPE == 3 then
        s.police .hsel (8 * s.tf .ste f.dtag T_STE.HALL + f.cls) colour (frameBytes f)
      else (s, colour, false)
    let s := t.1.countColour t.2.1
    if t.2.2 then s.acctDrop acct else
    let big := fun (q : Nat × Option Word64) => q.2.isSome && 2040 < f.payload
    let s := s.each (qs.filter big) (fun _ s => s.tooLong f)
    let qs := qs.filter (fun q => !big q)
    if qs.isEmpty then s.acctDrop acct
    else s.offer (msgFrame f acct a mc (some s.epochCur)) acct t.2.1 qs

/-- Whether a block that is ACTIVE takes no frame now (R29). -/
def State.holdsOff (s : State) (p : Nat) : Bool := s.active p && s.quiesce p

/-- Whether an earlier response to an access still waits in the receive buffer of a link before a MSG: the two enter the Gallery in
sequence order (R244, R270). DEDUCED, unsafe: log entry 51. -/
def State.behindRsp (s : State) (a : Nat) (f : Frame) : Bool :=
  ((s.link a).rxBuf.takeWhile (fun x => x != f)).any (fun x => x.op == opRSP &&
    (s.lard a).tags.any (fun t => t.tag == x.tag && (match t.use with | .access _ _ => true | _ => false)))

/-- MSG_RX (R299, R340): the oldest MSG of a station link is policed, looked up, tested and admitted. DEDUCED, unsafe: log entry 75. -/
def State.msgRx (s : State) (a : Nat) : State :=
  if s.cascadeLink a || s.holdsOff pgWAD || s.holdsOff pgPOL || s.holdsOff pgSWC then s else
  match s.rxHead a opMSG with
  | none => s
  | some f =>
    if s.behindRsp a f then s else
    let acct := portQueue a f.cls
    let s := s.rxTake a f
    let f := f.fromPort a s.device
    let t := s.police .sel acct 0 (frameBytes f)
    if t.2.2 then (t.1.countColour t.2.1).acctDrop acct
    else t.1.lookup a f acct t.2.1

def execMsgRx (anchor : Nat) (s : State) : Host.Outcome State Fault Refusal := done (s.msgRx anchor)

/-! ### Epochs (R308, R309) -/

/-- A FLIP is accepted while DRAINED is 1, and refused otherwise. DEDUCED, unsafe: log entry 101. -/
def State.flip (s : State) : State :=
  if s.gb pgWAD WAD.EPOCH_STS_DRAINED then
    let cur := b2n (!s.epochCur)
    let s := s.sf pgWAD WAD.EPOCH_STS_CUR cur |>.sf pgWAD HDR.PAGE_GEN_GEN cur
    let n := s.oldFrames
    let s := s.sf pgWAD WAD.EPOCH_STS_OLD_FRAMES n
    if n == 0 then s.event pgWAD 0 else s.sf pgWAD WAD.EPOCH_STS_DRAINED 0
  else s.event pgWAD 1

/-- EPOCH_FLIP. -/
def execEpochFlip (s : State) : Host.Outcome State Fault Refusal := done (s.onPage pgWAD .epochFlip s.flip)

/-- EPOCH_DRAINED: OLD_FRAMES has reached 0 after a flip. -/
def State.drainEnd (s : State) : State :=
  let n := s.oldFrames
  let s := s.sf pgWAD WAD.EPOCH_STS_OLD_FRAMES n
  if n == 0 && !s.gb pgWAD WAD.EPOCH_STS_DRAINED then (s.sf pgWAD WAD.EPOCH_STS_DRAINED 1).event pgWAD 0 else s
def execEpochDrained (s : State) : Host.Outcome State Fault Refusal := done s.drainEnd

/-- A write of a steering entry marks it with the current epoch (R308). -/
def State.writeSteer (s : State) (i : Nat) (e : Entry) : State :=
  s.setEnt .ste i (put e T_STE.EPOCH.lo T_STE.EPOCH.w (b2n s.epochCur))

/-! ### The EVENT frames of a member (R320) -/

/-- The messages of a member's Landing become EVENT frames in the queue of its uplink, as the account of the uplink's class 0
admits them. DESIGN CHOICE, unsafe: log entry 83. -/
def State.sendEvents (s : State) : State :=
  if s.lnd.events.isEmpty then s else
  let l := s.lnd.events
  let s := { s with lnd := { s.lnd with events := [] } }
  match s.routeOf 0 with
  | none => s.each l (fun _ s => s.routeDrop 0 0 0)
  | some up => s.each l (fun e s =>
    let f := mkFrame opEVENT [BitVec.ofNat 64 e.1, BitVec.ofNat 64 (e.2 % 2 ^ 32)]
    s.storeOrWait { msgFrame f (portQueue up 0) up false none with load := .relay }
      [(portQueue up 0, some (mkWord cwEVENT 0 0 0 0 s.device 0 0))] false)

/-- MSIX_DELIVERY (R436, R320). -/
def execMsixDelivery (entry : Nat) (s : State) : Host.Outcome State Fault Refusal := done (s.deliver entry).sendEvents

end Sys2Proof.Machine
end

