-- ==== Sys2Proof/Machine/Egress.lean ====
section
/-!
DEFINITION. What leaves the Gallery: the head of a queue, the choice at an egress (R326 to R338, R344), the frames sent on
links, and what goes to the host, the receive records among it (R404 to R406).
-/

namespace Sys2Proof.Machine

/-! ### Receive records (R404 to R406) -/

/-- The size of a hall's receive area and the bytes free in it. -/
def State.rxSize (s : State) (h : Nat) : Nat := 2 ^ min 30 (max 12 (s.tf .hcx h T_HCX.RX_LOG2))
def State.rxProd (s : State) (h : Nat) : Nat := s.gf (pgHAL h) HAL.RX_PROD_PROD
def State.rxRoom (s : State) (h : Nat) : Nat := s.rxSize h - subMod (s.rxProd h) (s.gf (pgHAL h) HAL.RX_CONS_CONS) 32

/-- The length of a frame's record, and its bytes: the header with bits [15:0] 0, the payload, zeros. -/
def recordLen (f : Frame) : Nat := 64 * ceilDiv (16 + f.payload) 64
def recordBytes (f : Frame) : List Byte :=
  let b := bytesOf 16 (putBits f.hdr.toNat 0 16 0) ++ f.bytes
  b ++ List.replicate (recordLen f - b.length) 0

/-- The pieces of a record in host memory: address and the place of their bytes in it. -/
def State.recordPieces (s : State) (h n : Nat) : List (Nat × Nat × Nat) :=
  let size := s.rxSize h
  let off := s.rxProd h % size
  let base := s.tf .hcx h T_HCX.RX_BASE * 4096
  let first := min n (size - off)
  if first == n then [(base + off, 0, n)] else [(base + off, 0, first), (base, first, n - first)]

/-- Whether the writes of a record can all be made now; missing translations are asked for. DESIGN CHOICE, unsafe: log entry 81. -/
def State.recordReady (s : State) (h n : Nat) : State × Bool :=
  ((s.recordPieces h n).map (fun (p : Nat × Nat × Nat) => (p.1, p.2.2)) ++ [(s.tf .hcx h T_HCX.RX_WB * 8, 8)]).foldl (fun (t : State × Bool) (p : Nat × Nat) =>
    let u := t.1.writeReady h p.1 p.2
    (u.1, t.2 && u.2)) (s, true)

/-- A record is written, then the producer count. DESIGN CHOICE, unsafe: log entry 81. -/
def State.writeRecord (s : State) (h : Nat) (f : Frame) : State :=
  let n := recordLen f
  let b := recordBytes f
  let s := s.each (s.recordPieces h n) (fun p s => s.writeHost h false p.1 ((b.drop p.2.1).take p.2.2))
  let prod := (s.rxProd h + n) % 2 ^ 32
  let s := s.sf (pgHAL h) HAL.RX_PROD_PROD prod
  let s := s.writeHost h false (s.tf .hcx h T_HCX.RX_WB * 8) (bytesOf 8 (prod + s.hallGen h * 2 ^ 32))
  (s.cnt pgHLM HLM.CNT_RX_RECORDS).event (pgHAL h) 16

/-! ### The head of a queue -/

/-- The frame a reference leaves with (R312). -/
def Ref.sends (r : Ref) (g : GFrame) : Frame := match r.word with | some w => g.frame.prefixed w | none => g.frame

/-- The gate in force for a queue's link: none on the host egress and while SCH is not ACTIVE (R334, R344). -/
def State.gateOf (s : State) (q : Nat) : Option Gate := if isHostQueue q || !s.active pgSCH then none else s.gate (q / 8)

/-- The time a frame needs in a window (R336), whether it is longer than any (R337), and whether it fits the present one. -/
def State.gateNeed (s : State) (q : Nat) (g : Gate) (f : Frame) : Nat := s.sendTime (q / 8) (frameBytes f) + g.guard
def State.gateNever (s : State) (q : Nat) (f : Frame) : Bool :=
  match s.gateOf q with
  | some g => !g.always (q % 8) && !g.never (q % 8) && g.maxWin (q % 8) < s.gateNeed q g f
  | none => false
def State.gateFits (s : State) (q : Nat) (f : Frame) : Bool :=
  match s.gateOf q with
  | some g => g.always (q % 8) || s.gateNeed q g f ≤ g.left (q % 8) s.sys.devtime
  | none => true

/-- A frame longer than any window is discarded (R337). -/
def State.gateDrop (s : State) (q : Nat) (r : Ref) (g : GFrame) : State :=
  let win := match s.gateOf q with | some l => l.maxWin (q % 8) | none => 0
  let s := (s.cnt pgSCH SCH.CNT_GATE_DROPS).error pgSCH 0 0x02 (q / 8 + q % 8 * 2 ^ 10 + frameBytes (r.sends g) * 2 ^ 13)
    (match g.hall with | some h => h + 2 ^ 12 | none => 0) win
  s.discardRef q r .gate

/-- A frame with an unreadable cell is discarded; a multicast frame with every reference (R286). -/
def State.eccDrop (s : State) (q : Nat) (r : Ref) (g : GFrame) (cell : Nat) : State :=
  if g.mc then
    let s := s.eccReport q g cell
    s.each s.gal.queues (fun e s => s.each (e.2.filter (fun x => x.frame == r.frame)) (fun x s => s.dropRef e.1 x))
  else s.discardRef q r (.ecc cell)

/-- A record that does not fit holds its queue: RX_FULL, and one RX_WAITS for it (R406). -/
def State.recordWaits (s : State) (h i : Nat) : State :=
  if s.hlm.waited.contains i then s
  else ({ s with hlm := { s.hlm with waited := s.hlm.waited ++ [i] } }.cnt pgHLM HLM.CNT_RX_WAITS).event (pgHAL h) 17

/-- What is done for a frame that stands at the head of a host queue of a BOUND hall: a record that does not fit is counted, and
missing translations are asked for. -/
def State.hostHead (s : State) (h : Nat) (r : Ref) (g : GFrame) : State :=
  if s.hallSt h != hlBOUND then s else
  match g.load with
  | .msg => if s.rxRoom h < recordLen g.frame then s.recordWaits h r.frame else (s.recordReady h (recordLen g.frame)).1
  | .memWr _ addr _ data => (s.writeReady h addr data.length).1
  | _ => s

/-- The head of a queue whose link is UP (R283) is brought to a frame that may be sent: old frames (R409), unreadable ones, those longer than any
window, and MSGs for a hall without a receive area (R406) are discarded as they reach it. -/
def State.headFix (s : State) (q : Nat) : Nat → State
  | 0 => s
  | n + 1 =>
    match s.queue q with
    | [] => s
    | r :: _ =>
      match s.galFrame r.frame with
      | none => (s.dropRef q r).headFix q n
      | some g =>
        if s.refOld q r then (s.discardRef q r .generation).headFix q n
        else if g.bad then (s.eccDrop q r g (g.cells.headD 0)).headFix q n
        else if s.gateNever q (r.sends g) then (s.gateDrop q r g).headFix q n
        else if isHostQueue q then
          let h := (q - 8192) / 8
          if g.load == .msg && s.hallSt h == hlBOUND && !s.tb .hcx h T_HCX.RX_EN then
            ((s.cnt pgHLM HLM.CNT_RX_DROPS).dropRef q r).headFix q n
          else s.hostHead h r g
        else s

/-- The head of a queue with its frame. -/
def State.head (s : State) (q : Nat) : Option (Ref × GFrame) :=
  match s.queue q with
  | r :: _ => (s.galFrame r.frame).map (fun g => (r, g))
  | [] => none

/-- Whether a stored frame is in Gallery cells, or released by the resequencer (R281). -/
def GFrame.present (g : GFrame) : Bool := g.spill.isNone || g.back == 2

/-- Whether an earlier frame from the same link to a host queue of the same hall has not left (R270). DEDUCED, unsafe: log entry 51. -/
def State.behindLink (s : State) (h : Nat) (r : Ref) (g : GFrame) : Bool :=
  (List.range 8).any (fun c => (s.queue (hostQueue h c)).any (fun x => x.frame != r.frame && (match s.galFrame x.frame with
    | some y => y.src == g.src && y.order < g.order
    | none => false)))

/-- Whether the head of a host queue may go to the host now, buckets apart (R270, R328, R405, R411, R417). -/
def State.hostReady (s : State) (q : Nat) (r : Ref) (g : GFrame) : Bool :=
  let h := (q - 8192) / 8
  let link := s.gb pgHST HST.LINK_STS_DL_UP && !s.quiesce pgHST
  s.hallSt h == hlBOUND && g.present && !s.moving g && (match g.load with
    | .rsp i _ => !s.behindLink h r g && (link || (match s.acc? i with | some a => a.isEngine || a.op == .write | none => true))
    | .msg => link && s.tb .hcx h T_HCX.RX_EN && recordLen g.frame ≤ s.rxRoom h && (s.recordReady h (recordLen g.frame)).2
        && (!s.cascadeLink g.src || !s.behindLink h r g)
    | .memWr _ addr _ data => link && (s.writeReady h addr data.length).2
    | .memRd e addr => link && (s.askHost h (.fence e) addr 4).2
    | _ => false)

/-! ### The choice at the host egress -/

/-- The children of a host class node, and those of the host egress node. -/
def State.leafKid (s : State) (q : Nat) : Option Kid :=
  match s.head q with
  | none => none
  | some (r, g) =>
    let l := q - 8192
    let w := max 1 (s.tf .leaf l T_LEAF.IN_WEIGHT)
    some ⟨leafNode l, if s.hostReady q r g && s.passes (leafMax l) then some (frameBytes g.frame) else none,
      s.tf .leaf l T_LEAF.IN_MIN_RATE != 0 && s.passes (leafMin l), w⟩
def State.leafKids (s : State) (queues : List Nat) (c : Nat) : List Kid :=
  (queues.filter (fun q => q % 8 == c)).filterMap s.leafKid

def State.pickAt (s : State) (node : Nat) (d : List (Nat × Int)) (kids : List Kid) : Option (Nat × Nat × List (Nat × Int)) :=
  pick (s.lastKid node 1) (s.lastKid node 2) d kids

def State.classKid (s : State) (queues : List Nat) (c : Nat) : Option Kid :=
  let i := 8 * 1024 + c
  match s.leafKids queues c with
  | [] => none
  | kids =>
    let chosen := s.pickAt (clNode i) s.sch.deficits kids
    let len := match chosen with
      | some r => (kids.find? (fun k => k.key == r.1)).bind (·.ready)
      | none => none
    let w := max 1 (s.tf .cls i T_EGN.WEIGHT)
    let a := if s.tb .egn 1024 T_EGN.NORM then (kids.map (·.weight)).foldl (· + ·) 0 else 1
    some ⟨clNode i, if s.passes (clMax i) then len else none, s.tf .cls i T_EGN.MIN_RATE != 0 && s.passes (clMin i), w * a⟩

/-- The queues of the host that hold frames. -/
def State.hostQueues (s : State) : List Nat := (s.gal.queues.filter (fun e => isHostQueue e.1 && !e.2.isEmpty)).map (·.1)

/-- Plain round robin (R344): the first ready queue after the one served last. -/
def State.roundRobin (s : State) (egress : Nat) (ready : List Nat) : Option Nat :=
  match s.lastKid (egNode egress) 3 with
  | some l => ((ready.filter (fun q => l < q)) ++ ready.filter (fun q => q ≤ l)).head?
  | none => ready.head?

/-- The queue the host egress serves next, with the turns moved. -/
def State.hostChoice (s : State) : Option (Nat × State) :=
  let queues := s.hostQueues
  if s.active pgSCH then
    let s := s.bring (egMax 1024)
    let s := s.each (List.range 8) (fun c s => (s.bring (clMin (8192 + c))).bring (clMax (8192 + c)))
    let s := s.each queues (fun q s => (s.bring (leafMin (q - 8192))).bring (leafMax (q - 8192)))
    if !s.passes (egMax 1024) then none else
    let kids := (List.range 8).filterMap (s.classKid queues)
    match s.pickAt (egNode 1024) s.sch.deficits kids with
    | none => none
    | some r =>
      let i := r.1 / 4
      let leaves := s.leafKids queues (i % 8)
      match s.pickAt (clNode i) r.2.2 leaves with
      | none => none
      | some l =>
        let s := s.commitPick (egNode 1024) r (fun k => k % 4 == 1 && 8192 ≤ k / 4) kids
        let s := s.commitPick (clNode i) l (fun k => k % 4 == 2 && k / 4 % 8 == i % 8) leaves
        some (8192 + l.1 / 4, s)
  else
    let ready := queues.filter (fun q => match s.head q with | some (r, g) => s.hostReady q r g | none => false)
    (s.roundRobin 1024 ready).map (fun q => (q, s.setLastKid (egNode 1024) 3 q))

/-- The head of a host queue leaves toward the host. DESIGN CHOICE, unsafe: log entry 81. -/
def State.toHost (s : State) (q : Nat) (r : Ref) (g : GFrame) : State :=
  let h := (q - 8192) / 8
  let len := frameBytes g.frame
  let s := if s.active pgSCH then
      s.each [egMax 1024, clMin (8192 + q % 8), clMax (8192 + q % 8), leafMin (q - 8192), leafMax (q - 8192)]
        (fun b s => s.charge b len)
    else s
  let s := (s.dropRef q r).cnt pgSWC SWC.CNT_FRAMES_OUT
  match g.load with
  | .rsp i k => s.deliverPart i k g.frame
  | .msg => s.writeRecord h g.frame
  | .memWr _ addr ro data => s.writeHost h ro addr data
  | .memRd e addr => (s.askHost h (.fence e) addr 4).1
  | _ => s

/-- The host egress serves a queue: any, or only a given one whose head is a MSG. DESIGN CHOICE, unsafe: log entry 80. -/
def State.hostSelect (s : State) (only : Option Nat) (badCell : Option Nat) : State :=
  if !s.active pgSWC || s.holdsOff pgSCH then s else
  let s := if s.gb pgHST HST.LINK_STS_DL_UP then s.each s.hostQueues (fun q s => s.headFix q (s.queue q).length) else s
  match s.hostChoice with
  | none => s
  | some (q, s') =>
    match s'.head q with
    | none => s
    | some (r, g) =>
      let skip : Bool := match only with | some x => x != q || g.load != .msg | none => false
      if skip then s else
      match badCell with
      | some c => s'.eccDrop q r g c
      | none => s'.toHost q r g

/-! ### The choice at a link egress -/

/-- A frame counted once as waiting for a window (R336) or as held by an OUT bucket (R328). -/
def refKey (q : Nat) (r : Ref) : Nat := r.frame * 65536 + q
def State.gateWaits (s : State) (q : Nat) (r : Ref) : State :=
  if s.sch.waited.contains (refKey q r) then s
  else { s with sch := { s.sch with waited := s.sch.waited ++ [refKey q r] } }.cnt pgSCH SCH.CNT_GATE_WAITS
def State.leafHolds (s : State) (q : Nat) (r : Ref) : State :=
  if s.sch.leafHeld.contains (refKey q r) then s
  else { s with sch := { s.sch with leafHeld := s.sch.leafHeld ++ [refKey q r] } }.cnt pgSCH SCH.CNT_LEAF_HOLDS

/-- The OUT bucket of a frame toward a link: of its hall in the queue's class (R326, R328). -/
def outBucket (q : Nat) (g : GFrame) : Option Bkt := g.hall.map (fun h => leafOut (8 * h + q % 8))
def State.outOk (s : State) (q : Nat) (g : GFrame) : Bool := match outBucket q g with | some b => s.passes b | none => true

/-- Whether a frame waits for the identity of a station link: requests do, messages do not (R251). DEDUCED, unsafe: log entry 152. -/
def State.unnamed (s : State) (n : Nat) (g : GFrame) : Bool :=
  (match g.load with | .request _ _ => true | _ => false) && !s.cascadeLink n && (s.lard n).ident.isNone

/-- Whether the head of a link's queue may start, the sender and the class bucket apart. DEDUCED, unsafe: log entry 152. -/
def State.linkReady (s : State) (q : Nat) : Bool :=
  match s.head q with
  | some (r, g) => g.present && !s.moving g && !s.unnamed (q / 8) g && (!s.active pgSCH || (s.gateFits q (r.sends g) && s.outOk q g && s.passes (clMax q)))
  | none => false

/-- Whether the sender would start it. -/
def State.senderReady (s : State) (q : Nat) : Bool :=
  match s.head q with
  | some (r, g) => s.startView (q / 8) (r.sends g) == .ready
  | none => false

def State.portKid (s : State) (q : Nat) : Option Kid :=
  match s.head q with
  | none => none
  | some (r, g) =>
    some ⟨clNode q, if s.linkReady q && s.senderReady q then some (frameBytes (r.sends g)) else none,
      s.tf .cls q T_EGN.MIN_RATE != 0 && s.passes (clMin q), max 1 (s.tf .cls q T_EGN.WEIGHT)⟩

/-- The queue a link serves next, with the turns moved. -/
def State.linkChoice (s : State) (n : Nat) : Option (Nat × State) :=
  let queues := (List.range 8).map (portQueue n)
  if s.active pgSCH then
    if !s.passes (egMax n) then none else
    let kids := queues.filterMap s.portKid
    match s.pickAt (egNode n) s.sch.deficits kids with
    | none => none
    | some r => some (r.1 / 4, s.commitPick (egNode n) r (fun k => k % 4 == 1 && k / 4 / 8 == n) kids)
  else (s.roundRobin n (queues.filter (fun q => s.linkReady q && s.senderReady q))).map (fun q =>
    (q, s.setLastKid (egNode n) 3 q))

/-- The head of a link's queue is given to the sender (R198, R327). -/
def State.toLink (s : State) (n q : Nat) (r : Ref) (g : GFrame) : State :=
  let f := r.sends g
  let s := if s.active pgSCH then
      s.each ([egMax n, clMin q, clMax q] ++ (outBucket q g).toList) (fun b s => s.charge b (frameBytes f))
    else s
  let s := s.sendFrame n { g.cargo with frame := f }
  let s := match g.load with
    | .request i k => (match s.part? i k with
      | some p => if p.st == PartSt.queued then s.setPart i k { p with st := PartSt.sent } else s
      | none => s)
    | _ => s
  (s.dropRef q r).cnt pgSWC SWC.CNT_FRAMES_OUT

/-- What the scheduler sees of the heads of a link: the buckets brought to the present, and the waits counted. -/
def State.linkHeads (s : State) (n : Nat) : State :=
  let s := s.bring (egMax n)
  s.each ((List.range 8).map (portQueue n)) (fun q s =>
    let s := (s.bring (clMin q)).bring (clMax q)
    match s.head q with
    | some (r, g) =>
      let s := match outBucket q g with | some b => s.bring b | none => s
      let s := if s.gateFits q (r.sends g) then s else s.gateWaits q r
      if s.outOk q g then s else s.leafHolds q r
    | none => s)

/-- The sender of a link that sends nothing now is stalled while a frame is there for it (R204). DEDUCED, unsafe: log entry 157. -/
def State.linkIdle (s : State) (n : Nat) : State :=
  if s.lk n == lkDISABLED then s
  else s.sf (pgPRT n) LNK.REPLAY_STS_STALLED
    (b2n (!(s.link n).txq.isEmpty || (List.range 8).any (fun c => !(s.queue (portQueue n c)).isEmpty)))

/-- A link egress serves a queue. A head that only the sender keeps back is a stall of the sender (R204). DESIGN CHOICE, unsafe: log entry
80; DEDUCED, unsafe: log entry 164. -/
def State.linkSelect (s : State) (n : Nat) (badCell : Option Nat) : State :=
  if !s.active pgSWC || s.holdsOff pgSCH || s.quiesce (pgPRT n) then s else
  let queues := (List.range 8).map (portQueue n)
  let l := s.link n
  if !s.flows n || l.stopped || l.sweeping then s.linkIdle n else
  let s := s.each queues (fun q s => s.headFix q (s.queue q).length)
  let s := if s.active pgSCH then s.linkHeads n else s
  match s.linkChoice n with
  | some (q, s) =>
    (match s.head q with
    | none => s
    | some (r, g) => match badCell with
      | some c => s.eccDrop q r g c
      | none => s.toLink n q r g)
  | none =>
    if s.active pgSCH && !s.passes (egMax n) then s else
    match queues.find? (fun q => s.linkReady q && !s.senderReady q) with
    | some q => (match s.head q with | some (r, g) => s.markStall n (r.sends g) | none => s)
    | none => s

/-- EGRESS_SELECT (R326, R328): of a link, or of the host port (1,024). -/
def execEgressSelect (egress : Nat) (badCell : Option Nat) (s : State) : Host.Outcome State Fault Refusal :=
  done (if egress == 1024 then (s.hostSelect none badCell).settle
    else if egress < 1024 then (s.sendEvents.linkSelect egress badCell).settle
    else s)

/-- RX_RECORD_WRITE (R405): the host egress serves the MSG at the head of a queue. -/
def execRxRecordWrite (queue : Nat) (s : State) : Host.Outcome State Fault Refusal :=
  done (s.hostSelect (some queue) none).settle

end Sys2Proof.Machine
end

