-- ==== Sys2Proof/Machine/Halls.lean ====
section
/-!
DEFINITION. Halls (R393 to R428): creation, reset and release, the dirty-page flip, the TDISP binding, and the tenant's side of
the receive area.
-/

namespace Sys2Proof.Machine

/-! ### Generations (R407, R411) -/

/-- The old items of a hall in HST and in the Gallery. -/
def State.oldItems (s : State) (h : Nat) : Nat :=
  (s.host.reqs.filter (fun r => r.hall == some h && r.gen != s.hallGen h)).length
    + (s.gal.queues.map (fun e => (e.2.filter (fun r => s.refOld e.1 r
        && (if isHostQueue e.1 then (e.1 - 8192) / 8 == h
            else (match s.galFrame r.frame with | some g => g.hall == some h | none => false)))).length)).foldl (· + ·) 0

/-- OLD_ITEMS is shown, and FLOOR follows GEN while it is 0. -/
def State.floorFix (s : State) (h : Nat) : State :=
  let n := s.oldItems h
  let s := s.st .hcx h T_HCX.OLD_ITEMS n
  if n == 0 then s.st .hcx h T_HCX.FLOOR (s.hallGen h) else s

/-- The generation of a hall is set, and shown in its HAL page. -/
def State.setGen (s : State) (h g : Nat) : State := (s.st .hcx h T_HCX.GEN g).sf (pgHAL h) HDR.PAGE_GEN_GEN g

/-- The halls that are not FREE, their number, and those of a function. -/
def State.hallsUsed (s : State) : List Nat :=
  ((s.listed .hcx).filter (fun e => fld e.2 T_HCX.STATE.lo T_HCX.STATE.w != hlFREE)).map (fun e => e.1)
def State.countHalls (s : State) : State := s.sf pgHLM HLM.HALL_COUNT_BOUND s.hallsUsed.length
def State.hallsOf (s : State) (f : Nat) : List Nat := s.hallsUsed.filter (fun h => s.hallFunc h == f)

/-! ### Fencing (R408 step 3) -/

/-- A frame of the hall that waits at Gallery admission is discarded as old. DEDUCED, unsafe: log entry 100. -/
def State.dropWaiting (s : State) (w : GWait) : State :=
  let s := { s with gal := { s.gal with waiting := s.gal.waiting.erase w } }.cnt pgHLM HLM.CNT_GEN_DISCARDS
  let s := match w.frame.acct with
    | some a => s.st .acc a T_ACC.WAITING (b2n (s.gal.waiting.any (fun v => v.frame.acct == some a)))
    | none => s
  match w.frame.load with
  | .request i k => s.endPart i k
  | _ => s

/-- An access of the hall ends: what is unanswered gets Completer Abort, what waits in BRG is gone, and what is outstanding is
stale (its recorded generation no longer equals any). DEDUCED, unsafe: log entry 100. -/
def State.fenceAcc (s : State) (h i : Nat) : State :=
  match s.acc? i with
  | none => s
  | some a =>
    if a.isRelay || !a.parts.any (fun p => p.hall == h) then s else
    let s := match a.who with
      | .host tag => if a.op == AccOp.write || a.ended then s else s.caAnswer a.func tag
      | _ => s
    let s := s.endAcc i
    s.each (List.range a.parts.length) (fun k s =>
      match s.part? i k with
      | some p => if p.st == PartSt.waiting then s.endPart i k
        else if p.st == PartSt.finished then s
        else s.setPart i k { p with gen := p.gen % 2 ^ 16 + 2 ^ 16 }
      | none => s)

/-- Step 3 of R408. -/
def State.fence (s : State) (h : Nat) : State :=
  let s := s.each (s.cvn.engines.filter (fun e => match e.2.ring with | some g => g / 8 == h | none => false)) (fun e s =>
    s.engAbort e.1 (e.2.ring.getD 0))
  let s := s.each (s.cvn.pending.filter (fun g => g / 8 == h)) (fun g s => s.setRing g rgIDLE)
  let s := s.setPending (s.cvn.pending.filter (fun g => g / 8 != h))
  let s := s.each (s.brg.accs.map (·.1)) (fun i s => s.fenceAcc h i)
  let s := s.each ((List.range 64).filter (fun i => s.tb .drd i T_DRD.VALID && s.tf .drd i T_DRD.HALL == h))
    (fun i s => (s.drFree i).cnt pgBRG BRG.CNT_DR_TIMED_OUT)
  let s := s.raDiscard (fun x => x.hall == h)
  (s.each (s.gal.waiting.filter (fun w => w.frame.hall == some h)) (fun w s => s.dropWaiting w)).galUpdate

/-! ### TDISP (R416 to R419) -/

/-- The interface state of a VF, and a new one for it and its halls. -/
def State.tdispOf (s : State) (f : Nat) : Nat := SMap.get (fun _ => 0) s.host.tdisp f
def State.setTdisp (s : State) (f v : Nat) : State :=
  let s := { s with host := { s.host with tdisp := SMap.set (fun _ => 0) s.host.tdisp f v } }
  s.each (s.hallsOf f) (fun h s => s.st .hcx h T_HCX.TDISP v)

/-- The interface of a VF enters ERROR (R417). -/
def State.tdispError (s : State) (f : Nat) : State :=
  let s := s.setTdisp f 3
  s.each ((s.hallsOf f).filter (fun h => s.hallSt h == hlBOUND)) (fun h s =>
    ((s.st .hcx h T_HCX.STATE hlERROR).fence h).event (pgHAL h) 18)

/-- Whether the resources of a hall are frozen (R418), and a change of one. -/
def State.frozen (s : State) (h : Nat) : Bool :=
  let t := s.tdispOf (s.hallFunc h)
  s.hallSt h != hlFREE && s.hallFunc h != 0 && (t == 1 || t == 2)
def State.freezeBreak (s : State) (h block index : Nat) : State :=
  if s.frozen h then (s.error pgHLM 2 0x03 h block index).tdispError (s.hallFunc h) else s

/-! ### Creation (R394, R396, R421) -/

/-- A GO command ends: BUSY clears, STATUS is written and CMD_DONE is set. -/
def State.hallCmdEnd (s : State) (status : Nat) : State :=
  (s.sf pgHLM HLM.HALL_CMD_BUSY 0 |>.sf pgHLM HLM.HALL_CMD_STATUS status).event pgHLM 4

/-- The first check that a binding fails, as STATUS; 0 when it passes. -/
def State.createCheck (s : State) (h : Nat) : Nat :=
  let f := s.hallFunc h
  let others := (s.hallsOf f).filter (· != h)
  let slot := s.tf .hcx h T_HCX.SLOT
  if s.hallSt h != hlFREE then 1
  else if !s.funcExists f || !s.gb pgDEV DEV.FEAT_EN_HALLS then 2
  else if s.pasidShown && others.any (fun o => s.tf .hcx o T_HCX.PASID == s.tf .hcx h T_HCX.PASID) then 3
  else if f != 0 && (2 ^ s.gf pgHST HST.FUNC_CFG_VF_HAL_LOG2 ≤ slot || others.any (fun o => s.tf .hcx o T_HCX.SLOT == slot)) then 4
  else if f != 0 && (s.tdispOf f == 1 || s.tdispOf f == 2) then 5
  else 0

/-- DESIGN CHOICE, unsafe: log entry 99. -/
def State.hallCreate (s : State) (h : Nat) : State :=
  match s.createCheck h with
  | 0 =>
    let s := (s.st .hcx h T_HCX.STATE hlBOUND).st .hcx h T_HCX.TDISP (s.tdispOf (s.hallFunc h))
    ((s.floorFix h).setGen h (s.hallGen h)).countHalls.cnt pgHLM HLM.CNT_CREATES |>.hallCmdEnd 0
  | n => s.hallCmdEnd n

/-! ### Reset and release (R395, R408, R411) -/

/-- The queue of resets with one of them changed. DESIGN CHOICE, safe: log entry 32. -/
def State.setReset (s : State) (h : Nat) (f : HallReset → HallReset) : State :=
  { s with hlm := { s.hlm with resets := s.hlm.resets.map (fun x => if x.hall == h then f x else x) } }

/-- A GO command whose hall waits: BUSY clears at once and GEN_WAIT is set in place of CMD_DONE. -/
def State.goWaits (s : State) (h : Nat) : State :=
  ((s.sf pgHLM HLM.HALL_CMD_BUSY 0 |>.sf pgHLM HLM.HALL_CMD_STATUS 0).event pgHLM 5).setReset h (fun x => { x with busy := false })

/-- Steps 2 and 3 of R408, unless R411 holds the advance. DESIGN CHOICE, unsafe: log entry 99. -/
def State.resetStart (s : State) (x : HallReset) : State :=
  let h := x.hall
  let s := (s.setReset h (fun x => { x with started := true })).floorFix h
  let next := (s.hallGen h + 1) % 2 ^ 16
  if s.oldItems h != 0 && next == s.tf .hcx h T_HCX.FLOOR then
    let s := (s.st .hcx h T_HCX.STATE hlWAITING).fence h
    if x.busy then s.goWaits h else s
  else
    ((s.st .hcx h T_HCX.STATE hlRESETTING).setGen h next).fence h |>.floorFix h

/-- The next queued reset starts unless one is in progress; halls that wait do not count. -/
def State.resetNext (s : State) : Nat → State
  | 0 => s
  | n + 1 =>
    if s.hlm.resets.any (fun x => x.started && s.hallSt x.hall == hlRESETTING) then s
    else match s.hlm.resets.find? (fun x => !x.started) with
      | some x => (s.resetStart x).resetNext n
      | none => s
/-- DESIGN CHOICE, unsafe: log entry 14. -/
def State.resetsGo (s : State) : State := s.resetNext (s.hlm.resets.length + 1)

/-- A reset or release of a hall that is not FREE is queued, or joins the one there is. -/
def State.hallReset (s : State) (h : Nat) (release go : Bool) : State :=
  let s := s.freezeBreak h 0x11 0
  match s.hlm.resets.find? (fun x => x.hall == h) with
  | some _ =>
    let s := s.setReset h (fun x => { x with release := x.release || release, go := x.go || go, busy := x.busy || go })
    if go && s.hallSt h == hlWAITING then s.goWaits h else s
  | none =>
    { s with hlm := { s.hlm with resets := s.hlm.resets ++ [(⟨h, release, go, go, false⟩ : HallReset)] } }.resetsGo

/-- A source returns to its reset value, state included. -/
def State.resetSource (s : State) (x : Nat) : State :=
  let st := s.tf .src x T_SRC.STATE
  let s := s.st .src x T_SRC.STATE srcIDLE
  let s := if st == srcSUMMARY || st == srcHELD then s.leaveTarget x else s
  { s with lnd := { s.lnd with order := s.lnd.order.filter (· != x), waited := s.lnd.waited.filter (· != x) } }.rewrite .src x
    (Tbl.zero .src)

/-- Step 4 of R408: the resources a hall owns by position and its Landing sources return to their reset values, its HAL page
too, and the translation cache forgets its PASID. -/
def State.resetOwned (s : State) (h : Nat) : State :=
  let s := s.each (List.range 8) (fun r s => s.rewrite .rng (8 * h + r) (Tbl.zero .rng))
  let s := { s with cvn := { s.cvn with
      prior := s.cvn.prior.filter (fun g => g / 8 != h)
      stopDue := s.cvn.stopDue.filter (fun g => g / 8 != h) } }
  let s := s.rewrite .enl h (put (Tbl.zero .enl) T_ENL.ENG_NOW.lo T_ENL.ENG_NOW.w (s.tf .enl h T_ENL.ENG_NOW))
  let s := s.each (List.range 8) (fun c s =>
    let a := 8192 + 8 * h + c
    let s := s.rewrite .acc a (put (Tbl.zero .acc) T_ACC.USED.lo T_ACC.USED.w (s.tf .acc a T_ACC.USED))
    let s := s.rewrite .que a (put (put (Tbl.zero .que) T_QUE.DEPTH.lo T_QUE.DEPTH.w (s.tf .que a T_QUE.DEPTH))
      T_QUE.FRAMES.lo T_QUE.FRAMES.w (s.tf .que a T_QUE.FRAMES))
    let s := (s.writeBuckets .leaf (8 * h + c) (Tbl.zero .leaf)).heal .leaf (8 * h + c)
    s.rewrite .hsel (8 * h + c) (Tbl.zero .hsel))
  let keep := [T_HCX.STATE, T_HCX.NOPASID, T_HCX.FUNC, T_HCX.PASID, T_HCX.SLOT, T_HCX.TDISP, T_HCX.GEN, T_HCX.FLOOR, T_HCX.OLD_ITEMS]
  let ctx := keep.foldl (fun (e : Entry) f => put e f.lo f.w (s.tf .hcx h f)) (Tbl.zero .hcx)
  let s := (s.rewrite .hcx h ctx).clearRange (pgHAL h) 0x8 0xFFC
  let s := (s.sf (pgHAL h) HDR.PAGE_GEN_GEN (s.hallGen h)).setLevel (pgHAL h) false
  let s := s.each ((s.listed .src).filter (fun e => fld e.2 T_SRC.OWNED.lo 1 == 1 && fld e.2 T_SRC.HALL.lo T_SRC.HALL.w == h))
    (fun e s => s.resetSource e.1)
  let s := { s with
    host := { s.host with
      cache := s.host.cache.filter (fun e => e.1 != h)
      prgs := s.host.prgs.filter (fun e => e.1 != h) }
    hlm := { s.hlm with words := s.hlm.words.filter (fun w => w.hall != h) } }
  let f := s.hallFunc h
  let s := if s.capShown 0 0x113 then s.emit (.stopMarker f (s.hallPasid h)) else s
  s.galUpdate

/-- Step 5 of R408: every window of the hall returns to its reset value. -/
def State.resetWindows (s : State) (h : Nat) : State :=
  s.each ((s.listed .win).filter (fun e => fld e.2 T_WIN.HALL.lo T_WIN.HALL.w == h)) (fun e s =>
    s.rewrite .win (e.1) (Tbl.zero .win))

/-- HALL_RESET_DONE (R408): steps 4 to 6 of a reset in progress. DESIGN CHOICE, unsafe: log entry 99. -/
def State.hallDone (s : State) (h : Nat) : State :=
  match s.hlm.resets.find? (fun x => x.hall == h && x.started && s.hallSt h == hlRESETTING) with
  | none => s
  | some x =>
    let s := (s.resetOwned h).resetWindows h
    let s := if x.release then
        s.each [T_HCX.STATE, T_HCX.NOPASID, T_HCX.FUNC, T_HCX.PASID, T_HCX.SLOT, T_HCX.TDISP] (fun f s => s.st .hcx h f 0)
      else s.st .hcx h T_HCX.STATE hlBOUND
    let s := { s with hlm := { s.hlm with resets := s.hlm.resets.filter (fun y => y.hall != h) } }
    let s := s.countHalls.cnt pgHLM HLM.CNT_RESETS
    let s := if x.busy then s.hallCmdEnd 0 else if x.go then s.event pgHLM 4 else s
    s.resetsGo
def execHallResetDone (hall : Nat) (s : State) : Host.Outcome State Fault Refusal := done (s.hallDone hall).settle

/-- GEN_WAIT_END (R411): the advance happens once OLD_ITEMS is 0. -/
def State.genWaitEnd (s : State) (h : Nat) : State :=
  if s.hallSt h == hlWAITING && s.oldItems h == 0 then
    let s := s.floorFix h
    ((s.st .hcx h T_HCX.STATE hlRESETTING).setGen h ((s.hallGen h + 1) % 2 ^ 16)).floorFix h
  else s
def execGenWaitEnd (hall : Nat) (s : State) : Host.Outcome State Fault Refusal := done (s.genWaitEnd hall)

/-! ### HALL_CMD (R395) -/

/-- A reset that arrives during an apply is deferred to its end (R475). DEDUCED, unsafe: log entry 101. -/
def State.defers (s : State) : Bool := s.gf pgMEZ MEZ.MEZ_STS_STATE == 2
/-- DEDUCED, unsafe: log entry 101. -/
def State.defer (s : State) (i : Instr) : State :=
  ({ s with mez := { s.mez with deferred := s.mez.deferred ++ [i] } }.cnt pgMEZ MEZ.CNT_RESETS_DEFERRED).event pgMEZ 3

/-- A GO: ignored with OP 0, while BUSY is 1, or while HLM is not ACTIVE. -/
def State.hallGo (s : State) (op h : Nat) : State :=
  if op == 0 || s.gb pgHLM HLM.HALL_CMD_BUSY || !s.active pgHLM then s else
  let s := s.sf pgHLM HLM.HALL_CMD_BUSY 1
  if op == 1 then s.hallCreate h
  else
    let vf := s.hallFunc h
    if s.hallSt h == hlFREE then s.hallCmdEnd 1
    else if op == 3 && vf != 0 && (s.tdispOf vf == 1 || s.tdispOf vf == 2) then s.hallCmdEnd 5
    else s.hallReset h (op == 3) true

/-- A hall command as a write of HALL_CMD with GO. DEDUCED, unsafe: log entry 101. -/
def State.hallCmd (s : State) (op h : Nat) (i : Instr) : State :=
  let s := s.sf pgHLM HLM.HALL_CMD_HALL h |>.sf pgHLM HLM.HALL_CMD_OP op
  if s.defers then s.defer i else (s.hallGo op (h % 4096)).settle

def execHallCreate (hall : Nat) (s : State) : Host.Outcome State Fault Refusal := done (s.hallCmd 1 hall (.hallCreate hall))
def execHallReset (hall : Nat) (s : State) : Host.Outcome State Fault Refusal := done (s.hallCmd 2 hall (.hallReset hall))
def execHallRelease (hall : Nat) (s : State) : Host.Outcome State Fault Refusal := done (s.hallCmd 3 hall (.hallRelease hall))

/-! ### The dirty-page flip (R415) -/

/-- The cached words of a hall in a bitmap. -/
def State.wordsIn (s : State) (h : Nat) (second : Bool) : List DlWord :=
  let base := s.dlBase h second
  s.hlm.words.filter (fun w => w.hall == h && base ≤ w.addr && w.addr < base + s.tf .hcx h T_HCX.DL_PAGES / 8)

/-- DL_FLIP: a FLIP for a hall with DL_EN 1 while no flip is in progress. -/
def State.dlFlip (s : State) (h : Nat) : State :=
  let s := s.sf pgHLM HLM.DL_CMD_HALL h
  if s.gb pgHLM HLM.DL_CMD_BUSY || !s.active pgHLM || !s.tb .hcx h T_HCX.DL_EN then s else
  let was := s.tb .hcx h T_HCX.DL_ACTIVE
  let s := s.sf pgHLM HLM.DL_CMD_BUSY 1
  let s := (s.st .hcx h T_HCX.DL_ACTIVE (b2n (!was))).st .hcx h T_HCX.DL_OVER 0
  let s := { s with hlm := { s.hlm with flip := some h } }
  s.each ((s.wordsIn h was).filter (fun w => w.old.isSome)) (fun w s => s.dlWriteBack w)
def execDlFlip (hall : Nat) (s : State) : Host.Outcome State Fault Refusal := 
  done (s.onPage pgHLM (.dlFlip hall) (s.dlFlip (hall % 4096)))

/-- DL_FLIP_DONE: every cached word of the former bitmap has been written back. -/
def State.dlFlipDone (s : State) : State :=
  match s.hlm.flip with
  | none => s
  | some h =>
    let former := !s.tb .hcx h T_HCX.DL_ACTIVE
    let s := s.each ((s.wordsIn h former).filter (fun w => w.old.isSome)) (fun w s => s.dlWriteBack w)
    if (s.wordsIn h former).isEmpty then
      { s with hlm := { s.hlm with flip := none } }.sf pgHLM HLM.DL_CMD_BUSY 0 |>.event pgHLM 3
    else s.dlAsk
def execDlFlipDone (s : State) : Host.Outcome State Fault Refusal := done s.dlFlipDone

/-! ### The tenant's side (R402, R405) -/

/-- The hall a doorbell slot of a VF belongs to (R396). -/
def State.slotHall (s : State) (vf slot : Nat) : Option Nat :=
  (s.hallsOf vf).find? (fun h => s.tf .hcx h T_HCX.SLOT == slot)

/-- Why an access through a doorbell slot fails R402; 0 when it passes. DESIGN CHOICE, unsafe: log entry 98. -/
def State.slotReason (s : State) (vf h : Nat) (pasid : Option Nat) : Nat :=
  if !s.active pgHLM then 7
  else if s.hallSt h != hlBOUND then (if s.hallSt h == hlERROR then 5 else 1)
  else if s.hallFunc h != vf then 2
  else match pasid with
    | some p => if s.pasidShown && p != s.tf .hcx h T_HCX.PASID then 3 else 0
    | none => 0

/-- The hall that an access to a HAL page reaches: through PF0 BAR0 the one named, through a doorbell slot the one bound there,
if R402 passes; otherwise the access is one to reserved space at an offset. DEDUCED, unsafe: log entry 71; DESIGN CHOICE, unsafe: log entry 98. -/
def State.halAccess (s : State) (via : BarPath) (h off : Nat) : State × Option Nat :=
  match via with
  | .pf0 _ => (s, some h)
  | .slot vf slot pasid req =>
    match s.slotHall vf slot with
    | none => (s.devError 1 (slot * 4096 + off) req, none)
    | some x =>
      match s.slotReason vf x pasid with
      | 0 => (s, some x)
      | r => ((s.isoFail vf pasid 0x7FFF x r).devError 1 (0x1000000 + x * 4096 + off) req, none)

/-- RX_CONS_WRITE (R405): a count that would make the used space exceed the area is ignored. -/
def State.rxCons (s : State) (via : BarPath) (h : Nat) (v : Word) : State :=
  match s.halAccess via h 0x88 with
  | (s, some h) =>
    if subMod (s.rxProd h) v.toNat 32 ≤ s.rxSize h then s.sf (pgHAL h) HAL.RX_CONS_CONS v.toNat else s
  | (s, none) => s
def execRxConsWrite (via : BarPath) (hall : Nat) (cons : Word) (s : State) : Host.Outcome State Fault Refusal :=
  done (s.onSlot via (.rxConsWrite via hall cons) (s.rxCons via hall cons))

end Sys2Proof.Machine
end

