-- ==== Sys2Proof/Machine/Host.lean ====
section
/-!
DEFINITION. The host port (R49 to R88) beside its memory requests: link and speed, the completions and translations it receives,
PTM, function-level resets, VFs and the reset by the host.
-/

namespace Sys2Proof.Machine

/-! ### Link and speed (R50 to R56) -/

/-- The VDD allowance of the host port at a rate (R522). -/
def hostDraw (rate : Nat) : Nat :=
  match rate with | 0 => 0 | 1 => 120 | 2 => 140 | 3 => 180 | 4 => 240 | 5 => 320 | _ => 440

/-- The rate LIMIT asks for: a value above SPEED_MAX acts as SPEED_MAX. -/
def State.speedLimit (s : State) : Nat := min (s.gf pgHST HST.SPEED_CTL_LIMIT) (s.gf pgHST HST.LINK_CFG_SPEED_MAX)

/-- The highest rate the bridge offers: within what is admitted and within LIMIT. -/
def State.speedOffer (s : State) : Nat := max 1 (min (s.gf pgHST HST.SPEED_CTL_ADMITTED) s.speedLimit)

/-- Trained at or below a lowered LIMIT: ADMITTED falls to LIMIT and the difference in allowance is returned (R54). DEDUCED, unsafe: log entry 43. -/
def State.speedSettle (s : State) : State :=
  let lim := s.speedLimit
  let was := s.gf pgHST HST.SPEED_CTL_ADMITTED
  if lim < was && s.gf pgHST HST.LINK_STS_SPEED ≤ lim then
    (s.sf pgHST HST.SPEED_CTL_ADMITTED lim).giveBack pgHST (hostDraw was - hostDraw lim) 0
  else s

/-- SPEED_LIMIT_WRITE (R54). -/
def State.speedWrite (s : State) (limit : Nat) (auto : Bool) : State :=
  let s := s.sf pgHST HST.SPEED_CTL_LIMIT limit |>.sf pgHST HST.SPEED_CTL_AUTO_UP (b2n auto)
  let was := s.gf pgHST HST.SPEED_CTL_ADMITTED
  let want := s.speedLimit
  if was < want then
    match s.askCistern pgHST [(pgHST, hostDraw want - hostDraw was, 0)] with
    | (s, true) => s.sf pgHST HST.SPEED_CTL_ADMITTED want
    | (s, false) => (s.cnt pgHST HST.CNT_SPEED_REFUSALS).event pgHST 3
  else s

def execSpeedLimitWrite (limit : Nat) (autoUp : Bool) (s : State) : Host.Outcome State Fault Refusal :=
  done (s.speedWrite limit autoUp)

/-- SPEED_AUTO_UP (R55): the bridge asks for the change; Recovery completes with HOST_RECOVERY. -/
def execSpeedAutoUp (s : State) : Host.Outcome State Fault Refusal :=
  done (if s.gb pgHST HST.SPEED_CTL_AUTO_UP && s.gb pgHST HST.LINK_STS_DL_UP
      && s.gf pgHST HST.LINK_STS_SPEED < s.speedOffer then s.emit (.linkSpeed s.speedOffer) else s)

/-- The virtual channel of a traffic class (R49): VC0 for all of them. -/
def hostVc (_tc : Fin 8) : Nat := 0

/-- The physical lanes of a link of a width, its lane 0 first (R50). -/
def hostLanes (width : Nat) (reversed : Bool) : List Nat := (List.range width).map (fun i => if reversed then 15 - i else i)

/-- The lanes in use follow the width and the reversal; the others are in electrical idle, and their receivers show no polarity (R50). -/
def State.lanesUse (s : State) : State :=
  let l := hostLanes (s.gf pgHST HST.LINK_STS_WIDTH) (s.gb pgHST HST.LINK_STS_REVERSED)
  let mask := (l.map (fun i => 2 ^ i)).foldl (· + ·) 0
  { s with host := { s.host with lanes := l } }.sf pgHST HST.LINK_STS_POL_INV (s.gf pgHST HST.LINK_STS_POL_INV &&& mask)

/-- The rate and width of the link are shown; a change of either while DL_UP is 1 is an event. -/
def State.linkShow (s : State) (speed width : Nat) : State :=
  let changed := s.gf pgHST HST.LINK_STS_SPEED != speed || s.gf pgHST HST.LINK_STS_WIDTH != width
  let s := (s.sf pgHST HST.LINK_STS_SPEED speed |>.sf pgHST HST.LINK_STS_WIDTH width).lanesUse
  if changed && s.gb pgHST HST.LINK_STS_DL_UP then s.event pgHST 2 else s

/-- Whether Flit Mode is in use at a rate (R49): always at 64 GT/s, below it only with FLIT_LOW and a partner that supports it. -/
def State.flitAt (s : State) (speed : Nat) (partner : Bool) : Bool := speed == 6 || (partner && s.gb pgHST HST.LINK_CFG_FLIT_LOW)

/-- Recovery ends at a rate and width; from its entry on the bridge offers the rates up to the one in force (R54). DEDUCED, unsafe:
log entry 43; DESIGN CHOICE, unsafe: log entry 161. -/
def State.recovered (s : State) (speed width : Nat) : State :=
  if s.gb pgHST HST.LINK_STS_DL_UP then
    let s := { s with host := { s.host with offer := s.speedOffer } }
    let speed := min speed s.host.offer
    let s := s.sf pgHST HST.LINK_STS_FLIT (b2n (s.flitAt speed (s.gb pgHST HST.LINK_STS_FLIT)))
    ((s.cnt pgHST HST.CNT_RETRAINS).linkShow speed width).speedSettle
  else s

/-- HOST_RECOVERY (R55): the rate rises only by the bridge's own request, with AUTO_UP 1; the host's own is HOST_RETRAIN_LINK. DESIGN
CHOICE, unsafe: log entry 161. -/
def State.hostRecovery (s : State) (speed width : Nat) : State :=
  s.recovered (if s.gb pgHST HST.SPEED_CTL_AUTO_UP then speed else min speed (s.gf pgHST HST.LINK_STS_SPEED))
    (min width (s.gf pgHST HST.LINK_CFG_WIDTH_MAX))

def execHostRecovery (speed width : Nat) (s : State) : Host.Outcome State Fault Refusal := done (s.hostRecovery speed width)

/-- HOST_RETRAIN_LINK (R55): Recovery completes at the highest rate that both sides offer within ADMITTED. -/
def execHostRetrainLink (target partnerMax : Nat) (s : State) : Host.Outcome State Fault Refusal :=
  done ((s.setCfg 0 .targetSpeed (target % 16)).recovered (max 1 (min (min target partnerMax) s.speedOffer))
    (s.gf pgHST HST.LINK_STS_WIDTH))

/-- The data link layer comes up at a rate and width within what the bridge offers in training (R53, R54). DESIGN CHOICE, unsafe: log entry 161. -/
def State.linkUp (s : State) (speed width : Nat) (flit reversed : Bool) (polInv : BitVec 16) : State :=
  let speed := min speed (min s.host.offer s.speedOffer)
  let s := s.sf pgHST HST.LINK_STS_REVERSED (b2n reversed) |>.sf pgHST HST.LINK_STS_POL_INV polInv.toNat
    |>.sf pgHST HST.LINK_STS_FLIT (b2n (s.flitAt speed flit))
  (((s.linkShow speed (min width (s.gf pgHST HST.LINK_CFG_WIDTH_MAX))).sf pgHST HST.LINK_STS_DL_UP 1).event pgHST 0).speedSettle

/-- HOST_LINK_UP: after PERST_N is released and the image is applied (R56). DESIGN CHOICE, unsafe: log entry 161. -/
def execHostLinkUp (speed width : Nat) (flit reversed : Bool) (polInv : BitVec 16) (s : State) : Host.Outcome State Fault Refusal :=
  done (if s.gb pgHST HST.LINK_STS_DL_UP || s.sys.perst || !s.gb pgDEV DEV.BOOT_STS_DONE then s
    else s.linkUp speed width flit reversed polInv)

/-! ### IDE checks of received TLPs (R79, R80) -/

/-- An IDE stream; a link stream is numbered 256 plus its ID. -/
def State.ideOf (s : State) (n : Nat) : Ide := SMap.get (fun _ => Ide.reset) s.host.ide n
def State.setIde (s : State) (n : Nat) (i : Ide) : State :=
  { s with host := { s.host with ide := SMap.set (fun _ => Ide.reset) s.host.ide n i } }

/-- The keys of a stream are erased: the words of the IDE key region that held them are written (R544, R553). -/
def State.eraseKeys (s : State) (n : Nat) : State :=
  (s.cnt pgVLT VLT.CNT_WORDS_WRITTEN (5 * (s.ideOf n).keys.length)).setIde n { s.ideOf n with keys := [] }

/-- A stream enters the Insecure state. -/
def State.ideInsecure (s : State) (n : Nat) : State :=
  let s := s.eraseKeys n
  s.setIde n { s.ideOf n with state := .insecure }

/-- A TLP is discarded under R80. The failure itself is captured and reported; a later TLP of an Insecure stream is only counted.
DESIGN CHOICE, unsafe: log entry 34. -/
def State.ideFail (s : State) (n : Nat) : State :=
  let s := s.cnt pgHST HST.CNT_IDE_FAILS
  if (s.ideOf n).state == .insecure then s
  else ((s.ideInsecure n).error pgHST 5 0x03 (n % 512) 0 0).aer 0 .ideCheckFailed false []

/-- A selective stream whose RID association range holds a requester (R78): its ID, from its control registers in PF0. A TEE-limited
stream protects only the traffic of TEE interfaces. DESIGN CHOICE, unsafe: log entry 34. -/
def State.ideByRid (s : State) (rid : Nat) : List Nat :=
  ((List.range 4).filter (fun i =>
    let c := fun (f : IdeFld) => s.cfgRaw 0 (.ide i f)
    c .ridValid == 1 && c .ridBase ≤ rid && rid ≤ c .ridLimit && c .teeLimited != 1)).map (fun i => s.cfgRaw 0 (.ide i .streamId))

/-- Whether a received TLP passes, with the stream's key set switched where its K bit changes. One in the clear fails where a Secure
selective stream takes in its requester (or completer), or else the link stream is Secure. `sub` is the sub-stream: 0
posted, 1 non-posted, 2 completion. DESIGN CHOICE, unsafe: log entry 34. -/
def State.ideCheck (s : State) (c : IdeCheck) (rid sub : Nat) : State × Bool :=
  match c with
  | .clear =>
    match s.host.ide.find? (fun e => e.2.state == .secure && (256 ≤ e.1 || (s.ideByRid rid).contains e.1)) with
    | some e => (s.ideFail e.1, false)
    | none => (s, true)
  | .good n k =>
    let i := s.ideOf n
    if i.state == .secure && i.keys.any (fun e => e.1 == k * 8 + sub) then (s.setIde n { i with keySet := k }, true)
    else (s.ideFail n, false)
  | .bad n => (s.ideFail n, false)

/-! ### Completions for the bridge's own requests (R66, R410) -/

/-- A TLP that is malformed, poisoned or unexpected: counted, captured with an event. -/
def State.badTlp (s : State) (code c1 c2 c3 : Nat) : State :=
  (s.cnt pgHST HST.CNT_BAD_TLPS).error pgHST 9 code c1 c2 c3

/-- A completion that matches no outstanding tag. -/
def State.unexpected (s : State) (tag completer : Nat) : State :=
  (s.badTlp 0x02 (completer % 2 ^ 16 + tag % 2 ^ 14 * 2 ^ 16) 0 0).aer 0 .unexpectedCompletion true []

/-! ### Translations (R69 to R71) -/

/-- The translation cache and the pending invalidations are shown. -/
def State.atsShow (s : State) : State :=
  s.sf pgHST HST.ATS_STS_CACHE_USED s.host.cache.length |>.sf pgHST HST.ATS_STS_INV_PENDING s.host.invals.length

/-- Whether an invalidation affects the translation unit of a page of a hall. DEDUCED, unsafe: log entry 30. -/
def State.invalHits (s : State) (func : Nat) (pasid : Option Nat) (addr pages h page : Nat) : Bool :=
  s.hallFunc h == func && addr / 4096 < page + s.stuPages h && page < addr / 4096 + pages
    && (match pasid with | some p => s.hallPasid h == some p | none => true)

/-- Whether some byte from an address on lies in the translation unit of a page of a hall. -/
def State.inUnit (s : State) (h page addr len : Nat) : Bool :=
  addr / 4096 < page + s.stuPages h && page ≤ (addr + max len 1 - 1) / 4096

/-- The engine write or fence at the head of a host queue that cannot be sent for want of a page fails (R71). Another frame waits:
its page is asked for again. DEDUCED, unsafe: log entry 31. -/
def State.xlatFailFrames (s : State) (h page code : Nat) : State :=
  s.each (List.range 8) (fun c s =>
    match s.queue (hostQueue h c) with
    | [] => s
    | r :: _ =>
      match s.galFrame r.frame with
      | none => s
      | some g =>
        match g.load with
        | .memWr e addr _ data =>
          if s.inUnit h page addr data.length && (s.engSt e == enMOVE || s.engSt e == enSTALL) then
            (s.dropRef (hostQueue h c) r).engineWriteFailed e (8 * h + c) (s.engCount e) (s.eng e).hop code
          else s
        | .memRd e addr =>
          if s.inUnit h page addr 4 then (s.dropRef (hostQueue h c) r).engineGot e 0 code [] else s
        | _ => s)

/-- Whether the next source read or the next destination write of a COPY lies in a page of host memory (R368, R369). DEDUCED, unsafe: log entry 31. -/
def State.needsPage (s : State) (h : Nat) (x : Engine) (d : BitVec 256) (page : Nat) : Bool :=
  let a := (dDst d + x.wrote) % 2 ^ 64
  let n := min (dLen d - x.wrote) (128 - a % 128)
  (!dSrcSp d && x.asked < dLen d && s.inUnit h page ((dSrc d + x.asked) % 2 ^ 64) 1)
    || (!dDstSp d && 0 < n && n ≤ x.hold.length && s.inUnit h page a 1)

/-- A translation cannot be had: the transfer that needed the page ends with a translation error (R71), or with the code of the request
for the translation that timed out (R66). DEDUCED, unsafe: log entry 31. -/
def State.xlatFail (s : State) (h page code : Nat) : State :=
  let s := s.each (s.cvn.engines.map (·.1)) (fun e s =>
    let x := s.eng e
    if x.ring.map (· / 8) != some h then s
    else if s.engSt e == enFETCH && x.desc.isNone && s.inUnit h page x.addr 32 then s.setEng e { x with code := code }
    else match x.desc with
      | some d =>
        if (s.engSt e == enMOVE || s.engSt e == enSTALL) && s.needsPage h x d page && x.code == 0 then
          s.setEng e { x with code := code }
        else s
      | none => s)
  (s.xlatFailFrames h page code).galUpdate

/-- A page request group is started (R71), if PRI is shown and enabled, the host port may send (R82), and fewer than 1,024 are
outstanding; its index is the lowest that the hall does not use. Otherwise the page is asked for again. DESIGN CHOICE, unsafe: log entry 29. -/
def State.pageRequest (s : State) (h page : Nat) : State :=
  let f := s.hallFunc h
  if !(s.capShown 0 0x113 && s.cfgRaw 0 .priEnable == 1) then s.xlatFail h page 0x09
  else if !s.mayMaster f || 1024 ≤ s.host.prgs.length then s
  else match (List.range 512).find? (fun g => !s.host.prgs.any (fun p => p.1 == h && p.2.1 == g)) with
  | some g =>
    ({ s with host := { s.host with prgs := s.host.prgs ++ [(h, g, page)] } }.emit
      (.pageReq f (s.hallPasid h) (page * 4096) g)).cnt pgHST HST.CNT_PRI_REQS
  | none => s

/-- A translation completion (R69): the cache is filled, replacing what was used longest ago, unless an invalidation in
progress affects the page. DEDUCED, unsafe: log entry 30. -/
def State.xlatDone (s : State) (h page : Nat) (r : XlatResult) : State :=
  match r with
  | .mapped addr =>
    if s.host.invals.any (fun v => s.invalHits v.func v.pasid v.addr v.pages h page) then s else
    let others := s.host.cache.filter (fun e => !(e.1 == h && e.2.1 == page))
    { s with host := { s.host with cache := ((h, page, addr / 4096) :: others).take 16384 } }.atsShow
  | .faultPri => s.pageRequest h page
  | .faultOther => s.xlatFail h page 0x09

/-- The eight bytes of a translation completion: without read and write permission it is a fault. PRESUMED, unsafe: log entry 30. -/
def xlatOf (data : List Byte) : XlatResult :=
  let v := ofBytes data.reverse
  if v % 4 == 0 then .faultPri else .mapped (v / 4096 * 4096)

/-! ### Results -/

/-- The result of a request is given to its requester: a failure code of R363 (0: the data). A bitmap word that could not be
read stays to be asked for again. -/
def State.hostResult (s : State) (r : HostReq) (code : Nat) (data : List Byte) : State :=
  match r.owner with
  | .srcRead e num => s.engineGot e num code data
  | .fetch e =>
    let x := s.eng e
    if code == 0 then s.setEng e { x with desc := some (BitVec.ofNat 256 (ofBytes data)) } else s.setEng e { x with failed := true }
  | .fence e => s.engineGot e 0 code data
  | .bitmap h addr =>
    if code == 0 then
      { s with hlm := { s.hlm with
          words := s.hlm.words.map (fun w =>
            if w.hall == h && w.addr == addr && w.old.isNone then { w with old := some (ofBytes data) } else w) } }
    else s
  | .xlat h page => if code == 0 then s.xlatDone h page (xlatOf data) else s.xlatFail h page (if code == 0x05 then 0x05 else 0x09)

/-- A request of an old generation: its completion is discarded and counted (R410). -/
def State.oldCompletion (s : State) (r : HostReq) : Bool :=
  match r.hall with
  | some h => r.gen != s.hallGen h || s.hallSt h == hlFREE
  | none => false
def State.discardOld (s : State) (r : HostReq) : State :=
  (s.cnt pgHLM HLM.CNT_LATE_DISCARDS).errorNoEvent pgHLM 0x05 (r.hall.getD 0 + r.gen % 2 ^ 16 * 2 ^ 12) 0x3FF 0

/-- A completion's data joins what has come back; with the last of it the request is over. -/
def State.hostData (s : State) (r : HostReq) (data : List Byte) : State :=
  let got := (r.got ++ data).take r.len
  if got.length < r.len then
    { s with host := { s.host with reqs := s.host.reqs.map (fun x => if x.txn == r.txn then { x with got := got } else x) } }
  else
    let old := s.oldCompletion r
    let s := s.endHostReq r
    if old then s else s.hostResult r 0 got

/-- A request ends with an error result. DESIGN CHOICE, safe: log entry 32. -/
def State.hostError (s : State) (r : HostReq) (code : Nat) : State :=
  let old := s.oldCompletion r
  let s := s.endHostReq r
  if old then s else s.hostResult r code []

/-- A completion for a request whose data crosses the device passes the Gallery, against its reservation (R267, R273): it enters
and leaves in one step. DEDUCED, unsafe: log entry 169. -/
def State.viaGallery (s : State) (r : HostReq) : State :=
  let own := match r.owner with | .xlat _ _ => true | _ => false
  if own || !s.active pgSWC then s else (s.cnt pgSWC SWC.CNT_FRAMES_IN).cnt pgSWC SWC.CNT_FRAMES_OUT

/-- A completion for a known request (R66, R88). PRESUMED, unsafe: log entry 33. -/
def State.hostCpl (s : State) (r : HostReq) (status : CplStatus) (data : List Byte) (poisoned : Bool) (h0 h1 h2 : Word) : State :=
  let s := if s.oldCompletion r then s.discardOld r else s
  match status with
  | .sc =>
    if poisoned then
      ((s.badTlp 0x05 h0.toNat h1.toNat h2.toNat).aer r.func .poisonedTlp false [h0, h1, h2]).hostError r 0x04
    else s.hostData r data
  | .ur => (s.error pgHST 9 0x06 (r.func % 256 + r.tag % 2 ^ 14 * 2 ^ 8 + 1 * 2 ^ 22) (r.addr % 2 ^ 32) (r.addr / 2 ^ 32)).hostError r 0x04
  | .ca => (s.error pgHST 9 0x06 (r.func % 256 + r.tag % 2 ^ 14 * 2 ^ 8 + 4 * 2 ^ 22) (r.addr % 2 ^ 32) (r.addr / 2 ^ 32)).hostError r 0x04

def State.hostCompletion (s : State) (tag : Nat) (status : CplStatus) (data : List Byte) (completer : Nat) (ide : IdeCheck)
    (poisoned : Bool) (h0 h1 h2 : Word) : State :=
  match (s.wakeHint OAS.WAKE_FLAG_HOST).ideCheck ide completer 2 with
  | (s, false) => s
  | (s, true) =>
    match s.host.reqs.find? (fun r => r.txn == tag) with
    | none => s.unexpected tag completer
    | some r => (s.viaGallery r).hostCpl r status data poisoned h0 h1 h2

def execHostCompletion (tag : Nat) (status : CplStatus) (data : List Byte) (completer : Nat) (ide : IdeCheck)
    (poisoned : Bool) (hdr0 hdr1 hdr2 : Word) (s : State) : Host.Outcome State Fault Refusal :=
  done (s.hostCompletion tag status data completer ide poisoned hdr0 hdr1 hdr2).settle

/-- The completion timeout of a function in ns: the low end of the range its Device Control 2 register names. PRESUMED, unsafe: log entry 22. -/
def State.cplTimeout (s : State) (func : Nat) : Nat :=
  match s.cfgRaw func .cplTimeoutVal with
  | 1 => us 50 | 2 => ms 1 | 5 => ms 16 | 6 => ms 65 | 9 => ms 260 | 10 => ms 1000 | 13 => ms 4000 | 14 => ms 17000
  | _ => us 50

/-- CPL_TIMEOUT (R66). PRESUMED, unsafe: log entry 22. -/
def State.cplExpire (s : State) (tag : Nat) : State :=
  match s.host.reqs.find? (fun r => r.txn == tag) with
  | none => s
  | some r =>
    if s.cfgRaw r.func .cplTimeoutDis == 1 || !s.due (r.issued + s.cplTimeout r.func) then s else
    let s := (s.cnt pgHST HST.CNT_CPL_TIMEOUTS).error pgHST 4 0x01 (r.func % 256 + r.tag % 2 ^ 14 * 2 ^ 8) (r.addr % 2 ^ 32)
      (r.addr / 2 ^ 32)
    (s.aer r.func .completionTimeout false []).hostError r 0x05

def execCplTimeout (tag : Nat) (s : State) : Host.Outcome State Fault Refusal := done (s.cplExpire tag).settle

/-! ### Invalidations and page requests (R70, R71) -/

/-- Invalidations that wait are taken while fewer than 32 are in progress (R70): the entries they affect leave the cache at once. One for
a PASID bound to no hall completes without delay. DEDUCED, unsafe: log entry 30. -/
def State.invalTake (s : State) : Nat → State
  | 0 => s
  | n + 1 =>
    match s.host.invalQ with
    | [] => s
    | v :: rest =>
      if 32 ≤ s.host.invals.length then s else
      let hit := fun (h page : Nat) => s.invalHits v.func v.pasid v.addr v.pages h page
      let tags := (s.host.reqs.filter (fun r => r.cached && (match r.hall with
        | some h => (List.range ((r.addr + max r.len 1 - 1) / 4096 - r.addr / 4096 + 1)).any (fun k =>
            hit h (s.stuPage h (r.addr / 4096 + k)))
        | none => false))).map HostReq.txn
      let free := match v.pasid with | some p => !(s.hallsOf v.func).any (fun h => s.hallPasid h == some p) | none => false
      let s := { s with host := { s.host with
          cache := s.host.cache.filter (fun e => !hit e.1 e.2.1)
          invalQ := rest
          invals := if free then s.host.invals else s.host.invals ++ [{ v with tags := tags }] } }
      let s := if free then (s.emit (.invCpl v.itag v.func)).cnt pgHST HST.CNT_ATS_INVALS else s
      s.atsShow.invalTake n

/-- ATS_INVALIDATION_COMPLETE: sent once no tag of it is outstanding; one that waits is then taken. -/
def State.invalEnd (s : State) (itag : Nat) : State :=
  match s.host.invals.find? (fun v => v.itag == itag && v.tags.isEmpty) with
  | some v =>
    let s := { s with host := { s.host with invals := s.host.invals.erase v } }
    (((s.emit (.invCpl itag v.func)).cnt pgHST HST.CNT_ATS_INVALS).atsShow).invalTake s.host.invalQ.length
  | none => s

def execAtsInvalidationComplete (itag : Nat) (s : State) : Host.Outcome State Fault Refusal := done (s.invalEnd itag)

/-- ATS_INVALIDATION_REQUEST (R70): with 32 in progress it waits in the host port's flow control. DEDUCED, unsafe: log entry 30. -/
def State.invalIn (s : State) (itag func : Nat) (pasid : Option Nat) (addr pages : Nat) : State :=
  let s := { s with host := { s.host with invalQ := s.host.invalQ ++ [(⟨itag, func, pasid, addr, pages, []⟩ : Inval)] } }
  s.invalTake s.host.invalQ.length

def execAtsInvalidationRequest (itag func : Nat) (pasid : Option Nat) (addr pages : Nat) (s : State) :
    Host.Outcome State Fault Refusal :=
  done (if s.hostStall then s.stallTlp (.atsInvalidationRequest itag func pasid addr pages) else s.invalIn itag func pasid addr pages)

/-- ATS_TRANSLATION_COMPLETION (R69): the answer to an outstanding request for a page of a hall. -/
def State.xlatIn (s : State) (h page : Nat) (r : XlatResult) : State :=
  match s.host.reqs.find? (fun q => q.owner == .xlat h page) with
  | none => s
  | some q =>
    let old := s.oldCompletion q
    let s := (if old then s.discardOld q else s).endHostReq q
    if old then s else s.xlatDone h page r

def execAtsTranslationCompletion (hall page : Nat) (result : XlatResult) (s : State) : Host.Outcome State Fault Refusal :=
  done (s.xlatIn hall page result).settle

/-- PRG_RESPONSE (R71). -/
def State.prgIn (s : State) (h group : Nat) (code : PrgCode) : State :=
  match s.host.prgs.find? (fun p => p.1 == h && p.2.1 == group) with
  | none => s
  | some p =>
    let s := { s with host := { s.host with prgs := s.host.prgs.filter (· != p) } }
    match code with
    | .success => s.askXlat h (p.2.2 * 4096)
    | _ => s.xlatFail h p.2.2 0x09

def execPrgResponse (hall group : Nat) (code : PrgCode) (s : State) : Host.Outcome State Fault Refusal :=
  done (s.prgIn hall group code).settle

/-! ### PTM (R74) -/

def State.ptmOn (s : State) : Bool := s.capShown 0 0x11F && s.cfgRaw 0 .ptmEnable == 1 && s.gb pgHST HST.LINK_STS_DL_UP
/-- DESIGN CHOICE, unsafe: log entry 28. -/
def State.ptmPeriodNs (s : State) : Nat := ms (max 1 (s.gf pgHST HST.PTM_CTL_PERIOD))

/-- A dialog starts, one at a time, unless HST is quiesced (R82). -/
def State.ptmDialog (s : State) : State :=
  if s.ptmOn && !s.host.ptmBusy && !s.quiesce pgHST then
    { s with host := { s.host with ptmBusy := true, ptmStart := s.clock } }.emit .ptmReq
  else s

def execPtmReq (s : State) : Host.Outcome State Fault Refusal := done s.ptmDialog

/-- Synchronisation is lost: DEVTIME runs free. -/
def State.ptmLost (s : State) : State :=
  let s := { s with sys := { s.sys with slew := 0, slewFast := false, slewIn := 0 } }
  (s.sf pgHST HST.PTM_STS_VALID 0 |>.sf pgHST HST.PTM_STS_SLEWING 0).error pgHST 7 0x07 s.host.ptmFails 0 0

/-- Whether no dialog completed within three periods. -/
def State.ptmOverdue (s : State) : Bool := s.gb pgHST HST.PTM_STS_VALID && s.due (s.host.ptmLast + 3 * s.ptmPeriodNs)

/-- PTM_PERIOD: the timer of periodic dialogs. VALID is lost after three periods without one, whether or not any can run. -/
def State.ptmPeriod (s : State) : State :=
  let s := if s.ptmOverdue then s.ptmLost else s
  if s.gb pgHST HST.PTM_CTL_AUTO && s.ptmOn && s.due (s.host.ptmStart + s.ptmPeriodNs) then s.ptmDialog else s
def execPtmPeriod (s : State) : Host.Outcome State Fault Refusal := done s.ptmPeriod

/-- PTM_DIALOG_FAIL: three failures in a row, or three periods without a completed dialog, lose VALID. -/
def State.ptmFail (s : State) : State :=
  if !s.host.ptmBusy then s else
  let s := { s with host := { s.host with ptmBusy := false, ptmFails := s.host.ptmFails + 1 } }
  if s.host.ptmFails == 3 || s.ptmOverdue then s.ptmLost else s

def execPtmDialogFail (s : State) : Host.Outcome State Fault Refusal := done s.ptmFail

/-- An error in ns as PTM_ERR shows it, saturating. -/
def ptmErr (e : Int) : Nat := ofSigned (max (-(2 ^ 31 - 1 : Nat)) (min (2 ^ 31 - 1 : Nat) e)) 32

/-- PTM_DIALOG_DONE: host time minus DEVTIME is recorded and corrected. -/
def State.ptmDone (s : State) (hostTime : Nat) : State :=
  if !s.host.ptmBusy then s else
  let err : Int := (hostTime : Int) - s.sys.devtime
  let s := { s with host := { s.host with ptmBusy := false, ptmFails := 0, ptmLast := s.clock } }
  let s := s.sf pgHST HST.PTM_ERR_ERROR (ptmErr err) |>.sf pgHST HST.PTM_STS_VALID 1
    |>.sf pgHST HST.PTM_STS_STEPPED (b2n (decide (1000 < err)))
    |>.sf pgHST HST.PTM_STS_SLEWING (b2n (err != 0 && decide (err ≤ 1000)))
  let s := s.correctTime err
  if 1000 < err then s.event pgHST 6 else s

def execPtmDialogDone (hostTime : Nat) (s : State) : Host.Outcome State Fault Refusal := done (s.ptmDone hostTime)

/-! ### MSI-X tables (R67, R68) -/

/-- The Landing entry of an MSI-X entry of a function. -/
def State.vecEntry (s : State) (func vec : Nat) : Option Nat :=
  let pf := s.gf pgHST HST.MSIX_CFG_PF_VECTORS
  let vf := s.gf pgHST HST.MSIX_CFG_VF_VECTORS
  if func == 0 then (if vec < pf then some vec else none)
  else if vec < vf && func ≤ s.gf pgHST HST.FUNC_CFG_TOTAL_VFS then some (pf + (func - 1) * vf + vec) else none

/-- MSIX_TABLE_WRITE: a dword with all byte enables set; a function in FLR takes none. -/
def State.vecWrite (s : State) (func vec dword : Nat) (be : BitVec 4) (v : Word) : State :=
  if be != 15 || s.host.flrs.any (fun f => f.1 == func) then s else
  match s.vecEntry func vec with
  | none => s
  | some e =>
    match dword with
    | 0 => (s.st .vec e ⟨0, 32⟩ v.toNat).heal .vec e
    | 1 => (s.st .vec e ⟨32, 32⟩ v.toNat).heal .vec e
    | 2 => (s.st .vec e T_VEC.DATA v.toNat).heal .vec e
    | 3 => (s.st .vec e T_VEC.MASK v.toNat).heal .vec e
    | _ => s

def execMsixTableWrite (func vec dword : Nat) (be : BitVec 4) (value : Word) (s : State) : Host.Outcome State Fault Refusal :=
  done (s.vecWrite func vec dword be value)

/-- The MSI-X entries of a function return to their reset values; what was held there is PENDING again (R438). PRESUMED, unsafe: log entry 25. -/
def State.resetVecs (s : State) (f : Nat) : State :=
  let s := s.unholdFunc f
  s.each ((s.listed .vec).filter (fun e => s.entryFunc e.1 == some f)) (fun e s => s.rewrite .vec e.1 (Tbl.zero .vec))

/-! ### Resets by the host (R22, R62, R412, R534, R535) -/

/-- The configuration registers that a reset keeps: sticky and hardware-initialised ones; an FLR also keeps Max Payload Size and
RCB (PCI Express Base Specification). PRESUMED, unsafe: log entry 17. -/
def cfgSticky (flr : Bool) (k : Nat) : Bool :=
  k == cfgCode .aerUncSeverity || k == cfgCode .aerUncStatus || k == cfgCode .aerCorStatus || (40 ≤ k && k < 44) || k == cfgCode .pmeEnable
    || k == cfgCode .targetSpeed || k == cfgCode .subsysVendor || (flr && (k == cfgCode .maxPayload || k == cfgCode .rcb))

def State.clearCfg (s : State) (flr : Bool) (func : Nat → Bool) : State :=
  { s with host := { s.host with cfg := s.host.cfg.filter (fun e => !func (e.1 / 4096) || cfgSticky flr (e.1 % 4096)) } }

/-- The halls of a function are released and its MSI-X table is reset. PRESUMED, unsafe: log entry 25. -/
def State.funcReset (s : State) (f : Nat) : State :=
  (s.each (s.hallsOf f) (fun h s => s.hallReset h true false)).resetVecs f

/-- The VFs vanish (R62). -/
def State.vfsOff (s : State) : State :=
  let n := s.vfsPresent
  let s := s.each ((List.range n).map (· + 1)) (fun f s => s.funcReset f)
  let s := (s.clearCfg false (fun f => f != 0)).setCfg 0 .vfEnable 0
  { s with host := { s.host with vfsAt := none, flrs := s.host.flrs.filter (fun e => e.1 == 0) } }

/-- VF_ENABLE (R61, R62): the VFs become visible within 1 ms. DESIGN CHOICE, unsafe: log entry 24. -/
def State.vfsOn (s : State) : State :=
  if !s.sriov || s.cfgRaw 0 .vfEnable == 1 then s
  else { s.setCfg 0 .vfEnable 1 with host := { (s.setCfg 0 .vfEnable 1).host with vfsAt := some (s.clock + ms 1) } }

def execVfEnable (s : State) : Host.Outcome State Fault Refusal := done s.vfsOn

/-- VF_DISABLE, deferred during an apply (R475). -/
def State.vfDisable (s : State) : State :=
  if s.cfgRaw 0 .vfEnable != 1 then s else if s.defers then s.defer .vfDisable else s.vfsOff.settle

def execVfDisable (s : State) : Host.Outcome State Fault Refusal := done s.vfDisable

/-- FLR (R22, R412): the function takes no request until FLR_DONE; an FLR of PF0 also ends its VFs. PRESUMED, unsafe: log entry 25. -/
def State.flr (s : State) (f : Nat) : State :=
  if !s.funcExists f then s
  else if s.defers then s.defer (.flr f)
  else
    let s := s.event pgHST 8
    let s := if f == 0 && s.cfgRaw 0 .vfEnable == 1 then s.vfsOff else s
    let s := (s.funcReset f).clearCfg true (fun g => g == f)
    { s with host := { s.host with flrs := s.host.flrs.filter (fun (e : Nat × Nat) => e.1 != f) ++ [(f, s.clock)] } }.settle

def execFlr (func : Nat) (s : State) : Host.Outcome State Fault Refusal := done (s.flr func)

/-- FLR_DONE: the function serves again. -/
def execFlrDone (func : Nat) (s : State) : Host.Outcome State Fault Refusal :=
  done { s with host := { s.host with flrs := s.host.flrs.filter (fun e => e.1 != func) } }.settle

/-- An open transaction is discarded: nothing is staged any more (R474, R475). -/
def State.mezDiscard (s : State) : State :=
  let pages := (s.mez.staged.map Staged.page).eraseDups
  let s := s.each pages (fun p s => s.sf p HDR.PAGE_STS_STAGED 0)
  { s with mez := { s.mez with staged := [] } }.sf pgMEZ MEZ.MEZ_STS_STATE 0 |>.sf pgMEZ MEZ.MEZ_STS_OVERFLOW 0
    |>.sf pgMEZ MEZ.MEZ_STS_CONFLICT 0 |>.sf pgMEZ MEZ.MEZ_STS_COUNT 0

/-- The command ring is disabled; a ring command in progress is dropped. -/
def State.mgqRingOff (s : State) : State :=
  let s := s.sf pgMGQ MGQ.RING_CTL_EN 0 |>.sf pgMGQ MGQ.RING_STS_STATE mqDISABLED
  match s.mgq.cur with
  | some run =>
    if run.mctp then s else
      { s with mgq := { s.mgq with cur := none } }.sf pgMGQ MGQ.EXEC_STS_BUSY 0 |>.sf pgMGQ MGQ.EXEC_STS_OP 0
  | none => s

/-- The host link is down. DEDUCED, unsafe: log entry 26. -/
def State.linkGone (s : State) : State :=
  let was := s.gb pgHST HST.LINK_STS_DL_UP
  let s := { s.setReg (raddr pgHST 0x40) 0 with host := { s.host with lanes := [] } }
  if was then s.event pgHST 1 else s

/-- The host reset (R535): what the host sees is reset, IDE keys and the SPDM session of the PCIe path are erased, every hall is
released, the command ring is disabled and an open transaction is discarded. DEDUCED, unsafe: log entry 26. -/
def State.hostResetNow (s : State) : State :=
  let s := s.linkGone
  let s := s.each (s.host.ide.map (·.1)) (fun n s => s.eraseKeys n)
  let mine := fun (e : Nat × Acc) => e.2.fromHost
  let s := s.each ((s.brg.accs.filter mine).map (·.1)) (fun i s => s.endAcc i)
  let fromHost := fun (e : Nat × Req) => match e.2.who with | .host _ => true | _ => false
  let s := { s with
    host := { s.host with
      ide := []
      stalled := []
      spdmPci := .reset
      doeObj := []
      doeErr := false
      nonces := []
      tdisp := []
      invalQ := []
      cache := []
      prgs := []
      invals := []
      ptmBusy := false }
    brg := { s.brg with held := s.brg.held.filter (fun e => !fromHost e) } }
  let s := s.each s.hallsUsed (fun h s => s.st .hcx h T_HCX.TDISP 0)
  let s := s.each (List.range (s.vfsPresent + 1)) (fun f s => s.unholdFunc f)
  let s := (s.clearTbl .vec).each s.hallsUsed (fun h s => s.hallReset h true false)
  let s := s.clearCfg false (fun _ => true)
  let s := { s with host := { s.host with vfsAt := none, flrs := [] } }
  (s.mgqRingOff.mezDiscard).npUpdate.atsShow.settle

/-- A host reset, deferred during an apply (R475). -/
def State.hostReset (s : State) (c : HostResetCause) : State :=
  if s.defers then s.defer (.hostReset c) else s.hostResetNow

def execHostReset (cause : HostResetCause) (s : State) : Host.Outcome State Fault Refusal := done (s.hostReset cause)

/-- HOST_LINK_DOWN: DL_Down is a host reset. -/
def execHostLinkDown (s : State) : Host.Outcome State Fault Refusal :=
  done (if s.gb pgHST HST.LINK_STS_DL_UP then s.hostReset .dlDown else s)

end Sys2Proof.Machine
end

