-- ==== Sys2Proof/Machine/Spdm.lean ====
section
/-!
DEFINITION. The security functions of the host port: the DOE mailbox and the SPDM responder (R76, R77), IDE key management (R78, R79,
R553) and the TDISP responder (R81, R416 to R419). The message layouts are those of the published standards the spec names.
-/

namespace Sys2Proof.Machine

/-! ### Bytes -/

/-- A number as one byte; a list of them. -/
def byte (n : Nat) : Byte := BitVec.ofNat 8 n
def bytes (l : List Nat) : List Byte := l.map byte

/-- The low bits of a free value as bytes. -/
def State.freeBytes (s : State) (n : Nat) : List Byte := bytesOf n (s.nextFree (8 * n))

/-! ### What the Vault holds for SPDM -/

/-- The regions of the Vault (R545). -/
def vaultSlot (b : Bool) : Nat := if b then 0x20000 else 0
def vaultBoot : Nat := 0x40000
def vaultOwner : Nat := 0x41000
def vaultIdent : Nat := 0x42000
def vaultUser : Nat := 0x100000
def vaultHist : Nat := 0x200000

/-- Bytes of the Vault. -/
def State.vaultBytes (s : State) (a n : Nat) : List Byte := Memory.readN s.vlt.mem a n

/-- The digest a stored image carries in its trailer (R546, R547), all zero for a slot that is EMPTY. -/
def State.slotDigest (s : State) (b : Bool) : List Byte :=
  let base := vaultSlot b
  if bits (ofBytes (s.vaultBytes (vaultBoot + 8 * b2n b) 1)) 0 2 == 0 then List.replicate 48 0 else
  let len := ofBytes (s.vaultBytes (base + 8) 4) % 2 ^ 18
  let tail := if bitAt (ofBytes (s.vaultBytes (base + 6) 1)) 0 then 240 else 48
  s.vaultBytes (base + (len - tail)) 48

/-- Big-endian bytes of a number. -/
def beBytes (n x : Nat) : List Byte := (bytesOf n x).reverse

/-! ### The SPDM responder (R77) -/

def State.spdm (s : State) (p : Path) : Spdm := match p with | .host => s.host.spdmPci | .smb => s.host.spdmMctp
def State.setSpdm (s : State) (p : Path) (x : Spdm) : State :=
  match p with
  | .host => { s with host := { s.host with spdmPci := x } }
  | .smb => { s with host := { s.host with spdmMctp := x } }

/-- A response: its code, its two parameters and what follows them. -/
structure SpdmRsp where
  code : Nat
  p1   : Nat
  p2   : Nat
  body : List Byte

def spdmErr (code data : Nat) : SpdmRsp := ⟨0x7F, code, data, []⟩
def spdmUnexpected : SpdmRsp := spdmErr 0x04 0

/-- A measurement block in the DMTF form: index, type and value. -/
def measBlock (index typ : Nat) (v : List Byte) : List Byte :=
  bytes [index, 1] ++ bytesOf 2 (v.length + 3) ++ bytes [typ] ++ bytesOf 2 v.length ++ v

/-- The four measurements. The other slot is slot B when the device booted from slot A, and slot A otherwise. PRESUMED, unsafe: log entry 36. -/
def State.measure (s : State) (i : Nat) : List Byte :=
  match i with
  | 1 => measBlock 1 0x81 (bytesOf 4 (s.reg (raddr pgDEV 0x40)).toNat ++ bytesOf 8 Config.serial.toNat)
  | 2 => measBlock 2 0x01 (beBytes 48 s.vlt.digest)
  | 3 => measBlock 3 0x01 (s.slotDigest (s.gf pgDEV DEV.BOOT_STS_SOURCE == 1))
  | _ => measBlock 4 0x83 (bytesOf 4 (s.reg (raddr pgDEV 0x50)).toNat ++ bytes [s.gf pgVLT VLT.VLT_STS_DEBUG, s.gf pgDEV DEV.BOOT_STS_SOURCE])

/-- The signature of the identity key over what the standard defines. -/
def State.spdmSign (s : State) : List Byte :=
  beBytes 96 (Config.ecdsaSign (ofBytes (s.vaultBytes (vaultIdent + 128) 48)) (s.nextFree 384) (Config.freeValue (s.free + 1))).toNat

/-- Algorithms: SHA-384, ECDSA P-384, secp384r1, AES-256-GCM, the SPDM key schedule. -/
def spdmAlgs : List Byte :=
  bytesOf 2 52 ++ bytes [1, 0] ++ bytesOf 4 4 ++ bytesOf 4 0x80 ++ bytesOf 4 2 ++ bytesOf 12 0 ++ bytesOf 4 0
    ++ bytes [2, 0x20, 0x10, 0] ++ bytes [3, 0x20, 2, 0] ++ bytes [4, 0x20, 0, 0] ++ bytes [5, 0x20, 1, 0]

/-- The capability flags of R77. -/
def spdmCaps : Nat := 0x62F6

/-- A request that an established connection answers (R77), with the state of the connection after it. PRESUMED, unsafe: log entry 36. -/
def State.spdmConnected (s : State) (x : Spdm) (code p1 p2 : Nat) (body : List Byte) : SpdmRsp × Spdm :=
  let ready := s.gb pgVLT VLT.VLT_STS_IDENT_READY
  let chain := s.vlt.chain
  match code with
  | 0x81 => if chain.isEmpty then (spdmErr 0x05 0, x) else (⟨0x01, 0, 1, beBytes 48 (Config.sha384 chain).toNat⟩, x)
  | 0x82 =>
    if p1 % 16 != 0 || chain.isEmpty then (spdmErr 0x01 0, x) else
    let off := ofBytes (body.take 2)
    let piece := (chain.drop off).take (ofBytes ((body.drop 2).take 2))
    if chain.length < off then (spdmErr 0x01 0, x)
    else (⟨0x02, 0, 0, bytesOf 2 piece.length ++ bytesOf 2 (chain.length - off - piece.length) ++ piece⟩, x)
  | 0x83 =>
    if p1 % 16 != 0 then (spdmErr 0x01 0, x) else if !ready then (spdmErr 0x05 0, x)
    else (⟨0x03, 0, 1, beBytes 48 (Config.sha384 chain).toNat ++ s.freeBytes 32
      ++ (if p2 == 0 then [] else beBytes 48 (Config.sha384 ((List.range 4).flatMap (fun i => s.measure (i + 1)))).toNat) ++ bytesOf 2 0 ++ s.spdmSign⟩, x)
  | 0xE0 =>
    let sign := bitAt p1 0
    if sign && !ready then (spdmErr 0x05 0, x)
    else if sign && (body.getD 32 0).toNat % 16 != 0 then (spdmErr 0x01 0, x)
    else if 4 < p2 && p2 != 0xFF then (spdmErr 0x01 0, x)
    else
      let rec_ := if p2 == 0 then [] else if p2 == 0xFF then (List.range 4).flatMap (fun i => s.measure (i + 1)) else s.measure p2
      let n := if p2 == 0 then 0 else if p2 == 0xFF then 4 else 1
      (⟨0x60, if p2 == 0 then 4 else 0, 0, bytes [n] ++ bytesOf 3 rec_.length ++ rec_ ++ s.freeBytes 32 ++ bytesOf 2 0
        ++ (if sign then s.spdmSign else [])⟩, x)
  | 0xE4 =>
    if x.session then (spdmErr 0x0A 0, x) else if p2 % 16 != 0 then (spdmErr 0x01 0, x) else if !ready then (spdmErr 0x05 0, x)
    else
      let beat := Config.freeValue s.free % 256
      (⟨0x64, beat, 0, s.freeBytes 130 ++ (if p1 == 0 then [] else beBytes 48 (Config.sha384 ((List.range 4).flatMap (fun i => s.measure (i + 1)))).toNat)
        ++ bytesOf 2 0 ++ s.spdmSign ++ s.freeBytes 48⟩, { x with session := true, finished := false, heartbeat := beat, shake := s.free })
  | 0xE5 =>
    if !x.session || x.finished then (spdmUnexpected, x)
    else if body.take 48 == beBytes 48 (Config.finishData x.shake).toNat then (⟨0x65, 0, 0, []⟩, { x with finished := true })
    else (spdmErr 0x06 0, { x with session := false, heartbeat := 0 })
  | 0xE8 => if x.session && x.finished then (⟨0x68, 0, 0, []⟩, x) else (spdmUnexpected, x)
  | 0xE9 => if x.session && x.finished then (⟨0x69, p1, p2, []⟩, x) else (spdmUnexpected, x)
  | 0xEC =>
    if x.session && x.finished then (⟨0x6C, 0, 0, []⟩, { x with session := false, finished := false, heartbeat := 0 })
    else (spdmUnexpected, x)
  | _ => (spdmErr 0x07 code, x)

/-- The requests that only a session's secured messages carry: FINISH, HEARTBEAT, KEY_UPDATE and END_SESSION (R77:
HANDSHAKE_IN_THE_CLEAR is not supported). -/
def spdmInSession (code : Nat) : Bool := code == 0xE5 || code == 0xE8 || code == 0xE9 || code == 0xEC

/-- A request in order: version, capabilities, algorithms, then the rest; `secured` where it came under the keys of the session. PRESUMED,
unsafe: log entry 36. -/
def State.spdmAct (s : State) (x : Spdm) (secured : Bool) (ver code p1 p2 : Nat) (body : List Byte) : SpdmRsp × Spdm :=
  if code == 0x84 then
    (⟨0x04, 0, 0, bytes [0, 2] ++ bytesOf 2 0x1100 ++ bytesOf 2 0x1200⟩, { Spdm.reset with stage := 1, lastMsg := s.clock })
  else if x.stage == 0 then (spdmUnexpected, x)
  else if ver != 0x11 && ver != 0x12 then (spdmErr 0x41 0, x)
  else if 1 < x.stage && ver != x.version then (spdmErr 0x41 0, x)
  else match x.stage, code with
    | 1, 0xE1 =>
      (⟨0x61, 0, 0, bytes [0] ++ s.freeBytes 1 ++ bytesOf 2 0 ++ bytesOf 4 spdmCaps ++ (if ver == 0x12 then s.freeBytes 8 else [])⟩,
        { x with stage := 2, version := ver })
    | 2, 0xE3 => (⟨0x63, 4, 0, spdmAlgs⟩, { x with stage := 3 })
    | 3, c => if c == 0xE1 || c == 0xE3 || (spdmInSession c && !secured) then (spdmUnexpected, x) else s.spdmConnected x c p1 p2 body
    | _, _ => (spdmUnexpected, x)

/-- A request is answered on a path: the response as bytes. PRESUMED, unsafe: log entry 36. -/
def State.spdmAnswer (s : State) (p : Path) (secured : Bool) (ver code p1 p2 : Nat) (body : List Byte) : State × List Byte :=
  let r := s.spdmAct (s.spdm p) secured ver code p1 p2 body
  let v := if code == 0x84 then 0x10 else if ver == 0x11 then 0x11 else 0x12
  ((s.setSpdm p { r.2 with lastMsg := s.clock }).drawn.drawn, bytes [v, r.1.code, r.1.p1, r.1.p2] ++ r.1.body)

/-- Whether the SPDM responder is reachable on a path: DOE is shown, or MCTP is enabled. PRESUMED, unsafe: log entry 36. -/
def State.spdmOn (s : State) (p : Path) : Bool :=
  match p with
  | .host => s.gb pgDEV DEV.FEAT_EN_DOE_SPDM
  | .smb => s.gb pgDEV DEV.SMB_CTL_MCTP_EN

def execSpdmRequest (path : Path) (ver code : Byte) (param1 param2 : Byte) (body : List Byte) (s : State) :
    Host.Outcome State Fault Refusal :=
  done (if s.spdmOn path then
      (match s.spdmAnswer path (s.spdm path).session ver.toNat code.toNat param1.toNat param2.toNat body with
        | (s, r) => s.emit (.spdm path r))
    else s)

/-- A session ends without a message. -/
def State.spdmClose (s : State) (p : Path) : State :=
  s.setSpdm p { s.spdm p with session := false, finished := false, heartbeat := 0 }

/-- SPDM_HEARTBEAT_TIMEOUT: a session with HBEAT in use and no message for two heartbeat periods is terminated. -/
def execSpdmHeartbeatTimeout (path : Path) (s : State) : Host.Outcome State Fault Refusal :=
  done (if (s.spdm path).session && (s.spdm path).heartbeat != 0
      && s.due ((s.spdm path).lastMsg + 2 * ms (1000 * (s.spdm path).heartbeat)) then s.spdmClose path else s)

/-! ### The DOE mailbox (R76) -/

/-- Bytes as dwords. -/
def dwordsOf (l : List Byte) : List Word := (List.range (ceilDiv l.length 4)).map (fun i => BitVec.ofNat 32 (ofBytes ((l.drop (4 * i)).take 4)))

/-- DOE Discovery: the protocol of an index and the next index. -/
def doeDiscovery (i : Nat) : Word :=
  match i with
  | 0 => BitVec.ofNat 32 (1 + 1 * 2 ^ 24)
  | 1 => BitVec.ofNat 32 (1 + 1 * 2 ^ 16 + 2 * 2 ^ 24)
  | 2 => BitVec.ofNat 32 (1 + 2 * 2 ^ 16)
  | _ => 0xFFFF

/-- An object becomes ready in the read mailbox. -/
def State.doeReady (s : State) (protocol : Nat) (o : List Word) : State :=
  { s with host := { s.host with doeObj := o } }.emit (.doe protocol o)

/-- DOE_REQUEST: an object after its two header dwords. A secured message is its SPDM request once decrypted. PRESUMED, unsafe: log entry 36. -/
def State.doeIn (s : State) (protocol : Nat) (object : List Word) : State :=
  if !s.gb pgDEV DEV.FEAT_EN_DOE_SPDM || s.host.doeErr then s
  else if 4096 < object.length + 2 then { s with host := { s.host with doeErr := true } }
  else if protocol == 0 then s.doeReady 0 [doeDiscovery (fld (object.headD 0) 0 8)]
  else if protocol == 1 || (protocol == 2 && s.host.spdmPci.session) then
    let l := object.flatMap (fun w => bytesOf 4 w.toNat)
    match s.spdmAnswer .host (protocol == 2) (l.headD 0).toNat ((l.getD 1 0).toNat) ((l.getD 2 0).toNat) ((l.getD 3 0).toNat) (l.drop 4) with
    | (s, r) => s.doeReady protocol (dwordsOf r)
  else s

def execDoeRequest (protocol : Nat) (object : List Word) (s : State) : Host.Outcome State Fault Refusal := done (s.doeIn protocol object)

/-- DOE_ABORT. -/
def execDoeAbort (s : State) : Host.Outcome State Fault Refusal :=
  done { s with host := { s.host with doeObj := [], doeErr := false } }

/-! ### IDE key management (R78, R79, R553) -/

/-- Whether a secured session carries IDE_KM and TDISP messages. -/
def State.secured (s : State) : Bool := s.host.spdmPci.session && s.host.spdmPci.finished

/-- Whether a stream is one of those supported: a link stream, and up to four selective ones. PRESUMED, unsafe: log entry 35. -/
def State.ideRoom (s : State) (n : Nat) : Bool :=
  let same := fun (e : Nat × Ide) => (256 ≤ e.1) == (256 ≤ n) && e.1 != n && (e.2.state != .none || !e.2.keys.isEmpty)
  (s.host.ide.filter same).length < (if 256 ≤ n then 1 else 4)

/-- The status of a KEY_PROG: 0 done, 1 wrong length, 3 unsupported value, 4 could not be programmed. PRESUMED, unsafe: log entry 37. -/
def State.keyProgStatus (s : State) (n keyset sub len : Nat) : Nat :=
  let i := s.ideOf n
  if len != 40 then 1
  else if 1 < keyset || 2 < sub || !s.ideRoom n then 3
  else if i.state == .secure then 4
  else match s.vlt.keyTimes.find? (fun e => e.1 == n * 16 + keyset * 8 + sub) with
    | some e => if s.clock < e.2 + ms 2000 then 4 else 0
    | none => 0

/-- An IDE_KM response: protocol, message, stream, and the rest. PRESUMED, unsafe: log entry 37. -/
def ideMsg (kind n : Nat) (rest : List Nat) : List Byte := bytes ([0, kind, 0, 0, n % 256] ++ rest)

/-- IDE_KEY_PROG. PRESUMED, unsafe: log entry 35. -/
def State.keyProg (s : State) (n keyset sub : Nat) (key : List Byte) : State :=
  if !s.gb pgDEV DEV.FEAT_EN_IDE || !s.secured then s else
  let st := s.keyProgStatus n keyset sub key.length
  let k := keyset * 8 + sub
  let s := if st != 0 then s else
    let i := s.ideOf n
    let s := s.setIde n { i with keys := (i.keys.filter (fun e => e.1 != k)) ++ [(k, key)] }
    { s with vlt := { s.vlt with
        keyTimes := (s.vlt.keyTimes.filter (fun (e : Nat × Nat) => e.1 != n * 16 + k)) ++ [(n * 16 + k, s.clock)] } }.cnt pgVLT VLT.CNT_WORDS_WRITTEN 5
  s.emit (.ideKm (ideMsg 3 n [st, keyset + sub * 16, 0]))

def execIdeKeyProg (stream keyset subStream : Nat) (key : List Byte) (s : State) : Host.Outcome State Fault Refusal :=
  done (s.keyProg stream keyset subStream key)

/-- IDE_KM_MESSAGE: QUERY (0) is answered; K_SET_GO (4) makes a stream Secure once a key set has the keys of all three
sub-streams; K_SET_STOP (5) makes it Insecure. PRESUMED, unsafe: log entries 35, 37. -/
def State.ideKm (s : State) (n kind keyset sub : Nat) : State :=
  if !s.gb pgDEV DEV.FEAT_EN_IDE || !s.secured then s else
  match kind with
  | 0 => s.emit (.ideKm (ideMsg 1 n [0]))
  | 4 =>
    let i := s.ideOf n
    let full := (List.range 3).all (fun u => i.keys.any (fun e => e.1 == keyset * 8 + u))
    (if full then s.setIde n { i with state := .secure, keySet := keyset } else s).emit (.ideKm (ideMsg 6 n [0, keyset + sub * 16, 0]))
  | 5 => (s.ideInsecure n).emit (.ideKm (ideMsg 6 n [0, keyset + sub * 16, 0]))
  | _ => s

def execIdeKmMessage (stream : Nat) (kind : Byte) (keyset subStream : Nat) (s : State) : Host.Outcome State Fault Refusal :=
  done (s.ideKm stream kind.toNat keyset subStream)

/-! ### TDISP (R81, R416 to R419) -/

/-- A TDISP message of version 1.0 about an interface. -/
def State.tdispSend (s : State) (vf code : Nat) (rest : List Byte) : State :=
  s.emit (.tdisp vf (bytes [0x10, code, 0, 0] ++ bytesOf 4 vf ++ bytesOf 8 0 ++ rest))
def State.tdispErr (s : State) (vf code : Nat) : State := s.tdispSend vf 0x7F (bytesOf 4 code ++ bytesOf 4 0)

/-- Whether a message about a VF's interface is taken at all, and whether there is such an interface. -/
def State.tdispOn (s : State) : Bool := s.gb pgDEV DEV.FEAT_EN_TDISP && s.secured
def State.tdispHas (s : State) (vf : Nat) : Bool := vf != 0 && s.funcExists vf

/-- TDISP_LOCK_INTERFACE (R418): the nonce is a free value. PRESUMED, unsafe: log entry 38. -/
def State.tdispLock (s : State) (vf : Nat) : State :=
  if !s.tdispOn then s
  else if !s.tdispHas vf then s.tdispErr vf 0x101
  else if s.tdispOf vf != 0 then s.tdispErr vf 0x04
  else
    let n := s.nextFree 256
    let s := (s.drawn).setTdisp vf 1
    { s with host := { s.host with nonces := (s.host.nonces.filter (fun (e : Nat × Nat) => e.1 != vf)) ++ [(vf, n)] } }.tdispSend vf 0x03 (bytesOf 32 n)
def execTdispLockInterface (vf : Nat) (s : State) : Host.Outcome State Fault Refusal := done (s.tdispLock vf).settle

/-- TDISP_START_INTERFACE: the nonce of the lock moves the interface to RUN, once. PRESUMED, unsafe: log entry 38. -/
def State.tdispStart (s : State) (vf nonce : Nat) : State :=
  if !s.tdispOn then s
  else if !s.tdispHas vf then s.tdispErr vf 0x101
  else if s.tdispOf vf != 1 then s.tdispErr vf 0x04
  else if !s.host.nonces.contains (vf, nonce) then s.tdispErr vf 0x102
  else
    let s := s.setTdisp vf 2
    { s with host := { s.host with nonces := s.host.nonces.filter (fun e => e.1 != vf) } }.tdispSend vf 0x06 []
def execTdispStartInterface (vf nonce : Nat) (s : State) : Host.Outcome State Fault Refusal := done (s.tdispStart vf nonce).settle

/-- TDISP_STOP_INTERFACE (R419): from RUN or ERROR the halls of the VF are reset. PRESUMED, unsafe: log entry 38. -/
def State.tdispStop (s : State) (vf : Nat) : State :=
  if !s.tdispOn then s
  else if !s.tdispHas vf then s.tdispErr vf 0x101
  else
    let was := s.tdispOf vf
    let s := s.setTdisp vf 0
    let s := { s with host := { s.host with nonces := s.host.nonces.filter (fun e => e.1 != vf) } }
    let s := if was == 2 || was == 3 then s.each (s.hallsOf vf) (fun h s => s.hallReset h false false) else s
    s.tdispSend vf 0x07 []
def execTdispStopInterface (vf : Nat) (s : State) : Host.Outcome State Fault Refusal := done (s.tdispStop vf).settle

/-- The interface report (R81): the VF's BAR ranges, with its MSI-X table as non-TEE memory. -/
def State.tdispReport (s : State) (vf : Nat) : List Byte :=
  let bars := (List.range 3).filterMap (fun i => (s.barBase vf (2 * i)).map (fun b => (2 * i, b)))
  let range := fun (x : Nat × Nat × Nat) =>
    bytesOf 8 (x.2.1 / 4096) ++ bytesOf 4 (2 ^ (x.2.2 - 12)) ++ bytesOf 4 ((if x.1 == 4 then 7 else 0) + x.1 * 2 ^ 16)
  bytesOf 2 0 ++ bytesOf 2 0 ++ bytesOf 2 (s.gf pgHST HST.MSIX_CFG_VF_VECTORS - 1) ++ bytesOf 2 0 ++ bytesOf 4 0
    ++ bytesOf 4 bars.length ++ bars.flatMap range ++ bytesOf 4 0

/-- TDISP_MESSAGE: the other requests of TDISP 1.0. PRESUMED, unsafe: log entry 38. -/
def State.tdispMsg (s : State) (vf code : Nat) (body : List Byte) : State :=
  if !s.tdispOn then s
  else if code == 0x81 then s.tdispSend vf 0x01 (bytes [1, 0x10])
  else if code == 0x82 then s.tdispSend vf 0x02 (bytesOf 4 0 ++ bytesOf 16 0xFFE ++ bytesOf 2 0 ++ bytesOf 3 0 ++ bytes [64, 1, 1])
  else if !s.tdispHas vf then s.tdispErr vf 0x101
  else match code with
    | 0x83 => s.tdispLock vf
    | 0x84 =>
      if s.tdispOf vf != 1 && s.tdispOf vf != 2 then s.tdispErr vf 0x04 else
      let r := s.tdispReport vf
      let off := ofBytes (body.take 2)
      let piece := (r.drop off).take (ofBytes ((body.drop 2).take 2))
      if r.length ≤ off then s.tdispErr vf 0x01
      else s.tdispSend vf 0x04 (bytesOf 2 piece.length ++ bytesOf 2 (r.length - off - piece.length) ++ piece)
    | 0x85 => s.tdispSend vf 0x05 (bytes [s.tdispOf vf])
    | 0x86 => s.tdispStart vf (ofBytes (body.take 32))
    | 0x87 => s.tdispStop vf
    | 0x88 => if s.tdispOf vf == 2 then s.tdispSend vf 0x08 [] else s.tdispErr vf 0x04
    | 0x89 => if s.tdispOf vf == 2 then s.tdispSend vf 0x09 [] else s.tdispErr vf 0x04
    | 0x8A => if s.tdispOf vf == 2 then s.tdispSend vf 0x0A [] else s.tdispErr vf 0x04
    | 0x8B => s.tdispSend vf 0x0B []
    | _ => s.tdispErr vf 0x07
def execTdispMessage (vf : Nat) (code : Byte) (body : List Byte) (s : State) : Host.Outcome State Fault Refusal :=
  done (s.tdispMsg vf code.toNat body).settle

end Sys2Proof.Machine
end

