-- ==== Sys2Proof/Machine/Erg.lean ====
section
/-!
DEFINITION. The Erg memory controller (R483 to R500): layout, enable and initialisation, window accesses, scrub, sparing and
channel failure.
-/

namespace Sys2Proof.Machine

/-! ### Layout (R483 to R488) -/

def erOFF : Nat := 0
def erINIT : Nat := 1
def erFILL : Nat := 2
def erACTIVE : Nat := 3
def erSPARING : Nat := 4
def erREFRESH : Nat := 5
def erFAILED : Nat := 6
def State.ergSt (s : State) (c : Nat) : Nat := s.gf (pgERGC c) ERGC.CH_STS_STATE
def State.setErgSt (s : State) (c st : Nat) : State := s.sf (pgERGC c) ERGC.CH_STS_STATE st

/-- The two-rank option, and whether rank 1 is held in reserve (R494). -/
def State.ergRanks (s : State) : Nat := 1 + s.gf pgERG ERG.ERG_CFG_RANKS
def State.ergSpares (s : State) : Bool := s.gb pgERG ERG.ERG_CFG_SPARE_EN && s.ergRanks == 2

/-- One rank, and USABLE, in units of 64 MiB. -/
def State.ergRank (s : State) : Nat := if s.gb pgERG ERG.ERG_CFG_DENSITY then 512 else 256
def State.ergUsable (s : State) : Nat := if s.ergSpares then s.ergRank else s.ergRanks * s.ergRank

/-- HIST_SIZE and SPILL_SIZE as they act. -/
def State.histSize (s : State) (c : Nat) : Nat := min 16 (s.gf (pgERGC c) ERGC.CH_CTL_HIST_SIZE)
def State.spillSize (s : State) (c : Nat) : Nat := min 128 (s.gf (pgERGC c) ERGC.CH_CTL_SPILL_SIZE)

/-- Whether a channel serves: ACTIVE or SPARING. -/
def State.ergServes (s : State) (c : Nat) : Bool := s.ergSt c == erACTIVE || s.ergSt c == erSPARING

/-- ERG_STS shows the channels; it reads 0 while the global page is not ACTIVE (R496). -/
def State.ergShow (s : State) : State :=
  let mask := fun (f : Nat → Bool) => ((List.range 4).map (fun c => if f c then 2 ^ c else 0)).foldl (· + ·) 0
  let on_ := s.active pgERG
  s.sf pgERG ERG.ERG_STS_CH_ACTIVE (if on_ then mask s.ergServes else 0)
    |>.sf pgERG ERG.ERG_STS_CH_FAILED (if on_ then mask (fun c => s.ergSt c == erFAILED) else 0)

/-- SPILL_CELLS is the sum of the spill regions of the channels that joined (R488). -/
def State.spillCells (s : State) : State :=
  (s.sf pgSWC SWC.SPILL_STS_SPILL_CELLS ((s.gal.joined.map (fun c => s.spillSize c * 262144)).foldl (· + ·) 0)).galUpdate

/-- SPILL_EN changes from 0 to 1: the channels that serve join. -/
def State.spillJoin (s : State) : State :=
  { s with gal := { s.gal with joined := (List.range 4).filter s.ergServes } }.spillCells

/-! ### Enable, initialisation, and the end of service (R489 to R491) -/

/-- The registers of a channel that read 0 while it is off. -/
def State.ergClear (s : State) (c : Nat) : State :=
  (s.setReg (raddr (pgERGC c) 0x44) 0).setReg (raddr (pgERGC c) 0x48) 0 |>.setReg (raddr (pgERGC c) 0x4C) 0

/-- An admitted channel begins to initialise. -/
def State.ergInit (s : State) (c : Nat) : State :=
  let s := (s.ergClear c).setErgSt c erINIT |>.sf (pgERGC c) HDR.PAGE_CTL_EN 1 |>.sf (pgERGC c) HDR.PAGE_STS_EN_PENDING 1
    |>.sf (pgERGC c) ERGC.CH_STS_USABLE_GIB (s.ergUsable / 16)
    |>.sf (pgERGC c) ERGC.REGION_STS_USER_BASE (s.histSize c + s.spillSize c)
    |>.sf (pgERGC c) ERGC.REGION_STS_USER_SIZE (s.ergUsable - (s.histSize c + s.spillSize c))
  { s with erg := { s.erg with since := SMap.set (fun _ => 0) s.erg.since c s.clock } }.ergShow

/-- A write of 1 to EN of a channel page (R485, R489). DEDUCED, unsafe: log entry 106. -/
def State.ergEnable (s : State) (c : Nat) : State :=
  if !bitAt (s.gf pgERG ERG.ERG_CFG_CH_PRESENT) c || !s.active pgERG then s
  else if s.ergUsable < s.histSize c + s.spillSize c then
    (s.error pgERG 0 0x01 c s.ergUsable 0).event (pgERGC c) 6
  else match s.askCistern (pgERGC c) [(pgERGC c, 90, 0)] with
    | (s, true) => s.ergInit c
    | (s, false) => s.event (pgERGC c) 6

/-- ERG_PLL_LOCKED (R489): the global page becomes ACTIVE. -/
def State.ergPll (s : State) : State :=
  if s.gb pgERG HDR.PAGE_STS_EN_PENDING && s.gb pgERG HDR.PAGE_CTL_EN && !s.active pgERG then
    (s.sf pgERG HDR.PAGE_STS_EN_PENDING 0 |>.sf pgERG HDR.PAGE_STS_ACTIVE 1).ergShow
  else s
def execErgPllLocked (s : State) : Host.Outcome State Fault Refusal := done s.ergPll

/-- A channel becomes ACTIVE after an enable; the history channel with contents kept is scanned (R570). -/
def State.ergReady (s : State) (c : Nat) (kept : Bool) : State :=
  let s := (s.setErgSt c erACTIVE).sf (pgERGC c) HDR.PAGE_STS_EN_PENDING 0 |>.sf (pgERGC c) HDR.PAGE_STS_ACTIVE 1
    |>.sf (pgERGC c) ERGC.CH_STS_RETAINED (b2n kept)
  let s := { s with erg := { s.erg with retained := s.erg.retained.filter (· != c) } }
  let s := if kept && s.gf pgFLT FLT.FLT_CTL_ERG_CH == c then s.sf pgFLT FLT.FLT_STS_SCANNING 1 else s
  (s.ergShow).event (pgERGC c) 0

/-- The contents of a channel are gone. -/
def State.ergLose (s : State) (c : Nat) : State :=
  { s with erg := { s.erg with
      mem := Memory.clear s.erg.mem (c * 2 ^ 36) (2 ^ 36)
      retained := s.erg.retained.filter (· != c) } }

/-- ERG_TRAINING_DONE (R490): not before RESET_n and CKE have had their time. -/
def State.ergTrained (s : State) (c : Nat) (r : ErgTraining) : State :=
  let kept := s.erg.retained.contains c
  if s.ergSt c != erINIT || !s.due (SMap.get (fun _ => 0) s.erg.since c + us (if kept then 200 else 700)) then s else
  match r with
  | .ok =>
    if kept then s.ergReady c true
    else ((s.ergLose c).setErgSt c erFILL).ergShow
  | .failed step lane =>
    let s := ((s.ergLose c).setErgSt c erFAILED).sf (pgERGC c) HDR.PAGE_CTL_EN 0 |>.sf (pgERGC c) HDR.PAGE_STS_EN_PENDING 0
    ((s.giveBackAll (pgERGC c)).error (pgERGC c) 5 0x04 (step % 16) (lane % 256) 0).ergShow
def execErgTrainingDone (ch : Nat) (result : ErgTraining) (s : State) : Host.Outcome State Fault Refusal :=
  done (s.ergTrained (ch % 4) result)

/-- ERG_FILL_DONE (R490): every address holds zero. -/
def State.ergFilled (s : State) (c : Nat) : State := if s.ergSt c == erFILL then s.ergReady c false else s
def execErgFillDone (ch : Nat) (s : State) : Host.Outcome State Fault Refusal := done (s.ergFilled (ch % 4))

/-- The spilled frames of a channel are lost: they are discarded at their turn, and its read-backs leave the resequencer. -/
def State.spillLost (s : State) (c : Nat) : State :=
  let held := s.gal.frames.filter (fun e => e.2.spill == some c && e.2.back != 2)
  let s := s.each held (fun e s => (s.freeCells e.2.cells).putFrame e.1 { e.2 with bad := true, back := 0, cells := [] })
  { s with gal := { s.gal with joined := s.gal.joined.filter (· != c) } }.spillCells

/-- A channel ends its service: in self-refresh with RETAIN 1 when it was ACTIVE, off otherwise (R491). DEDUCED, unsafe: log entry 106. -/
def State.ergRest (s : State) (c : Nat) : State :=
  let keep := (s.gb pgERG ERG.ERG_CFG_RETAIN && s.ergSt c == erACTIVE) || s.ergSt c == erREFRESH
  let s := if keep then
      { s with erg := { s.erg with retained := s.erg.retained.filter (· != c) ++ [c] } }
    else (s.ergLose c).spillLost c
  ((s.ergClear c).setErgSt c (if keep then erREFRESH else erOFF)).sf (pgERGC c) HDR.PAGE_STS_ACTIVE 0
    |>.sf (pgERGC c) HDR.PAGE_STS_EN_PENDING 0 |>.ergShow

/-- Whether a channel holds no access and no spilled frame. -/
def State.ergIdle (s : State) (c : Nat) : Bool :=
  !(s.allParts.any (fun e => e.2.2.2.typ == 3 && e.2.2.2.st == .erg && ergChan e.2.2.2 == c))
    && !(s.gal.frames.any (fun e => e.2.spill == some c && e.2.back != 2))

/-! ### Window accesses (R486, R487) -/

/-- The region of an offset within a channel, as the uncorrectable capture codes it. -/
def State.ergRegion (s : State) (c off : Nat) : Nat :=
  let u := off / 2 ^ 26
  if u < s.histSize c then 0 else if u < s.histSize c + s.spillSize c then 1 else 2

/-- The rank an offset lies in. -/
def State.ergRankOf (s : State) (c off : Nat) : Nat :=
  if s.ergSpares then s.gf (pgERGC c) ERGC.CH_STS_SPARED else if off / 2 ^ 26 < s.ergRank then 0 else 1

/-- An uncorrectable codeword is captured. -/
def State.ergUncorr (s : State) (c off rank : Nat) (scrub : Bool) : State :=
  (s.cnt (pgERGC c) ERGC.CNT_UNCORRECTABLE).error (pgERGC c) 1 0x01 (off % 2 ^ 32)
    (off / 2 ^ 32 % 16 + rank % 2 * 16 + b2n scrub * 32) (s.ergRegion c off)

/-- The CODE of an access, before the data is looked at. -/
def State.ergCode (s : State) (a : Acc) (p : Part) : Nat :=
  let c := ergChan p
  let off := p.base % 2 ^ 36
  if !bitAt (s.gf pgERG ERG.ERG_CFG_CH_PRESENT) c then 0x01
  else if !s.ergServes c then 0x03
  else if s.ergUsable ≤ off / 2 ^ 26 || s.ergRegion c off == 1 then 0x01
  else if s.ergRegion c off == 0 && a.op != AccOp.read then 0x02
  else 0

/-- The bytes an atomic writes: the sum, the operand, or the operand when the compare matches. -/
def ergAtomic (op : AtomicOp) (old opnd cmp : List Byte) : List Byte :=
  match op with
  | .fadd => bytesOf old.length (ofBytes old + ofBytes opnd)
  | .swap => opnd
  | .cas => if old == cmp then opnd else old

/-- The effect of an access on the channel's bytes. -/
def State.ergDo (s : State) (a : Acc) (p : Part) : State :=
  let wr := fun (s : State) (at_ : Nat) (bs : List Byte) => { s with erg := { s.erg with mem := Memory.writeN s.erg.mem at_ bs } }
  match a.op with
  | .write => s.each p.cells.zipIdx (fun x s => match x.1 with | some b => wr s (p.base + x.2) [b] | none => s)
  | .atomic op =>
    let lane := p.cells.findIdx (·.isSome)
    let opnd := p.cells.filterMap id
    let cmp := ((bytesOf 8 p.cmpWord.toNat).drop lane).take opnd.length
    wr s p.first (ergAtomic op (Memory.readN s.erg.mem p.first opnd.length) opnd cmp)
  | _ => s

/-- The words that answer an access. -/
def State.ergWords (s : State) (a : Acc) (p : Part) : List Word64 :=
  match a.op with
  | .write => []
  | _ => wordsOf p.nw (Memory.readN s.erg.mem p.base (8 * p.nw))

/-- An access is answered with its CODE: the log takes the failure of a write, the requester that of a read (R98, R486). -/
def State.ergAnswer (s : State) (i k : Nat) (a : Acc) (p : Part) (code : Nat) (ws : List Word64) : State :=
  let stale := p.gen != s.hallGen p.hall
  match a.op with
  | .write =>
    if code == 0 then s.endPart i k
    else if p.posted then (s.pwLog 2 (p.entry a code)).endPart i k
    else if stale || a.ended then s.endPart i k
    else ((s.pwLog 1 (p.entry a code)).writeFailed a.who 0x0A).endPart i k
  | _ =>
    if stale then
      ((s.cnt pgHLM HLM.CNT_LATE_DISCARDS).errorNoEvent pgHLM 0x05 (p.hall + p.gen % 2 ^ 16 * 2 ^ 12) 0 0).endPart i k
    else if code != 0 then
      (if a.failed then s.lateResponse a p 0 s.stamp true [] else if p.len == 0 then s else s.failRead i 0x06).endPart i k
    else (s.setPart i k { p with stamp := s.stamp }).deliverPart i k (mkRsp 0 0 ws)

/-- The next part of an access at the Erg that nothing of its hall and class is in front of. -/
def State.ergNext (s : State) (i : Nat) : Option (Nat × Acc × Nat × Part) :=
  let all := s.allParts.filter (fun e => e.2.2.2.typ == 3 && (e.2.2.2.st == .erg || e.2.2.2.st == .waiting))
  match all.find? (fun e => e.1 == i) with
  | some e =>
    if e.2.2.2.st == .erg && !(all.takeWhile (fun f => !(f.1 == e.1 && f.2.2.1 == e.2.2.1))).any (fun f =>
        f.2.2.2.hall == e.2.2.2.hall && f.2.2.2.cls == e.2.2.2.cls)
    then some e else none
  | none => none

/-- ERG_ACCESS_DONE: the next part of an access is performed. Uncorrectable history data is answered as read; it has no stated
value. DESIGN CHOICE, unsafe: log entry 108. -/
def State.ergAccess (s : State) (i : Nat) (bad : Bool) : State :=
  match s.ergNext i with
  | none => s
  | some (_, a, k, p) =>
    let c := ergChan p
    let off := p.base % 2 ^ 36
    let code := s.ergCode a p
    let bad := bad && code == 0 && a.op != AccOp.write
    let s := if code == 0 then s.cnt (pgERGC c) ERGC.CNT_USER_ACCESSES else s
    let s := if bad then s.ergUncorr c off (s.ergRankOf c off) false else s
    if bad && s.ergRegion c off == 2 then s.ergAnswer i k a p 0x05 []
    else if bad then (s.drawn).ergAnswer i k a p 0 (wordsOf p.nw (s.freeBytes (8 * p.nw)))
    else if code != 0 then s.ergAnswer i k a p code []
    else
      let ws := s.ergWords a p
      (s.ergDo a p).ergAnswer i k a p 0 ws

def execErgAccessDone (acc : Nat) (uncorrectable : Bool) (s : State) : Host.Outcome State Fault Refusal :=
  done (s.ergAccess acc uncorrectable).settle

/-! ### Scrub, sparing, failure (R493 to R495) -/

/-- ERG_SCRUB_PASS: the codewords fixed, and the offsets and ranks of the uncorrectable ones. DESIGN CHOICE, unsafe: log entry 107. -/
def State.ergScrub (s : State) (c fixes : Nat) (uncorr : List (Nat × Nat)) : State :=
  if !s.gb pgERG ERG.SCRUB_CTL_EN || s.ergSt c != erACTIVE then s else
  let s := (s.cnt (pgERGC c) ERGC.CNT_SCRUB_FIXES fixes).cnt (pgERGC c) ERGC.CNT_SCRUB_PASSES
  s.each uncorr (fun u s => s.ergUncorr c (u.1 % 2 ^ 36) u.2 true)
def execErgScrubPass (ch fixes : Nat) (uncorr : List (Nat × Nat)) (s : State) : Host.Outcome State Fault Refusal :=
  done (s.ergScrub (ch % 4) fixes uncorr)

/-- ERG_SPARING_START: once in a channel's service, for more than CE_TH corrections of a device or an uncorrectable error.
DESIGN CHOICE, unsafe: log entry 107. -/
def State.ergSpare (s : State) (c device corrections : Nat) (uncorr : Bool) : State :=
  if s.ergSpares && s.ergSt c == erACTIVE && !s.gb (pgERGC c) ERGC.CH_STS_SPARED
      && (uncorr || max 1 (s.gf pgERG ERG.ERG_CFG_CE_TH) < corrections) then
    let s := (s.cnt (pgERGC c) ERGC.CNT_CORRECTED corrections).sf (pgERGC c) ERGC.LAST_CORR_DEVICE device
      |>.sf (pgERGC c) ERGC.LAST_CORR_RANK 0
    ((s.setErgSt c erSPARING).error (pgERGC c) 2 0x02 (device % 32 + b2n uncorr * 32) corrections 0).ergShow
  else s
def execErgSparingStart (ch device corrections : Nat) (uncorr : Bool) (s : State) : Host.Outcome State Fault Refusal :=
  done (s.ergSpare (ch % 4) device corrections uncorr)

/-- ERG_SPARING_DONE: rank 1 replaces rank 0. -/
def State.ergSpared (s : State) (c : Nat) : State :=
  if s.ergSt c == erSPARING then
    (((s.setErgSt c erACTIVE).sf (pgERGC c) ERGC.CH_STS_SPARED 1).event (pgERGC c) 3).ergShow
  else s
def execErgSparingDone (ch : Nat) (s : State) : Host.Outcome State Fault Refusal := done (s.ergSpared (ch % 4))

/-- How a cause of failure is captured. -/
def failCode : ErgFailCause → Nat
  | .uncorrectable => 0 | .caParity => 1 | .zq => 2 | .forced => 3

/-- ERG_CHANNEL_FAIL (R495): spilled frames of the channel are discarded at their turn, read-backs leave the resequencer, and
spill falls back to the other channels. DEDUCED, unsafe: log entry 106. -/
def State.ergFail (s : State) (c : Nat) (cause : ErgFailCause) : State :=
  if !s.ergServes c then s else
  let held := s.gal.frames.filter (fun e => e.2.spill == some c && e.2.back != 2)
  let s := (s.setErgSt c erFAILED).error (pgERGC c) 4 0x03 (failCode cause) held.length 0
  (s.spillLost c).ergShow
def execErgChannelFail (ch : Nat) (cause : ErgFailCause) (s : State) : Host.Outcome State Fault Refusal :=
  done (s.ergFail (ch % 4) cause).settle

end Sys2Proof.Machine
end

