-- ==== Sys2Proof/Machine/Oasis.lean ====
section
/-!
DEFINITION. The Oasis and the Cistern's own timers (R501 to R533): the AVSBus, the temperature, power requests, the stop
sequence with its rollback, the wake from STANDBY, and the reset of everything but what a whole-device reset keeps.
-/

namespace Sys2Proof.Machine

/-! ### QUIESCE (R29) -/

/-- QUIESCE of a page is set or cleared (R29): a link turns its VCs off and on with it, and a block that is released takes up what
waited. DEDUCED, unsafe: log entry 164. -/
def State.setQuiesce (s : State) (p : Nat) (v : Bool) : State :=
  let s := s.sf p HDR.PAGE_CTL_QUIESCE (b2n v)
  let s := match blkOf p with | some (.prt, n) => if s.lk n == lkDISABLED then s else s.flowUpdate n | _ => s
  if v then s else
    let s := s.sf p HDR.PAGE_STS_QUIESCED 0
    if p == pgBRG || p == pgHLM then s.acceptHeld else s

/-! ### AVSBus (R518 to R521) -/

/-- V_RUN and V_STBY in mV (R519). DEDUCED, unsafe: log entry 112. -/
def State.vrun (s : State) : Nat := min 850 (max 650 (Config.fusedVoltage + (if s.avs.cold then 20 else 0)))
def State.vstby (s : State) : Nat := max 650 (s.gf pgCIS CIS.AVS_STS_VRUN_MV - 80)

/-- Whether AVSBus frames are sent (R518, R520). -/
def State.avsOn (s : State) : Bool := s.gb pgCIS CIS.AVS_CTL_EN && !s.gb pgCIS CIS.AVS_STS_FAILED

/-- A Voltage write; its confirmation window starts. -/
def State.avsSend (s : State) (mv : Nat) : State :=
  if s.avsOn then
    let s := { s with avs := { s.avs with
      target := some mv
      deadline := s.clock + us (s.gf1 pgCIS CIS.AVS_CTL_SETTLE_US) } }
    (s.emit (.avsWrite mv)).cnt pgCIS CIS.CNT_AVS_WRITES
  else s

/-- A new voltage is asked for. -/
def State.avsWrite (s : State) (mv : Nat) : State :=
  { s with avs := { s.avs with failed := 0, last := false } }.avsSend mv

/-- A write is not confirmed (R520): a raise is tried three times, then 850 mV, then AVSBus is given up; a lowering ends.
DEDUCED, unsafe: log entry 111. -/
def State.avsUnconfirmed (s : State) (t back : Nat) : State :=
  if s.avs.last then
    let s := { s with avs := { s.avs with target := none }, sys := { s.sys with coreSlow := true } }
    (s.sf pgCIS CIS.AVS_STS_FAILED 1).error pgCIS 3 0x02 t back 0
  else if s.gf pgCIS CIS.AVS_STS_CONFIRMED_MV < t then
    if 2 ≤ s.avs.failed then { s with avs := { s.avs with last := true } }.avsSend 850
    else { s with avs := { s.avs with failed := s.avs.failed + 1 } }.avsSend t
  else { s with avs := { s.avs with target := none } }

/-- AVS_CONFIRM_POLL (R519): a Voltage read within the window confirms the write. DEDUCED, unsafe: log entry 111. -/
def State.avsPoll (s : State) (crcOk : Bool) (mv : Nat) : State :=
  match s.avs.target with
  | none => s
  | some t =>
    if crcOk && t ≤ mv + 10 && mv ≤ t + 25 then
      { s with avs := { s.avs with target := none, failed := 0, last := false } }.sf pgCIS CIS.AVS_STS_CONFIRMED_MV t
    else if crcOk && !s.due s.avs.deadline then s
    else s.avsUnconfirmed t (if crcOk then mv else 0xFFF)
def execAvsConfirmPoll (crcOk : Bool) (mv : Nat) (s : State) : Host.Outcome State Fault Refusal := done (s.avsPoll crcOk mv)

/-- V_RUN is computed and shown. -/
def State.vrunShow (s : State) : State :=
  { s with avs := { s.avs with vrunAt := s.clock } }.sf pgCIS CIS.AVS_STS_VRUN_MV s.vrun

/-- VRUN_RECOMPUTE (R519): every 10 ms; the voltage of the present state is written unless a write is being confirmed.
DEDUCED, unsafe: log entry 112. -/
def State.vrunTick (s : State) : State :=
  if s.sys.hkOn && s.due (s.avs.vrunAt + ms 10) then
    let s := s.vrunShow
    let st := s.gf pgOAS OAS.PWR_STS_STATE
    if s.avs.target.isSome then s
    else if st == 0 || (st == 1 && s.oas.waking) then s.avsWrite (s.gf pgCIS CIS.AVS_STS_VRUN_MV)
    else if st == 1 then s.avsWrite s.vstby
    else s
  else s
def execVrunRecompute (s : State) : Host.Outcome State Fault Refusal := done s.vrunTick

/-! ### The flags -/

/-- WAKE_FLAG.ANY follows the causes; its rise is the event WAKE (R530). -/
def State.wakeAny (s : State) : State :=
  let any := s.gf pgOAS ⟨0x4C, 0, 6⟩ != 0
  let was := s.gb pgOAS OAS.WAKE_FLAG_ANY
  let s := s.sf pgOAS OAS.WAKE_FLAG_ANY (b2n any)
  if any && !was then s.event pgOAS 0 else s

/-- WAKE_FLAG_CLEAR (R514): cleared causes; WAKE_N is released once none is left. -/
def State.wakeClear (s : State) (ones : Word) : State :=
  let a := raddr pgOAS 0x4C
  let s := (s.setReg a (s.reg a &&& ~~~(ones &&& 0x3F))).wakeAny
  if s.gb pgOAS OAS.WAKE_FLAG_ANY || !s.oas.wakeLow then s
  else { s with oas := { s.oas with wakeLow := false } }.emit (.pin "WAKE_N" true)
def execWakeFlagClear (ones : Word) (s : State) : Host.Outcome State Fault Refusal := done (s.wakeClear ones)

/-- XO32_STOPPED (R528): the RC clock takes over. -/
def execXo32Stopped (s : State) : Host.Outcome State Fault Refusal :=
  done (if s.gb pgOAS OAS.OAS_CTL_RC_ACTIVE then s else
    (s.sf pgOAS OAS.OAS_CTL_RC_ACTIVE 1).error pgOAS 3 0x02 0 0 0)

/-! ### What a whole-device reset leaves (R21, R491, R501, R503, R535, R537) -/

/-- The channels whose contents a reset keeps, when their supplies stayed (R491). -/
def State.ergKept (s : State) : List Nat :=
  (List.range 4).filter (fun c => s.erg.retained.contains c || (s.gb pgERG ERG.ERG_CFG_RETAIN && s.ergSt c == erACTIVE))

/-- Everything is reset but the Oasis, the Vault with its IDE key region, the Erg contents that are kept, the boundary-scan port,
and the model's own fields; pins the device drove fall back. DEDUCED, unsafe: log entry 115. -/
def State.wipe (s : State) (erg : Bool) : State :=
  let kept := if erg then s.ergKept else []
  let e : Erg := { Erg.reset with
    mem := s.erg.mem.filter (fun c => kept.contains (c.1 / 2 ^ 36))
    retained := kept }
  let v : Vault := { s.vlt with rebootAt := none, erasing := false, chain := [], digest := 0 }
  let o : Oasis := { s.oas with
    cur := none, joined := [], stopAt := 0, stopped := [], held := none, pmeAck := false, waking := false, ergWas := []
    portWake := [], base := 0 }
  let y : Sys := { Sys.reset with perst := s.sys.perst, straps := s.sys.straps }
  let keys := (s.host.ide.filter (fun e => !e.2.keys.isEmpty)).map (fun e => (e.1, { Ide.reset with keys := e.2.keys }))
  let r : State := { State.reset with
    host := { HostSt.reset with ide := keys }
    pending := s.pending, clock := s.clock, free := s.free, out := s.out
    regs := State.reset.regs.filter (fun x => x.1 / 4096 < pgOAS) ++ s.regs.filter (fun x => x.1 / 4096 == pgOAS)
      ++ State.reset.regs.filter (fun x => pgOAS < x.1 / 4096)
    smb := { Smb.reset with alertLow := s.smb.alertLow }
    sys := y, oas := o, vlt := v, erg := e, tap := s.tap }
  let r := if s.lnd.irqLow then r.emit (.pin "IRQ_OUT_N" true) else r
  r.sf pgOAS OAS.PWR_STS_BUSY 0 |>.sf pgOAS OAS.PWR_STS_ARMED 0 |>.sf pgOAS OAS.PWR_STS_HELD 0

/-- The wake list is taken and what the last sleep latched is cleared (R445, R513). DEDUCED, unsafe: log entry 114. -/
def State.takeList (s : State) : State :=
  let l := (s.listed .wkl).filterMap (fun e =>
    if fld e.2 T_WKL.EN.lo 1 == 1 then some (e.1, fld e.2 T_WKL.SOURCE.lo 16) else none)
  let s := s.each (s.listed .wkl) (fun e s => s.st .wkl e.1 T_WKL.FIRED 0)
  { s with oas := { s.oas with wakeList := l } }

/-- A state below RUN is entered: what R528 shows of the last sleep starts afresh. -/
def State.sleepShow (s : State) (st modes : Nat) : State :=
  let s := { s with oas := { s.oas with entered := s.clock, modes := modes, latched := [], portWake := [], tripTemp := none } }
  ((s.setReg (raddr pgOAS 0x50) 0).setReg (raddr pgOAS 0x54) 0).setReg (raddr pgOAS 0x58) 0
    |>.sf pgOAS OAS.PWR_STS_STATE st |>.cnt pgOAS OAS.CNT_ENTRIES

/-- DEEP_SLEEP or OFF is entered (R501, R503, R521): 850 mV, the list, and everything but the Oasis off. -/
def State.powerOff (s : State) (st modes : Nat) : State :=
  let s := (s.avsWrite 850).takeList.sleepShow st modes
  let s := s.wipe true
  { s with sys := { s.sys with hkOn := false, coreOn := false } }

/-! ### Temperature (R525 to R527) -/

/-- The trip temperature as it acts. -/
def State.tripPoint (s : State) : Nat := min 0xCC (max 0xBD (s.gf pgCIS CIS.THERM_CTL_TRIP))

/-- A thermal trip (R527): DEEP_SLEEP at once. DESIGN CHOICE, unsafe: log entry 117. -/
def State.trip (s : State) (temp : Nat) : State :=
  let at_ := s.tripPoint
  let s := (s.sf pgOAS OAS.WAKE_FLAG_THERMAL 1).wakeAny
  let s := s.powerOff 3 0
  { s with oas := { s.oas with tripTemp := some temp, tripAt := at_ } }

/-- TEMP_SAMPLE (R525, R526). -/
def State.tempSample (s : State) (temp : Nat) (cold : Bool) : State :=
  if !s.sys.hkOn then s else
  let now := temp % 256
  let thr := s.gf pgCIS CIS.THERM_CTL_THROT
  let was := s.gb pgCIS CIS.TEMP_THROTTLING
  let hot := if was then !(now + s.gf1 pgCIS CIS.THERM_CTL_HYST < thr) else thr ≤ now
  let s := { s with avs := { s.avs with cold := cold } }
  let s := s.sf pgCIS CIS.TEMP_NOW now |>.sf pgCIS CIS.TEMP_MAX (max now (s.gf pgCIS CIS.TEMP_MAX))
    |>.sf pgCIS CIS.TEMP_THROTTLING (b2n hot)
  let s := if hot && !was then (s.cnt pgCIS CIS.CNT_THROTTLES).event pgCIS 1 else s
  if s.tripPoint ≤ now then s.trip now else s
def execTempSample (temp : Nat) (anyBelowZero : Bool) (s : State) : Host.Outcome State Fault Refusal :=
  done (s.tempSample temp anyBelowZero)

/-! ### Power requests (R505 to R511) -/

/-- The state the device is in. DEDUCED, unsafe: log entry 113. -/
def State.pwr (s : State) : Nat := s.gf pgOAS OAS.PWR_STS_STATE

/-- A request ends with a result (R506, R507). -/
def State.endReq (s : State) (code : Nat) (r : PwrReq) : State :=
  let s := if code == 3 then s.cnt pgOAS OAS.CNT_SUPERSEDED else s
  let s := if r.wait then
      s.mgqFinish (fun w => w == .power)
        (if code == 0 then mqStatus 0 else ⟨0x0E, code, (s.reg (raddr pgOAS 0x48)).toNat, 0, []⟩)
    else s.sf pgOAS OAS.PWR_STS_RESULT code
  s.event pgOAS 1

/-- The request in progress ends with those that joined it. -/
def State.endAll (s : State) (code : Nat) : State :=
  match s.oas.cur with
  | some r =>
    let all := r :: s.oas.joined
    let s := { s with oas := { s.oas with cur := none, joined := [] } }.sf pgOAS OAS.PWR_STS_BUSY 0 |>.sf pgOAS OAS.PWR_STS_ARMED 0
    s.each all (fun r s => s.endReq code r)
  | none => s

/-- A request is held, or ceases to be. -/
def State.setHeld (s : State) (h : Option PwrReq) : State :=
  { s with oas := { s.oas with held := h } }.sf pgOAS OAS.PWR_STS_HELD (b2n h.isSome)

/-- A request for another lower state replaces the held one (R511). -/
def State.hold (s : State) (r : PwrReq) : State :=
  match s.oas.held with
  | some h => (s.setHeld (some r)).endReq 3 h
  | none => s.setHeld (some r)

/-! ### The stop sequence (R508) -/

/-- The pages of a place of the stop order that the device quiesces. DEDUCED, unsafe: log entry 116. -/
def stopPages (i : Nat) : List Nat :=
  match i with
  | 0 => pgCVN :: (List.range 128).map pgCVE
  | 1 => [pgMIR] | 2 => [pgBRG] | 3 => [pgSWC]
  | 4 => (List.range 1024).map pgPRT | 5 => (List.range 4).map pgERGC
  | 6 => [pgHLM] | 7 => [pgWAD, pgPOL, pgSCH] | 8 => [pgMEZ] | 9 => [pgLND] | 10 => [pgHST] | 11 => [pgVLT]
  | _ => []

/-- The first place that is not passed over for a state. -/
def lastStop (target : Nat) : Nat := if target == 1 then 9 else if target == 2 then 11 else 12

/-- The reason with which a place refuses; 0: it never does. -/
def stopReason (i : Nat) : Nat :=
  match i with
  | 0 => 1 | 2 => 2 | 3 => 3 | 4 => 4 | 5 => 5 | 6 => 6 | 8 => 7 | 10 => 8 | 11 => 9 | _ => 0

/-- The page that refuses, by the instance. -/
def stopPage (i inst : Nat) : Nat :=
  match i with
  | 0 => pgCVE (inst % 128) | 2 => pgBRG | 3 => pgSWC | 4 => pgPRT (inst % 1024) | 5 => pgERGC (inst % 4) | 6 => pgHLM | 8 => pgMEZ
  | 10 => pgHST | _ => pgVLT

/-- The anchors of the links in a state. -/
def State.linksIn (s : State) (st : Nat → Bool) : List Nat := (List.range 1024).filter (fun a => st (s.lk a))

/-- Whether a link still runs. DEDUCED, unsafe: log entry 116. -/
def lkRuns (st : Nat) : Bool := st == lkUP || st == lkSPARING

/-- The condition of a place of the stop order. DEDUCED, unsafe: log entry 116. -/
def State.stopOk (s : State) (i target : Nat) : Bool :=
  match i with
  | 0 => s.cvn.engines.all (fun e => s.engSt e.1 == enIDLE && e.2.ring.isNone)
  | 1 => s.lards.all (fun d => d.2.pollTag.isNone) && s.links.all (fun l => l.2.txq.all (fun c => c.frame.op != opMIRAGE))
  | 2 => s.lards.all (fun d => d.2.tags.isEmpty) && s.brg.accs.isEmpty && s.brg.held.isEmpty
  | 3 => if target == 1 then s.gal.queues.all (fun q => isHostQueue q.1 || !lkRuns (s.lk (q.1 / 8)) || q.2.isEmpty)
    else s.gal.frames.isEmpty
  | 4 => (List.range 1024).all (fun n => s.ph n ≤ phSLEEP)
  | 6 => (s.listed .hcx).all (fun e => let st := fld e.2 T_HCX.STATE.lo T_HCX.STATE.w; st != hlRESETTING && st != hlWAITING)
  | 8 => s.gf pgMEZ MEZ.MEZ_STS_STATE != 2
  | 10 => s.host.reqs.isEmpty
  | 11 => !s.gb pgVLT VLT.VLT_STS_WRITE_BUSY
  | _ => true

/-- A page is stopped by the device: the QUIESCE the driver had set is kept to be restored. -/
def State.stopPageNow (s : State) (p : Nat) : State :=
  if !s.active p || s.oas.stopped.any (fun e => e.1 == p) then s else
    { s with oas := { s.oas with stopped := (p, s.gb p HDR.PAGE_CTL_QUIESCE) :: s.oas.stopped } }.setQuiesce p true

/-- The ports of a link that is not UP sleep at once; a link that runs is asked to sleep (R174, R508). -/
def State.stopPorts (s : State) : State :=
  let runs := s.linksIn lkRuns
  let s := s.each runs (fun a s => s.setLard a { s.lard a with sleepReq := true })
  let s := s.each (s.linksIn (· == lkINIT)) (fun a s => s.linkDrop a)
  s.each ((List.range 1024).filter (fun n => phSLEEP < s.ph n && !runs.contains (s.anchorOf n))) (fun n s => s.portSleeps n)

/-- The groups with every port at rest sleep. -/
def State.stopGroups (s : State) : State :=
  s.each ((List.range 64).filter (fun g => s.groupAwake (16 * g))) (fun g s => s.groupSleep g)

/-- The Erg channels that serve are put to rest (R491). -/
def State.stopErg (s : State) : State :=
  let cs := (List.range 4).filter (fun c => s.ergSt c == erACTIVE)
  let s := { s with oas := { s.oas with ergWas := s.oas.ergWas ++ cs } }
  s.each cs (fun c s => s.ergRest c)

/-- The blocks stopped by the device return to what the driver had set, last one first; links and groups sleep on, and Erg
channels leave self-refresh (R509). Blocks that STANDBY had stopped stay stopped. -/
def State.seqUndo (s : State) : State :=
  let n := s.oas.stopped.length - s.oas.base
  let l := s.oas.stopped.take n
  let s := s.each l (fun e s => s.setQuiesce e.1 e.2)
  let s := { s with oas := { s.oas with stopped := s.oas.stopped.drop n, stopAt := 0 } }
  if s.pwr == 0 then
    let cs := s.oas.ergWas
    { s with oas := { s.oas with ergWas := [] } }.each cs (fun c s => s.ergInit c)
  else s

/-- A place of the stop order takes its turn. -/
def State.seqTurn (s : State) (i : Nat) : State :=
  let s := { s with oas := { s.oas with stopAt := i, deadline := s.clock + us (s.gf1 pgOAS OAS.OAS_CTL_STOP_US) } }
  let s := s.each (stopPages i) (fun p s => s.stopPageNow p)
  if i == 4 then s.stopPorts else s

/-- A request begins its stop sequence; blocks already stopped stay so. -/
def State.seqStart (s : State) (r : PwrReq) : State :=
  let s := { s with oas := { s.oas with cur := some r, joined := [] } }.sf pgOAS OAS.PWR_STS_TARGET r.target
    |>.sf pgOAS OAS.PWR_STS_BUSY 1 |>.sf pgOAS OAS.PWR_STS_ARMED 0
  s.seqTurn 0

/-- The held request proceeds from the state the first one left (R511). DEDUCED, unsafe: log entry 110. -/
def State.heldGo (s : State) : State :=
  match s.oas.held with
  | some h =>
    let s := s.setHeld none
    if h.target == s.pwr then s.endReq 0 h else s.seqStart h
  | none => s

/-- Blocks that only the lower states stop are released when STANDBY takes the place of an armed one. DEDUCED, unsafe: log entry 110. -/
def State.releaseLower (s : State) : State :=
  let low := fun (e : Nat × Bool) => e.1 == pgLND || e.1 == pgHST || e.1 == pgVLT
  let l := s.oas.stopped.filter low
  let s := { s with oas := { s.oas with stopped := s.oas.stopped.filter (fun e => !low e) } }
  s.each l (fun e s => s.setQuiesce e.1 e.2)

/-- The allowances of the stopped blocks are returned at entry (R508): the engines' and the channels'. -/
def State.seqReturn (s : State) : State :=
  let s := s.each (List.range 128) (fun e s => (s.sf (pgCVE e) CVE.ENG_STS_POWERED 0).giveBackAll (pgCVE e))
  s.each (List.range 4) (fun c s => s.giveBackAll (pgERGC c))

/-- STANDBY is entered (R505, R519): the core clock falls, then the voltage. -/
def State.standbyEnter (s : State) (r : PwrReq) : State :=
  let s := s.seqReturn.sleepShow 1 r.modes
  let s := { s with
    sys := { s.sys with coreSlow := true }
    avs := { s.avs with asked := false }
    oas := { s.oas with base := s.oas.stopped.length } }
  let s := s.endAll 0
  (s.avsWrite s.vstby).heldGo

/-- A lower state is armed (R505). -/
def State.seqArm (s : State) (r : PwrReq) : State :=
  let s := s.endAll 0
  match s.oas.held with
  | some h =>
    let s := s.setHeld none
    (if h.target == 1 then s.releaseLower else s).seqStart h
  | none => { s with oas := { s.oas with cur := some { r with wait := false } } }.sf pgOAS OAS.PWR_STS_ARMED 1

/-- The pages stopped before the place of the stop order whose turn it is (R530). DEDUCED, unsafe: log entry 116. -/
def State.stoppedBefore (s : State) : Nat := (s.oas.stopped.filter (fun e => !(stopPages s.oas.stopAt).contains e.1)).length

/-- A block refuses (R509). -/
def State.seqRefuse (s : State) (r : PwrReq) (inst : Nat) : State :=
  let i := s.oas.stopAt
  let blocks := s.stoppedBefore
  let s := s.seqUndo
  let p := stopPage i inst
  let (b, k) := match blkOf p with | some (b, k) => (b.id, instanceField b k) | none => (0, 0)
  let s := s.sf pgOAS OAS.PWR_REFUSER_REASON (stopReason i) |>.sf pgOAS OAS.PWR_REFUSER_INSTANCE k |>.sf pgOAS OAS.PWR_REFUSER_BLOCK b
  let s := (s.cnt pgOAS OAS.CNT_ROLLBACKS).error pgOAS 2 0x01 (s.reg (raddr pgOAS 0x48)).toNat r.target blocks
  (s.endAll 1).heldGo.settle

/-- The instance that refuses at the turn of a place itself (R508): a channel that is not at rest, an open transaction. -/
def State.refusesNow (s : State) (i target : Nat) : Option Nat :=
  if i == 5 then (List.range 4).find? (fun c => s.ergSt c == erINIT || s.ergSt c == erFILL || s.ergSt c == erSPARING)
  else if i == 8 && 3 ≤ target && s.gf pgMEZ MEZ.MEZ_STS_STATE == 1 then some 0
  else none

/-- The instance that refuses before its time is over: a link whose partner answered SLEEP_NAK or not at all. -/
def State.refusesSeen (s : State) (i : Nat) (inst : Nat) : Bool :=
  i == 4 && lkRuns (s.lk inst) && !(s.lard inst).sleepReq && (s.lard inst).sleepSent.isNone

/-- The block whose turn it is has stopped and the next one is taken, up to the end of the sequence. -/
def State.seqNext (s : State) : State :=
  match s.oas.cur with
  | some r =>
    if r.target == 0 || s.gb pgOAS OAS.PWR_STS_ARMED || !s.stopOk s.oas.stopAt r.target then s else
    let i := s.oas.stopAt
    let s := if i == 4 then s.stopGroups else if i == 5 then s.stopErg else s
    if i + 1 == lastStop r.target then
      if r.target == 1 then s.standbyEnter r else s.seqArm r
    else
      let s := s.seqTurn (i + 1)
      match s.refusesNow (i + 1) r.target with
      | some k => s.seqRefuse r k
      | none => s
  | none => s

/-- A block has not stopped in its time, or meets a refusal condition. -/
def State.seqTimeout (s : State) (inst : Nat) : State :=
  match s.oas.cur with
  | some r =>
    let i := s.oas.stopAt
    if r.target == 0 || s.gb pgOAS OAS.PWR_STS_ARMED || stopReason i == 0 || s.stopOk i r.target then s
    else if s.due s.oas.deadline || s.refusesSeen i inst then s.seqRefuse r inst
    else s
  | none => s

/-- A power request is made (R505, R511). DEDUCED, unsafe: log entry 110. -/
def State.powerRequest (s : State) (r : PwrReq) : State :=
  let st := s.pwr
  if 5 ≤ r.target || (r.target != 0 && 2 ≤ st) then s.endReq 4 r
  else match s.oas.cur with
  | some c =>
    if c.target == r.target then
      if s.gb pgOAS OAS.PWR_STS_ARMED then s.endReq 0 r
      else { s with oas := { s.oas with joined := s.oas.joined ++ [r] } }
    else if r.target == 0 then
      let s := (s.seqUndo.endAll 3).endReq 0 r
      s.heldGo.settle
    else if s.gb pgOAS OAS.PWR_STS_ARMED then
      let s := { s with oas := { s.oas with cur := none } }
      (if r.target == 1 then s.releaseLower else s).seqStart r
    else s.hold r
  | none =>
    if r.target == 0 then
      if st == 0 then s.endReq 0 r
      else
        { s with oas := { s.oas with cur := some r, waking := s.oas.waking || st == 1 } }.sf pgOAS OAS.PWR_STS_TARGET 0
          |>.sf pgOAS OAS.PWR_STS_BUSY 1
    else if s.oas.waking then s.hold r
    else if r.target == st then s.endReq 0 r
    else s.seqStart r

/-! ### Wake (R510, R512 to R517) -/

/-- A wake is taken up: a request in progress or armed is rolled back with result 2; STANDBY raises the voltage and waits for
STANDBY_RETURN; SLEEP asks the host for D0 by PME (R510, R514, R519). DESIGN CHOICE, unsafe: log entry 39. -/
def State.oasPump (s : State) : State :=
  let s := s.wakeAny
  if !s.oas.waking then s else
  let st := s.pwr
  let back := match s.oas.cur with | some r => r.target != 0 | none => false
  let s := if back then
      let h := s.oas.held
      let s := (s.seqUndo.endAll 2).setHeld none
      match h with | some r => s.endReq 2 r | none => s
    else s
  if st == 0 then { s with oas := { s.oas with waking := false } }.settle
  else if st == 1 then
    if s.avs.asked then s
    else { s with avs := { s.avs with asked := true } }.avsWrite (s.gf pgCIS CIS.AVS_STS_VRUN_MV)
  else if st == 2 then
    let s := { s with oas := { s.oas with waking := false } }
    if s.cfgRaw 0 .pmeEnable == 1 then s.emit (.pme 0) else s
  else s

/-- The return to RUN from STANDBY or SLEEP: the stopped blocks are released, the sleep is measured, and the allowances of R515
are asked for. -/
def State.runAgain (s : State) : State :=
  let ticks := min 0xFFFFFFFF ((s.clock - s.oas.entered) * 32768 / 1000000000)
  let ports := s.oas.portWake
  let s := { s with
    oas := { s.oas with waking := false, base := 0, portWake := [] }
    sys := { s.sys with coreOn := true, coreSlow := s.gb pgCIS CIS.AVS_STS_FAILED } }
  let cs := s.oas.ergWas
  let s := { s with oas := { s.oas with ergWas := [] } }
  let s := s.sf pgOAS OAS.PWR_STS_STATE 0 |>.setReg (raddr pgOAS 0x60) (BitVec.ofNat 32 ticks) |>.cnt pgOAS OAS.CNT_WAKES
  let s := s.seqUndo
  let s := s.each (ports.filter (fun n => s.ph n == phSLEEP)) (fun n s => (s.wakePort n).1)
  let s := s.each cs (fun c s => match s.askCistern (pgERGC c) [(pgERGC c, 90, 0)] with
    | (s, true) => s.ergInit c
    | (s, false) => s)
  let s := s.endAll 0
  s.heldGo.settle

/-- STANDBY_RETURN (R516, R517): the voltage is confirmed, or AVSBus is not in use. -/
def State.standbyReturn (s : State) : State :=
  let s := s.oasPump
  if s.pwr == 1 && s.oas.waking && s.avs.target.isNone then s.runAgain else s
def execStandbyReturn (s : State) : Host.Outcome State Fault Refusal := done s.standbyReturn

/-- STOP_BLOCK_STOPPED (R508). -/
def execStopBlockStopped (s : State) : Host.Outcome State Fault Refusal := done s.oasPump.seqNext

/-- STOP_TIMEOUT (R508, R509). -/
def execStopTimeout (inst : Nat) (s : State) : Host.Outcome State Fault Refusal := done (s.oasPump.seqTimeout inst)

end Sys2Proof.Machine
end

