-- ==== Sys2Proof/Machine/Vault.lean ====
section
/-!
DEFINITION. The Vault (R544 to R560), Gliset images and their checks (R541 to R549), the erase of secrets (R554), and the fault history in
the Vault and the Erg (R566 to R571).
-/

namespace Sys2Proof.Machine

/-! ### Words of the Vault (R544, R545) -/

/-- Bytes written at an offset that is a multiple of 8: every word of the range is written once. -/
def State.vaultPut (s : State) (a : Nat) (bs : List Byte) : State :=
  let n := ceilDiv bs.length 8
  { s with vlt := { s.vlt with
      mem := Memory.writeN s.vlt.mem a bs
      bad := s.vlt.bad.filter (fun w => w < a / 8 || a / 8 + n ≤ w) } }.cnt pgVLT VLT.CNT_WORDS_WRITTEN n

/-- A range written to 0, of which n words held something to be erased. -/
def State.vaultZero (s : State) (a len n : Nat) : State :=
  { s with vlt := { s.vlt with
      mem := Memory.clear s.vlt.mem a len
      bad := s.vlt.bad.filter (fun w => w < a / 8 || (a + len) / 8 ≤ w) } }.cnt pgVLT VLT.CNT_WORDS_WRITTEN n

/-- A word of the boot record, and its replacement. -/
def State.bootWord (s : State) (i : Nat) : Nat := ofBytes (s.vaultBytes (vaultBoot + 8 * i) 8)
def State.setBootWord (s : State) (i v : Nat) : State := s.vaultPut (vaultBoot + 8 * i) (bytesOf 8 v)

/-- STATE and SEQ of a slot; the reserved STATE reads as EMPTY. -/
def State.slotState (s : State) (b : Bool) : Nat := let v := s.bootWord (b2n b) % 4; if v == 3 then 0 else v
def State.slotSeq (s : State) (b : Bool) : Nat := s.bootWord (b2n b) / 2 ^ 32
/-- DESIGN CHOICE, unsafe: log entry 125. -/
def State.setSlot (s : State) (b : Bool) (st seq : Nat) : State := s.setBootWord (b2n b) (st + seq % 2 ^ 32 * 2 ^ 32)

/-- KEY_SET of the OWNER region, and whether the IDENTITY region holds a key. -/
def State.keySet (s : State) : Bool := bitAt (ofBytes (s.vaultBytes (vaultOwner + 48) 1)) 0
/-- DESIGN CHOICE, unsafe: log entry 126. -/
def State.hasIdent (s : State) : Bool := s.vlt.mem.any (fun c => vaultIdent ≤ c.1 && c.1 < vaultIdent + 176)

/-- The VLT page shows what the Vault holds (R556). -/
def State.vaultShow (s : State) : State :=
  s.sf pgVLT VLT.VLT_STS_BOOT_NUMBER (s.bootWord 2 % 2 ^ 16) |>.sf pgVLT VLT.VLT_STS_KEY_SET (b2n s.keySet)
    |>.sf pgVLT VLT.VLT_STS_IDENT_READY (b2n s.hasIdent) |>.sf pgVLT VLT.VLT_STS_ERASE_PENDING (s.bootWord 3 % 2)
    |>.sf pgVLT VLT.SLOT_A_STATE (s.slotState false) |>.sf pgVLT VLT.SLOT_A_SEQ (s.slotSeq false)
    |>.sf pgVLT VLT.SLOT_B_STATE (s.slotState true) |>.sf pgVLT VLT.SLOT_B_SEQ (s.slotSeq true)

/-! ### Images (R541 to R549) -/

/-- A run of image bytes as a little-endian and as a big-endian number. -/
def imgNum (img : List Byte) (off n : Nat) : Nat := ofBytes ((img.drop off).take n)
def imgBig (img : List Byte) (off n : Nat) : Nat := ofBytes ((img.drop off).take n).reverse

/-- The fields of the header (R546). -/
def imgSigned (img : List Byte) : Bool := bitAt (imgNum img 6 2) 0
def imgLen (img : List Byte) : Nat := imgNum img 8 4
def imgTail (img : List Byte) : Nat := if imgSigned img then 240 else 48
def imgRecs (img : List Byte) : Nat := imgNum img 0x10 4
def imgCount (img : List Byte) : Nat := imgNum img 0x14 4
def imgCert (img : List Byte) : Nat := imgNum img 0x18 4
def imgCertLen (img : List Byte) : Nat := imgNum img 0x1C 4

/-- Whether the header is valid: MAGIC, FORMAT, FLAGS, LENGTH and the offsets (R542, R546). DEDUCED, unsafe: log entry 123. -/
def imgHeader (img : List Byte) : Bool :=
  let len := imgLen img
  let top := len - imgTail img
  let rec_ := imgRecs img
  let recEnd := rec_ + 16 * imgCount img
  let cert := imgCert img
  let certEnd := cert + imgCertLen img
  64 ≤ img.length && imgNum img 0 4 == 0x54534C47 && imgNum img 4 2 == 1 && imgNum img 6 2 < 2
    && 320 ≤ len && len ≤ 131072 && len % 16 == 0 && len ≤ img.length
    && rec_ % 16 == 0 && 0x40 ≤ rec_ && imgCount img ≤ 4096 && recEnd ≤ top
    && (cert == 0 || (cert % 16 == 0 && 0x40 ≤ cert && imgCertLen img ≤ 16384 && certEnd ≤ top
        && (certEnd ≤ rec_ || recEnd ≤ cert)))

/-- Whether the digest of the trailer matches (R547). -/
def imgDigest (img : List Byte) : Bool :=
  let top := imgLen img - imgTail img
  (Config.sha384 (img.take top)).toNat == imgBig img top 48

/-- Whether the image is signed by the owner's key (R547). -/
def imgOwned (img owner : List Byte) : Bool :=
  let k := imgLen img - 192
  imgSigned img && (Config.sha384 ((img.drop k).take 96)).toNat == ofBytes owner.reverse
    && Config.ecdsaVerify (imgBig img k 48) (imgBig img (k + 48) 48) (imgBig img (k - 48) 48) (imgBig img (k + 96) 48)
        (imgBig img (k + 144) 48)

/-- A record: its TYPE and its bytes (R548). -/
structure GlRec where
  typ   : Nat
  bytes : List Byte
  deriving DecidableEq, Repr

def GlRec.num (r : GlRec) (off n : Nat) : Nat := imgNum r.bytes off n

/-- The records of an image, in order. -/
def imgRecords (img : List Byte) : List GlRec :=
  (List.range (imgCount img)).map (fun i =>
    let b := (img.drop (imgRecs img + 16 * i)).take 16
    ⟨imgNum b 0 2, b⟩)

/-- Whether an aperture size is absent or in its range (R59). -/
def apertOk (k lo hi : Nat) : Bool := k == 0 || (lo ≤ k && k ≤ hi)

/-- Whether a record is valid (R549). DEDUCED, unsafe: log entry 123. -/
def GlRec.ok (r : GlRec) : Bool :=
  match r.typ with
  | 1 | 4 | 5 | 6 => true
  | 2 =>
    let b := r.num 4 1
    let m := r.num 5 1
    1 ≤ b && b ≤ m && m ≤ 6 && [1, 2, 4, 8, 16].contains (r.num 6 1)
  | 3 =>
    let f := r.num 4 4
    let v := r.num 8 4
    bits f 0 8 ≤ 252 && bits f 8 3 != 7 && apertOk (bits f 12 6) 24 46 && apertOk (bits f 18 6) 20 40
      && bits v 0 12 + bits f 0 8 * bits v 16 12 ≤ 32768
  | 7 =>
    let d := r.num 4 1
    let a := r.num 6 2
    let sp := r.num 10 2
    d ≤ 63 && a < 1024 && a % 16 == 0 && (!bitAt (r.num 8 1) 0 || (sp == a + 16 && sp < 1024))
  | 8 =>
    let off := r.num 4 4
    off % 4 == 0 && (blkOf (off / 4096)).isSome && off / 4096 != pgVLT && off / 4096 != pgOAS
  | _ => false

/-- The code of the check of a candidate's bytes (R542, R547). -/
def State.imgCheck (s : State) (img : List Byte) : Nat :=
  if !imgHeader img then 0x01
  else if !imgDigest img then 0x02
  else if s.keySet && !imgOwned img (s.vaultBytes vaultOwner 48) then 0x03
  else if !(imgRecords img).all GlRec.ok then 0x04
  else 0

/-- The bytes of a slot that its header spans, and whether one of them cannot be read. -/
def State.slotBytes (s : State) (b : Bool) : List Byte :=
  let base := vaultSlot b
  let len := min 131072 (ofBytes (s.vaultBytes (base + 8) 4))
  s.vaultBytes base (max 64 len)
/-- DESIGN CHOICE, unsafe: log entry 16. -/
def State.slotBad (s : State) (b : Bool) : Option Nat := s.vlt.bad.find? (fun w => w / 16384 == b2n b)

/-- A candidate is rejected (R559): counted and captured. DEDUCED, unsafe: log entry 123. -/
def State.reject (s : State) (cand code image : Nat) : State :=
  (s.cnt pgVLT VLT.CNT_REJECTS).error pgVLT 1 0x02 (cand + code * 2 ^ 8) image 0

/-- A slot is checked as a candidate: its code, with what the check captures. -/
def State.slotCheck (s : State) (b : Bool) : State × Nat :=
  match s.slotBad b with
  | some w => ((s.error pgVLT 2 0x03 (8 * w) 0 0).reject (b2n b) 0x07 0, 0x07)
  | none =>
    let img := s.slotBytes b
    let code := s.imgCheck img
    if code == 0 then (s, 0) else (s.reject (b2n b) code (if code == 1 then 0 else imgNum img 0x0C 4), code)

/-- CHECK of a slot. -/
def State.showCheck (s : State) (b : Bool) (code : Nat) : State := s.sf pgVLT (if b then VLT.SLOT_B_CHECK else VLT.SLOT_A_CHECK) code

/-! ### VAULT_WRITE (R551) -/

/-- The offset and the size of a region by its code. -/
def vaultRegion (k : Nat) : Nat × Nat :=
  match k with
  | 0 => (0, 0x20000) | 1 => (0x20000, 0x20000) | 2 => (vaultOwner, 0x1000) | _ => (vaultUser, 0x100000)

/-- Whether a command breaks one of R551's rules. -/
def State.vaultRefuses (s : State) (arg0 arg1 arg2 : Nat) : Bool :=
  let k := arg0 % 16
  let act := bits arg0 4 2
  let src := s.gf pgDEV DEV.BOOT_STS_SOURCE
  4 ≤ k || act == 3 || (act == 1 && 2 ≤ k) || (act == 2 && k == 2)
    || arg1 % 8 != 0 || arg2 % 8 != 0 || (vaultRegion k).2 < arg1 + arg2
    || (act != 1 && k < 2 && src == k + 1)
    || (act == 0 && k == 2 && (s.keySet || arg1 != 0 || arg2 != 48))

/-- A slot is set WRITING, unless it already is. DESIGN CHOICE, unsafe: log entry 125. -/
def State.slotWriting (s : State) (b : Bool) : State := if s.slotState b == 1 then s else s.setSlot b 1 (s.slotSeq b)

/-- WRITE: the data of the command at its place. DESIGN CHOICE, unsafe: log entry 124. -/
def State.vaultWrite (s : State) (arg0 arg1 : Nat) (data : List Byte) : State × MgqEnd :=
  let k := arg0 % 16
  let s := if k < 2 then s.slotWriting (k == 1) else s
  let s := s.vaultPut ((vaultRegion k).1 + arg1) data
  let s := if k == 2 then s.vaultPut (vaultOwner + 48) (bytesOf 8 1) else s
  (s.vaultShow, ⟨0, data.length, 0, 0, []⟩)

/-- COMMIT: the slot is checked and becomes VALID. DESIGN CHOICE, unsafe: log entry 125. -/
def State.vaultCommit (s : State) (arg0 : Nat) : State × MgqEnd :=
  let b := arg0 % 16 == 1
  let (s, code) := s.slotCheck b
  let s := s.showCheck b code
  if code != 0 then (s, ⟨0x13, 0, code, 0, []⟩)
  else
    let seq := if s.slotState (!b) == 2 then (s.slotSeq (!b) + 1) % 2 ^ 32 else 1
    ((s.setSlot b 2 seq).vaultShow.cnt pgVLT VLT.CNT_COMMITS, ⟨0, seq, 0, 0, []⟩)

/-- ERASE: a slot or USER reads 0. -/
def State.vaultErase (s : State) (arg0 : Nat) : State × MgqEnd :=
  let k := arg0 % 16
  let (base, size) := vaultRegion k
  let s := if k < 2 then s.slotWriting (k == 1) else s
  let s := s.vaultZero base size (size / 8)
  let s := if k < 2 then s.setSlot (k == 1) 0 (s.slotSeq (k == 1)) else s
  (s.vaultShow, ⟨0, size, 0, 0, []⟩)

/-! ### The erase of secrets (R552 to R554) -/

/-- The IDENTITY and IDE key regions are written to 0 and ERASE_PENDING with them. -/
def State.secretsGone (s : State) : State :=
  let s := s.vaultZero vaultIdent 0x1000 (if s.hasIdent then 18 else 0)
  let s := s.each (s.host.ide.map (·.1)) (fun n s => s.eraseKeys n)
  (s.setBootWord 3 0).vaultShow

/-- DEBUG_UNLOCK: steps 1 and 2. DESIGN CHOICE, unsafe: log entry 124. -/
def State.debugUnlock (s : State) (v : Word) : State :=
  if fld v 0 1 == 1 && fld v 16 16 == 0xDB6E && s.gf pgVLT VLT.VLT_STS_DEBUG == 0 then
    let s := (s.setBootWord 3 1).vaultShow.sf pgVLT VLT.VLT_STS_DEBUG 1 |>.sf pgVLT VLT.VLT_STS_WRITE_BUSY 1
    let s := (s.spdmClose .host).spdmClose .smb
    let s := s.each ((s.host.ide.filter (fun e => e.2.state == .secure)).map (·.1)) (fun n s => s.ideInsecure n)
    { s with vlt := { s.vlt with erasing := true } }
  else s
def execDebugUnlock (value : Word) (s : State) : Host.Outcome State Fault Refusal := done (s.debugUnlock value)

/-- DEBUG_ERASE_DONE: steps 3 and 4. DESIGN CHOICE, unsafe: log entry 124. -/
def State.debugErased (s : State) : State :=
  if s.vlt.erasing then
    let s := { s with vlt := { s.vlt with erasing := false } }.secretsGone
    (s.sf pgVLT VLT.VLT_STS_WRITE_BUSY 0 |>.sf pgVLT VLT.VLT_STS_DEBUG 2 |>.sf pgDEV DEV.FEAT_EN_DEBUG_OPEN 1).event pgVLT 4
  else s
def execDebugEraseDone (s : State) : Host.Outcome State Fault Refusal := done s.debugErased

/-! ### Fault history (R566 to R571) -/

/-- The next record number: 0 is skipped (R567). -/
def nextSeq (q : Nat) : Nat := if (q + 1) % 2 ^ 32 == 0 then 1 else (q + 1) % 2 ^ 32

/-- Whether records wait (R570, R571). -/
def State.historyWaits (s : State) : Bool :=
  s.gb pgFLT FLT.FLT_STS_SCANNING || s.pwr != 0 || !s.gb pgDEV DEV.BOOT_STS_DONE
    || (s.gb pgFLT FLT.FLT_CTL_ERG_EN && s.ergSt (s.gf pgFLT FLT.FLT_CTL_ERG_CH) == erREFRESH)

/-- A record with its SEQ goes to the Vault (R568). DESIGN CHOICE, unsafe: log entry 127. -/
def State.historyVault (s : State) (r : BitVec 256) (seq : Nat) : State :=
  if s.gb pgFLT FLT.FLT_CTL_VAULT_EN && min 4 (s.gf pgFLT FLT.FLT_CTL_VAULT_CLASS) ≤ fld r 77 3 then
    let recent := s.flt.times.filter (fun t => s.clock < t + ms 1000)
    if recent.length < 1000 then
      { s with flt := { s.flt with times := recent ++ [s.clock] } }.vaultPut (vaultHist + 32 * (seq % 65536)) (bytesOf 32 r.toNat)
        |>.cnt pgFLT FLT.CNT_VAULT_RECORDS
    else s.cnt pgFLT FLT.CNT_VAULT_SKIPPED
  else s

/-- And to the Erg (R569). DESIGN CHOICE, unsafe: log entry 108. -/
def State.historyErg (s : State) (r : BitVec 256) (seq : Nat) : State :=
  let c := s.gf pgFLT FLT.FLT_CTL_ERG_CH
  let n := s.histSize c * 2097152
  if !s.gb pgFLT FLT.FLT_CTL_ERG_EN then s
  else if s.ergServes c && 0 < n then
    { s with erg := { s.erg with mem := Memory.writeN s.erg.mem (c * 2 ^ 36 + 32 * (seq % n)) (bytesOf 32 r.toNat) } }.cnt pgFLT FLT.CNT_ERG_RECORDS
  else s.cnt pgFLT FLT.CNT_ERG_SKIPPED

/-- HISTORY_RECORD_WRITE (R567): the oldest record leaves the queue with its SEQ. -/
def State.historyWrite (s : State) : State :=
  match s.flt.queue with
  | [] => s
  | r :: rest =>
    if s.historyWaits then s else
    let seq := s.gf pgFLT FLT.NEXT_SEQ_SEQ
    let r := put r 224 32 seq
    let s := { s with flt := { s.flt with queue := rest } }.sf pgFLT FLT.NEXT_SEQ_SEQ (nextSeq seq)
    (s.historyVault r seq).historyErg r seq
def execHistoryRecordWrite (s : State) : Host.Outcome State Fault Refusal := done s.historyWrite

/-- The SEQs of the records a stretch of bytes holds; blank ones are passed over. DEDUCED, unsafe: log entry 128. -/
def seqsIn (m : List Host.Cell) (base size : Nat) : List Nat :=
  let at_ := ((m.filter (fun c => base ≤ c.1 && c.1 < base + size && 28 ≤ c.1 % 32)).map (fun c => c.1 / 32 * 32)).dedup
  (at_.map (fun a => ofBytes (Memory.readN m (a + 28) 4))).filter (· != 0)

/-- The later of two SEQs (R572). DEDUCED, unsafe: log entry 128. -/
def laterSeq (a b : Nat) : Nat := if a == 0 then b else let d := subMod b a 32; if 1 ≤ d && d ≤ 2 ^ 31 then b else a

/-- HISTORY_SCAN_DONE (R570). DEDUCED, unsafe: log entry 128. -/
def State.historyScanned (s : State) : State :=
  if s.gb pgFLT FLT.FLT_STS_SCANNING then
    let c := s.gf pgFLT FLT.FLT_CTL_ERG_CH
    let kept := s.ergServes c && s.gb (pgERGC c) ERGC.CH_STS_RETAINED
    let seqs := seqsIn s.vlt.mem vaultHist 0x200000
      ++ (if kept then seqsIn s.erg.mem (c * 2 ^ 36) (s.histSize c * 2 ^ 26) else [])
    (s.sf pgFLT FLT.FLT_STS_SCANNING 0).sf pgFLT FLT.NEXT_SEQ_SEQ (nextSeq (seqs.foldl laterSeq 0))
  else s
def execHistoryScanDone (s : State) : Host.Outcome State Fault Refusal := done s.historyScanned

end Sys2Proof.Machine
end

