-- ==== Sys2Proof/Machine/Tables.lean ====
section
/-!
DEFINITION. Indirect table access (R35 to R40): what a table entry reads as, what a write leaves and does, staging on the Mezzanine
and conflicts (R466 to R469), and the two table-access register sets of a page.
-/

namespace Sys2Proof.Machine

/-! ### Domains (R20, the domain table of 01_traffic_paths.md) -/

/-- Whether the domain of a page is neither asleep nor off. DEDUCED, unsafe: log entry 119. -/
def State.awakePage (s : State) (p : Nat) : Bool :=
  match blkOf (headPage p) with
  | some (.oas, _) => true
  | some (.dev, _) | some (.mgq, _) | some (.cis, _) | some (.vlt, _) | some (.hst, _) | some (.flt, _) => s.sys.hkOn
  | some (.prt, n) => s.sys.hkOn && s.groupAwake n
  | some (.erg, _) | some (.ergc, _) => s.sys.coreOn && s.active pgERG
  | _ => s.sys.coreOn

/-! ### The Mezzanine takes writes (R466 to R469) -/

/-- The states of the transaction. -/
def mzEMPTY : Nat := 0
def mzOPEN : Nat := 1
def mzAPPLYING : Nat := 2
def State.mezSt (s : State) : Nat := s.gf pgMEZ MEZ.MEZ_STS_STATE

/-- CONFLICT0 and CONFLICT1 of a staged target (R477). -/
def Staged.conflict0 (w : Staged) (reason : Nat) : Nat :=
  (match w with | .reg a _ => a | .tbl p _ _ _ => p * 4096) % 2 ^ 26 + reason * 2 ^ 28
def Staged.conflict1 (w : Staged) : Nat :=
  match w with
  | .reg _ _ => 0
  | .tbl _ t i _ => i % 2 ^ 24 + t * 2 ^ 24 + 2 ^ 31

/-- A target is named in CONFLICT0 and CONFLICT1. -/
def State.nameConflict (s : State) (w : Staged) (reason : Nat) : State :=
  s.setReg (raddr pgMEZ 0x54) (BitVec.ofNat 32 (w.conflict0 reason)) |>.setReg (raddr pgMEZ 0x58) (BitVec.ofNat 32 w.conflict1)

/-- A direct write conflicts with the open transaction: it is marked, and the first conflicting target recorded. -/
def State.conflict (s : State) (w : Staged) : State :=
  if s.gb pgMEZ MEZ.MEZ_STS_CONFLICT then s else (s.nameConflict w 1).sf pgMEZ MEZ.MEZ_STS_CONFLICT 1

/-- Whether MEZ takes staged writes (R466), and whether they wait before it while it is quiesced (R29). DESIGN CHOICE, unsafe: log entry 158. -/
def State.mezOn (s : State) : Bool := s.gb pgDEV DEV.FEAT_EN_MEZ && s.active pgMEZ
/-- DESIGN CHOICE, unsafe: log entry 158. -/
def State.mezHolds (s : State) : Bool := s.mezOn && s.mezSt != mzAPPLYING && s.gb pgMEZ HDR.PAGE_CTL_QUIESCE
/-- A write to be staged waits, with the table-access set whose operation it is. DESIGN CHOICE, unsafe: log entry 158. -/
def State.mezHold (s : State) (w : Staged) (from_ : Option (Nat × Path × Bool)) : State :=
  { s with mez := { s.mez with held := s.mez.held ++ [(w, from_)] } }

/-- A write is staged: RESULT of STAGE_STS, 0 when it was. -/
def State.stage (s : State) (w : Staged) : State × Nat :=
  if s.mezSt == mzAPPLYING then (s, 4)
  else if !s.mezOn then (s, 2)
  else if 16384 ≤ s.mez.staged.length then
    (((s.sf pgMEZ MEZ.MEZ_STS_OVERFLOW 1).cnt pgMEZ MEZ.CNT_OVERFLOWS).error pgMEZ 2 0x02 (w.conflict0 0) 0 0, 1)
  else
    ({ s with mez := { s.mez with staged := s.mez.staged ++ [w] } }.sf pgMEZ MEZ.MEZ_STS_STATE mzOPEN
      |>.sf w.page HDR.PAGE_STS_STAGED 1, 0)

/-! ### What a write leaves and does (R36, R39, R91 to R454) -/

/-- A field that keeps its value. -/
def keepFld (old new : Entry) (f : TFld) : Entry := put new f.lo f.w (fld old f.lo f.w)
def keepFlds (old new : Entry) (c : Bool) (l : List TFld) : Entry := if c then l.foldl (keepFld old) new else new

/-- The bits of an entry that only its kind makes reserved (R91, R302, R306): they read 0 (R9, R10). DEDUCED, unsafe: log entry 170. -/
def Tbl.kindReserved (t : Tbl) (e : Entry) : List TFld :=
  match t with
  | .win => (match fld e T_WIN.TYPE.lo 3 with | 1 => [⟨62, 2⟩] | 2 => [⟨214, 42⟩] | 3 => [⟨48, 16⟩] | _ => [])
  | .ste => (match fld e T_STE.TYPE.lo 3 with | 2 => [⟨30, 2⟩] | 3 => [⟨28, 4⟩] | _ => [])
  | .mbr => if fld e T_MBR.KIND.lo 2 == 2 then [⟨28, 4⟩] else []
  | _ => []
/-- DEDUCED, unsafe: log entry 170. -/
def Tbl.zeroReserved (t : Tbl) (e : Entry) : Entry := (t.kindReserved e).foldl (fun e f => put e f.lo f.w 0) e

/-- The entry that a write leaves: RW fields take the written value where the table's chapter lets them. DEDUCED, unsafe: log entry 170. -/
def State.tblMerge (s : State) (t : Tbl) (i : Nat) (e : Entry) : Entry :=
  let old := s.ent t i
  let rw := BitVec.ofNat 1024 t.info.rw
  let new := t.zeroReserved ((old &&& ~~~rw) ||| (e &&& rw))
  match t with
  | .hcx =>
    let new := keepFlds old new (s.hallSt i != hlFREE) [T_HCX.FUNC, T_HCX.PASID, T_HCX.NOPASID, T_HCX.SLOT]
    let new := keepFlds old new (s.tb .hcx i T_HCX.RX_EN) [T_HCX.RX_BASE, T_HCX.RX_LOG2, T_HCX.RX_WB]
    keepFlds old new (s.tb .hcx i T_HCX.DL_EN) [T_HCX.DL_BASE0, T_HCX.DL_BASE1, T_HCX.DL_START, T_HCX.DL_PAGES]
  | .rng => keepFlds old new (s.ringSt i != rgDISABLED) [T_RNG.BASE, T_RNG.SIZE]
  | .src => keepFlds old (keepFlds old new (0x1000 ≤ i && i < 0x2000) [T_SRC.OWNED, T_SRC.HALL]) (i < 0x2000) [T_SRC.GROUP]
  | .ste => put new T_STE.EPOCH.lo T_STE.EPOCH.w (b2n s.epochCur)
  | _ => new

/-- Whether a write changes an RW field. -/
def State.tblChanges (s : State) (t : Tbl) (i : Nat) (e : Entry) : Bool :=
  let rw := BitVec.ofNat 1024 t.info.rw
  (s.ent t i &&& rw) != (s.tblMerge t i e &&& rw)

/-- A write to a frozen resource of a TDISP interface is applied and breaks the lock (R418). DEDUCED, unsafe: log entry 132. -/
def State.tblFrozen (s : State) (t : Tbl) (i : Nat) : State :=
  match t with
  | .hcx => s.freezeBreak i 0x11 i
  | .rng => s.freezeBreak (ringHall i) 0x0F i
  | .win => if s.tb .win i T_WIN.VALID then s.freezeBreak (s.tf .win i T_WIN.HALL) 0x08 i else s
  | _ => s

/-- Whether a bit of a written entry is 1. -/
def setBit (e : Entry) (f : TFld) : Bool := fld e f.lo f.w == 1

/-- An entry is written whole, with everything its write does. DEDUCED, unsafe: log entry 132. -/
def State.tblPut (s : State) (t : Tbl) (i : Nat) (e : Entry) : State :=
  let s := (if s.tblChanges t i e then s.tblFrozen t i else s).heal t i
  let old := s.ent t i
  let new := s.tblMerge t i e
  match t with
  | .pwl | .drd | .vlt => s
  | .win => (s.setEnt .win i new).raDiscard (fun x => x.win == i)
  | .mir =>
    let s := s.each (List.range 16) (fun k s => s.mirWrite i k (fld e (32 * k) 32))
    s.each (List.range 16) (fun k s => s.inSlot i k (fld e (512 + 32 * k) 32))
  | .acc =>
    let s := s.setEnt .acc i new
    (if setBit e T_ACC.DROPS_CLR then s.st .acc i T_ACC.DROPS 0 else s).galUpdate
  | .ste => s.writeSteer i new
  | .egn | .cls | .leaf => s.writeBuckets t i new
  | .pole =>
    let s := s.writeBuckets .pole i new
    if setBit e T_POLE.DROPS_CLR then s.st .pole i T_POLE.DROPS 0 else s
  | .rng =>
    let was := setBit old T_RNG.EN
    let now := setBit new T_RNG.EN
    let s := s.setEnt .rng i (keepFld old new T_RNG.EN)
    let s := if now && !was then s.ringEnable i else if was && !now then s.ringDisable i else s
    let s := if setBit e T_RNG.RESUME then s.ringResume i else s
    if setBit e T_RNG.TAIL_CLR then s.st .rng i T_RNG.TAIL_VALID 0 else s
  | .src =>
    let s := s.setEnt .src i new
    let s := if setBit e T_SRC.CLR_PEND then s.clrPend i else s
    if setBit e T_SRC.REASSIGN then s.reassign i else s
  | .que | .wrp | .grp | .mbr | .rte | .gct | .gen | .sel | .hsel | .enl | .hcx | .tse | .tgt | .vec | .hof | .wkl => s.setEnt t i new

/-- A direct write by software: a change to a staged entry is a conflict. -/
def State.tblDirect (s : State) (t : Tbl) (i : Nat) (e : Entry) : State :=
  let w := Staged.tbl t.info.page t.info.num i e
  let hit := s.mezSt == mzOPEN && s.tblChanges t i e
    && s.mez.staged.any (fun x => match x with | .tbl p n k _ => p == t.info.page && n == t.info.num && k == i | .reg _ _ => false)
  (if hit then s.conflict w else s).tblPut t i e

/-! ### What an entry reads as -/

/-- A byte of the Vault as table 0 reads it (R545). -/
def State.vaultSeen (s : State) (a : Nat) : Byte :=
  if (vaultIdent + 96 ≤ a && a < vaultUser) then 0 else Memory.read s.vlt.mem a

/-- Fields that follow the state are brought up to date before a read. DESIGN CHOICE, unsafe: log entry 105. -/
def State.tblFresh (s : State) (t : Tbl) (i : Nat) : State :=
  match t with
  | .gct | .egn | .cls | .leaf | .pole => s.schFresh t i
  | .hcx => s.floorFix i
  | .vec =>
    let f := match s.entryFunc i with | some f => f | none => 0xFF
    (s.pendUpdate i).st .vec i T_VEC.FUNC f
  | .src =>
    let s := if 0x1000 ≤ i && i < 0x2000 then s.st .src i T_SRC.OWNED 1 |>.st .src i T_SRC.HALL (i - 0x1000) else s
    if i < 0x2000 then s.st .src i T_SRC.GROUP (s.gf i HDR.EVT_GROUP_GROUP) else s
  | .hof =>
    let left := match s.lnd.holds.find? (fun e => e.1 == i) with | some e => ceilDiv (e.2 - s.clock) 1000 | none => 0
    let waits := s.holding i && (s.listed .src).any (fun e => fld e.2 T_SRC.STATE.lo 3 == srcPENDING && s.srcGroup e.1 == i)
    s.st .hof i T_HOF.REMAIN_US (min left 0xFFFF) |>.st .hof i T_HOF.WAITING (b2n waits)
  | _ => s

/-- A read of an entry: STATUS 0x7 where an ECC error is uncorrectable (R38) or the Vault cannot give a word (R560). -/
def State.tblRead (s : State) (t : Tbl) (i : Nat) : State × Entry × Nat :=
  match t with
  | .vlt =>
    match s.vlt.bad.find? (fun w => w / 2 == i) with
    | some w => (s.error pgVLT 2 0x03 (8 * w) 0 0, 0, 7)
    | none => (s, BitVec.ofNat 1024 (ofBytes ((List.range 16).map (fun k => s.vaultSeen (16 * i + k)))), 0)
  | _ =>
    let s := s.tblFresh t i
    if s.hurt t i then (s, 0, 7) else (s, s.ent t i &&& ~~~(BitVec.ofNat 1024 t.info.wo), 0)

/-! ### The table-access register sets (R35 to R40) -/

/-- A register set: beside its registers, and where they stand. -/
def tblSetKey (p : Nat) (x : Path) : Nat := 2 * p + (match x with | .host => 0 | .smb => 1)
def tblSetOff (x : Path) : Nat := match x with | .host => 0x40 | .smb => 0x60
def State.tblSet (s : State) (p : Nat) (x : Path) : TblSet := SMap.get (fun _ => TblSet.reset) s.sets (tblSetKey p x)
def State.putSet (s : State) (p : Nat) (x : Path) (v : TblSet) : State :=
  { s with sets := SMap.set (fun _ => TblSet.reset) s.sets (tblSetKey p x) v }

/-- The fields of TBL_ADDR and TBL_CMD. -/
def taINDEX (x : Path) : Fld := ⟨tblSetOff x, 0, 24⟩
def taTABLE (x : Path) : Fld := ⟨tblSetOff x, 24, 4⟩
def taWORD (x : Path) : Fld := ⟨tblSetOff x, 28, 3⟩
def tcAUTOINC (x : Path) : Fld := ⟨tblSetOff x + 0x14, 2, 1⟩
def tcSTAGE (x : Path) : Fld := ⟨tblSetOff x + 0x14, 3, 1⟩
def tcBUSY (x : Path) : Fld := ⟨tblSetOff x + 0x14, 8, 1⟩
def tcSTATUS (x : Path) : Fld := ⟨tblSetOff x + 0x14, 12, 4⟩

/-- The words of an entry of a table. -/
def Tbl.words (t : Tbl) : Nat := ceilDiv t.info.width 128

/-- TBL_DATA0 to TBL_DATA3 as one word of an entry, and set to one. -/
def State.tblData (s : State) (p : Nat) (x : Path) : Nat :=
  ((List.range 4).map (fun k => (s.reg (raddr p (tblSetOff x + 4 + 4 * k))).toNat * 2 ^ (32 * k))).foldl (· + ·) 0
def State.setData (s : State) (p : Nat) (x : Path) (v : Nat) : State :=
  s.each (List.range 4) (fun k s => s.setReg (raddr p (tblSetOff x + 4 + 4 * k)) (BitVec.ofNat 32 (v / 2 ^ (32 * k))))

/-- An operation's result is kept until it is done. -/
def State.tblResult (s : State) (p : Nat) (x : Path) (status : Nat) (last : Bool) : State :=
  s.putSet p x { s.tblSet p x with result := status, last := last }

/-- The result of an operation that waits. -/
def tblUNDONE : Nat := 16

/-- An entry written through a register set is staged (R39). -/
def State.stageSet (s : State) (w : Staged) (p : Nat) (x : Path) (last : Bool) : State :=
  match s.stage w with
  | (s, 0) => (s.putSet p x { s.tblSet p x with marks := 0 }).tblResult p x 0x4 last
  | (s, _) => s.tblResult p x 0x5 last

/-- The read of a word (R39). -/
def State.tblReadWord (s : State) (p : Nat) (x : Path) (t : Tbl) (i w : Nat) : State :=
  let last := w + 1 == t.words
  if w == 0 then
    let (s, e, st) := s.tblRead t i
    let s := s.putSet p x { s.tblSet p x with snap := e, held := e }
    (s.setData p x (fld e 0 128)).tblResult p x st last
  else (s.setData p x (fld (s.tblSet p x).snap (128 * w) 128)).tblResult p x 0 last

/-- The write of a word (R37, R39, R40): held, or the whole entry applied or staged. -/
def State.tblWriteWord (s : State) (p : Nat) (x : Path) (t : Tbl) (i w : Nat) : State :=
  let stageable := match blkOf p with | some (b, _) => b.stageable | none => false
  let staging := s.gb p (tcSTAGE x)
  let last := w + 1 == t.words
  if t.info.rw == 0 && t.info.wo == 0 then s.tblResult p x 0x9 last
  else if staging && !stageable then s.tblResult p x 0xA last
  else
    let v := s.tblSet p x
    let held := put v.held (128 * w) 128 (s.tblData p x)
    let s := s.putSet p x { v with held := held, marks := v.marks ||| 2 ^ w }
    if !last then s.tblResult p x 0 last
    else
      let e := BitVec.ofNat 1024 (held.toNat % 2 ^ t.info.width)
      let clean := fun (s : State) => s.putSet p x { s.tblSet p x with marks := 0 }
      if staging then
        if s.mezHolds then (s.tblResult p x tblUNDONE last).mezHold (.tbl p t.info.num i e) (some (p, x, last))
        else s.stageSet (.tbl p t.info.num i e) p x last
      else (clean (s.tblDirect t i e)).tblResult p x 0 last

/-- An operation starts: BUSY, and the check of R38 before anything is touched. DEDUCED, unsafe: log entries 131, 132. -/
def State.tblStart (s : State) (p : Nat) (x : Path) (write : Bool) : State :=
  let s := s.sf p (tcBUSY x) 1
  let i := s.gf p (taINDEX x)
  let w := s.gf p (taWORD x)
  if !s.awakePage p then s.tblResult p x 0x3 false
  else match tblAt p (s.gf p (taTABLE x)) with
  | none => s.tblResult p x 0x2 false
  | some t =>
    if t.info.count ≤ i then s.tblResult p x 0x1 false
    else if t.words ≤ w then s.tblResult p x 0x2 false
    else if write then s.tblWriteWord p x t i w
    else s.tblReadWord p x t i w

/-- A write of TBL_CMD (R37); ignored while BUSY is 1 (R40). -/
def State.tblCmd (s : State) (p : Nat) (x : Path) (v : Word) : State :=
  if s.gb p (tcBUSY x) then s else
  let s := s.sf p (tcAUTOINC x) (fld v 2 1) |>.sf p (tcSTAGE x) (fld v 3 1)
  match fld v 0 2 with
  | 0 => s
  | 3 => s.sf p (tcSTATUS x) 0x9
  | op => s.tblStart p x (op == 2)

/-- Whether a page has the register sets. -/
def pageHasTbl (p : Nat) : Bool := match blkOf p with | some (b, _) => b.hasTbl | none => false

/-- A command with an OP of its own; one to a page that an apply holds waits. DEDUCED, unsafe: log entry 131. -/
def State.tblOp (s : State) (p : Nat) (x : Path) (v : Word) (op : Nat) (i : Instr) : State :=
  if !pageHasTbl p || fld v 0 2 != op then s
  else if s.applying p then s.mezWait i
  else (s.tblCmd p x v).settle

/-- TBL_READ (R39). -/
def execTblRead (page : Nat) (set : Path) (cmd : Word) (s : State) : Host.Outcome State Fault Refusal :=
  done (s.tblOp page set cmd 1 (.tblRead page set cmd))

/-- TBL_WRITE (R39). -/
def execTblWrite (page : Nat) (set : Path) (cmd : Word) (s : State) : Host.Outcome State Fault Refusal :=
  done (s.tblOp page set cmd 2 (.tblWrite page set cmd))

/-- TBL_OP_INVALID (R37). -/
def execTblOpInvalid (page : Nat) (set : Path) (cmd : Word) (s : State) : Host.Outcome State Fault Refusal :=
  done (s.tblOp page set cmd 3 (.tblOpInvalid page set cmd))

/-- TBL_OP_DONE (R37, R40): STATUS, and AUTOINC after STATUS 0x0 or 0x4. DEDUCED, unsafe: log entry 131. -/
def State.tblDone (s : State) (p : Nat) (x : Path) : State :=
  if pageHasTbl p && s.gb p (tcBUSY x) && (s.tblSet p x).result != tblUNDONE then
    let v := s.tblSet p x
    let s := s.sf p (tcBUSY x) 0 |>.sf p (tcSTATUS x) v.result
    if s.gb p (tcAUTOINC x) && (v.result == 0 || v.result == 4) then
      if v.last then s.sf p (taINDEX x) (s.gf p (taINDEX x) + 1) |>.sf p (taWORD x) 0
      else s.sf p (taWORD x) (s.gf p (taWORD x) + 1)
    else s
  else s
def execTblOpDone (page : Nat) (set : Path) (s : State) : Host.Outcome State Fault Refusal := done (s.tblDone page set)

end Sys2Proof.Machine
end

