-- ==== Sys2Proof/Machine/Mgq.lean ====
section
/-!
DEFINITION. The management queue: the command ring, the commands, commands over MCTP (R457 to R465, R480 to R482), and the commit
and abort of a Mezzanine transaction (R470, R474).
-/

namespace Sys2Proof.Machine

/-! ### The command ring (R457, R458) -/

/-- Whether bit SIZE of a count, which a command's PHASE must equal. -/
def State.mqLap (s : State) (k : Nat) : Bool := bitAt (k % 65536) s.mqSize

/-- MGQ_DOORBELL (R458). DEDUCED, unsafe: log entry 139. -/
def State.mqDoorbell (s : State) (p : Nat) : State :=
  let c := s.gf pgMGQ MGQ.RING_STS_CCOUNT
  let p := p % 65536
  if subMod p c 16 ≤ 2 ^ s.mqSize then
    let s := s.sf pgMGQ MGQ.DB_COUNT p
    if s.gf pgMGQ MGQ.RING_STS_STATE == mqIDLE && p != c then s.sf pgMGQ MGQ.RING_STS_STATE mqRUNNING else s
  else (s.cnt pgMGQ MGQ.CNT_DB_IGNORED).error pgMGQ 3 0x02 (p + c * 2 ^ 16) 0 0

/-- RING_CTL.EN is written (R457): the counts start at 0. -/
def State.mqEnable (s : State) (on : Bool) : State :=
  let was := s.gb pgMGQ MGQ.RING_CTL_EN
  let s := s.sf pgMGQ MGQ.RING_CTL_EN (b2n on)
  if on && !was then
    s.sf pgMGQ MGQ.DB_COUNT 0 |>.sf pgMGQ MGQ.RING_STS_CCOUNT 0 |>.sf pgMGQ MGQ.RING_STS_STOP_CODE 0
      |>.sf pgMGQ MGQ.RING_STS_STATE mqIDLE
  else if !on && was then s.sf pgMGQ MGQ.RING_STS_STATE mqDISABLED
  else s

/-- MGQ_RING_RESUME (R458). -/
def State.mqResume (s : State) : State :=
  if s.gf pgMGQ MGQ.RING_STS_STATE == mqSTOPPED then
    s.sf pgMGQ MGQ.RING_STS_STATE (if s.gf pgMGQ MGQ.DB_COUNT == s.gf pgMGQ MGQ.RING_STS_CCOUNT then mqIDLE else mqRUNNING)
  else s

/-- The ring stops with a stop code. -/
def State.mqStop (s : State) (code : Nat) : State :=
  (s.sf pgMGQ MGQ.RING_STS_STATE mqSTOPPED |>.sf pgMGQ MGQ.RING_STS_STOP_CODE code).error pgMGQ 2 0x01
    (s.gf pgMGQ MGQ.RING_STS_CCOUNT + code * 2 ^ 16) 0 0

/-- Whether MGQ takes new commands (R29, R480), and whether it may fetch one from the ring: the host port may read (R64, R82). DEDUCED,
unsafe: log entry 142. -/
def State.mqTakes (s : State) : Bool := s.active pgMGQ && !s.quiesce pgMGQ && s.mgq.cur.isNone
/-- DEDUCED, unsafe: log entries 140, 142. -/
def State.mqMayFetch (s : State) : Bool :=
  s.mayMaster 0 && s.npFits 0 && s.mqTakes && s.mgq.queued.isNone && s.gf pgMGQ MGQ.RING_STS_STATE == mqRUNNING
    && s.gf pgMGQ MGQ.DB_COUNT != s.gf pgMGQ MGQ.RING_STS_CCOUNT

/-- A command starts. -/
def State.mqBegin (s : State) (run : MgqRun) : State :=
  { s with mgq := { s.mgq with cur := some run } }.sf pgMGQ MGQ.EXEC_STS_OP (mqOp run.cmd) |>.sf pgMGQ MGQ.EXEC_STS_BUSY 1
    |>.sf pgMGQ MGQ.EXEC_STS_SOURCE (b2n run.mctp)

/-- A command without its driver-side completion bits. -/
def mqFields (c : BitVec 512) : BitVec 512 := BitVec.ofNat 512 (c.toNat % 2 ^ 384)

/-! ### Commit and abort (R470, R474) -/

/-- Whether a staged write stages an RWL field. -/
def Staged.rwl (w : Staged) : Bool :=
  match w with
  | .reg a _ => (match infoAt a with | some (_, _, r) => r.rwl != 0 | none => false)
  | .tbl _ _ _ _ => false

/-- Why an affected page refuses the commit: asleep, off or not ACTIVE; RWL and LOCK. -/
def State.commitBar (s : State) (w : Staged) : Nat :=
  let p := headPage w.page
  if !s.awakePage p || !s.active p then 2 else if w.rwl && s.gb p HDR.PAGE_CTL_LOCK then 3 else 0

/-- The reason of a refusal with the target, if any. DESIGN CHOICE, unsafe: log entry 144. -/
def State.commitReason (s : State) : Option (Option Staged × Nat) :=
  if s.gb pgMEZ MEZ.MEZ_STS_CONFLICT then some (none, 1)
  else if s.gb pgMEZ MEZ.MEZ_STS_OVERFLOW then some (none, 4)
  else match s.mez.staged.find? (fun w => s.commitBar w != 0) with
  | some w => some (some w, s.commitBar w)
  | none => none

/-- A refused commit discards the transaction (R470). DESIGN CHOICE, unsafe: log entry 144. -/
def State.commitRefuse (s : State) (w : Option Staged) (reason : Nat) : State :=
  let s := match w with
    | some w => s.nameConflict w reason
    | none => if reason == 4 then s.setReg (raddr pgMEZ 0x54) (BitVec.ofNat 32 (4 * 2 ^ 28)) |>.setReg (raddr pgMEZ 0x58) 0 else s
  let c1 := (s.reg (raddr pgMEZ 0x54)).toNat
  let c2 := (s.reg (raddr pgMEZ 0x58)).toNat
  let n := s.mez.staged.length
  ((s.mezDiscard.sf pgMEZ MEZ.MEZ_STS_LAST_STATUS 0x0B).cnt pgMEZ MEZ.CNT_REFUSED).error pgMEZ 1 0x01 c1 c2 n

/-- A commit: the STATUS it ends with at once, or none when it is accepted. DESIGN CHOICE, unsafe: log entry 144; DEDUCED, unsafe: log entry 156. -/
def State.mezCommit (s : State) : State × Option Nat :=
  if s.mezSt == mzAPPLYING then (s.sf pgMEZ MEZ.MEZ_STS_LAST_STATUS 0x0C, some 0x0C)
  else if s.mez.staged.isEmpty then (s.sf pgMEZ MEZ.MEZ_STS_LAST_STATUS 0, some 0)
  else match s.commitReason with
  | some (w, reason) => (s.commitRefuse w reason, some 0x0B)
  | none => ({ s with mez := { s.mez with start := s.clock } }.sf pgMEZ MEZ.MEZ_STS_STATE mzAPPLYING, none)

/-- An abort: its STATUS and the writes discarded. DESIGN CHOICE, unsafe: log entry 144; DEDUCED, unsafe: log entry 156. -/
def State.mezAbort (s : State) : State × Nat × Nat :=
  if s.mezSt == mzAPPLYING then (s.sf pgMEZ MEZ.MEZ_STS_LAST_STATUS 0x0C, 0x0C, 0)
  else
    let n := s.mez.staged.length
    let s := s.sf pgMEZ MEZ.MEZ_STS_LAST_STATUS 0
    if n == 0 then (s, 0, 0) else (s.mezDiscard.cnt pgMEZ MEZ.CNT_ABORTS, 0, n)

/-! ### The commands (R461 to R464) -/

/-- The table a command names (R461): block ID, instance, table. -/
def mqTable (arg0 : Nat) : Option Tbl :=
  allTbls.find? (fun t => (match blkOf t.info.page with
    | some (b, k) => b.id == bits arg0 0 8 && instanceField b k == bits arg0 8 12
    | none => false) && t.info.num == bits arg0 20 4)

/-- The bytes of an entry in a buffer (R463). -/
def Tbl.bytes (t : Tbl) : Nat := 16 * t.words

/-- Whether data of a length is too much for MCTP (R465). -/
def mqTooLong (run : MgqRun) (n : Nat) : Bool := run.mctp && 1024 < n

/-- Whether the buffer address of a ring command is out of its range (R460). DEDUCED, unsafe: log entry 141. -/
def mqBadAddr (run : MgqRun) : Bool := !run.mctp && fld run.cmd 64 4 != 0

/-- What a bulk transfer is refused for before anything is done: its table, or a STATUS. DEDUCED, unsafe: log entries 140, 141. -/
def State.mqTransfer (s : State) (run : MgqRun) : Option Tbl × Nat :=
  let i := mqArg1 run.cmd % 2 ^ 24
  let n := mqArg2 run.cmd % 2 ^ 21
  if mqBadAddr run then (none, 0x01) else
  match mqTable (mqArg0 run.cmd) with
  | none => (none, 0x03)
  | some t =>
    if t.info.count < i + n then (none, 0x04)
    else if !s.awakePage t.info.page then (none, 0x05)
    else if mqTooLong run (n * t.bytes) then (none, 0x01)
    else (some t, 0)

/-- Entries staged one by one until the Mezzanine is full (R463, R468). -/
def State.mqStageAll (s : State) (t : Tbl) : Nat → Nat → List Entry → State × Nat × Nat
  | _, n, [] => (s, n, 0)
  | i, n, e :: rest =>
    match s.stage (.tbl t.info.page t.info.num i e) with
    | (s, 0) => s.mqStageAll t (i + 1) (n + 1) rest
    | (s, r) => (s, n, if r == 4 then 0x0C else if r == 1 then 0x09 else 0x0A)

/-- The source data of a command: the bytes there are, cut to the length, and whether all of them came. -/
def mqSource (src : HostFetch) (n : Nat) : List Byte × Bool :=
  match src with
  | .data b => (b.take n, n ≤ b.length)
  | .failed => ([], n == 0)

/-- TBL_LOAD (R463); one that stages waits before a quiesced MEZ (R29). DEDUCED, unsafe: log entry 141; DESIGN CHOICE, unsafe: log entry 158. -/
def State.mqLoad (s : State) (run : MgqRun) (src : HostFetch) : State :=
  match s.mqTransfer run with
  | (none, st) => s.mgqEnd run (mqStatus st)
  | (some t, _) =>
    let i := mqArg1 run.cmd % 2 ^ 24
    let n := mqArg2 run.cmd % 2 ^ 21
    let (data, whole) := mqSource src (n * t.bytes)
    if run.mctp && !whole then s.mgqEnd run (mqStatus 0x01) else
    let es := (List.range (data.length / t.bytes)).map (fun k =>
      BitVec.ofNat 1024 (ofBytes ((data.drop (k * t.bytes)).take t.bytes) % 2 ^ t.info.width))
    let stageable := match blkOf t.info.page with | some (b, _) => b.stageable | none => false
    if mqStage run.cmd then
      if !stageable then s.mgqEnd run (mqStatus 0x0A) else
      if s.mezHolds then s.mgqWait run (.mez src) else
      let (s, m, st) := s.mqStageAll t i 0 es
      s.mgqEnd run ⟨if st != 0 then st else if whole then 0 else 0x07, m, 0, 0, []⟩
    else
      let s := s.each es.zipIdx (fun e s => s.tblDirect t (i + e.2) e.1)
      s.mgqEnd run ⟨if whole then 0 else 0x07, es.length, 0, 0, []⟩

/-- What waited before a quiesced MEZ goes on, in its order (R29). DESIGN CHOICE, unsafe: log entry 158. -/
def State.mezTake (s : State) : State :=
  if s.mezHolds then s else
  let l := s.mez.held
  let s := s.each l (fun e s =>
    match e.2 with
    | some (p, x, last) => s.stageSet e.1 p x last
    | none => let (s, r) := s.stage e.1; s.sf pgMEZ MEZ.STAGE_STS_RESULT r) |> fun t => { t with mez := { t.mez with held := t.mez.held.drop l.length } }
  match s.mgq.cur with
  | some run => (match run.wait with | .mez src => s.mqLoad run src | _ => s)
  | none => s

/-- Entries read one by one: their bytes, and whether one could not be read. -/
def State.mqReadAll (s : State) (t : Tbl) : Nat → Nat → State × List Byte × Bool
  | _, 0 => (s, [], false)
  | i, n + 1 =>
    let (s, e, st) := s.tblRead t i
    let (s, rest, bad) := s.mqReadAll t (i + 1) n
    (s, bytesOf t.bytes (if st == 0 then e.toNat else 0) ++ rest, bad || st != 0)

/-- TBL_DUMP (R463). DEDUCED, unsafe: log entry 141. -/
def State.mqDump (s : State) (run : MgqRun) : State :=
  match s.mqTransfer run with
  | (none, st) => s.mgqEnd run (mqStatus st)
  | (some t, _) =>
    let n := mqArg2 run.cmd % 2 ^ 21
    let (s, data, bad) := s.mqReadAll t (mqArg1 run.cmd % 2 ^ 24) n
    s.mgqEnd run ⟨if bad then 0x08 else 0, n, 0, 0, data⟩

/-- COMMIT (R470): it waits for the end of the apply. -/
def State.mqCommit (s : State) (run : MgqRun) : State :=
  match s.mezCommit with
  | (s, none) => s.mgqWait run .commit
  | (s, some st) =>
    s.mgqEnd run (if st == 0x0B then ⟨st, 0, (s.reg (raddr pgMEZ 0x54)).toNat, (s.reg (raddr pgMEZ 0x58)).toNat, []⟩ else mqStatus st)

/-- ABORT (R474). -/
def State.mqAbort (s : State) (run : MgqRun) : State :=
  let (s, st, n) := s.mezAbort
  s.mgqEnd run ⟨st, n, 0, 0, []⟩

/-- The power request of a WAIT (R505). -/
def mqPwr (c : BitVec 512) : PwrReq := ⟨bits (mqArg0 c) 0 3, bits (mqArg0 c) 8 3, true⟩
def State.mqWaitPower (s : State) (run : MgqRun) : State := (s.mgqWait run .power).powerRequest (mqPwr run.cmd)

/-- AUDIT kind 0 (R464): a sweep at once; the timer's own sweep goes on. DESIGN CHOICE, unsafe: log entry 74. -/
def State.mqSweep (s : State) (run : MgqRun) : State :=
  let own := s.gal.audit
  let before := s.gal.taken.length
  let s := s.auditEnd
  let s := { s with gal := { s.gal with audit := own } }
  s.mgqEnd run ⟨0, before - s.gal.taken.length, 0, 0, []⟩

/-- The sum of a field of PAGE_DRAW over all pages (R34). -/
def State.drawSum (s : State) (f : Fld) : Nat :=
  ((s.regs.filter (fun e => e.1 % 4096 == f.off && (match blkOf (e.1 / 4096) with | some (b, _) => b.hasDraw | none => false))).map
    (fun e => fld e.2 f.lo f.w)).foldl (· + ·) 0

/-- AUDIT kind 1 (R464). -/
def State.mqAllowance (s : State) (run : MgqRun) : State :=
  let v := subMod (s.drawSum HDR.PAGE_DRAW_VDD) (s.gf pgCIS CIS.GRANTED_VDD) 32
  let l := subMod (s.drawSum HDR.PAGE_DRAW_VDDL) (s.gf pgCIS CIS.GRANTED_VDDL) 32
  s.mgqEnd run ⟨0, v, l, 0, []⟩

/-- The end of a PORT_TEST: DIAG_STS and RX_QUAL. DEDUCED, unsafe: log entry 143. -/
def State.mqPortDone (s : State) (n : Nat) (run : MgqRun) : State :=
  s.mgqEnd run ⟨0, (s.reg (raddr (pgPRT n) PRT.DIAG_STS_FAULT.off)).toNat, (s.reg (raddr (pgPRT n) PRT.RX_QUAL_SNR.off)).toNat, 0, []⟩

/-- PORT_TEST (R464): with the result at hand it ends; else it waits for the run to end. DEDUCED, unsafe: log entry 143. -/
def State.mqPort (s : State) (run : MgqRun) (res : Option (Nat × Nat × Bool)) : State :=
  let n := mqArg0 run.cmd % 1024
  if s.ph n == phDISABLED || s.ph n == phSLEEP || s.ph n == phWAKING then s.mgqEnd run (mqStatus 0x10)
  else match res with
  | some (fault, tap, cond) => (s.diagRun n fault tap cond).mqPortDone n run
  | none => (s.sf (pgPRT n) PRT.DIAG_STS_DONE 0).mgqWait run (.port n)

/-- DIAG_RUN (R171): a port's diagnostic, which also ends a PORT_TEST that waits for it. -/
def execDiagRun (port fault tap : Nat) (cond : Bool) (s : State) : Host.Outcome State Fault Refusal :=
  let t := s.diagRun port fault tap cond
  done (match t.mgq.cur with
    | some run => if run.wait == .port port && t.gb (pgPRT port) PRT.DIAG_STS_DONE then t.mqPortDone port run else t
    | none => t)

/-- VAULT_WRITE (R551). -/
def State.mqVault (s : State) (run : MgqRun) (src : HostFetch) : State :=
  let a0 := mqArg0 run.cmd
  let n := mqArg2 run.cmd
  let act := bits a0 4 2
  if s.vaultRefuses a0 (mqArg1 run.cmd) n || (act == 0 && (mqBadAddr run || mqTooLong run n)) then s.mgqEnd run (mqStatus 0x01)
  else if act == 1 then let (s, e) := s.vaultCommit a0; s.mgqEnd run e
  else if act == 2 then let (s, e) := s.vaultErase a0; s.mgqEnd run e
  else
    let (data, whole) := mqSource src n
    if !whole then s.mgqEnd run (mqStatus (if run.mctp then 0x01 else 0x07))
    else let (s, e) := s.vaultWrite a0 (mqArg1 run.cmd) data; s.mgqEnd run e

/-- Whether a station can be reached by a STATION command (R462, R464). DEDUCED, unsafe: log entry 143. -/
def State.stationUp (s : State) (a : Nat) : Bool :=
  s.anchorOf a == a && s.flows a && (s.lard a).ident.isSome && !s.cascadeLink a

/-- A STATION request goes out with a tag; without a free one it waits for the next. -/
def State.mqStationSend (s : State) (run : MgqRun) (a sent : Nat) : State :=
  match (if s.quiesce (pgPRT a) then none else s.freeTag a) with
  | none => s.mgqWait run (.station a 1024 sent)
  | some t =>
    let ws : List Word64 := if fld run.cmd 48 2 == 2 then [BitVec.ofNat 64 (mqArg2 run.cmd)] else []
    let op := if fld run.cmd 48 2 == 2 then opCFGWR else opCFGRD
    ((s.takeTag a t (.stationCmd (if fld run.cmd 48 2 == 2 then 0 else 1))).ownFrame a (mkCtl op t (mqArg1 run.cmd % 65536) ws)).mgqWait run (.station a t sent)

/-- STATION (R464). DEDUCED, unsafe: log entry 143. -/
def State.mqStation (s : State) (run : MgqRun) : State :=
  let a := mqArg0 run.cmd % 1024
  let kind := bits (mqArg0 run.cmd) 16 2
  if kind == 3 || (kind == 0 && mqBadAddr run) then s.mgqEnd run (mqStatus 0x01)
  else if !s.stationUp a then s.mgqEnd run (mqStatus 0x0F)
  else if kind == 0 then
    let ws := match (s.lard a).ident with | some i => i.words | none => []
    s.mgqEnd run ⟨0, 0, 0, 0, ws.flatMap (fun w => bytesOf 8 w.toNat)⟩
  else s.mqStationSend run a s.clock

/-- A command runs, with its source data and a diagnostic's result where it has them. -/
def State.mqRun (s : State) (run : MgqRun) (src : HostFetch) (res : Option (Nat × Nat × Bool)) : State :=
  let s := s.mqBegin run
  match mqOp run.cmd with
  | 0x00 => s.mgqEnd run (mqStatus 0)
  | 0x01 => s.mqLoad run src
  | 0x02 => s.mqDump run
  | 0x03 => s.mqCommit run
  | 0x04 => s.mqAbort run
  | 0x05 => s.mqWaitPower run
  | 0x06 => if mqArg0 run.cmd % 2 == 0 then s.mqSweep run else s.mqAllowance run
  | 0x07 => s.mqPort run res
  | 0x08 => s.mqVault run src
  | 0x09 => s.mqStation run
  | _ => s.mgqEnd run (mqStatus 0x01)

/-! ### Commands over MCTP (R465) -/

/-- A command's 48 bytes. -/
def mqOfBytes (l : List Byte) : BitVec 512 := BitVec.ofNat 512 (ofBytes (l.take 48))

/-- An MCTP command ends without running; a command in progress goes on. -/
def State.mqReject (s : State) (cmd : BitVec 512) (st : Nat) : State :=
  let m := s.mgq
  let sts := s.reg (raddr pgMGQ MGQ.EXEC_STS_OP.off)
  { s.mgqEnd ⟨cmd, true, 0, .commit⟩ (mqStatus st) with mgq := m }.setReg (raddr pgMGQ MGQ.EXEC_STS_OP.off) sts

/-- An MCTP command arrives: one at a time (R465), after a ring command in progress (R459). DEDUCED, unsafe: log entry 142. -/
def State.mqOverMctp (s : State) (cmd : BitVec 512) (data : List Byte) : State :=
  let busy := match s.mgq.cur with | some run => run.mctp | none => false
  if !s.active pgMGQ then s.mqReject cmd 0x0A
  else if busy || s.mgq.queued.isSome then s.mqReject cmd 0x14
  else if s.mqTakes then s.mqRun ⟨cmd, true, 0, .commit⟩ (.data data) none
  else { s with mgq := { s.mgq with queued := some (cmd, data) } }

/-- What waits before MEZ or the host port goes on, a command that waits is taken, and a STATION command that waits for a tag gets one.
DESIGN CHOICE, unsafe: log entry 159. -/
def State.mgqPump (s : State) : State :=
  let s := s.mezTake
  let s := if s.mayMaster 0 && !s.mgq.outbox.isEmpty then s.mgqFlush else s
  let s := match s.mgq.cur with
    | some run => (match run.wait with
      | .station a t sent => if t == 1024 && s.stationUp a then s.mqStationSend run a sent else s
      | _ => s)
    | none => s
  match s.mgq.queued with
  | some (cmd, data) =>
    if !s.active pgMGQ then { s with mgq := { s.mgq with queued := none } }.mqReject cmd 0x0A
    else if s.mqTakes then { s with mgq := { s.mgq with queued := none } }.mqRun ⟨cmd, true, 0, .commit⟩ (.data data) none
    else s
  | none => s

/-! ### The commands of the ring -/

/-- A slot is fetched: a wrong PHASE stops the ring; a command of the row runs. DEDUCED, unsafe: log entry 140. -/
def State.mqFetched (s : State) (cmd : BitVec 512) (row : BitVec 512 → Bool) (src : HostFetch) (res : Option (Nat × Nat × Bool)) :
    State :=
  let k := s.gf pgMGQ MGQ.RING_STS_CCOUNT
  if !s.mqMayFetch then s
  else if mqPhase cmd != s.mqLap k then s.mqStop 0x02
  else if !row cmd then s
  else ((s.sf pgMGQ MGQ.RING_STS_CCOUNT ((k + 1) % 65536)).mqRun ⟨mqFields cmd, false, k, .commit⟩ src res).settle.mgqPump.settle

def isOp (op : Nat) (c : BitVec 512) : Bool := mqOp c == op
def isVault (act : Nat) (c : BitVec 512) : Bool := mqOp c == 0x08 && bits (mqArg0 c) 4 2 == act
def isStation (kind : Nat) (c : BitVec 512) : Bool := mqOp c == 0x09 && bits (mqArg0 c) 16 2 == kind

/-- MGQ_DOORBELL: a write of DB. -/
def execMgqDoorbell (count : Nat) (s : State) : Host.Outcome State Fault Refusal := done (s.mqDoorbell count)

/-- MGQ_RING_RESUME. -/
def execMgqRingResume (s : State) : Host.Outcome State Fault Refusal := done s.mqResume

/-- RING_STOP (R458): a failed fetch, or a fetched slot whose PHASE is wrong. -/
def execRingStop (fetchOk : Bool) (cmd : BitVec 512) (s : State) : Host.Outcome State Fault Refusal :=
  done (if !s.mqMayFetch then s
    else if !fetchOk then s.mqStop 0x07
    else if mqPhase cmd != s.mqLap (s.gf pgMGQ MGQ.RING_STS_CCOUNT) then s.mqStop 0x02
    else s)

/-- NOP. -/
def execNop (cmd : BitVec 512) (s : State) : Host.Outcome State Fault Refusal := done (s.mqFetched cmd (isOp 0x00) .failed none)
/-- TBL_LOAD. -/
def execTblLoad (cmd : BitVec 512) (src : HostFetch) (s : State) : Host.Outcome State Fault Refusal :=
  done (s.mqFetched cmd (isOp 0x01) src none)
/-- TBL_DUMP. -/
def execTblDump (cmd : BitVec 512) (s : State) : Host.Outcome State Fault Refusal := done (s.mqFetched cmd (isOp 0x02) .failed none)
/-- COMMIT. -/
def execCommit (cmd : BitVec 512) (s : State) : Host.Outcome State Fault Refusal := done (s.mqFetched cmd (isOp 0x03) .failed none)
/-- ABORT. -/
def execAbort (cmd : BitVec 512) (s : State) : Host.Outcome State Fault Refusal := done (s.mqFetched cmd (isOp 0x04) .failed none)
/-- WAIT (R506). -/
def execWait (cmd : BitVec 512) (s : State) : Host.Outcome State Fault Refusal := done (s.mqFetched cmd (isOp 0x05) .failed none)
/-- AUDIT kind 0. -/
def execAuditGallery (cmd : BitVec 512) (s : State) : Host.Outcome State Fault Refusal :=
  done (s.mqFetched cmd (fun c => isOp 0x06 c && mqArg0 c % 2 == 0) .failed none)
/-- AUDIT kind 1. -/
def execAuditAllowance (cmd : BitVec 512) (s : State) : Host.Outcome State Fault Refusal :=
  done (s.mqFetched cmd (fun c => isOp 0x06 c && mqArg0 c % 2 == 1) .failed none)
/-- PORT_TEST, with what the sweep finds. -/
def execPortTest (cmd : BitVec 512) (fault tap : Nat) (cond : Bool) (s : State) : Host.Outcome State Fault Refusal :=
  done (s.mqFetched cmd (isOp 0x07) .failed (some (fault, tap, cond)))
/-- VAULT_WRITE action WRITE, and the reserved action (R551). -/
def execVaultWriteData (cmd : BitVec 512) (src : HostFetch) (s : State) : Host.Outcome State Fault Refusal :=
  done (s.mqFetched cmd (fun c => isVault 0 c || isVault 3 c) src none)
/-- VAULT_WRITE action COMMIT. -/
def execVaultCommit (cmd : BitVec 512) (s : State) : Host.Outcome State Fault Refusal := done (s.mqFetched cmd (isVault 1) .failed none)
/-- VAULT_WRITE action ERASE. -/
def execVaultErase (cmd : BitVec 512) (s : State) : Host.Outcome State Fault Refusal := done (s.mqFetched cmd (isVault 2) .failed none)
/-- STATION kind IDENT. -/
def execStationIdent (cmd : BitVec 512) (s : State) : Host.Outcome State Fault Refusal := done (s.mqFetched cmd (isStation 0) .failed none)
/-- STATION kind CFG_RD. -/
def execStationCfgRd (cmd : BitVec 512) (s : State) : Host.Outcome State Fault Refusal := done (s.mqFetched cmd (isStation 1) .failed none)
/-- STATION kind CFG_WR. -/
def execStationCfgWr (cmd : BitVec 512) (s : State) : Host.Outcome State Fault Refusal := done (s.mqFetched cmd (isStation 2) .failed none)
/-- A reserved OP, and STATION's reserved kind. -/
def execMgqReservedOp (cmd : BitVec 512) (s : State) : Host.Outcome State Fault Refusal :=
  done (s.mqFetched cmd (fun c => 0x0A ≤ mqOp c || isStation 3 c) .failed none)

/-- STATION_CMD_TIMEOUT (R464): the tag stays held. -/
def execStationCmdTimeout (s : State) : Host.Outcome State Fault Refusal :=
  done (match s.mgq.cur with
    | some run => (match run.wait with
      | .station _ _ sent => if s.due (sent + ms 10) then (s.mgqEnd run (mqStatus 0x12)).settle.mgqPump.settle else s
      | _ => s)
    | none => s)

/-- MEZ_COMMIT: MEZ_CTL.COMMIT is written. -/
def execMezCommit (s : State) : Host.Outcome State Fault Refusal := done s.mezCommit.1

/-- MEZ_ABORT: MEZ_CTL.ABORT is written. -/
def execMezAbort (s : State) : Host.Outcome State Fault Refusal := done s.mezAbort.1

end Sys2Proof.Machine
end

