-- ==== Sys2Proof/Machine/Pages.lean ====
section
/-!
DEFINITION. The common page header (R27 to R33): enable, disable, quiesce, lock, the event registers, the error capture, and the
clearing of counters.
-/

namespace Sys2Proof.Machine

/-- The event bits a block lists (R48, R87, R138, R143, R184, R232, R297, R324, R351, R356, R388, R392, R424, R428, R456, R479,
R482, R496, R499, R530, R533, R559, R576). -/
def Blk.events : Blk → Nat
  | .dev | .oas | .vlt => 5
  | .mgq | .mez | .cis | .cvn | .lnd => 4
  | .flt | .sch | .cve => 3
  | .mir | .pol | .erg => 1
  | .wad | .ergc => 7
  | .hst => 10
  | .brg => 9
  | .swc => 11
  | .hlm => 6
  | .hal => 19
  | .prt => 23

/-- Blocks whose enable makes them ACTIVE at once (R321, R420, R447, R476, R480), and those that take time (R30, R289).
DESIGN CHOICE, unsafe: log entry 134. -/
def Blk.atOnce : Blk → Bool
  | .wad | .hlm | .lnd | .mez | .mgq => true
  | .dev | .oas | .cis | .vlt | .flt | .hst | .brg | .mir | .swc | .erg | .ergc | .sch | .pol | .cvn | .cve | .prt | .hal => false
/-- DESIGN CHOICE, unsafe: log entry 134. -/
def Blk.slow : Blk → Bool
  | .brg | .mir | .swc | .sch | .pol | .cvn => true
  | .dev | .oas | .cis | .vlt | .flt | .hst | .erg | .ergc | .wad | .hlm | .lnd | .mez | .mgq | .cve | .prt | .hal => false

/-- The counters of a block's pages that one CNT_CLR clears: the first and the last offset. -/
def Blk.counters : Blk → Option (Nat × Nat)
  | .mgq | .oas | .cis | .cve => some (0x80, 0x8C)
  | .mez | .flt => some (0x80, 0x94)
  | .hst | .prt | .ergc => some (0x80, 0x9C)
  | .brg | .wad | .hlm => some (0xC0, 0xDC)
  | .mir | .sch | .pol | .vlt => some (0xC0, 0xCC)
  | .cvn => some (0xC0, 0xD4)
  | .lnd => some (0xE0, 0xFC)
  | .swc => some (0x100, 0x12C)
  | .dev | .erg | .hal => none

/-- A row about a page: one to a page that an apply holds waits for its end (R473). -/
def State.pageRow (s : State) (p : Nat) (i : Instr) (f : Blk → Nat → State → State) : State :=
  match blkOf p with
  | some (b, k) => if s.applying p then s.mezWait i else f b k s
  | none => s

/-! ### Enable (R28, R30) -/

/-- EN and EN_PENDING of a page. -/
def State.setEn (s : State) (p : Nat) (en pending : Bool) : State :=
  s.sf p HDR.PAGE_CTL_EN (b2n en) |>.sf p HDR.PAGE_STS_EN_PENDING (b2n pending)

/-- A block becomes ACTIVE: the Gallery's free list is new, metering and Landing take up their work. DEDUCED, unsafe: log entry 133. -/
def State.pageOn (s : State) (p : Nat) : State :=
  let s := (s.setEn p true false).sf p HDR.PAGE_STS_ACTIVE 1
  let s := if p == pgPOL then s.polRest false
    else if p == pgLND then s.lndActivated
    else if p == pgSWC then ({ s with gal := { s.gal with taken := [], unowned := [], audit := none } }).galUpdate
    else if p == pgBRG then s.acceptHeld
    else s
  s.settle

/-- A port leaves DISABLED for DETECT (R154, R178): with it an asleep group wakes, in one admission. DEDUCED, unsafe: log entry 151. -/
def State.portEnable (s : State) (n : Nat) : State :=
  let p := pgPRT n
  let awake := s.groupAwake n
  let s := s.takeRate n (s.newRate n)
  let d := portDraw (s.rateMax n)
  match s.askCistern p (if awake then [(p, d.1, d.2)] else s.wakeReqs [n]) with
  | (s, true) =>
    let s := (s.setEn p true false).sf p HDR.PAGE_STS_ACTIVE 1
    let s := if awake then s else s.wakeGroups [n]
    (s.enterPh n phDETECT).startTraining n
  | (s, false) =>
    let s := s.setEn p false false
    if awake then s else s.sf (pgPRT (groupBase n)) PRT.GRP_STS_NOT_ADMITTED 1

/-- Whether the feature of a block's pages is enabled (R46). DEDUCED, unsafe: log entry 135. -/
def State.featOn (s : State) (b : Blk) : Bool :=
  match b with
  | .erg | .ergc => s.gb pgDEV DEV.FEAT_EN_ERG
  | .mez => s.gb pgDEV DEV.FEAT_EN_MEZ
  | .hlm => s.gb pgDEV DEV.FEAT_EN_HALLS
  | _ => true

/-- PAGE_ENABLE: 1 is written to EN. DESIGN CHOICE, unsafe: log entry 134; DEDUCED, unsafe: log entry 135. -/
def State.pageEnable (s : State) (p : Nat) (b : Blk) (k : Nat) : State :=
  if b.alwaysOn || b == .hst || b == .hal || s.gb p HDR.PAGE_STS_EN_PENDING || s.gb p HDR.PAGE_CTL_EN || !s.featOn b then s
  else if b.atOnce then if s.awakePage p then s.pageOn p else s.setEn p true true
  else if b.slow then s.setEn p true true
  else match b with
  | .prt => s.portEnable k
  | .cve =>
    (match s.askCistern p [(p, 0, 0)] with
    | (s, true) => s.pageOn p
    | (s, false) => s)
  | .erg =>
    (match s.askCistern p [(p, 40, 0)] with
    | (s, true) => s.setEn p true true
    | (s, false) => s)
  | .ergc => s.ergEnable k
  | _ => s
def execPageEnable (page : Nat) (s : State) : Host.Outcome State Fault Refusal :=
  done (s.pageRow page (.pageEnable page) (fun b k s => s.pageEnable page b k))

/-- ENABLE_READY: the clocks run and the state is ready. -/
def execEnableReady (page : Nat) (s : State) : Host.Outcome State Fault Refusal :=
  done (match blkOf page with
    | some (b, _) =>
      if (b.atOnce || b.slow) && s.gb page HDR.PAGE_CTL_EN && s.gb page HDR.PAGE_STS_EN_PENDING && !s.active page && s.awakePage page then
        s.pageOn page
      else s
    | none => s)

/-! ### Quiesce and disable (R28 to R30) -/

/-- Whether the block of a page holds no work in progress. DEDUCED, unsafe: log entry 133. -/
def State.quiet (s : State) (b : Blk) (k : Nat) : Bool :=
  match b with
  | .dev | .oas | .cis | .flt | .wad | .pol | .lnd => true
  | .mgq => s.mgq.cur.isNone
  | .mez => s.mezSt != mzAPPLYING
  | .hst => s.host.reqs.isEmpty
  | .vlt => s.stopOk 11 0
  | .brg => s.brg.accs.isEmpty
  | .mir => s.stopOk 1 0
  | .swc => s.gal.frames.all (fun g => g.2.back == 0) && s.gal.queues.all (fun q => q.2.isEmpty ||
      (if isHostQueue q.1 then !s.gb pgHST HST.LINK_STS_DL_UP else !lkRuns (s.lk (q.1 / 8))))
  | .erg => (List.range 4).all (fun c => !s.active (pgERGC c) && !s.gb (pgERGC c) HDR.PAGE_STS_EN_PENDING)
  | .ergc => s.ergIdle k
  | .sch => s.links.all (fun l => l.2.txq.isEmpty && l.2.sending.isEmpty)
  | .cvn => s.stopOk 0 0
  | .cve => s.engSt k == enIDLE && (s.eng k).ring.isNone
  | .hlm => s.stopOk 6 0
  | .prt => (s.link k).txq.isEmpty && (s.link k).held.isEmpty || s.ph k == phDISABLED
  | .hal => s.cvn.engines.all (fun e => match e.2.ring with | some g => ringHall g != k | none => true)

/-- A port stops at once and is DISABLED (R154): its link loses a member. DEDUCED, unsafe: log entry 133. -/
def State.portOff (s : State) (n : Nat) : State :=
  let s := if s.apart n then s else s.linkDrop (s.anchorOf n)
  let p := s.port n
  let s := s.setPort n { p with armed := false, lockout := none, wakeAt := none, toSleep := none, locked := false }
  (s.enterPh n phDISABLED).sf (pgPRT n) PRT.PHY_STS_BLOCK_LOCK 0 |>.sf (pgPRT n) PRT.PHY_STS_ALIGNED 0
    |>.sf (pgPRT n) PRT.PHY_STS_POL_INV 0 |>.sf (pgPRT n) PRT.PEER_CAP_VALID 0

/-- The allowance of a page that is disabled; an awake group keeps its share (R178). -/
def State.returnDraw (s : State) (p : Nat) (b : Blk) (k : Nat) : State :=
  if b == .prt && k % 16 == 0 && s.groupAwake k then s.setDraw p groupDraw.1 groupDraw.2
  else if b == .cve then (s.sf p CVE.ENG_STS_POWERED 0).giveBackAll p
  else if b.hasDraw then s.giveBackAll p else s

/-- An enabled page whose EN becomes 0 (R28, R30). -/
def State.pageStop (s : State) (p : Nat) (b : Blk) (k : Nat) : State :=
  if !s.active p || !s.awakePage p then
    let s := (s.setEn p false false).sf p HDR.PAGE_STS_ACTIVE 0
    let s := if b == .prt then s.portOff k else s
    s.returnDraw p b k
  else
    let s := s.setEn p false true
    let s := if s.gb p HDR.PAGE_CTL_QUIESCE then s else
      { s with sys := { s.sys with devQuiet := p :: s.sys.devQuiet } }.setQuiesce p true
    let s := match b with
      | .prt => s.portOff k
      | .mez => s.mezAbort.1
      | .swc => (s.each s.gal.queues (fun q s => s.flushQueue q.1)).galUpdate
      | _ => s
    s.settle

/-- PAGE_DISABLE: 0 is written to EN. DEDUCED, unsafe: log entry 133. -/
def State.pageDisable (s : State) (p : Nat) (b : Blk) (k : Nat) : State :=
  if b.alwaysOn || b == .hst || b == .hal || s.gb p HDR.PAGE_STS_EN_PENDING || !s.gb p HDR.PAGE_CTL_EN
      || (b == .ergc && s.gb pgSWC SWC.SWC_CTL_SPILL_EN && s.gal.joined.contains k) then s
  else s.pageStop p b k

/-- A page whose feature is off (R46): its EN is 0. One that was being enabled gives its allowance back. DEDUCED, unsafe: log entry 135. -/
def State.featureOff (s : State) (p : Nat) (b : Blk) (k : Nat) : State :=
  if s.featOn b || !s.gb p HDR.PAGE_CTL_EN then s
  else if s.gb p HDR.PAGE_STS_EN_PENDING then
    let s := if b == .ergc then s.ergRest k else s
    (s.setEn p false false).returnDraw p b k
  else s.pageStop p b k

/-- FEAT_EN is written (R46): the pages of every feature that is off are disabled. DEDUCED, unsafe: log entry 135. -/
def State.featChange (s : State) : State :=
  s.each ((List.range 4).map pgERGC ++ [pgERG, pgMEZ, pgHLM]) (fun p s =>
    match blkOf p with
    | some (b, k) => s.featureOff p b k
    | none => s)
def execPageDisable (page : Nat) (s : State) : Host.Outcome State Fault Refusal :=
  done (s.pageRow page (.pageDisable page) (fun b k s => s.pageDisable page b k))

/-- DISABLE_GATE: the block is quiescent after a disable and is gated. DEDUCED, unsafe: log entry 106. -/
def State.disableGate (s : State) (p : Nat) (b : Blk) (k : Nat) : State :=
  if s.gb p HDR.PAGE_STS_EN_PENDING && !s.gb p HDR.PAGE_CTL_EN && s.active p && s.quiet b k then
    let s := if b == .pol then s.polRest true else s
    let s := s.sf p HDR.PAGE_STS_ACTIVE 0
    let s := if b == .ergc then s.ergRest k else if b == .erg then s.ergShow else if b == .mez then s.mezTake else s
    let s := (s.returnDraw p b k).sf p HDR.PAGE_STS_EN_PENDING 0
    let s := if s.sys.devQuiet.contains p then
        { s with sys := { s.sys with devQuiet := s.sys.devQuiet.filter (· != p) } }.setQuiesce p false
      else s.sf p HDR.PAGE_STS_QUIESCED 1
    (if b == .lnd then s.irqPin else s).settle
  else s
def execDisableGate (page : Nat) (s : State) : Host.Outcome State Fault Refusal :=
  done (match blkOf page with | some (b, k) => s.disableGate page b k | none => s)

/-- QUIESCE is written by software; the QUIESCE a disable set stays until the gating (R28). DEDUCED, unsafe: log entry 133. -/
def State.quiesceWrite (s : State) (p : Nat) (v : Bool) : State :=
  if s.sys.devQuiet.contains p || s.gb p HDR.PAGE_CTL_QUIESCE == v then s else (s.setQuiesce p v).mezTake.settle

/-- QUIESCE_SET. -/
def execQuiesceSet (page : Nat) (s : State) : Host.Outcome State Fault Refusal :=
  done (s.pageRow page (.quiesceSet page) (fun _ _ s => s.quiesceWrite page true))

/-- QUIESCE_CLEAR. -/
def execQuiesceClear (page : Nat) (s : State) : Host.Outcome State Fault Refusal :=
  done (s.pageRow page (.quiesceClear page) (fun _ _ s => s.quiesceWrite page false))

/-- QUIESCED. -/
def execQuiesced (page : Nat) (s : State) : Host.Outcome State Fault Refusal :=
  done (match blkOf page with
    | some (b, k) => if s.gb page HDR.PAGE_CTL_QUIESCE && s.quiet b k then s.sf page HDR.PAGE_STS_QUIESCED 1 else s
    | none => s)

/-- PAGE_LOCK (R27). -/
def execPageLock (page : Nat) (s : State) : Host.Outcome State Fault Refusal :=
  done (s.pageRow page (.pageLock page) (fun _ _ s => s.sf page HDR.PAGE_CTL_LOCK 1))

/-! ### Events, captures, counters -/

/-- EVT_RAW is written, in the cycle in which hardware sets some bits: the hardware set wins (R32). DEDUCED, unsafe: log entry 136. -/
def State.evtClear (s : State) (p : Nat) (b : Blk) (ones hwSet : Word) : State :=
  let raw := s.reg (raddr p 0x10)
  let new := ((raw &&& ~~~ones) ||| hwSet) &&& BitVec.ofNat 32 (2 ^ b.events - 1)
  (s.setReg (raddr p 0x10) new).pageSource p true
def execEvtRawClear (page : Nat) (ones hwSet : Word) (s : State) : Host.Outcome State Fault Refusal :=
  done (s.pageRow page (.evtRawClear page ones hwSet) (fun b _ s => s.evtClear page b ones hwSet))

/-- EVT_EN is written (R31, R430). DEDUCED, unsafe: log entry 136. -/
def State.evtEn (s : State) (p : Nat) (v : Word) : State := (s.setReg (raddr p 0x14) v).pageSource p true
def execEvtEnWrite (page : Nat) (value : Word) (s : State) : Host.Outcome State Fault Refusal :=
  done (s.pageRow page (.evtEnWrite page value) (fun _ _ s => s.evtEn page value))

/-- EVT_FORCE is written (R31): no capture. DEDUCED, unsafe: log entry 136. -/
def State.evtForce (s : State) (p : Nat) (b : Blk) (v : Word) : State :=
  (s.setReg (raddr p 0x10) (s.reg (raddr p 0x10) ||| (v &&& BitVec.ofNat 32 (2 ^ b.events - 1)))).pageSource p true
def execEvtForce (page : Nat) (bits : Word) (s : State) : Host.Outcome State Fault Refusal :=
  done (s.pageRow page (.evtForce page bits) (fun b _ s => s.evtForce page b bits))

/-- ERR_CAP_RELEASE (R33). -/
def execErrCapRelease (page : Nat) (s : State) : Host.Outcome State Fault Refusal :=
  done (s.pageRow page (.errCapRelease page) (fun _ _ s => s.capWrite page 1))

/-- CNT_CLR.CLEAR of a page; section 2 is the LINK section of a port's page (R231). -/
def State.cntClear (s : State) (p : Nat) (b : Blk) (section2 : Bool) : State :=
  if section2 then if b == .prt then s.clearRange p 0x180 0x1C0 else s
  else match b.counters with
  | some (lo, hi) => s.clearRange p lo hi
  | none => s
def execCntClear (page : Nat) (section2 : Bool) (s : State) : Host.Outcome State Fault Refusal :=
  done (s.pageRow page (.cntClear page section2) (fun b _ s => s.cntClear page b section2))

end Sys2Proof.Machine
end

