-- ==== Sys2Proof/Machine/RegWrite.lean ====
section
/-!
DEFINITION. Register accesses: which registers an access reaches (R20, R23 to R26), what each reads as, and what each write does.
-/

namespace Sys2Proof.Machine

/-! ### Who asks, and what is reached -/

/-- An access to a register: the path, and the way into BAR0. -/
structure RegWho where
  path : Path
  via  : BarPath
  deriving DecidableEq, Repr

/-- The requester as DEV captures it (R48): the PCIe requester ID of the request, or 0xFFFF for the SMBus path. DESIGN CHOICE, unsafe: log
entry 98. -/
def RegWho.requester (w : RegWho) : Nat :=
  match w.path with
  | .smb => 0xFFFF
  | .host => viaRequester w.via

/-- The BAR0 address an access reaches; a doorbell slot leads to its hall's page (R60), or nowhere. -/
def State.regTarget (s : State) (w : RegWho) (addr : Nat) : State × Option Nat :=
  match w.via with
  | .pf0 _ => (s, some (addr % 2 ^ 26))
  | .slot _ _ _ _ =>
    match s.halAccess w.via 0 (addr % 4096) with
    | (s, some h) => (s, some (raddr (pgHAL h) (addr % 4096)))
    | (s, none) => (s, none)

/-- The pages that continue BRG and SWC with listed registers (R137, R296). -/
def contPage (p : Nat) : Bool := p == 0x11 || p == 0x31

/-- Registers that a block whose domain is asleep or off still serves (R20). -/
def heldReg (b : Blk) (r : RegInfo) : Bool := r.off < 0x40 || (b.hasTbl && r.off < 0x80) || r.held

/-- What an access meets: 0 a register, 2 reserved space, 3 a block asleep or off. -/
def State.regMeets (s : State) (a : Nat) : Nat :=
  if contPage (a / 4096) then (if s.awakePage (headPage (a / 4096)) then 0 else 3)
  else match infoAt a with
  | none => 2
  | some (b, _, r) => if s.awakePage (a / 4096) || heldReg b r then 0 else 3

/-- The event of an access that meets no register (R26). -/
def State.regMissed (s : State) (w : RegWho) (a code : Nat) : State :=
  if code == 2 then s.devError 1 a w.requester else s.devError 2 a w.requester

/-! ### Reads -/

/-- TAGS_OUT (R137) and LINKQ (R296). -/
def State.tagsOut (s : State) (n : Nat) : Nat :=
  if s.anchorOf n == n then (s.lard n).tags.length + min (s.tagWaiters n) 2047 * 2 ^ 16 else 0
def State.linkQ (s : State) (n : Nat) : Nat :=
  let l := s.link n
  let held := !s.flows n && (List.range 8).any (fun c => !(s.queue (portQueue n c)).isEmpty)
  if s.anchorOf n != n then 0 else l.session % 256 + b2n held * 2 ^ 8 + b2n l.sweeping * 2 ^ 9

/-- The engines that are ACTIVE and idle, of 32 (R384). -/
def State.engIdle (s : State) (k : Nat) : Nat :=
  ((List.range 32).map (fun i =>
    b2n (s.active (pgCVE (32 * k + i)) && s.engSt (32 * k + i) == enIDLE && (s.eng (32 * k + i)).ring.isNone) * 2 ^ i)).foldl (· + ·) 0

/-- Words that follow other state: the mirrors of a hall's page (R426, R427). -/
def State.halWord (s : State) (h off : Nat) (w : Word) : Word :=
  let g := 8 * h + (off / 4) % 8
  let b := fun (n : Nat) => BitVec.ofNat 32 n
  if off == 0x08 then put w 0 1 (b2n (s.hallSt h == hlBOUND))
  else if off == 0x0C then put w 0 1 (b2n (s.hallSt h == hlBOUND && s.sys.coreOn))
  else if 0x40 ≤ off && off < 0x60 then b (s.tf .rng g T_RNG.PCOUNT)
  else if 0x60 ≤ off && off < 0x80 then
    b (s.ringSt g + s.tf .rng g T_RNG.STOP_CODE * 2 ^ 8 + s.tf .rng g T_RNG.DCOUNT * 2 ^ 16)
  else if off == 0x80 then b (s.hallSt h + s.hallTdisp h * 2 ^ 8 + s.hallGen h * 2 ^ 16)
  else w

/-- What a register reads as. -/
def State.regWord (s : State) (path : Path) (a : Nat) : Word :=
  let p := a / 4096
  let off := a % 4096
  let w := s.reg a
  let b := fun (n : Nat) => BitVec.ofNat 32 n
  if p == 0x11 then b (s.tagsOut (off / 4))
  else if p == 0x31 then b (s.linkQ (off / 4))
  else match blkOf p with
  | none => 0
  | some (blk, k) =>
    if blk == .hal then s.halWord k off w
    else if off == 0x0C && !s.awakePage p then put w 0 1 0
    else if off < 0x40 then w
    else match blk with
    | .dev =>
      if off == 0x48 then b Config.serial.toNat
      else if off == 0x4C then b (Config.serial.toNat / 2 ^ 32)
      else if off == 0x58 then b s.sys.devtime
      else if off == 0x5C then b (match path with | .host => s.sys.latchHost | .smb => s.sys.latchSmb)
      else w
    | .cvn =>
      if 0x84 ≤ off && off < 0x94 then b (s.engIdle ((off - 0x84) / 4))
      else if off == 0x94 then b (min s.cvn.pending.length 0xFFFF)
      else w
    | .wad => if off == 0x88 then put w 4 28 s.oldFrames else w
    | .lnd => if 0x800 ≤ off && (off % 32 == 8 || off % 32 == 12) then s.claimWord ((off - 0x800) / 32) else w
    | .prt =>
      if off == 0x108 then (s.link k).bond.getD w
      else if off == 0x134 then put w 0 16 (s.localEpoch k)
      else if (off == 0x50 || off == 0x54) && k % 16 != 0 then 0
      else w
    | .erg => if off == 0x44 && !s.active pgERG then 0 else w
    | _ => w

/-- A read of DEVTIME_LO latches the upper half for its path (R47). -/
def State.latch (s : State) (path : Path) : State :=
  let hi := s.sys.devtime / 2 ^ 32 % 2 ^ 32
  match path with
  | .host => { s with sys := { s.sys with latchHost := hi } }
  | .smb => { s with sys := { s.sys with latchSmb := hi } }

/-- What a read does beside returning the word: the latch of DEVTIME, a claim, a new maximum (R47, R441, R531). DEDUCED, unsafe: log entry 138. -/
def State.regReadSide (s : State) (path : Path) (a : Nat) : State :=
  let p := a / 4096
  let off := a % 4096
  if p == pgDEV && off == 0x58 then s.latch path
  else if p == pgCIS && off == 0x54 then s.sf pgCIS CIS.TEMP_MAX (s.gf pgCIS CIS.TEMP_NOW)
  else if p == pgSWC && off == 0xB8 then s.sf pgSWC SWC.RESEQ_STS_PEAK (s.gf pgSWC SWC.RESEQ_STS_IN_USE)
  else if p == pgLND && 0x800 ≤ off && off < 0x1000 && off % 32 == 8 then s.claim ((off - 0x800) / 32)
  else s

/-- One register read: the word and what it met (R43). -/
def State.regGet (s : State) (w : RegWho) (addr : Nat) : State × Word × Nat :=
  match s.regTarget w addr with
  | (s, none) => (s, 0, 2)
  | (s, some a) =>
    match s.regMeets a with
    | 0 =>
      let hidden := (!viaPf0 w.via && 0x20 ≤ a % 4096 && a % 4096 < 0x30) || s.linkBarred a
      if hidden then (s, 0, 0) else (s.regReadSide w.path a, s.regWord w.path a, 0)
    | c => (s.regMissed w a c, 0, c)

/-! ### Writes -/

/-- The bits of a register that take a written value: RW, and RWL while LOCK is 0 (R27). -/
def State.regRw (s : State) (p : Nat) (r : RegInfo) : Word :=
  BitVec.ofNat 32 (if s.gb p HDR.PAGE_CTL_LOCK then r.rw else r.rw ||| r.rwl)

/-- The word a write leaves in the RW fields. -/
def mergeWord (old v mask : Word) : Word := (old &&& ~~~mask) ||| (v &&& mask)

/-- Whether a direct write changes a field of a staged register (R469). -/
def State.regConflict (s : State) (a : Nat) (new v : Word) : State :=
  let hit := s.mezSt == mzOPEN && new != s.reg a
    && s.mez.staged.any (fun x => match x with | .reg b _ => b == a | .tbl _ _ _ _ => false)
  if hit then s.conflict (.reg a v) else s

/-- Register staging (R466): RESULT of STAGE_STS. -/
def stageTarget (a : Nat) : Bool :=
  match infoAt a with
  | some (b, _, _) => b.stageable && b != .hlm && 0x80 ≤ a % 4096 && !(b == .lnd && 0x800 ≤ a % 4096)
  | none => false
def State.stageRegister (s : State) (v : Word) : State :=
  let a := s.gf pgMEZ MEZ.STAGE_ADDR_OFFSET * 4
  if s.mezSt != mzAPPLYING && s.mezOn && !stageTarget a then s.sf pgMEZ MEZ.STAGE_STS_RESULT 3
  else if s.mezHolds then s.mezHold (.reg a v) none
  else
    let (s, r) := s.stage (.reg a v)
    s.sf pgMEZ MEZ.STAGE_STS_RESULT r

/-- STAGE_REGISTER: STAGE_DATA is written. -/
def execStageRegister (data : Word) (s : State) : Host.Outcome State Fault Refusal := done (s.stageRegister data)

/-- A reboot is asked for (R521, R557): 850 mV is written first, and it takes effect 10 µs later at the earliest. -/
def State.reboot (s : State) (v : Word) : State :=
  if fld v 0 1 == 1 && fld v 16 16 == 0xB007 && s.vlt.rebootAt.isNone then
    { s with vlt := { s.vlt with rebootAt := some (s.clock + us 10) } }.avsWrite 850
  else s

/-- REBOOT: BOOT_CTL is written. -/
def execReboot (value : Word) (s : State) : Host.Outcome State Fault Refusal := done (s.reboot value)

/-- A header register is written (R27 to R33). DEDUCED, unsafe: log entry 71. -/
def State.hdrWrite (s : State) (p : Nat) (b : Blk) (k off : Nat) (v : Word) : State :=
  match off with
  | 0x08 =>
    let s := if bitAt v.toNat 1 then s.sf p HDR.PAGE_CTL_LOCK 1 else s
    let s := s.quiesceWrite p (bitAt v.toNat 8)
    if bitAt v.toNat 0 then s.pageEnable p b k else s.pageDisable p b k
  | 0x10 => s.evtClear p b v 0
  | 0x14 => s.evtEn p v
  | 0x18 => s.evtForce p b v
  | 0x1C => s.sf p HDR.EVT_GROUP_GROUP (fld v 0 10)
  | 0x20 => s.capWrite p v
  | _ => s

/-- A register of a table-access set is written; ignored while BUSY is 1 (R40). -/
def State.setWrite (s : State) (p off : Nat) (v : Word) : State :=
  let x : Path := if off < 0x60 then .host else .smb
  if s.gb p (tcBUSY x) then s
  else if off == tblSetOff x + 0x14 then (s.tblCmd p x v).settle
  else if off == tblSetOff x then s.setReg (raddr p off) (v &&& 0x7FFFFFFF)
  else s.setReg (raddr p off) v

/-- A register of a port's page is written. DESIGN CHOICE, unsafe: log entry 137; DEDUCED, unsafe: log entry 138. -/
def State.prtWrite (s : State) (n off : Nat) (new v : Word) : State :=
  let p := pgPRT n
  match off with
  | 0x40 =>
    let s := s.setReg (raddr p 0x40) new
    let s := if s.ph n == phSLEEP then
        s.setPort n { s.port n with armed := s.gb p PRT.PHY_CTL_ACT_WAKE && (s.port n).lockout.isNone }
      else s
    let s := if bitAt v.toNat 8 then s.sleepReqWrite n else s
    if bitAt v.toNat 9 then s.retrainWrite n else s
  | 0x50 =>
    if n % 16 != 0 then s else s.grpCtlWrite (n / 16) new
  | 0x58 =>
    let s := s.setReg (raddr p 0x58) new
    if bitAt v.toNat 0 then s.sf p PRT.DIAG_STS_DONE 0 else s
  | 0x100 =>
    let was := s.gb p LNK.LINK_CTL_LINK_EN
    let s := s.setReg (raddr p 0x100) (put new 0 1 (b2n was))
    let s := if bitAt v.toNat 0 && !was then (s.linkEnable n).settle
      else if !bitAt v.toNat 0 && was then s.linkDisable n else s
    if bitAt v.toNat 3 then s.linkResync n else s
  | 0x108 =>
    if s.lk n == lkDISABLED then s.setReg (raddr p 0x108) new
    else s.setLink n { s.link n with bond := some (v &&& 0x3FF0F) }
  | _ =>
    let s := s.setReg (raddr p off) new
    if 0x10C ≤ off && off < 0x130 && s.lk n != lkDISABLED then (s.vcStatus n).flowUpdate n else s

/-- A register of a summary target is written (R443, R450). -/
def State.sumWrite (s : State) (t off : Nat) (new v : Word) : State :=
  if off == 0x10 then s.complete t (fld v 0 16)
  else if off == 0 then
    let was := s.gb pgLND (sumF t SUM.SUM_CTL_EN)
    let s := s.setReg (raddr pgLND (0x800 + 32 * t)) new
    let stop := bitAt v.toNat 2 || (was && !bitAt v.toNat 0)
    let s := if stop then s.stackReset t else s
    let s := if was && !bitAt v.toNat 0 then s.sumReturn t else s
    (s.sumUpdate t false).irqPin
  else s

/-- A register of a management block is written. -/
def State.mgmtWrite (s : State) (b : Blk) (off : Nat) (new v : Word) : State :=
  let keep := fun (p : Nat) => s.setReg (raddr p off) new
  match b, off with
  | .mgq, 0x40 => if s.gb pgMGQ MGQ.RING_CTL_EN then s else keep pgMGQ
  | .mgq, 0x44 => if s.gb pgMGQ MGQ.RING_CTL_EN then s else keep pgMGQ
  | .mgq, 0x48 =>
    let s := if s.gb pgMGQ MGQ.RING_CTL_EN then s else s.sf pgMGQ MGQ.RING_CTL_SIZE (fld v 4 4)
    let s := s.mqEnable (bitAt v.toNat 0)
    if bitAt v.toNat 1 then s.mqResume else s
  | .mgq, 0x4C => s.mqDoorbell (fld v 0 16)
  | .mez, 0x40 =>
    let s := if bitAt v.toNat 0 then s.mezCommit.1 else s
    if bitAt v.toNat 1 then s.mezAbort.1 else s
  | .mez, 0x4C => s.stageRegister v
  | .mez, _ => keep pgMEZ
  | .oas, 0x40 =>
    let s := keep pgOAS
    if bitAt v.toNat 16 then s.powerRequest ⟨fld v 0 3, fld v 8 3, false⟩ else s
  | .oas, 0x4C => s.wakeClear v
  | .oas, 0x64 =>
    let was := s.gb pgOAS OAS.OAS_CTL_CLK_SRC
    let now := bitAt v.toNat 0
    let s := keep pgOAS
    if was == now then s else s.sf pgOAS OAS.OAS_CTL_RC_ACTIVE (b2n now)
  | .oas, _ => keep pgOAS
  | .cis, 0x40 => (keep pgCIS).overUpdate
  | .cis, _ => keep pgCIS
  | .vlt, 0x90 => s.debugUnlock v
  | .vlt, 0x94 => s.reboot v
  | .vlt, _ => s
  | .hst, 0x48 => s.speedWrite (fld v 0 4) (bitAt v.toNat 8)
  | .hst, 0x58 =>
    let s := keep pgHST
    if bitAt v.toNat 16 then s.ptmDialog else s
  | .hst, _ => (keep pgHST).settle
  | .flt, _ => keep pgFLT
  | .dev, 0x50 => (keep pgDEV).featChange.mezTake
  | .dev, _ => keep pgDEV
  | _, _ => s

/-- A register of a core block is written. -/
def State.coreWrite (s : State) (p : Nat) (b : Blk) (k off : Nat) (new v : Word) : State :=
  let keep := s.setReg (raddr p off) new
  match b, off with
  | .brg, 0x94 => s.pwRelease v
  | .brg, 0xA0 => s.drRelease v
  | .swc, 0x80 =>
    let was := s.gb pgSWC SWC.SWC_CTL_SPILL_EN
    let s := keep
    (if !was && s.gb pgSWC SWC.SWC_CTL_SPILL_EN then s.spillJoin else s.spillUpdate).galUpdate
  | .swc, 0x84 => if s.active pgSWC then s else keep
  | .swc, 0x88 => keep.galUpdate
  | .swc, 0x8C => keep.galUpdate
  | .swc, 0x98 => if bitAt v.toNat 8 then s.bankRetire (fld v 0 6) else keep
  | .swc, 0x9C => s.queueFlush v
  | .ergc, 0x40 =>
    let s := if s.gb p HDR.PAGE_CTL_EN || s.gb p HDR.PAGE_STS_EN_PENDING then s else keep
    if bitAt v.toNat 16 then (s.ergFail k .forced).settle else s
  | .wad, 0x84 => if bitAt v.toNat 0 then s.flip else s
  | .lnd, 0x84 => s.swSet v
  | .lnd, _ => if 0x90 ≤ off && off < 0xD0 then keep.evinMode ((off - 0x90) / 4) else keep
  | .hlm, 0x80 =>
    let s := keep
    if bitAt v.toNat 24 then s.hallCmd (fld v 16 2) (fld v 0 12)
      (match fld v 16 2 with | 1 => .hallCreate (fld v 0 12) | 2 => .hallReset (fld v 0 12) | _ => .hallRelease (fld v 0 12)) else s
  | .hlm, 0x84 =>
    let s := keep
    if bitAt v.toNat 16 then s.dlFlip (fld v 0 12) else s
  | _, _ => keep

/-- A block-specific register is written, outside the table-access sets. -/
def State.ownWrite (s : State) (p : Nat) (b : Blk) (k off : Nat) (r : RegInfo) (new v : Word) : State :=
  if r.name == "CNT_CLR" then if bitAt v.toNat 0 then s.cntClear p b (off == 0x150) else s
  else match b with
  | .hal => s
  | .prt => s.prtWrite k off new v
  | .lnd => if 0x800 ≤ off then s.sumWrite ((off - 0x800) / 32) ((off - 0x800) % 32) new v else s.coreWrite p b k off new v
  | .dev | .mgq | .mez | .oas | .cis | .vlt | .hst | .flt => s.mgmtWrite b off new v
  | .brg | .mir | .swc | .erg | .ergc | .wad | .sch | .pol | .hlm | .cvn | .cve => s.coreWrite p b k off new v

/-- The doorbells and the consumer count of a hall's page are written (R358, R405). -/
def State.halWrite (s : State) (h off : Nat) (v : Word) : State :=
  if 0x40 ≤ off && off < 0x60 then (s.doorbell (8 * h + (off - 0x40) / 4) (fld v 0 16)).settle
  else if off == 0x88 then s.rxCons .pf0 h v
  else s

/-- A listed register takes a whole write, with everything it does. -/
def State.regEffect (s : State) (a : Nat) (v : Word) : State :=
  match infoAt a with
  | none => s
  | some (b, k, r) =>
    let p := a / 4096
    let off := a % 4096
    if off < 0x40 then s.hdrWrite p b k off v
    else if b.hasTbl && off < 0x80 then s.setWrite p off v
    else if b == .hal then s.halWrite k off v
    else s.ownWrite p b k off r (mergeWord (s.reg a) v (s.regRw p r)) v

/-- A direct write: a staged register that it changes is a conflict (R469). -/
def State.regDirect (s : State) (a : Nat) (v : Word) : State :=
  match infoAt a with
  | some (_, _, r) => (s.regConflict a (mergeWord (s.reg a) v (s.regRw (a / 4096) r)) v).regEffect a v
  | none => s

/-- One register write: what it met (R43). -/
def State.regPut (s : State) (w : RegWho) (addr : Nat) (v : Word) : State × Nat :=
  match s.regTarget w addr with
  | (s, none) => (s, 2)
  | (s, some a) =>
    match s.regMeets a with
    | 0 =>
      let barred := (!viaPf0 w.via && a % 4096 < 0x40 && a % 4096 != 0x10 && a % 4096 != 0x14) || s.linkBarred a
      (if barred then s else s.regDirect a v, 0)
    | c => (s.regMissed w a c, c)

/-! ### The commands -/

/-- Whether an access is about a page that an apply holds, or needs an isolation check that it holds (R473). DEDUCED, unsafe: log entry 154. -/
def regHeldBy (s : State) (via : BarPath) (addr : Nat) : Bool :=
  match via with
  | .pf0 _ => s.applying (headPage (addr % 2 ^ 26 / 4096))
  | .slot _ _ _ _ => s.applying pgHLM

/-- The byte enables of dword i of n. -/
def dwEnables (fbe lbe : BitVec 4) (n i : Nat) : BitVec 4 := if i == 0 then fbe else if i + 1 == n then lbe else 0xF

/-- The dwords of a request are written in ascending order (R25). A partial dword changes nothing and is captured (R48); through a
doorbell slot its offset is that of the slot in the VF's BAR0. DESIGN CHOICE, unsafe: log entry 98. -/
def State.regBurst (s : State) (w : RegWho) (addr : Nat) (fbe lbe : BitVec 4) (data : List Word) : State :=
  if data.length == 1 && fbe == 0 then s else
  s.each data.zipIdx (fun e s =>
    let a := addr / 4 * 4 + 4 * e.2
    if dwEnables fbe lbe data.length e.2 == 0xF then (s.regPut w a e.1).1
    else s.devError 0 (match w.via with | .pf0 _ => a % 2 ^ 26 | .slot _ slot _ _ => slot * 4096 + a % 4096) w.requester)

/-- REG_WRITE (R25). -/
def execRegWrite (via : BarPath) (addr : Nat) (fbe lbe : BitVec 4) (data : List Word) (s : State) : Host.Outcome State Fault Refusal :=
  done (if !s.sys.hkOn then s
    else if s.hostStall then s.stallTlp (.regWrite via addr fbe lbe data)
    else if regHeldBy s via addr then s.mezWait (.regWrite via addr fbe lbe data)
    else s.regBurst ⟨.host, via⟩ addr fbe lbe data)

/-- Dwords read in ascending order. -/
def State.regReads (s : State) (w : RegWho) : Nat → Nat → State × List Byte
  | _, 0 => (s, [])
  | a, n + 1 =>
    let (s, v, _) := s.regGet w a
    let (s, rest) := s.regReads w (a + 4) n
    (s, bytesOf 4 v.toNat ++ rest)

/-- A register read of the host is answered; a zero-length read makes no access (R25). DEDUCED, unsafe: log entry 71. -/
def State.regAnswer (s : State) (via : BarPath) (addr ndw : Nat) (fbe : BitVec 4) (tag : Nat) : State :=
  let func := match via with | .pf0 _ => 0 | .slot vf _ _ _ => vf
  if ndw == 1 && fbe == 0 then s.emit (.cpl tag .sc (bytesOf 4 0))
  else
    let (s, data) := s.regReads ⟨.host, via⟩ (addr / 4 * 4) ndw
    s.complete_ func tag (addr / 4 * 4) data

/-- REG_READ (R25). -/
def execRegRead (via : BarPath) (addr ndw : Nat) (fbe lbe : BitVec 4) (tag : Nat) (s : State) : Host.Outcome State Fault Refusal :=
  done (if !s.sys.hkOn then s
    else if s.hostStall then s.stallTlp (.regRead via addr ndw fbe lbe tag)
    else if regHeldBy s via addr then s.mezWait (.regRead via addr ndw fbe lbe tag)
    else s.regAnswer via addr ndw fbe tag)

/-- DEVTIME_LO_READ (R47): the word is returned and the upper half latched. -/
def execDevtimeLoRead (path : Path) (s : State) : Host.Outcome State Fault Refusal :=
  done (if s.sys.hkOn then (s.latch path).emit (.regData 0x58 (BitVec.ofNat 32 s.sys.devtime)) else s)

/-- RING_DOORBELL (R358): a write of DB[r] of a hall's page. -/
def execRingDoorbell (via : BarPath) (hall ring count : Nat) (s : State) : Host.Outcome State Fault Refusal :=
  done (if !s.sys.coreOn then s else
    s.onSlot via (.ringDoorbell via hall ring count) (match s.halAccess via (hall % 4096) (0x40 + 4 * (ring % 8)) with
    | (s, some h) => (s.doorbell (8 * h + ring % 8) (count % 65536)).settle
    | (s, none) => s))

end Sys2Proof.Machine
end

