-- ==== Sys2Proof/Machine/Smbus.lean ====
section
/-!
DEFINITION. The management interfaces: the SMBus register protocol (R41 to R43), the MCTP endpoint (R44, R465) and the
boundary-scan port (R585).
-/

namespace Sys2Proof.Machine

/-! ### SMBus register commands (R42, R43) -/

/-- Whether an offset is one of BAR0 and on a dword. DEDUCED, unsafe: log entry 146. -/
def smbOffOk (off : Nat) : Bool := off % 4 == 0 && off < 0x4000000

/-- One register write over SMBus: its status. DEDUCED, unsafe: log entry 146. -/
def State.smbPut (s : State) (off : Nat) (data : Word) : State × Nat := s.regPut ⟨.smb, .pf0⟩ off data

/-- SMB_REG_WRITE: command 0x10, with the byte checked as PEC when one is sent. -/
def execSmbRegWrite (off : Nat) (data : Word) (pecGiven pecOk : Bool) (s : State) : Host.Outcome State Fault Refusal :=
  done (
    let bad := if pecGiven then !pecOk else s.gb pgDEV DEV.SMB_CTL_PEC_REQ
    let finish := fun (s : State) (st : Nat) => { s with smb := { s.smb with lastWrite := st } }.smbEnd off st
    if !s.sys.hkOn then s
    else if bad then finish s 4
    else if !smbOffOk off then finish s 1
    else if regHeldBy s .pf0 off then s.mezWait (.smbRegWrite off data pecGiven pecOk)
    else match s.smbPut off data with | (s, st) => finish s st)

/-- SMB_REG_READ: command 0x11 returns count 5, the status and the data. -/
def execSmbRegRead (off : Nat) (s : State) : Host.Outcome State Fault Refusal :=
  done (
    if !s.sys.hkOn then s
    else if !smbOffOk off then s.smbAnswer off 1 0
    else if regHeldBy s .pf0 off then s.mezWait (.smbRegRead off)
    else match s.regGet ⟨.smb, .pf0⟩ off with | (s, w, st) => s.smbAnswer off st w)

/-- SMB_STATUS_READ: command 0x12 returns count 1 and the status of the last command 0x10. -/
def execSmbStatusRead (s : State) : Host.Outcome State Fault Refusal :=
  done (if s.sys.hkOn then s.smbReply [2 * s.smbAddr, 0x12, 2 * s.smbAddr + 1] [1, s.smb.lastWrite] else s)

/-- SMB_ARA: the device that drives SMB_ALERT_N low answers with its address. -/
def execSmbAra (s : State) : Host.Outcome State Fault Refusal :=
  done (if s.sys.hkOn && s.smb.alertLow then s.smbReply [0x19] [s.smbAddr * 2] else s)

/-- SMB_BUS_TIMEOUT (R604): the device releases the bus. -/
def execSmbBusTimeout (s : State) : Host.Outcome State Fault Refusal := done (s.emit .smbRelease)

/-! ### The MCTP endpoint (R44) -/

/-- Whether the endpoint takes packets. -/
def State.mctpOn (s : State) : Bool := s.sys.hkOn && s.gb pgDEV DEV.SMB_CTL_MCTP_EN

/-- Control responses: completion code and what follows it, by command. PRESUMED, unsafe: log entry 20. -/
def State.mctpControl (s : State) (inst cmd : Nat) (rest : List Nat) : State :=
  s.mctpSend (bytes ([0, inst % 32, cmd] ++ rest))

/-- Set Endpoint ID: 0 and 0xFF are no endpoint IDs. -/
def State.mctpSetEid (s : State) (inst eid : Nat) : State :=
  if eid == 0 || eid == 0xFF then s.mctpControl inst 1 [2]
  else { s with smb := { s.smb with eid := eid } }.mctpControl inst 1 [0, 0, eid, 0]
/-- Get Endpoint ID. -/
def State.mctpGetEid (s : State) (inst : Nat) : State := s.mctpControl inst 2 [0, s.smb.eid, 0, 0]
/-- Get Endpoint UUID. -/
def State.mctpGetUuid (s : State) (inst : Nat) : State :=
  s.mctpSend (bytes [0, inst % 32, 3, 0] ++ bytesOf 16 Config.endpointUuid.toNat)
/-- Get MCTP Version Support: 1.3 of the base and control protocol, 1.0 of SPDM over MCTP. -/
def State.mctpVersion (s : State) (inst typ : Nat) : State :=
  if typ == 0xFF || typ == 0 then s.mctpControl inst 4 [0, 1, 0xF1, 0xF3, 0xFF, 0]
  else if typ == 5 then s.mctpControl inst 4 [0, 1, 0xF1, 0xF0, 0xFF, 0]
  else s.mctpControl inst 4 [0x80]
/-- Get Message Type Support: SPDM, and vendor defined (PCI). -/
def State.mctpTypes (s : State) (inst : Nat) : State := s.mctpControl inst 5 [0, 2, 0x05, 0x7E]
/-- Get Vendor Defined Message Support: one set, of PCI vendor 0x1F3C. -/
def State.mctpVendor (s : State) (inst sel : Nat) : State :=
  if sel == 0 then s.mctpControl inst 6 [0, 0xFF, 0, 0x1F, 0x3C, 0, 0] else s.mctpControl inst 6 [2]
/-- Every other control command: ERROR_UNSUPPORTED_CMD. -/
def State.mctpOther (s : State) (inst cmd : Nat) : State := s.mctpControl inst cmd [5]

/-- A control request: instance, command and data. PRESUMED, unsafe: log entry 20. -/
def State.mctpCommand (s : State) (inst cmd : Nat) (data : List Nat) : State :=
  let need := match cmd with | 1 => 2 | 4 => 1 | 6 => 1 | _ => 0
  if data.length < need then s.mctpControl inst cmd [3] else
  match cmd with
  | 1 => if data.getD 0 0 % 4 < 2 then s.mctpSetEid inst (data.getD 1 0) else s.mctpControl inst 1 [2]
  | 2 => s.mctpGetEid inst
  | 3 => s.mctpGetUuid inst
  | 4 => s.mctpVersion inst (data.getD 0 0)
  | 5 => s.mctpTypes inst
  | 6 => s.mctpVendor inst (data.getD 0 0)
  | _ => s.mctpOther inst cmd

/-- A management queue command over MCTP (R465). -/
def State.mctpMgq (s : State) (cmd data : List Byte) : State := (s.mqOverMctp (mqOfBytes cmd) data).settle.mgqPump.settle

/-- A whole message, by its type. -/
def State.mctpMessage (s : State) (m : List Byte) : State :=
  let n := m.map BitVec.toNat
  match n with
  | 0 :: rq :: cmd :: data => if rq / 128 == 1 && rq / 64 % 2 == 0 then s.mctpCommand (rq % 32) cmd data else s
  | 5 :: ver :: code :: p1 :: p2 :: _ =>
    let (s, r) := s.spdmAnswer .smb (s.spdm .smb).session ver code p1 p2 (m.drop 5)
    s.mctpSend (bytes [5] ++ r)
  | 0x7E :: 0x1F :: 0x3C :: 1 :: _ => if m.length < 52 then s else s.mctpMgq ((m.drop 4).take 48) (m.drop 52)
  | _ => s

/-- A packet's bytes are those of a packet to this endpoint: its PEC is right, its count says its length, and it carries at most the
baseline transmission unit. -/
def State.mctpGood (s : State) (p : List Byte) : Bool :=
  let n := p.map BitVec.toNat
  let dest := n.getD 5 0
  n.getD 0 0 == s.smbAddr * 2 && n.getD 1 0 == 0x0F && n.length == n.getD 2 0 + 4 && 9 < n.length && n.length ≤ 73
    && n.getD 4 0 % 16 == 1 && (dest == 0 || dest == s.smb.eid || dest == 0xFF)
    && n.getD (n.length - 1) 0 == crc8 (p.take (p.length - 1))

/-- MCTP_PACKET: packets of a message are put together in sequence; a whole message acts. PRESUMED, unsafe: log entry 20. -/
def State.mctpTake (s : State) (p : List Byte) : State :=
  let n := p.map BitVec.toNat
  let flags := n.getD 7 0
  let body := (p.drop 8).take (p.length - 9)
  let m := s.smb
  let seq := flags / 16 % 4
  let same := m.peerEid == n.getD 6 0 && m.peerTag == flags % 16 && m.nextSeq == seq
  if !s.mctpGood p || flags / 8 % 2 == 0 then s else
  let got := if flags / 128 == 1 then some body
    else match m.assembly with
      | some l => if same then some (l ++ body) else none
      | none => none
  match got with
  | none => { s with smb := { m with assembly := none } }
  | some l =>
    let s := { s with smb := { m with
      peerAddr := n.getD 3 0 / 2, peerEid := n.getD 6 0, peerTag := flags % 16, nextSeq := (seq + 1) % 4,
      assembly := if flags / 64 % 2 == 1 then none else some l } }
    if flags / 64 % 2 == 1 then s.mctpMessage l else s

def execMctpPacket (bytes : List Byte) (s : State) : Host.Outcome State Fault Refusal := done (s.onlyIf s.mctpOn (fun s => s.mctpTake bytes))

/-- MCTP_SET_ENDPOINT_ID. -/
def execMctpSetEndpointId (eid : Byte) (s : State) : Host.Outcome State Fault Refusal :=
  done (s.onlyIf s.mctpOn (fun s => s.mctpSetEid 0 eid.toNat))
/-- MCTP_GET_ENDPOINT_ID. -/
def execMctpGetEndpointId (s : State) : Host.Outcome State Fault Refusal := done (s.onlyIf s.mctpOn (fun s => s.mctpGetEid 0))
/-- MCTP_GET_ENDPOINT_UUID. -/
def execMctpGetEndpointUuid (s : State) : Host.Outcome State Fault Refusal := done (s.onlyIf s.mctpOn (fun s => s.mctpGetUuid 0))
/-- MCTP_GET_VERSION_SUPPORT. -/
def execMctpGetVersionSupport (msgType : Byte) (s : State) : Host.Outcome State Fault Refusal :=
  done (s.onlyIf s.mctpOn (fun s => s.mctpVersion 0 msgType.toNat))
/-- MCTP_GET_MESSAGE_TYPE_SUPPORT. -/
def execMctpGetMessageTypeSupport (s : State) : Host.Outcome State Fault Refusal := done (s.onlyIf s.mctpOn (fun s => s.mctpTypes 0))
/-- MCTP_GET_VENDOR_MSG_SUPPORT. -/
def execMctpGetVendorMsgSupport (sel : Byte) (s : State) : Host.Outcome State Fault Refusal :=
  done (s.onlyIf s.mctpOn (fun s => s.mctpVendor 0 sel.toNat))
/-- MCTP_UNSUPPORTED_CMD: a control command that is none of the six. -/
def execMctpUnsupportedCmd (cmd : Byte) (s : State) : Host.Outcome State Fault Refusal :=
  done (s.onlyIf (s.mctpOn && !(1 ≤ cmd.toNat && cmd.toNat ≤ 6)) (fun s => s.mctpOther 0 cmd.toNat))
/-- MCTP_MGQ_COMMAND. -/
def execMctpMgqCommand (cmd data : List Byte) (s : State) : Host.Outcome State Fault Refusal :=
  done (s.onlyIf s.mctpOn (fun s => s.mctpMgq cmd data))

/-! ### The boundary-scan port (R585, R604) -/

/-- The state of the IEEE 1149.1 controller after a rise of TCK: 0 Test-Logic-Reset, 1 Run-Test/Idle, 2 to 8 Select, Capture,
Shift, Exit1, Pause, Exit2 and Update of the data registers, 9 to 15 those of the instruction register. PRESUMED, unsafe: log entry 21. -/
def tapNext (st : Nat) (tms : Bool) : Nat :=
  match st with
  | 0 => if tms then 0 else 1
  | 1 => if tms then 2 else 1
  | 2 => if tms then 9 else 3
  | 3 => if tms then 5 else 4
  | 4 => if tms then 5 else 4
  | 5 => if tms then 8 else 6
  | 6 => if tms then 7 else 6
  | 7 => if tms then 8 else 4
  | 8 => if tms then 2 else 1
  | 9 => if tms then 0 else 10
  | 10 => if tms then 12 else 11
  | 11 => if tms then 12 else 11
  | 12 => if tms then 15 else 13
  | 13 => if tms then 14 else 13
  | 14 => if tms then 15 else 11
  | _ => if tms then 2 else 1

/-- The number of a list of bits. -/
def bitNum (l : List Bool) : Nat := l.foldr (fun b n => b2n b + 2 * n) 0

/-- Whether the boundary register is selected. -/
def tapOnCells (i : Option Nat) : Bool := match i with | some c => Config.tapBoundary c | none => false

/-- One TCK cycle: the action of the state left, the transition, and TDO in a shift state. PRESUMED, unsafe: log entry 21. -/
def State.tapClock (s : State) (tms tdi : Bool) : State :=
  let t := s.tap
  let shift := if t.st == 4 || t.st == 11 then t.shift.drop 1 ++ [tdi] else t.shift
  let st := tapNext t.st tms
  let cells := tapOnCells t.instr
  let pins := bitList Config.tapCells (s.nextFree Config.tapCells)
  let shift := if t.st == 3 then (if cells then pins else [false])
    else if t.st == 10 then bitList Config.tapIrLength 1 else shift
  let s := if t.st == 3 && cells then s.drawn else s
  let ones := 2 ^ Config.tapIrLength - 1
  let instr := if st == 0 then none else if st == 15 then (if bitNum shift == ones then none else some (bitNum shift)) else t.instr
  let s := { s with tap := {
    st := st, instr := instr, shift := shift,
    cells := if st == 8 && cells then shift else t.cells } }
  if st == 4 || st == 11 then s.emit (.tdo (shift.headD false)) else s

/-- BOUNDARY_SCAN: one cycle of TCK; TRST_N low resets the controller. -/
def execBoundaryScan (tms tdi trstN : Bool) (s : State) : Host.Outcome State Fault Refusal :=
  done (if trstN then s.tapClock tms tdi else { s with tap := { s.tap with st := 0, instr := none } })

end Sys2Proof.Machine
end

