-- ==== Sys2Proof/Machine/Boot.lean ====
section
/-!
DEFINITION. The boot sequence (R516, R537 to R543, R548 to R550, R552) and the whole-device resets that run it (R534, R535).
-/

namespace Sys2Proof.Machine

/-! ### Choosing an image (R541, R542) -/

/-- What the choice among the candidates has found: SOURCE, the image, and the code of the first problem. -/
structure Choice where
  source : Nat
  image  : List Byte
  result : Nat
  deriving DecidableEq, Repr

/-- A problem counts when it is the first. -/
def Choice.met (c : Choice) (code : Nat) : Choice := if c.result == 0 then { c with result := code } else c

/-- A slot left WRITING shows 0x05 and is the first problem. -/
def State.bootWriting (s : State) (b : Bool) (c : Choice) : State × Choice :=
  if s.slotState b == 1 then (s.showCheck b 0x05, c.met 0x05) else (s, c)

/-- A Vault slot as a candidate. -/
def State.trySlot (s : State) (b : Bool) (c : Choice) : State × Choice :=
  if c.source != 0 || s.slotState b != 2 then (s, c) else
  let (s, code) := s.slotCheck b
  let s := s.showCheck b code
  if code == 0 then (s, { c with source := 1 + b2n b, image := s.slotBytes b }) else (s, c.met code)

/-- The code of the SPI NOR image. DESIGN CHOICE, unsafe: log entry 109; DEDUCED, unsafe: log entry 123. -/
def State.spiCheck (s : State) : Nat :=
  match s.vlt.spi with
  | .noAnswer | .blank => 0x06
  | .bytes l => if imgNum l 0 4 == 0xFFFFFFFF && 4 ≤ l.length then 0x06 else s.imgCheck l

/-- SPI NOR is read when no slot has been accepted. -/
def State.trySpi (s : State) (c : Choice) : State × Choice :=
  if c.source != 0 then (s, c) else
  let code := s.spiCheck
  let s := s.sf pgVLT VLT.SPI_STS_READ 1 |>.sf pgVLT VLT.SPI_STS_CHECK code
  let img := match s.vlt.spi with | .bytes l => l | _ => []
  if code == 0 then (s, { c with source := 3, image := img })
  else (s.reject 2 code (if code == 1 || code == 6 then 0 else imgNum img 0x0C 4), c.met code)

/-- The candidates in their order: the newer slot first. -/
def State.chooseImage (s : State) : State × Choice :=
  let d := subMod (s.slotSeq false) (s.slotSeq true) 32
  let first : Bool := !(1 ≤ d && d ≤ 2 ^ 31)
  let (s, c) := s.bootWriting false ⟨0, [], 0⟩
  let (s, c) := s.bootWriting true c
  let (s, c) := s.trySlot first c
  let (s, c) := s.trySlot (!first) c
  s.trySpi c

/-! ### Applying an image (R548, R550) -/

/-- The last record of a type, with its index. DEDUCED, unsafe: log entry 121. -/
def lastRec (l : List (GlRec × Nat)) (t : Nat) : Option (GlRec × Nat) := (l.filter (fun (e : GlRec × Nat) => e.1.typ == t)).getLast?

/-- A typed record other than CASCADE sets its registers. DEDUCED, unsafe: log entry 121. -/
def State.applyTyped (s : State) (r : GlRec) : State :=
  match r.typ with
  | 1 => s.sf pgDEV ⟨0x50, 0, 7⟩ (r.num 4 1 % 128)
  | 2 =>
    s.sf pgHST HST.LINK_CFG_BOOT_SPEED (r.num 4 1) |>.sf pgHST HST.LINK_CFG_SPEED_MAX (r.num 5 1)
      |>.sf pgHST HST.LINK_CFG_WIDTH_MAX (r.num 6 1) |>.sf pgHST HST.LINK_CFG_FLIT_LOW (r.num 7 1 % 2)
      |>.sf pgHST HST.SPEED_CTL_LIMIT (r.num 4 1) |>.sf pgHST HST.SPEED_CTL_ADMITTED (r.num 4 1)
  | 3 => (s.setReg (raddr pgHST 0x4C) (BitVec.ofNat 32 (r.num 4 4) &&& 0x1FFF7FF)).setReg (raddr pgHST 0x50)
      (BitVec.ofNat 32 (r.num 8 4) &&& 0xFFF0FFF)
  | 4 => s.setCfg 0 .subsysVendor (r.num 4 2 + r.num 6 2 * 2 ^ 16)
  | 5 => ((s.setReg (raddr pgCIS 0x40) (BitVec.ofNat 32 (r.num 4 4))).sf pgCIS CIS.AVS_CTL_EN (r.num 8 1 % 2)).overUpdate
  | 6 =>
    let a := raddr pgERG 0x40
    s.setReg a (mergeWord (s.reg a) (BitVec.ofNat 32 (r.num 4 4)) 0xFF0FFF)
  | _ => s

/-- An item of the image that was not applied. DEDUCED, unsafe: log entry 122. -/
def State.recordFail (s : State) (k typ off : Nat) : State := s.error pgVLT 3 0x04 k typ off

/-- A CASCADE record (R550). DEDUCED, unsafe: log entry 122. -/
def State.applyCascade (s : State) (r : GlRec) (k : Nat) : State :=
  let d := r.num 4 1
  let a := r.num 6 2
  let spare : Option Nat := if bitAt (r.num 8 1) 0 then some (r.num 10 2) else none
  if d == 0 then s.sf pgWAD WAD.CASC_CTL_DEVICE 0 else
  let s := (s.sf pgDEV DEV.FEAT_EN_CASCADE 1).sf pgWAD WAD.CASC_CTL_DEVICE d
  let ports := (List.range 16).map (a + ·) ++ spare.toList
  let s := s.each (ports.map groupBase).eraseDups (fun n s => s.sf (pgPRT n) PRT.GRP_CTL_LREF_SRC 1)
  let s := s.each ports (fun n s =>
    (s.sf (pgPRT n) PRT.PHY_CTL_ROLE 1 |>.sf (pgPRT n) PRT.PHY_CTL_RATE_MAX (r.num 12 1)).portEnable n)
  let refused : Bool := ports.any (fun n => !s.active (pgPRT n))
  let s := s.sf (pgPRT a) LNK.BOND_CTL_WIDTH 4 |>.sf (pgPRT a) LNK.BOND_CTL_SPARE_EN (b2n spare.isSome)
    |>.sf (pgPRT a) LNK.BOND_CTL_SPARE_PORT (spare.getD 0)
  let s := s.pageOn pgWAD
  let s := s.setEnt .rte 0 (BitVec.ofNat _ (1 + a * 2 ^ 16))
  let s := (s.sf (pgPRT a) LNK.LINK_CTL_CASCADE 1).linkEnable a
  if refused then s.recordFail k 7 0 else s

/-- A REGWRITE record, as an SMBus register write. -/
def State.applyRegwrite (s : State) (r : GlRec) (k : Nat) : State :=
  match s.smbPut (r.num 4 4) (BitVec.ofNat 32 (r.num 8 4)) with
  | (s, 0) => s
  | (s, _) => s.recordFail k 8 (r.num 4 4)

/-- The records of the chosen image: the typed ones, the last of each type; the host port's allowance; CASCADE; REGWRITE records.
DEDUCED, unsafe: log entry 121. -/
def State.applyImage (s : State) (img : List Byte) : State :=
  let l := (imgRecords img).zipIdx
  let typed := fun (t : Nat) (s : State) => match lastRec l t with | some e => s.applyTyped e.1 | none => s
  let s := s.each [1, 2, 3, 4, 5, 6] typed
  let s := s.addDraw pgHST (hostDraw (s.gf pgHST HST.LINK_CFG_BOOT_SPEED)) 0
  let s := match lastRec l 7 with | some e => s.applyCascade e.1 e.2 | none => s
  s.each (l.filter (fun (e : GlRec × Nat) => e.1.typ == 8)) (fun e s => s.applyRegwrite e.1 e.2)

/-! ### The boot (R540) -/

/-- Steps 1 and 2: the device is in RUN, and an erase of secrets that was cut short is completed. DEDUCED, unsafe: log entry 120. -/
def State.bootStart (s : State) : State :=
  let s := { s with sys := { s.sys with hkOn := true, coreOn := true } }
  let s := s.sf pgOAS OAS.PWR_STS_STATE 0 |>.sf pgDEV DEV.SMB_STS_ADDR s.smbAddr
  let s := if s.sys.perst then s else s.sf pgHST HDR.PAGE_CTL_EN 1 |>.sf pgHST HDR.PAGE_STS_ACTIVE 1
  if s.bootWord 3 % 2 == 1 then s.secretsGone else s

/-- Step 3: the boot number advances. -/
def State.bootNumber (s : State) : State := s.setBootWord 2 (nextEpoch (s.bootWord 2 % 2 ^ 16))

/-- Step 4: the IDE key region is erased. -/
def State.bootKeys (s : State) : State :=
  let s := s.each (s.host.ide.map (·.1)) (fun n s => s.eraseKeys n)
  { s with host := { s.host with ide := [] } }

/-- Step 5: an identity key pair is made when there is none; the private scalar, never 0, is a free value. DESIGN CHOICE, unsafe: log entry 126. -/
def State.bootIdentity (s : State) : State :=
  if s.hasIdent then s else
  let k := max 1 (s.nextFree 384)
  ((s.drawn).vaultPut vaultIdent (beBytes 96 (Config.p384Public k).toNat)).vaultPut (vaultIdent + 128) (bytesOf 48 k)

/-- Steps 6 and 7. -/
def State.bootImage (s : State) : State × Choice :=
  let (s, c) := s.chooseImage
  if c.source == 0 then (s.addDraw pgHST (hostDraw (s.gf pgHST HST.LINK_CFG_BOOT_SPEED)) 0, c)
  else
    let img := c.image
    let s := { s with
      sys := { s.sys with noImage := false }
      vlt := { s.vlt with
        chain := if imgCert img == 0 then [] else (img.drop (imgCert img)).take (imgCertLen img)
        digest := imgBig img (imgLen img - imgTail img) 48 } }
    ((s.setCfg 0 .subsysVendor 0x1F3C).applyImage img, c)

/-- Step 8, and what follows it: the history scan (R570), V_RUN (R521), the report of a trip (R527). DEDUCED, unsafe: log entry 112. -/
def State.bootDone (s : State) (c : Choice) : State :=
  let s := (s.sf pgDEV DEV.BOOT_STS_SOURCE c.source |>.sf pgDEV DEV.BOOT_STS_RESULT c.result |>.sf pgDEV DEV.BOOT_STS_DONE 1).event pgDEV 4
  let s := s.sf pgFLT FLT.FLT_STS_SCANNING 1
  let s := { s with host := { s.host with offer := s.gf pgHST HST.LINK_CFG_BOOT_SPEED } }.vrunShow
  let s := if s.avsOn then s.avsWrite (s.gf pgCIS CIS.AVS_STS_VRUN_MV) else s
  match s.oas.tripTemp with
  | some t => { s with oas := { s.oas with tripTemp := none } }.error pgOAS 4 0x03 t 0 0
  | none => s

/-- The boot; STRAP_TEST read as 1 stops it before image selection (R586). DESIGN CHOICE, unsafe: log entry 4; DEDUCED, unsafe: log entry 120. -/
def State.boot (s : State) : State :=
  let s := s.bootStart.bootNumber.bootKeys.bootIdentity.vaultShow
  if bitAt s.sys.straps 3 then s.settle else
  let (s, c) := s.bootImage
  (s.bootDone c).vaultShow.settle

/-! ### Whole-device resets (R534, R535) -/

/-- A reset that comes while VAUX stays, with its boot; 850 mV is written first where AVSBus is in use (R521). -/
def State.wholeReset (s : State) : State := ((s.avsWrite 850).wipe true).boot

/-- The boot that ends DEEP_SLEEP or OFF (R503): a wake, and the time slept. DESIGN CHOICE, unsafe: log entry 109. -/
def State.bootWake (s : State) : State :=
  let ticks := min 0xFFFFFFFF ((s.clock - s.oas.entered) * 32768 / 1000000000)
  let s := (s.setReg (raddr pgOAS 0x60) (BitVec.ofNat 32 ticks)).cnt pgOAS OAS.CNT_WAKES
  { s with oas := { s.oas with waking := false } }.boot

/-- A wake in DEEP_SLEEP boots; in OFF the boot waits for the supplies (R514). WAKE_N is driven low. DEDUCED, unsafe: log entry 130. -/
def State.wakeLow (s : State) : State :=
  if s.oas.wakeLow then s else { s with oas := { s.oas with wakeLow := true } }.emit (.pin "WAKE_N" false)

/-- A wake cause is latched (R512, R514): below SLEEP it drives WAKE_N, and DEEP_SLEEP boots. DEDUCED, unsafe: log entry 113. -/
def State.wakeBy (s : State) (f : Fld) : State :=
  let s := { s.sf pgOAS f 1 with oas := { (s.sf pgOAS f 1).oas with waking := true } }
  if s.pwr == 3 then (s.wakeAny.wakeLow).bootWake
  else if s.pwr == 4 then s.wakeAny.wakeLow
  else s.oasPump

end Sys2Proof.Machine
end

