-- ==== Sys2Proof/Machine/Power.lean ====
section
/-!
DEFINITION. The rows that move the device between its power states and through its resets: power requests (R505), wake causes
(R512 to R516), supplies (R502, R534), PERST_N (R53, R534), the software reboot (R557), and configuration requests (R56 to R62, R504).
-/

namespace Sys2Proof.Machine

/-! ### Power requests (R505, R506) -/

/-- A power request of a row: PWR_REQ is written with GO 1, or the next ring command is WAIT. DESIGN CHOICE, unsafe: log entry 147. -/
def State.pwrRow (s : State) (viaWait : Bool) (target modes : Nat) : State :=
  let arg := target % 8 + modes % 8 * 2 ^ 8
  if viaWait then
    let lap := s.mqLap (s.gf pgMGQ MGQ.RING_STS_CCOUNT)
    s.mqFetched (BitVec.ofNat 512 (5 + b2n lap * 2 ^ 8 + arg * 2 ^ 32)) (isOp 0x05) .failed none
  else if s.sys.hkOn then
    (s.setReg (raddr pgOAS 0x40) (BitVec.ofNat 32 arg)).powerRequest ⟨target % 8, modes % 8, false⟩
  else s

def execPwrReqRun (viaWait : Bool) (s : State) : Host.Outcome State Fault Refusal := done (s.pwrRow viaWait 0 0)
def execPwrReqStandby (viaWait : Bool) (modes : Nat) (s : State) : Host.Outcome State Fault Refusal := done (s.pwrRow viaWait 1 modes)
def execPwrReqSleep (viaWait : Bool) (modes : Nat) (s : State) : Host.Outcome State Fault Refusal := done (s.pwrRow viaWait 2 modes)
def execPwrReqDeepSleep (viaWait : Bool) (modes : Nat) (s : State) : Host.Outcome State Fault Refusal := done (s.pwrRow viaWait 3 modes)
def execPwrReqOff (viaWait : Bool) (modes : Nat) (s : State) : Host.Outcome State Fault Refusal := done (s.pwrRow viaWait 4 modes)

/-! ### SLEEP (R501, R513, R514) -/

/-- SLEEP is entered: the list is taken, the core stops, and detectors stay armed only with PORT_DET. DEDUCED, unsafe: log entry 115. -/
def State.sleepEnter (s : State) (modes : Nat) : State :=
  let s := (s.seqReturn.takeList).sleepShow 2 modes
  let s := if bitAt modes 0 then s else
    s.each ((s.ports.filter (fun e => e.2.armed)).map (·.1)) (fun n s => s.setPort n { s.port n with armed := false })
  { s with
    oas := { s.oas with cur := none }
    sys := { s.sys with coreOn := false } }.sf pgOAS OAS.PWR_STS_ARMED 0

/-- PF0 is written to D3hot: an armed SLEEP is entered. -/
def State.intoD3 (s : State) : State :=
  match s.oas.cur with
  | some r => if r.target == 2 && s.gb pgOAS OAS.PWR_STS_ARMED then s.sleepEnter r.modes else s
  | none => s

/-- PF0 is written to D0: SLEEP returns to RUN, and what the Oasis latched fires. -/
def State.intoD0 (s : State) : State :=
  if s.pwr == 2 && s.sys.hkOn then
    (s.sf pgOAS OAS.WAKE_FLAG_HOST 1).wakeAny.runAgain.listFires.irqPin
  else s

/-- The power state of PF0 is written; a value that is no supported state changes nothing, and VFs have no such register (R58).
PRESUMED, unsafe: log entry 18. -/
def State.pmWrite (s : State) (func v : Nat) : State :=
  if func != 0 || (v != 0 && v != 3) then s else
  let s := s.setCfg 0 .powerState v
  if v == 3 then s.intoD3 else s.intoD0.settle

/-- PM_STATE_WRITE. -/
def execPmStateWrite (func : Nat) (d3 : Bool) (s : State) : Host.Outcome State Fault Refusal :=
  done (if s.gb pgDEV DEV.BOOT_STS_DONE then (s.wakeHint OAS.WAKE_FLAG_HOST).pmWrite func (if d3 then 3 else 0) else s)

/-! ### Wake causes (R512) -/

/-- Whether the Oasis is powered with the device in a state below RUN. -/
def State.below (s : State) : Bool := 1 ≤ s.pwr && (s.sys.hkOn || 3 ≤ s.pwr)

/-- What a wake that waits to be taken up does: below SLEEP it drives WAKE_N, and DEEP_SLEEP boots. -/
def State.powerPump (s : State) : State :=
  if !s.oas.waking then s
  else if s.pwr == 3 then s.wakeAny.wakeLow.bootWake
  else if s.pwr == 4 then s.wakeAny.wakeLow
  else if s.sys.hkOn then s.oasPump else s

/-- WAKE_IN_LOW: a cause with WAKE_IN_EN 1. -/
def execWakeInLow (s : State) : Host.Outcome State Fault Refusal :=
  done (if s.below && bitAt s.oas.modes 2 then s.wakeBy OAS.WAKE_FLAG_WAKE_IN else s)

/-- WAKE_TIMER: TICKS of 32.768 kHz after the entry, with TIMER_EN 1. DESIGN CHOICE, unsafe: log entry 118. -/
def execWakeTimer (s : State) : Host.Outcome State Fault Refusal :=
  done (if s.below && bitAt s.oas.modes 1
      && s.due (s.oas.entered + ceilDiv (s.gf1 pgOAS OAS.WAKE_TIMER_TICKS * 1000000000) 32768) then
    s.wakeBy OAS.WAKE_FLAG_TIMER else s)

/-- OASIS_LIST_WAKE (R445, R513): a listed source fires whose input is alive. -/
def execOasisListWake (slot : Nat) (s : State) : Host.Outcome State Fault Refusal :=
  done (match s.oas.wakeList.find? (fun e => e.1 == slot) with
    | some e => if s.below && 2 ≤ s.pwr && srcAlive s.pwr e.2 then (s.oasLatch e.1 e.2).wakeBy OAS.WAKE_FLAG_LIST else s
    | none => s)

/-- THERMAL_COOL_WAKE (R527): after a trip the sensor reads below TRIP − 20 °C. -/
def execThermalCoolWake (temp : Nat) (s : State) : Host.Outcome State Fault Refusal :=
  done (if s.pwr == 3 && s.oas.tripTemp.isSome && temp + 20 < s.oas.tripAt then s.wakeBy OAS.WAKE_FLAG_THERMAL else s)

/-- A detector's activity in STANDBY or SLEEP wakes the device (R512). DEDUCED, unsafe: log entry 113. -/
def State.portCause (s : State) (n : Nat) : State :=
  let s := if s.oas.portWake.isEmpty then s.sf pgOAS OAS.WAKE_SRC_PORT n else s
  { s with oas := { s.oas with portWake := if s.oas.portWake.contains n then s.oas.portWake else s.oas.portWake ++ [n] } }.wakeBy
    OAS.WAKE_FLAG_PORT

/-- ACTIVITY_WAKE (R175, R176): an armed detector fires; in RUN the port asks for its wake at once. -/
def execActivityWake (port : Nat) (s : State) : Host.Outcome State Fault Refusal :=
  done (if s.ph port != phSLEEP || !(s.port port).armed || !s.sys.hkOn then s
    else if s.pwr == 0 then
      let (s, ok) := s.wakePort port
      (if ok then s.wakeHint OAS.WAKE_FLAG_PORT else s).settle
    else s.portCause port)

/-! ### Supplies (R502, R516, R534) -/

/-- The state of R21 with every domain but the Oasis off. -/
def State.dark (s : State) (erg : Bool) : State :=
  let s := s.wipe erg
  { s with sys := { s.sys with hkOn := false, coreOn := false } }

/-- Whether a state requires a rail (R502). DEDUCED, unsafe: log entry 129. -/
def State.needs (s : State) (r : Rail) : Bool :=
  match s.pwr with
  | 4 => r == .vaux
  | 3 => r == .vdd || r == .vddio || r == .vaux || ((r == .vddq || r == .vpp) && !s.erg.retained.isEmpty)
  | _ => true

/-- What is retained in the Erg goes with its supplies. DEDUCED, unsafe: log entry 129. -/
def State.ergLost (s : State) : State := { s with erg := { s.erg with mem := [], retained := [] } }

/-- VAUX_LOSS: everything but the Vault is lost. DEDUCED, unsafe: log entry 129. -/
def State.vauxGone (s : State) : State :=
  let keys := (s.host.ide.filter (fun e => !e.2.keys.isEmpty)).map (fun e => (e.1, { Ide.reset with keys := e.2.keys }))
  { State.reset with
    pending := s.pending, clock := s.clock, free := s.free, out := s.out
    host := { HostSt.reset with ide := keys }
    vlt := { s.vlt with rebootAt := none, erasing := false, chain := [], digest := 0 }
    sys := { Sys.reset with hkOn := false, coreOn := false, perst := s.sys.perst } }
def execVauxLoss (s : State) : Host.Outcome State Fault Refusal := done s.vauxGone

/-- SUPPLY_LOSS (R534, R535): a required rail leaves its range. A rail that is not required changes nothing but the Erg contents it
holds; in DEEP_SLEEP the loss of a required one leaves OFF (R527). DEDUCED, unsafe: log entry 129. -/
def State.supplyLoss (s : State) (r : Rail) : State :=
  let feeds := r == .vddq || r == .vpp || (r == .vdd && s.pwr < 3)
  if r == .vaux then s.vauxGone
  else if !s.needs r then (if feeds then s.ergLost else s)
  else if 3 ≤ s.pwr then (if feeds then s.ergLost else s).sf pgOAS OAS.PWR_STS_STATE 4
  else if !s.sys.hkOn then s
  else s.dark (!feeds)
def execSupplyLoss (rail : Rail) (s : State) : Host.Outcome State Fault Refusal := done (s.supplyLoss rail)

/-- The straps of step 2 (R586), and what SPI NOR answers. DEDUCED, unsafe: log entry 130. -/
def State.sampled (s : State) (straps : Nat) (spi : Candidate) : State :=
  { s with
    sys := { s.sys with straps := straps % 16 }
    vlt := { s.vlt with spi := spi } }

/-- SUPPLY_RETURN (R516): the device boots, from OFF or after a loss. -/
def execSupplyReturn (straps : Nat) (spi : Candidate) (s : State) : Host.Outcome State Fault Refusal :=
  done (if s.sys.hkOn || s.pwr == 3 then s
    else
      let s := s.sampled straps spi
      if s.pwr == 4 then s.bootWake else s.boot)

/-- POWER_ON (R534, R535): VAUX rises into range. -/
def execPowerOn (straps : Nat) (spi : Candidate) (s : State) : Host.Outcome State Fault Refusal :=
  done ((s.vauxGone.sampled straps spi).boot)

/-! ### PERST_N (R51, R53, R505, R534, R586) -/

/-- Two-bit samples taken by majority, bit by bit. PRESUMED, unsafe: log entry 40. -/
def majority (l : List Nat) : Nat :=
  let bit := fun (i : Nat) => b2n (decide (l.length < 2 * (l.filter (fun v => bitAt v i)).length))
  bit 0 + 2 * bit 1

/-- WAKE_N is released. DEDUCED, unsafe: log entry 130. -/
def State.wakeHigh (s : State) : State :=
  if s.oas.wakeLow then { s with oas := { s.oas with wakeLow := false } }.emit (.pin "WAKE_N" true) else s

/-- PERST_RELEASE: the clock strap is read, WAKE_N is released, and DEEP_SLEEP ends; in OFF the supplies decide.
PRESUMED, unsafe: log entry 40; DESIGN CHOICE, unsafe: log entries 45, 147. -/
def State.perstHigh (s : State) (clk : List Nat) : State :=
  if !s.sys.perst then s else
  let s := { s with
    sys := { s.sys with perst := false }
    oas := { s.oas with pmeAck := false } }
  let s := if 3 ≤ s.pwr then (s.sf pgOAS OAS.WAKE_FLAG_HOST 1).wakeAny else s
  let s := s.wakeHigh
  let s := if s.pwr == 3 then s.bootWake else s
  let s := if s.sys.hkOn then s.sf pgHST HDR.PAGE_CTL_EN 1 |>.sf pgHST HDR.PAGE_STS_ACTIVE 1 else s
  { s.sf pgHST HST.LINK_CFG_CLK_MODE (majority clk) with host := { s.host with offer := s.gf pgHST HST.LINK_CFG_BOOT_SPEED } }
def execPerstRelease (clkSamples : List Nat) (s : State) : Host.Outcome State Fault Refusal := done (s.perstHigh clkSamples)

/-- PERST_ASSERT: an armed DEEP_SLEEP or OFF is entered after the PME_TO_Ack handshake; else it is a fundamental reset, deferred
during an apply (R475). DESIGN CHOICE, unsafe: log entry 45. -/
def State.perstLow (s : State) : State :=
  if s.sys.perst then s
  else if s.sys.hkOn && s.defers then s.defer .perstAssert
  else
    let s := { s with sys := { s.sys with perst := true } }
    if !s.sys.hkOn then s else
    match s.oas.cur with
    | some r =>
      if 3 ≤ r.target && s.gb pgOAS OAS.PWR_STS_ARMED && s.oas.pmeAck then
        { s with oas := { s.oas with cur := none } }.powerOff r.target r.modes
      else s.wholeReset
    | none => s.wholeReset
def execPerstAssert (s : State) : Host.Outcome State Fault Refusal := done s.perstLow

/-- PME_TURN_OFF: answered with PME_TO_Ack. -/
def execPmeTurnOff (s : State) : Host.Outcome State Fault Refusal :=
  done (if s.gb pgHST HST.LINK_STS_DL_UP then { s with oas := { s.oas with pmeAck := true } }.emit .pmeToAck else s)

/-! ### The software reboot (R557) -/

/-- REBOOT_EFFECT: 10 µs after the write, and once the 850 mV write is confirmed or SETTLE_US has passed. -/
def State.rebootDue (s : State) : Bool :=
  match s.vlt.rebootAt with
  | some t => s.due t && (s.avs.target.isNone || s.due (t - us 10 + us (s.gf1 pgCIS CIS.AVS_CTL_SETTLE_US)))
  | none => false
def State.rebootNow (s : State) (spi : Candidate) : State :=
  if !s.rebootDue then s
  else if s.defers then s.defer (.rebootEffect spi)
  else ({ s with vlt := { s.vlt with spi := spi } }.wipe true).boot
def execRebootEffect (spi : Candidate) (s : State) : Host.Outcome State Fault Refusal := done (s.rebootNow spi)

/-! ### Configuration requests (R56 to R62) -/

/-- Whether software can write a configuration register: in a VF, those that R58, R66, R69, R75 and R436 give every function.
PRESUMED, unsafe: log entry 17. -/
def cfgWritable (func : Nat) (r : CfgReg) : Bool :=
  match r with
  | .busMaster | .msixEnable | .funcMask | .sigTargetAbort | .memSpace | .cplTimeoutDis | .cplTimeoutVal | .atsEnable | .atsStu
  | .tenBitTag | .aerUncSeverity | .aerUncStatus | .aerCorStatus => true
  | .powerState | .maxPayload | .maxReadReq | .rcb | .priEnable | .pasidEnable | .ptmEnable
  | .pmeEnable | .numVfs | .sysPageSize | .targetSpeed | .vfEnable => func == 0
  | .bar i => func == 0 && i < 12
  | .ide stream _ => func == 0 && stream < 5
  | _ => false

/-- The width of a configuration register's stored value. -/
def cfgWidth (r : CfgReg) : Nat :=
  match r with
  | .maxPayload | .maxReadReq => 3
  | .cplTimeoutVal | .targetSpeed => 4
  | .atsStu => 5
  | .numVfs => 16
  | .sysPageSize | .aerUncSeverity => 32
  | .ide _ .streamId => 8
  | .ide _ .ridBase | .ide _ .ridLimit => 16
  | .ide _ (.addrBase _) | .ide _ (.addrLimit _) => 64
  | _ => 1

/-- A configuration write. -/
def State.cfgWrite (s : State) (func : Nat) (r : CfgReg) (v : Nat) : State :=
  if !cfgWritable func r || !s.cfgShown func r then s else
  match r with
  | .vfEnable => if v % 2 == 1 then s.vfsOn else s.vfDisable
  | .powerState => s.pmWrite func (v % 4)
  | .sigTargetAbort => if v % 2 == 1 then s.setCfg func r 0 else s
  | .aerUncStatus | .aerCorStatus => s.setCfg func r ((List.range 32).foldl (fun x i => if bitAt v i then putBits x i 1 0 else x) (s.cfgRaw func r))
  | .numVfs => if s.cfgRaw 0 .vfEnable == 1 then s else s.setCfg func r (v % 2 ^ 16)
  | .bar i =>
    let k := i / 2 * 2
    let old := s.cfgRaw 0 (.bar k)
    s.setCfg 0 (.bar k) (putBits old (if i % 2 == 1 then 32 else 0) 32 v)
  | r => (s.setCfg func r (v % 2 ^ cfgWidth r)).settle

/-- CONFIG_REQUEST: a read (no value) or a write. DESIGN CHOICE, unsafe: log entries 24, 41. -/
def State.cfgRequest (s : State) (func : Nat) (r : CfgReg) (w : Option Nat) (tag : Nat) : State :=
  if s.sys.perst || !s.sys.hkOn then s
  else
  let s := s.wakeHint OAS.WAKE_FLAG_HOST
  if !s.gb pgDEV DEV.BOOT_STS_DONE then s.emit (.retry tag)
  else if !s.funcExists func then (s.cnt pgHST HST.CNT_UR_SENT).emit (.cpl tag .ur [])
  else if func != 0 && (match s.host.vfsAt with | some t => !s.due t | none => false) then s.emit (.retry tag)
  else match w with
    | some v => (s.cfgWrite func r v).emit (.cpl tag .sc [])
    | none => s.emit (.cpl tag .sc (bytesOf 4 (s.cfgRead func r)))
def execConfigRequest (func : Nat) (reg : CfgReg) (write : Option Nat) (tag : Nat) (s : State) : Host.Outcome State Fault Refusal :=
  done (if s.hostStall then s.stallTlp (.configRequest func reg write tag) else s.cfgRequest func reg write tag)

end Sys2Proof.Machine
end

