-- ==== Sys2Proof/Machine/HostMem.lean ====
section
/-!
DEFINITION. The memory requests of the host (R25, R59, R60, R63, R67, R68, R75, R80, R88, R89, R98, R104, R113): the checks of the
host port, the BAR a request falls in, and what it does there.
-/

namespace Sys2Proof.Machine

/-! ### Before decoding -/

/-- Whether a function serves memory requests: it exists, its Memory Space is enabled, and it is in D0.
PRESUMED, unsafe: log entry 18; DESIGN CHOICE, unsafe: log entry 19; DEDUCED, unsafe: log entry 42. -/
def State.memOn (s : State) (f : Nat) : Bool :=
  s.funcExists f && s.cfgRaw f .memSpace == 1 && s.cfgRaw 0 .powerState == 0

/-- The BAR of a function that an address falls in: its number and the offset within it. -/
def State.barHit (s : State) (f addr : Nat) : Option (Nat × Nat) :=
  if !s.memOn f then none else
  [0, 2, 4].findSome? (fun i => (s.barBase f i).bind (fun b =>
    if b.1 ≤ addr && addr < b.1 + 2 ^ b.2 then some (i, addr - b.1) else none))

/-- A function that a function-level reset holds takes no request. -/
def State.inFlr (s : State) (f : Nat) : Bool := s.host.flrs.any (fun e => e.1 == f)

/-- A TLP is received: it wakes STANDBY and passes the IDE checks, or it is discarded. DESIGN CHOICE, unsafe: log entry 41. -/
def State.tlpIn (s : State) (t : TlpInfo) (sub : Nat) : State × Bool := (s.wakeHint OAS.WAKE_FLAG_HOST).ideCheck t.ide t.req sub

/-- A poisoned write is discarded (R75, R88). PRESUMED, unsafe: log entry 33. -/
def State.poisonedTlp (s : State) (t : TlpInfo) : State :=
  (s.badTlp 0x05 t.hdr0.toNat t.hdr1.toNat t.hdr2.toNat).aer t.func .poisonedTlp false (tlpHdr t)

/-- A malformed TLP is discarded (R75, R88). PRESUMED, unsafe: log entry 33. -/
def State.malformedTlp (s : State) (t : TlpInfo) : State :=
  (s.badTlp 0x04 t.hdr0.toNat t.hdr1.toNat t.hdr2.toNat).aer 0 .malformedTlp false (tlpHdr t)

/-- The path of a request into BAR0. -/
def barPath (t : TlpInfo) (off : Nat) : BarPath := if t.func == 0 then .pf0 t.req else .slot t.func (off / 4096) t.pasid t.req

/-- The bytes of a request of n dwords, with their enables: from the first to the last enabled one. -/
def reqCells (fbe lbe : BitVec 4) (n : Nat) (data : Nat → Byte) : Nat × List (Option Byte) :=
  let all : List (Option Byte) := (List.range (4 * n)).map (fun i =>
    if bitAt (dwEnables fbe lbe n (i / 4)).toNat (i % 4) then some (data i) else none)
  let lo := all.findIdx (·.isSome)
  let hi := all.length - all.reverse.findIdx (·.isSome)
  (lo, (all.take hi).drop lo)

/-- Whether a burst of BAR0 reaches a page that an apply holds (R473). -/
def State.burstHeld (s : State) (via : BarPath) (off n : Nat) : Bool := regHeldBy s via off || regHeldBy s via (off + 4 * n - 4)

/-! ### Writes -/

/-- A write of BAR4, dword by dword (R68): the table; the PBA takes none. -/
def State.vecBurst (s : State) (f off : Nat) (fbe lbe : BitVec 4) (data : List Word) : State :=
  s.each data.zipIdx (fun e s =>
    let a := off / 4 * 4 + 4 * e.2
    if a < 0x8000 then s.vecWrite f (a / 16) (a % 16 / 4) (dwEnables fbe lbe data.length e.2) e.1 else s)

/-- A write of the host. -/
def State.hostPut (s : State) (t : TlpInfo) (addr : Nat) (fbe lbe : BitVec 4) (data : List Word) : State :=
  match s.tlpIn t 0 with
  | (s, false) => s
  | (s, true) =>
    if s.inFlr t.func then s
    else if t.poisoned then s.poisonedTlp t
    else match s.barHit t.func addr with
    | none => s.aerUr 0 true (tlpHdr t)
    | some (0, off) =>
      if s.burstHeld (barPath t off) off data.length then s.mezWait (.regWrite (barPath t off) off fbe lbe data)
      else s.regBurst ⟨.host, barPath t off⟩ off fbe lbe data
    | some (2, off) =>
      let bytes := data.flatMap (fun w => bytesOf 4 w.toNat)
      let c := reqCells fbe lbe data.length (fun i => bytes.getD i 0)
      if c.2.isEmpty then s else
      s.accept ⟨.write, .host 0, t.func, t.pasid, none, off / 4 * 4 + c.1, addr / 4 * 4 + c.1, c.2, [], t.req, 0⟩
    | some (_, off) => if data.length == 1 && fbe == 0 then s else s.vecBurst t.func off fbe lbe data

/-- HOST_WRITE. -/
def execHostWrite (info : TlpInfo) (addr : Nat) (fbe lbe : BitVec 4) (data : List Word) (s : State) : Host.Outcome State Fault Refusal :=
  done (if !s.gb pgHST HST.LINK_STS_DL_UP then s
    else if s.hostStall then s.stallTlp (.hostWrite info addr fbe lbe data)
    else (s.hostPut info addr fbe lbe data).settle)

/-! ### Non-posted requests -/

/-- A non-posted request in FLR: Unsupported Request, counted, and no report. -/
def State.flrUr (s : State) (tag : Nat) : State := (s.cnt pgHST HST.CNT_UR_SENT).emit (.cpl tag .ur [])

/-- A non-posted request passes the checks of the host port and falls in a BAR; a refusal is answered. -/
def State.npIn (s : State) (t : TlpInfo) (tag addr : Nat) (f : Nat → Nat → State → State) : State :=
  match s.tlpIn t 1 with
  | (s, false) => s
  | (s, true) =>
    if s.inFlr t.func then s.flrUr tag
    else match s.barHit t.func addr with
    | none => s.urAnswer 0 tag (tlpHdr t)
    | some (i, off) => f i off s

/-- A dword of BAR4: the MSI-X table, then the Pending Bit Array (R67, R68). -/
def State.vecDword (s : State) (f a : Nat) : Nat :=
  if a < 0x8000 then
    match s.vecEntry f (a / 16) with
    | none => 0
    | some e =>
      (match a % 16 / 4 with
      | 0 => s.tf .vec e ⟨0, 32⟩
      | 1 => s.tf .vec e ⟨32, 32⟩
      | 2 => s.tf .vec e T_VEC.DATA
      | _ => s.tf .vec e T_VEC.MASK)
  else
    ((List.range 32).map (fun i =>
      match s.vecEntry f ((a - 0x8000) / 4 * 32 + i) with
      | some e => b2n (s.tb .vec e T_VEC.PEND) * 2 ^ i
      | none => 0)).foldl (· + ·) 0

/-- A zero-length read of the host (R25, R68, R104). -/
def State.hostGetZero (s : State) (t : TlpInfo) (tag addr : Nat) : State :=
  s.npIn t tag addr (fun i off s =>
    if i == 2 then s.accept ⟨.zero, .host tag, t.func, t.pasid, none, off / 4 * 4, addr / 4 * 4, [some 0], [], t.req, 0⟩
    else s.emit (.cpl tag .sc (bytesOf 4 0)))

/-- HOST_ZERO_LENGTH_READ. -/
def execHostZeroLengthRead (info : TlpInfo) (tag addr : Nat) (s : State) : Host.Outcome State Fault Refusal :=
  done (if !s.gb pgHST HST.LINK_STS_DL_UP then s
    else if s.hostStall then s.stallTlp (.hostZeroLengthRead info tag addr)
    else (s.hostGetZero info tag addr).settle)

/-- A read of the host. -/
def State.hostGet (s : State) (t : TlpInfo) (tag addr ndw : Nat) (fbe lbe : BitVec 4) : State :=
  s.npIn t tag addr (fun i off s =>
    match i with
    | 0 =>
      if s.burstHeld (barPath t off) off ndw then s.mezWait (.regRead (barPath t off) off ndw fbe lbe tag)
      else s.regAnswer (barPath t off) off ndw fbe tag
    | 2 =>
      let c := reqCells fbe lbe ndw (fun _ => 0)
      s.accept ⟨.read, .host tag, t.func, t.pasid, none, off / 4 * 4 + c.1, addr / 4 * 4 + c.1, c.2, [], t.req, 0⟩
    | _ => s.complete_ t.func tag (addr / 4 * 4) ((List.range ndw).flatMap (fun k => bytesOf 4 (s.vecDword t.func (off / 4 * 4 + 4 * k)))))

/-- HOST_READ. -/
def execHostRead (info : TlpInfo) (tag addr ndw : Nat) (fbe lbe : BitVec 4) (s : State) : Host.Outcome State Fault Refusal :=
  done (if !s.gb pgHST HST.LINK_STS_DL_UP || ndw == 0 then s
    else if s.hostStall then s.stallTlp (.hostRead info tag addr ndw fbe lbe)
    else if ndw == 1 && fbe == 0 then (s.hostGetZero info tag addr).settle
    else (s.hostGet info tag addr ndw fbe lbe).settle)

/-- An AtomicOp of the host (R63, R113): 32 or 64 bits within the aperture. PRESUMED, unsafe: log entry 33. -/
def State.hostAtom (s : State) (t : TlpInfo) (tag addr : Nat) (op : AtomicOp) (size opnd cmp : Nat) : State :=
  if size == 0 || addr % size != 0 then (match s.tlpIn t 1 with | (s, true) => s.malformedTlp t | (s, false) => s) else
  s.npIn t tag addr (fun i off s =>
    if t.poisoned then (s.poisonedTlp t).flrUr tag
    else if i == 2 && (size == 4 || size == 8) then
      s.accept ⟨.atomic op, .host tag, t.func, t.pasid, none, off, addr, (bytesOf size opnd).map some,
        if op == .cas then bytesOf size cmp else [], t.req, 0⟩
    else s.urAnswer t.func tag (tlpHdr t))

/-- HOST_ATOMIC. -/
def execHostAtomic (info : TlpInfo) (tag addr : Nat) (op : AtomicOp) (size opnd cmp : Nat) (s : State) :
    Host.Outcome State Fault Refusal :=
  done (if !s.gb pgHST HST.LINK_STS_DL_UP then s
    else if s.hostStall then s.stallTlp (.hostAtomic info tag addr op size opnd cmp)
    else (s.hostAtom info tag addr op size opnd cmp).settle)

end Sys2Proof.Machine
end

