-- ==== Sys2Proof/Machine/Cascade.lean ====
section
/-!
DEFINITION. Frames received on cascade links (R312 to R315, R317, R319, R320): the check of the cascade word, delivery,
forwarding, and the requests a member carries out or relays.
-/

namespace Sys2Proof.Machine

/-! ### The cascade word (R313, R314) -/

/-- Whether a frame of an OP may travel under a KIND (R314, R317, R320). DEDUCED, unsafe: log entry 84. -/
def cwCarries (kind op : Nat) : Bool :=
  if kind == cwPORT || kind == cwHOST then op == opMSG
  else if kind == cwREQUEST then opPW ≤ op && op ≤ opCAS
  else if kind == cwRETURN then op == opRSP || op == opERR
  else kind == cwEVENT && op == opEVENT

/-- A word is valid: a KIND that R314 lists, and every field its KIND leaves unused 0 (R313). DEDUCED, unsafe: log entry 84. -/
def cwValid (w : Word64) (op : Nat) : Bool :=
  let k := cwKind w
  cwCarries k op && fld w 56 8 == 0
    && (cwDestDev w == 0 || k == cwPORT || k == cwREQUEST)
    && (cwDestPort w == 0 || k == cwPORT || k == cwREQUEST)
    && (cwHall w == 0 || k == cwHOST)

/-- The word with HOPS advanced (R315). -/
def cwHop (w : Word64) : Word64 := put w 50 6 (cwHops w + 1)

/-- An invalid word discards its frame (R313, R325). DEDUCED, unsafe: log entry 84. -/
def State.cwError (s : State) (a : Nat) (w : Word64) : State :=
  s.error pgWAD 6 0x05 a (fld w 0 32) (fld w 32 32)

/-- Whether this device takes a frame with a word for its own: its destination is its own number (R315). -/
def State.cwMine (s : State) (w : Word64) : Bool := cwDestDev w == s.device

/-- The stored form of a frame that is forwarded or answered: of no hall, from a cascade link. -/
def relayFrame (f : Frame) (acct : Option Nat) (src : Nat) : GFrame :=
  { frame := f, load := .relay, acct := acct, cells := [], size := frameCells f, spill := none, back := 0, bad := false
    mc := false, hall := none, gen := 0, func := 0, src := src, order := 0, epoch := none, tgt := none, refs := 0 }

/-- Whether an account has room for cells now and nothing of it waits (R275, R317). -/
def State.roomFor (s : State) (acct k : Nat) : Bool :=
  s.active pgSWC && !s.quiesce pgSWC && s.admits acct k && s.hasCells k && !s.mustWait acct false

/-- A frame enters the response reserve and a queue (R273, R317). -/
def State.storeReserved (s : State) (f : Frame) (src q : Nat) (w : Word64) : State :=
  ({ s with brg := { s.brg with rsv := s.brg.rsv + frameCells f } }).storeIn (relayFrame f none src) [(q, some w)] none

/-! ### Messages (R315, R317, R340) -/

/-- A MSG that arrived over a cascade link goes to queues, as a station frame of the link's account. -/
def State.cascMsgTo (s : State) (a : Nat) (f : Frame) (acct colour : Nat) (queues : List (Nat × Option Word64)) : State :=
  s.offer (msgFrame f acct a false none) acct colour queues

/-- Where a PORT or HOST frame goes: delivered, or forwarded by route. DEDUCED, unsafe: log entry 86. -/
def State.cascMsgAim (s : State) (a : Nat) (w : Word64) (f : Frame) (acct colour : Nat) : State :=
  let cls := cwClass w
  if s.cwMine w then
    if cwKind w == cwPORT then
      if s.linkEnabled (cwDestPort w) then s.cascMsgTo a f acct colour [(portQueue (cwDestPort w) cls, none)]
      else s.noTarget_ f.dtag 4 (cwDestPort w) acct
    else if s.hallExists (cwHall w) then s.cascMsgTo a f acct colour [(hostQueue (cwHall w) cls, none)]
    else s.noTarget_ f.dtag 3 (cwHall w) acct
  else
    match s.routeOf (cwDestDev w) with
    | some x =>
      if cwHops w == 63 then (s.routeDrop (cwDestDev w) 63 a).acctDrop acct
      else s.cascMsgTo a f acct colour [(portQueue x cls, some (cwHop w))]
    | none => (s.routeDrop (cwDestDev w) (cwHops w) a).acctDrop acct

/-- A MSG of a cascade link: metered in stage 1 only, then sent on; `raw` is the frame as it was received. DEDUCED, unsafe: log entry 86. -/
def State.cascMsg (s : State) (a : Nat) (raw : Frame) (w : Word64) (f : Frame) : State :=
  if s.holdsOff pgWAD || s.holdsOff pgPOL || s.holdsOff pgSWC then s else
  let s := s.rxTake a raw
  let acct := portQueue a f.cls
  let t := s.police .sel acct 0 (frameBytes f)
  let s := t.1.countColour t.2.1
  if t.2.2 then s.acctDrop acct else s.cascMsgAim a w f acct t.2.1

/-! ### Forwarding of the other kinds (R315, R317) -/

/-- A REQUEST or EVENT waits in the receive buffer until its account admits it; a RETURN until the reserve has cells. -/
def State.cascForward (s : State) (a : Nat) (raw : Frame) (w : Word64) (f : Frame) : State :=
  match s.routeOf (cwDestDev w) with
  | none => (s.rxTake a raw).routeDrop (cwDestDev w) (cwHops w) a
  | some x =>
    if cwHops w == 63 then (s.rxTake a raw).routeDrop (cwDestDev w) 63 a else
    let q := portQueue x (cwClass w)
    if cwKind w == cwRETURN then
      if s.canReserve (frameCells f) && !s.holdsOff pgSWC then (s.rxTake a raw).storeReserved f a q (cwHop w) else s
    else
      let acct := portQueue a (cwClass w)
      if s.roomFor acct (frameCells f) then
        (s.rxTake a raw).storeOrWait (relayFrame f (some acct) a) [(q, some (cwHop w))] false
      else s

/-! ### Requests at their destination (R319) -/

/-- A RETURN with an RSP: from a port of this device, in the class of its request, toward the head. DESIGN CHOICE, unsafe: log entry 88. -/
def State.cascReturn (s : State) (src cls port : Nat) (f : Frame) : State :=
  match s.routeOf 0 with
  | none => s.routeDrop 0 0 src
  | some up => s.storeReserved f src (portQueue up cls) (mkWord cwRETURN cls 0 0 0 s.device port 0)

/-- A request is answered at once when it is non-posted; the answer needs cells of the reserve, without which the request
stays in the receive buffer. DESIGN CHOICE, unsafe: log entry 88. -/
def State.cascAnswer (s : State) (a : Nat) (raw : Frame) (w : Word64) (code : Nat) (ws : List Word64) : State :=
  let f := mkRsp raw.tag code ws
  if s.canReserve (frameCells f) then (s.rxTake a raw).cascReturn a (cwClass w) (cwDestPort w) f else s

/-- A request that leads nowhere: CODE 0x01, or NO_TARGET for a posted write (R319). DEDUCED, unsafe: log entry 87. -/
def State.cascNowhere (s : State) (a : Nat) (raw : Frame) (w : Word64) : State :=
  if raw.op == opPW then (s.rxTake a raw).cnt pgWAD WAD.CNT_NO_TARGET
  else s.cascAnswer a raw w 0x01 []

/-- The words a request covers, and the bytes of word j of n that it enables (R241). -/
def frameSpan (f : Frame) : Nat := if f.op == opRD then max 1 (min 256 (fld (f.words.getD 0 0) 0 9)) else f.words.length
def wordEnables (fbe lbe n j : Nat) : Nat := if j == 0 then fbe else if j + 1 == n then lbe else 0xFF

/-- The bytes of a request from its first word on, nothing where one is not enabled. -/
def reqBytes (f : Frame) : List (Option Byte) :=
  let n := frameSpan f
  let b := f.bytes
  (List.range (8 * n)).map (fun i =>
    if bitAt (wordEnables f.fbe f.lbe n (i / 8)) (i % 8) then some (if f.op == opRD then 0 else b.getD i 0) else none)

/-- The dwords of a request on the device's own registers: each with its offset and its bytes. -/
def reqDwords (f : Frame) : List (Nat × List (Option Byte)) :=
  ((dwords f.addr (reqBytes f))).filter (fun d => d.2.any (·.isSome))

/-- The path of a REQUEST to the device's own registers: that of the host, in PF0 (R319). -/
def ownPath : RegWho := ⟨.host, .pf0⟩

/-- A write of the device's own registers, dword by dword (R25). DEDUCED, unsafe: log entry 91. -/
def State.ownRegWrite (s : State) (f : Frame) : State :=
  s.each (reqDwords f) (fun d s =>
    if d.2.all (·.isSome) then (s.regPut ownPath d.1 (BitVec.ofNat 32 (ofBytes (d.2.map (·.getD 0))))).1
    else s.devError 0 d.1 0)

/-- A read of the device's own registers: every dword with an enabled byte is read whole (R25), the others are 0. DEDUCED, unsafe: log entry 91. -/
def State.ownRegRead (s : State) (f : Frame) : State × List Word64 :=
  let n := frameSpan f
  let ds := reqDwords f
  let t := (List.range (2 * n)).foldl (fun (t : State × List Byte) k =>
    let off := f.addr + 4 * k
    if ds.any (fun d => d.1 == off) then
      let u := t.1.regGet ownPath off
      (u.1, t.2 ++ bytesOf 4 u.2.1.toNat)
    else (t.1, t.2 ++ bytesOf 4 0)) (s, ([] : List Byte))
  (t.1, wordsOf n t.2)

/-- A request on the device's own BAR0 (R319). One for a page that an apply holds waits (R473). DEDUCED, unsafe: log entry 91. -/
def State.cascOwn (s : State) (a : Nat) (raw : Frame) (w : Word64) (f : Frame) : State :=
  let rsp := mkRsp f.tag 0 []
  if opFADD ≤ f.op && f.op ≤ opCAS then s.cascAnswer a raw w 0x06 []
  else if 0x4000000 ≤ f.addr || 0x4000000 < f.addr + 8 * frameSpan f then
    if f.op == opPW then s.rxTake a raw else s.cascAnswer a raw w 0x01 []
  else if (reqDwords f).any (fun d => regHeldBy s .pf0 d.1) then s
  else if f.op == opPW then (s.rxTake a raw).ownRegWrite f
  else if f.op == opNPW then
    if s.canReserve (frameCells rsp) then
      let src := a
      ((s.rxTake a raw).ownRegWrite f).cascReturn src (cwClass w) (cwDestPort w) rsp
    else s
  else if !s.canReserve (ceilDiv (16 + 8 * frameSpan f) 256) then s
  else
    let r := (s.rxTake a raw).ownRegRead f
    r.1.cascReturn a (cwClass w) (cwDestPort w) (mkRsp f.tag 0 r.2)

/-- What an OP does. DEDUCED, unsafe: log entry 92. -/
def opDoes (op : Nat) : AccOp :=
  if op == opRD then .read
  else if op == opFADD then .atomic .fadd
  else if op == opSWAP then .atomic .swap
  else if op == opCAS then .atomic .cas
  else .write

/-- The window a relayed request is cut as: its own context, no conversion, its destination link. -/
def relayWin (f : Frame) (cls port : Nat) : Win :=
  { n := if f.op == opPW then f.ctx else 0, typ := 0, func := 0, hall := 0, posted := f.op == opPW, ahead := false, atomic := true
    wdis := false, swap := 0, keep := false, cls := cls, link := port, dev := 0, group := 0, base := 0, limit := 0, target := 0 }

/-- The number that stands in a relayed part's GEN until it is answered; an answer puts its CODE there. -/
def unanswered : Nat := 256

/-- The parts of a relayed request, cut for the destination station (R109, R319). DEDUCED, unsafe: log entry 89. -/
def State.relayParts (s : State) (f : Frame) (cls port : Nat) : List Part :=
  let win := relayWin f cls port
  let cells := reqBytes f
  if opFADD ≤ f.op && f.op ≤ opCAS then
    let lead := (List.range 8).findIdx (fun i => bitAt f.fbe i)
    let size := popCount 8 f.fbe
    let operand := ((f.words.getD (if f.op == opCAS then 1 else 0) 0))
    let bs := ((bytesOf 8 operand.toNat).drop lead).take size
    let cmp := if f.op == opCAS then ((bytesOf 8 (f.words.getD 0 0).toNat).drop lead).take size else []
    mkParts win unanswered 8 (f.addr + lead) 0 size (bs.map some) cmp
  else mkParts win unanswered (s.linkBurst port) f.addr 0 cells.length cells []

/-- Whether a station does not support the atomic a request asks for (R113). DEDUCED, unsafe: log entry 92. -/
def State.relayUnsupported (s : State) (f : Frame) (port : Nat) : Bool :=
  (opFADD ≤ f.op && f.op ≤ opCAS) && (match (s.lard port).ident with
    | some d => !d.atomicOk (popCount 8 f.fbe)
    | none => true)

/-- A request for a station of this device is cut and sent on with tags of that link; the cascade link and the head's tag are
recorded (R319). -/
def State.cascStation (s : State) (a : Nat) (raw : Frame) (w : Word64) (f : Frame) : State :=
  let cls := cwClass w
  let port := cwDestPort w
  if s.relayUnsupported f port then s.cascAnswer a raw w 0x08 []
  else if s.holdsOff pgBRG || !s.roomFor (portQueue a cls) (frameCells f) then s
  else
    let s := s.rxTake a raw
    let i := s.brg.next
    let s := { s with brg := { s.brg with next := i + 1 } }
    let r : Req := ⟨opDoes f.op, .relay a f.tag cls, 0, none, none, 0, f.addr, [], [], 0, 0⟩
    ((s.addAcc i r s.clock (s.relayParts f cls port)).pump).settle

/-- Whether a port is the anchor of an enabled, identified station link (R319). -/
def State.stationAt (s : State) (port : Nat) : Bool :=
  s.linkEnabled port && !s.cascadeLink port && (s.lard port).ident.isSome

/-- A REQUEST at its destination (R319). DEDUCED, unsafe: log entry 89. -/
def State.cascRequest (s : State) (a : Nat) (raw : Frame) (w : Word64) (f : Frame) : State :=
  if s.isMember && s.routeOf 0 == some (cwDestPort w) then s.cascOwn a raw w f
  else if s.stationAt (cwDestPort w) then s.cascStation a raw w f
  else s.cascNowhere a raw w

/-! ### What comes back to the head (R319, R320) -/

/-- A RETURN at the head: an RSP to the part that holds its tag, a late error report to the log. -/
def State.cascBack (s : State) (a : Nat) (raw : Frame) (w : Word64) (f : Frame) : State :=
  if f.op == opERR then (s.rxTake a raw).errReport (cwSrcPort w) (cwSrcDev w) f
  else
    match (s.lard a).tags.find? (fun t => t.tag == f.tag) with
    | none => (s.rxTake a raw).staleTag a f.tag
    | some t =>
      match t.use with
      | .access i k =>
        if !s.active pgSWC || s.quiesce pgSWC || s.behindMsg a raw then s
        else ((s.rxTake a raw).respond a i k f).settle
      | .ident | .poll | .stationCmd _ => ((s.rxTake a raw).dropTag a f.tag).settle

/-- Whether a HOST frame that a cascade link sent before an EVENT has not left for the host yet (R320). DESIGN CHOICE, unsafe: log entry 83. -/
def State.hostBefore (s : State) (a : Nat) (raw : Frame) : Bool :=
  ((s.link a).rxBuf.takeWhile (fun x => x != raw)).any (fun x => x.op == opMSG && cwKind (x.words.getD 0 0) == cwHOST)
    || s.gal.queues.any (fun e => isHostQueue e.1 && e.2.any (fun r => match s.galFrame r.frame with
      | some g => g.src == a && g.load == .msg
      | none => false))

/-- An EVENT at the head: its data is written to its address as PF0, after the HOST frames sent before it (R320).
DESIGN CHOICE, unsafe: log entry 83. -/
def State.cascEvent (s : State) (a : Nat) (raw f : Frame) : State :=
  if s.hostBefore a raw || !s.mayMaster 0 then s
  else (s.rxTake a raw).emit (.memWr 0 none false (f.words.getD 0 0).toNat (bytesOf 4 (fld (f.words.getD 1 0) 0 32)))

/-! ### The commands -/

/-- One received frame of a cascade link, with its cascade word removed (R312), is delivered or forwarded (R315). -/
def State.cascIn (s : State) (a : Nat) (raw : Frame) : State :=
  let w := raw.words.getD 0 0
  let f := raw.stripped
  if raw.words.isEmpty || !cwValid w f.op then (s.rxTake a raw).cwError a w
  else if f.op == opMSG then s.cascMsg a raw w f
  else if !s.cwMine w then s.cascForward a raw w f
  else if cwKind w == cwREQUEST then s.cascRequest a raw w f
  else if cwKind w == cwRETURN then s.cascBack a raw w f
  else s.cascEvent a raw f

/-- The frames at the heads of a link's VCs that carry a cascade word, in the order they arrived. DEDUCED, unsafe: log entry 85. -/
def State.cascHeads (s : State) (a : Nat) : List Frame :=
  let heads := (List.range 8).filterMap (fun v => (s.link a).rxBuf.find? (fun f => f.vc == v))
  (s.link a).rxBuf.filter (fun f => f.op != opTIME && heads.contains f)

/-- The first head that goes on now; one that has to wait gives way to the next VC (R317). DEDUCED, unsafe: log entry 85. -/
def State.cascTry (s : State) (a : Nat) : List Frame → State
  | [] => s
  | f :: t =>
    let s' := s.cascIn a f
    if (s'.link a).rxBuf == (s.link a).rxBuf then s.cascTry a t else s'

/-- CASCADE_FRAME_RX (R312 to R320). -/
def execCascadeFrameRx (anchor : Nat) (s : State) : Host.Outcome State Fault Refusal :=
  done (if s.cascadeLink anchor then (s.cascTry anchor (s.cascHeads anchor)).settle else s)

/-- The payload of the RSP of a relayed request whose parts all succeeded: the data of a read, the word of an atomic with its
operand in the lanes it has, nothing for a write. DEDUCED, unsafe: log entry 90. -/
def relayData (a : Acc) : List Word64 :=
  let got := a.parts.flatMap (·.got)
  match a.op with
  | .write => []
  | .atomic _ =>
    (match a.parts with
    | p :: _ => wordsOf 1 (List.replicate (p.addr % 8) 0 ++ got ++ List.replicate (8 - p.addr % 8 - got.length) 0)
    | [] => [])
  | _ => wordsOf (got.length / 8) got

/-- The RSP of a relayed request: the data, or the CODE of the first failed part. DEDUCED, unsafe: log entry 90. -/
def relayRsp (a : Acc) (tag : Nat) : Frame :=
  match a.parts.find? (·.keep) with
  | some p => mkRsp tag p.gen []
  | none => mkRsp tag 0 (relayData a)

/-- A relayed request ends: its parts give their reserve back, its record goes. DEDUCED, unsafe: log entry 89. -/
def State.relayEnd (s : State) (i : Nat) (n : Nat) : State :=
  let s := s.each (List.range n) (fun k s => s.endPart i k)
  { s with brg := { s.brg with accs := s.brg.accs.filter (fun e => e.1 != i) } }

/-- CASCADE_REQUEST_DONE (R319): every part of a relayed request has been answered, and one RSP returns. A part that ended
without an answer (R125, R246) leaves the request without one. DEDUCED, unsafe: log entry 89. -/
def State.relayDone (s : State) (i : Nat) : State :=
  match s.acc? i with
  | none => s
  | some a =>
    match a.who with
    | .relay anchor tag cls =>
      let over_ := a.parts.all (fun p => p.st == .finished)
      if !over_ || (a.op == .write && a.parts.all (·.posted)) then s
      else if a.ended || a.parts.any (fun p => p.gen == unanswered) then s.relayEnd i a.parts.length
      else
        let port := match a.parts with | p :: _ => p.link | [] => 0
        (s.relayEnd i a.parts.length).cascReturn anchor cls port (relayRsp a tag)
    | _ => s
def execCascadeRequestDone (relay : Nat) (s : State) : Host.Outcome State Fault Refusal := done (s.relayDone relay).settle

end Sys2Proof.Machine
end

