-- ==== Sys2Proof/Machine/MezApply.lean ====
section
/-!
DEFINITION. The apply of an accepted commit (R471 to R473, R475): the staged writes in staging order, the release of the
affected blocks, and what waited for it.
-/

namespace Sys2Proof.Machine

/-- A staged write acts as the same direct write (R472). DEDUCED, unsafe: log entry 145. -/
def State.applyOne (s : State) (w : Staged) : State :=
  match w with
  | .reg a v => s.regEffect a v
  | .tbl p t i e => (match tblAt p t with | some t => s.tblPut t i e | none => s)

/-- The state a command leaves; a command that stops leaves its own. -/
def after (s : State) (o : Host.Outcome State Fault Refusal) : State :=
  match o with
  | .next t => t
  | .fault _ | .refused _ => s

/-- A command that waited for the end of an apply acts: an access to an affected page, or a reset (R473, R475). DEDUCED, unsafe: log entry 145. -/
def State.runWaiting (s : State) (i : Instr) : State :=
  after s (match i with
    | .regWrite via addr fbe lbe data => execRegWrite via addr fbe lbe data s
    | .regRead via addr ndw fbe lbe tag => execRegRead via addr ndw fbe lbe tag s
    | .smbRegWrite off data pecGiven pecOk => execSmbRegWrite off data pecGiven pecOk s
    | .smbRegRead off => execSmbRegRead off s
    | .pageEnable page => execPageEnable page s
    | .pageDisable page => execPageDisable page s
    | .quiesceSet page => execQuiesceSet page s
    | .quiesceClear page => execQuiesceClear page s
    | .pageLock page => execPageLock page s
    | .evtRawClear page ones hwSet => execEvtRawClear page ones hwSet s
    | .evtEnWrite page value => execEvtEnWrite page value s
    | .evtForce page bits => execEvtForce page bits s
    | .errCapRelease page => execErrCapRelease page s
    | .cntClear page section2 => execCntClear page section2 s
    | .tblRead page set cmd => execTblRead page set cmd s
    | .tblWrite page set cmd => execTblWrite page set cmd s
    | .tblOpInvalid page set cmd => execTblOpInvalid page set cmd s
    | .pwlogRelease value => execPwlogRelease value s
    | .drRelease value => execDrRelease value s
    | .queueFlush value => execQueueFlush value s
    | .bankRetire bank => execBankRetire bank s
    | .epochFlip => execEpochFlip s
    | .ringDoorbell via hall ring count => execRingDoorbell via hall ring count s
    | .ringEnable ring => execRingEnable ring s
    | .ringDisable ring => execRingDisable ring s
    | .ringResume ring => execRingResume ring s
    | .tailClear ring => execTailClear ring s
    | .dlFlip hall => execDlFlip hall s
    | .rxConsWrite via hall cons => execRxConsWrite via hall cons s
    | .swSet value => execSwSet value s
    | .sumClaim target path => execSumClaim target path s
    | .sumComplete target source => execSumComplete target source s
    | .sumStackReset target => execSumStackReset target s
    | .sourceClrPend source => execSourceClrPend source s
    | .sourceReassign source => execSourceReassign source s
    | .hallCreate hall => execHallCreate hall s
    | .hallReset hall => execHallReset hall s
    | .hallRelease hall => execHallRelease hall s
    | .flr func => execFlr func s
    | .vfDisable => execVfDisable s
    | .hostReset cause => execHostReset cause s
    | .perstAssert => execPerstAssert s
    | .rebootEffect spi => execRebootEffect spi s
    | _ => done s)

/-- The affected blocks go on: STATE is EMPTY, and what waited before them moves (R471, step 5). DEDUCED, unsafe: log entry 145. -/
def State.mezRelease (s : State) : State :=
  let s := s.mezDiscard
  s.acceptHeld.settle

/-- MEZ_APPLY (R471 to R475): `ns` is the time since the commit. DEDUCED, unsafe: log entries 145, 149. -/
def State.mezApply (s : State) (ns : Nat) : State :=
  if s.mezSt != mzAPPLYING then s else
  let n := s.mez.staged.length
  let s := s.each s.mez.staged (fun w s => s.applyOne w)
  let s := s.mezRelease
  let s := s.sf pgMEZ MEZ.APPLY_NS_NS ns |>.sf pgMEZ MEZ.MEZ_STS_LAST_STATUS 0
  let s := ((s.cnt pgMEZ MEZ.CNT_COMMITS).cnt pgMEZ MEZ.CNT_WRITES_APPLIED n).event pgMEZ 0
  let s := s.mgqFinish (fun w => w == MgqWait.commit) ⟨0, n, 0, 0, []⟩
  let waiting := s.mez.deferred
  let s := { s with mez := { s.mez with deferred := [] } }
  ((s.each waiting (fun i s => s.runWaiting i)).mgqPump).settle
def execMezApply (ns : Nat) (s : State) : Host.Outcome State Fault Refusal := done (s.mezApply ns)

/-! ### What was kept back behind a frame that waited for admission (R275, R409) -/

/-- A request of the host port that was kept back acts. DEDUCED, unsafe: log entry 153. -/
def State.runTlp (s : State) (i : Instr) : State :=
  after s (match i with
    | .hostWrite info addr fbe lbe data => execHostWrite info addr fbe lbe data s
    | .hostRead info tag addr ndw fbe lbe => execHostRead info tag addr ndw fbe lbe s
    | .hostAtomic info tag addr op size opnd cmp => execHostAtomic info tag addr op size opnd cmp s
    | .hostZeroLengthRead info tag addr => execHostZeroLengthRead info tag addr s
    | .regWrite via addr fbe lbe data => execRegWrite via addr fbe lbe data s
    | .regRead via addr ndw fbe lbe tag => execRegRead via addr ndw fbe lbe tag s
    | .configRequest func reg write tag => execConfigRequest func reg write tag s
    | .atsInvalidationRequest itag func pasid addr pages => execAtsInvalidationRequest itag func pasid addr pages s
    | _ => done s)

/-- Up to n of the requests kept back go on, in their order, while no frame of the host port waits. DEDUCED, unsafe: log entry 153. -/
def State.drainTlps (s : State) : Nat → State
  | 0 => s
  | n + 1 =>
    match s.host.stalled with
    | [] => s
    | i :: rest =>
      if s.gal.waiting.any (·.host) then s else
        let s := { s with host := { s.host with stalled := [] } }.runTlp i
        { s with host := { s.host with stalled := rest } }.drainTlps n

/-- ADMISSION_RESUME (R275): the first waiting frame of an account is admitted when R274 allows, and what stalled goes on.
DEDUCED, unsafe: log entry 153. -/
def execAdmissionResume (account : Nat) (s : State) : Host.Outcome State Fault Refusal :=
  let s := (s.resumeAdmission account).settle
  done (s.drainTlps s.host.stalled.length)

end Sys2Proof.Machine
end

