-- ==== Sys2Proof/Machine/Stream.lean ====
section
/-!
DEFINITION. The stream of blocks on the pairs (R145, R149, R151, R159, R164, R187 to R192, R196, R211, R216, R224, R225): received
codewords are corrected and rebuilt into the stream of their link, whose blocks act; and what ports and links have to send stands on
the pairs as levels. DESIGN CHOICE, unsafe: log entry 49.
-/

namespace Sys2Proof.Machine

/-! ### Receiving -/

/-- A control block of a link's stream (R192): it acts as the row of its type does. -/
def State.ctlIn (s : State) (a : Nat) (b : Word64) : State :=
  let t := blkType b
  if t == btEOF then s.eofIn a b
  else if !blkGood b || !blkListed t then s.cnt (pgPRT a) LNK.CNT_BAD_CTL
  else if t == btACK then (s.ackIn a b).echoDone a
  else if t == btNAK then (s.nakIn a b).echoDone a
  else if t == btFLOW then s.flowIn a b
  else if t == btINIT then (s.initGot a b).1.initNext a
  else if t == btPARAM then (s.paramGot a b).initNext a
  else if t == btSPARE then s.spareIn a b
  else if t == 0xC3 then s.sleepReqIn a b
  else if t == 0xC4 then s.sleepAckIn a b
  else if t == 0xC5 then s.sleepNakIn a b
  else s

/-- A block of a link's stream acts; none: it was lost (R190, R196). -/
def State.blockIn (s : State) (a : Nat) (b : Option Block) : State :=
  match b with
  | none => if s.flows a then s.lostBlock a else s
  | some b => if b.ctl then s.ctlIn a b.body else s.dataIn a b.body

/-- A standby spare's codeword carries IDLE and SPARE_SW only (R224): the latter act, the rest is not of the link. -/
def State.standbyIn (s : State) (a : Nat) (bs : List (Option Block)) : State :=
  s.each bs (fun b s => match b with
    | some x => if x.ctl && (blkType x.body == btSPARE || !blkGood x.body) then s.ctlIn a x.body else s
    | none => s)

/-- What a received codeword gives: its number, 256 for an uncorrectable one, STANDBY, and its blocks (R187, R188). -/
abbrev RxCw := Nat × Bool × List (Option Block)
def lostCw : RxCw := (256, false, List.replicate 32 none)

/-- Whether number n of a codeword comes before number at in sending order (R188). -/
def cwBefore (n at_ : Nat) : Bool := decide (128 ≤ subMod n at_ 8)

/-- The first codeword that waits on a port. -/
def State.cwHead (s : State) (n : Nat) : Option RxCw := (s.port n).rxCws.head?
def State.cwPop (s : State) (n : Nat) : State := s.setPort n { s.port n with rxCws := (s.port n).rxCws.drop 1 }

/-- The lane a switchover is about, with the CW_NUM from which the peer sends it on the spare, and the spare (R225). -/
def State.switching (s : State) (a : Nat) : Option (Nat × Option Nat × Nat) :=
  if s.lk a != lkSPARING then none else
  match (s.lard a).spare, s.spareOf a with
  | some x, some sp => some (x.lane, x.peer, sp)
  | _, _ => none

/-- The blocks of a lane of codeword number n, of a head with that number; any other head leaves them lost (R191). -/
def laneBlocks (n : Nat) (h : Option RxCw) : List (Option Block) :=
  match h with
  | some (m, false, bs) => if m == n then bs else lostCw.2.2
  | _ => lostCw.2.2

/-- The blocks that one codeword of every lane holds, block k of the stream on lane k mod w (R191). -/
def interleave (lanes : List (List (Option Block))) : List (Option Block) :=
  (List.range 32).flatMap (fun j => lanes.map (fun l => (l.getD j none)))

/-- One codeword of every lane is taken, when all are there: their blocks in the order of the stream (R191). In a switchover the lane
comes from the spare from the peer's AT on, and is lost before it where its port gives nothing (R225). DESIGN CHOICE, unsafe: log entry 49. -/
def State.takeRow (s : State) (a : Nat) : Option (State × List (Option Block)) :=
  let sw := s.switching a
  let lanes := List.range (s.width a)
  let steady := lanes.filter (fun l => match sw with | some (x, _, _) => l != x | none => true)
  if !steady.all (fun l => (s.cwHead (s.lanePort a l)).isSome) || steady.isEmpty then none else
  let nums := steady.filterMap (fun l => (s.cwHead (s.lanePort a l)).bind (fun h => if h.1 < 256 then some h.1 else none))
  let n := nums.headD 256
  let due := match sw with | some (_, some at_, _) => n < 256 && !cwBefore n at_ | _ => false
  let wait := match sw with | some (_, _, sp) => due && (s.cwHead sp).isNone | none => false
  if wait then none else
  let from_ := fun (l : Nat) => match sw with
    | some (x, _, sp) => if l == x && due then sp else s.lanePort a l
    | none => s.lanePort a l
  let blocks := lanes.map (fun l => laneBlocks n (s.cwHead (from_ l)))
  some (s.each lanes (fun l s => s.cwPop (from_ l)), interleave blocks)

/-- The codewords that are there on every lane are taken, and their blocks act in order. DESIGN CHOICE, unsafe: log entry 49. -/
def State.rebuild (s : State) (a : Nat) : Nat → State
  | 0 => s
  | k + 1 =>
    if !(s.lk a == lkINIT || s.flows a) then s else
    match s.takeRow a with
    | none => s
    | some (s, bs) => (s.each bs (fun b s => s.blockIn a b)).rebuild a k

/-- A codeword of a port waits for those of the other lanes; a standby spare's is not of the link, and a port whose link exchanges no
blocks has none. DESIGN CHOICE, unsafe: log entry 49. -/
def State.cwQueue (s : State) (n : Nat) (c : RxCw) : State :=
  let a := s.anchorOf n
  if !(s.lk a == lkINIT || s.flows a) then s
  else if s.isStandby n && (c.2.1 || c.1 == 256) then s.standbyIn a c.2.2
  else if s.isStandby n || (s.members a).contains n then
    (s.setPort n { s.port n with rxCws := (s.port n).rxCws ++ [c] }).rebuild a ((s.port n).rxCws.length + 1)
  else s

/-- CODEWORD_RX (R149, R166, R190, R191): corrected and counted, or declared uncorrectable with its 32 blocks lost; the descrambler runs
on in either case, and the eighth uncorrectable one in a row loses the lane's lock. DESIGN CHOICE, unsafe: log entry 49. -/
def State.codeword (s : State) (n : Nat) (cw : BitVec 2160) : State :=
  if s.ph n != phACTIVE then s else
  let pg := pgPRT (s.anchorOf n)
  let p := s.port n
  match rsDecode cw with
  | none =>
    let s := s.setPort n { p with badCw := p.badCw + 1, lfsr := (descramble p.lfsr (bits cw.toNat 52 2048)).2 }
    let s := (s.cnt pg LNK.CNT_CW_UNCORRECTABLE).error pg 21 0x1B (s.laneOf n + bits cw.toNat 0 8 * 16) 0 0
    let s := s.cwQueue n lostCw
    if 8 ≤ p.badCw + 1 then s.laneLost n 0 else s
  | some (syms, fixed) =>
    let w := rsBits syms
    let d := descramble p.lfsr (bits w 52 2048)
    let s := s.setPort n { p with badCw := 0, lfsr := d.2 }
    let s := if fixed then s.cnt pg LNK.CNT_CW_CORRECTED else s
    s.cwQueue n (bits w 0 8, bitAt w 12, (cwBlocks (bits w 20 32) d.1).map some)

def execCodewordRx (port : Nat) (cw : BitVec 2160) (s : State) : Host.Outcome State Fault Refusal :=
  done (s.codeword port cw).settle

/-! ### Sending training frames -/

/-- Whether a port sends training frames in its state (R154, R167), with its transmitter on a reference (R179). -/
def State.sendsTb (s : State) (n : Nat) : Bool :=
  let st := s.ph n
  s.gb (pgPRT n) PRT.PHY_STS_LREF_OK
    && (((s.leadsPhase n || s.aligning n) && (s.port n).cd != 0) || st == phDUPLEX || (st == phRETRAIN && !(s.port n).exDone))

/-- The COUNTDOWN of a port's next frame (R155, R159): from 255, or from 15 and again until its link is aligned. Elsewhere the number
of frames still to come is not known: a free value. DESIGN CHOICE, safe: log entry 47. -/
def State.nextCd (s : State) (n : Nat) : Nat :=
  let p := s.port n
  if s.leadsPhase n then p.cd - 1
  else if s.aligning n then (if s.linkReady_ n then p.cd - 1 else 15)
  else s.nextFree 8

/-- The marker a port sends next (R164). -/
def State.nextAm (s : State) (n : Nat) : Word64 :=
  let a := s.anchorOf n
  let e := s.expectLane n
  mkAm e.1 e.2.1 (s.gf (pgPRT a) PRT.LOCAL_ID_ID) (s.port n).amNo e.2.2

/-- The time at which a port begins what it sends now: the end of what it sent last, or now. -/
def State.txStart (s : State) (t : Nat) : Nat := if t + 85 < 85 * s.clock then 85 * s.clock else t

/-- A training frame goes out, and in marker mode, in ALIGN, a marker after every fourth (R151, R152, R159, R164). -/
def State.sendTb (s : State) (n : Nat) : State :=
  let p := s.port n
  let ack := s.exchanging n && 8 ≤ p.acks
  let cd := s.nextCd n
  let tb := s.mkTb n ack cd
  let bs := sentBits (trainFrame tb) p.hist
  let am := s.aligning n && s.marksPort n && p.gap == 3
  let bits_ := bs.1 ++ (if am then amBits (s.nextAm n) else [])
  let s := if s.leadsPhase n || s.aligning n then s else s.drawn
  let s := (s.emit (.tb n tb)).emit (.line n (lineLevels p.rate bits_))
  s.setPort n { p with
    cd := cd, hist := bs.2, frames := p.frames + 1, ackSent := p.ackSent + b2n ack
    gap := if am then 0 else if s.aligning n then p.gap + 1 else p.gap
    amNo := if am then (p.amNo + 1) % 65536 else p.amNo
    txAt := s.txStart p.txAt + bits_.length * bitTime p.rate }

/-- A training port whose last frame has ended goes on: its exchange ends, or its next frame goes out. DESIGN CHOICE, unsafe: log entry 49. -/
def State.trainTx (s : State) (n : Nat) : State :=
  if !s.frameOver n then s
  else if s.exchanging n && s.exchanged n then s.exchangeEnd n
  else if s.sendsTb n then s.sendTb n else s

/-! ### Sending codewords -/

/-- What was given to a link's sender since its last codeword joins the blocks to be sent; of LINK_INIT and LINK_PARAM the last counts
(R216), and SPARE_SW goes on the spare alone (R225). -/
def State.gatherCtl (s : State) (a : Nat) : State :=
  let l := s.link a
  let new := ((s.out.take (s.out.length - l.outAt)).reverse).filterMap (fun o => match o with
    | .ctl x b => if x == a && blkType b != btSPARE then some (⟨true, b⟩ : Block) else none
    | _ => none)
  let join := fun (q : List Block) (b : Block) =>
    (if blkType b.body == btINIT || blkType b.body == btPARAM then q.filter (fun x => blkType x.body != blkType b.body) else q) ++ [b]
  s.setLink a { l with toSend := new.foldl join l.toSend, outAt := s.out.length }

/-- What every codeword carries beside that (R211, R216): in INIT one LINK_INIT and one LINK_PARAM; where frames flow, FLOW after a change
and repeated, every 4 codewords while a VC is off and every 32 otherwise. DEDUCED, unsafe: log entry 49. -/
def State.duePart (s : State) (a : Nat) : State :=
  let l := s.link a
  let xoff := s.gf (pgPRT a) LNK.RX_STS_XOFF_SENT
  if s.lk a == lkINIT then
    let rest := l.toSend.filter (fun b => blkType b.body != btINIT && blkType b.body != btPARAM)
    s.setLink a { l with
      toSend := ⟨true, s.initBlock a⟩ :: ⟨true, mkParam (s.maxPayWord a)⟩ :: rest
      init := { l.init with sentAck := l.init.sentAck || l.init.got } }
  else if s.flows a && (l.flowDue || l.cw % (if xoff == 0 then 32 else 4) == 0) then
    s.setLink a { l with toSend := l.toSend ++ [⟨true, mkFlow xoff⟩], flowDue := false }
  else s

/-- IDLE, what a sender sends when it has nothing else (R196). -/
def idleBlock : Block := ⟨true, mkBlk btIDLE 0⟩

/-- The blocks of frames, as many as fit, and what is left of the frames. -/
def takeBlocks : Nat → List (Nat × Bool × List Block) → List Block × List (Nat × Bool × List Block)
  | 0, q => ([], q)
  | _, [] => ([], [])
  | n + 1, (q, r, bs) :: t =>
    if bs.length ≤ n + 1 then
      let u := takeBlocks (n + 1 - max 1 bs.length) t
      (bs ++ u.1, u.2)
    else (bs.take (n + 1), (q, r, bs.drop (n + 1)) :: t)
termination_by structural _ q => q

/-- The next blocks of a link's stream: control blocks, then frames, then IDLE (R196). -/
def State.nextBlocks (s : State) (a total : Nat) : State × List Block :=
  let l := s.link a
  let c := l.toSend.take total
  let f := if s.flows a then takeBlocks (total - c.length) l.sending else ([], l.sending)
  let bs := c ++ f.1
  (s.setLink a { l with toSend := l.toSend.drop total, sending := f.2 }, bs ++ List.replicate (total - bs.length) idleBlock)

/-- The port that sends a lane now (R225): the spare, from this side's AT on. -/
def State.sendPort (s : State) (a lane : Nat) : Nat :=
  match s.switching a, (s.lard a).spare with
  | some (l, _, sp), some x => if l == lane && s.switched a x then sp else s.lanePort a lane
  | _, _ => s.lanePort a lane

/-- The SPARE_SW block of this side (R225): as long as it began the switchover and has no echo, or answers and has not switched. -/
def State.spareBlock (s : State) (a : Nat) : Option Block :=
  if s.lk a != lkSPARING then none else
  match (s.lard a).spare with
  | some x =>
    if x.answer && s.switched a x || !x.answer && x.peer.isSome then none
    else some ⟨true, mkSpare x.lane x.answer x.own (s.gf (pgPRT a) PRT.LOCAL_ID_ID)⟩
  | none => none

/-- The blocks of a lane among those of the stream (R191). -/
def ofLane (bs : List Block) (w lane : Nat) : List Block := (List.range 32).map (fun j => bs.getD (j * w + lane) idleBlock)

/-- Whether a port sends codewords at a time: it is ACTIVE, on a reference, and has not stopped for sleep (R174, R179). -/
def State.sendsCw (s : State) (n at_ : Nat) : Bool :=
  s.ph n == phACTIVE && s.gb (pgPRT n) PRT.PHY_STS_LREF_OK
    && (match (s.port n).toSleep with | some t => decide (at_ < 85 * t) | none => true)

/-- A codeword goes out on a port, with a marker after it where one is due (R164, R187 to R189). -/
def State.sendCw (s : State) (n cwc : Nat) (bs : List Block) (am : Bool) : State :=
  let p := s.port n
  let r := scrambleAll bs p.hist
  let bits_ := bitList 2160 (mkCodeword cwc r.1).toNat ++ (if am then amBits (s.nextAm n) else [])
  (s.emit (.line n (lineLevels p.rate bits_))).setPort n { p with hist := r.2, amNo := if am then (p.amNo + 1) % 65536 else p.amNo }

/-- A codeword of every lane of a link goes out, and one of its standby spare (R188, R191, R224, R225). DEDUCED, unsafe: log entry 49. -/
def State.linkTx (s : State) (a : Nat) : State :=
  let l := s.link a
  let start := s.txStart l.cwAt
  let w := (s.members a).length
  if 85 * s.clock < l.cwAt || !(s.crew a).any (fun n => s.sendsCw n start) then s else
  let s := (s.gatherCtl a).duePart a
  let num := (s.link a).cw
  let sw := s.spareBlock a
  let onSpare := match (s.lard a).spare with | some x => s.lk a == lkSPARING && s.switched a x | none => false
  let lead := match sw, onSpare, (s.lard a).spare with
    | some b, true, some x => some (x.lane, b)
    | _, _, _ => none
  let t := s.nextBlocks a (32 * w - (if lead.isSome then 1 else 0))
  let bs := match lead with | some (lane, b) => t.2.take lane ++ [b] ++ t.2.drop lane | none => t.2
  let s := t.1
  let am := s.markers a && l.cwGap == 1023
  let s := s.each (List.range w) (fun lane s =>
    let n := s.sendPort a lane
    if s.sendsCw n start then s.sendCw n (mkCwc num (if w == 1 then 0 else lane) false) (ofLane bs w lane) am else s)
  let s := match s.standby a with
    | some n =>
      if s.sendsCw n start && !onSpare then
        s.sendCw n (mkCwc num 0 true) (sw.toList ++ List.replicate (32 - sw.toList.length) idleBlock) am
      else s
    | none => s
  let bt := bitTime (s.port ((s.members a).headD a)).rate
  s.setLink a { s.link a with
    cw := (num + 1) % 256, cwAt := start + (2160 + (if am then 66 else 0)) * bt, cwGap := if am then 0 else l.cwGap + 1 }

/-- What stands on the pairs goes on: training frames, codewords, and the waits of starved windows (R207). DESIGN CHOICE, unsafe: log
entries 2, 49. -/
def State.wireTick (s : State) : State :=
  let s := s.each (s.ports.map (·.1)) (fun n s => s.trainTx n)
  let anchors := ((s.ports.map (·.1)).filter (fun n => s.ph n == phACTIVE)).map s.anchorOf
  let s := s.each anchors.dedup (fun a s => s.linkTx a)
  s.each (s.links.map (·.1)) (fun a s => if s.flows a then s.starveWatch a else s)

end Sys2Proof.Machine
end

