-- ==== Sys2Proof/Machine/Dispatch.lean ====
section
/-!
DEFINITION. The meaning of every command: one arm per constructor, in the order of Syntax.lean.
-/

namespace Sys2Proof.Machine

/-- The effect of a command on everything but the queue. DESIGN CHOICE, safe: log entries 5, 11. -/
def exec (i : Instr) (s : State) : Host.Outcome State Fault Refusal :=
  match i with
  | .regWrite via addr fbe lbe data => Sys2Proof.Machine.execRegWrite via addr fbe lbe data s
  | .pageEnable page => Sys2Proof.Machine.execPageEnable page s
  | .enableReady page => Sys2Proof.Machine.execEnableReady page s
  | .pageDisable page => Sys2Proof.Machine.execPageDisable page s
  | .disableGate page => Sys2Proof.Machine.execDisableGate page s
  | .quiesceSet page => Sys2Proof.Machine.execQuiesceSet page s
  | .quiesceClear page => Sys2Proof.Machine.execQuiesceClear page s
  | .quiesced page => Sys2Proof.Machine.execQuiesced page s
  | .pageLock page => Sys2Proof.Machine.execPageLock page s
  | .evtRawClear page ones hwSet => Sys2Proof.Machine.execEvtRawClear page ones hwSet s
  | .evtEnWrite page value => Sys2Proof.Machine.execEvtEnWrite page value s
  | .evtForce page bits => Sys2Proof.Machine.execEvtForce page bits s
  | .errCapRelease page => Sys2Proof.Machine.execErrCapRelease page s
  | .cntClear page section2 => Sys2Proof.Machine.execCntClear page section2 s
  | .tblRead page set cmd => Sys2Proof.Machine.execTblRead page set cmd s
  | .tblWrite page set cmd => Sys2Proof.Machine.execTblWrite page set cmd s
  | .tblOpInvalid page set cmd => Sys2Proof.Machine.execTblOpInvalid page set cmd s
  | .tblOpDone page set => Sys2Proof.Machine.execTblOpDone page set s
  | .smbRegWrite off data pecGiven pecOk => Sys2Proof.Machine.execSmbRegWrite off data pecGiven pecOk s
  | .smbRegRead off => Sys2Proof.Machine.execSmbRegRead off s
  | .smbStatusRead => Sys2Proof.Machine.execSmbStatusRead s
  | .smbAra => Sys2Proof.Machine.execSmbAra s
  | .mctpPacket bytes => Sys2Proof.Machine.execMctpPacket bytes s
  | .mctpSetEndpointId eid => Sys2Proof.Machine.execMctpSetEndpointId eid s
  | .mctpGetEndpointId => Sys2Proof.Machine.execMctpGetEndpointId s
  | .mctpGetEndpointUuid => Sys2Proof.Machine.execMctpGetEndpointUuid s
  | .mctpGetVersionSupport msgType => Sys2Proof.Machine.execMctpGetVersionSupport msgType s
  | .mctpGetMessageTypeSupport => Sys2Proof.Machine.execMctpGetMessageTypeSupport s
  | .mctpGetVendorMsgSupport sel => Sys2Proof.Machine.execMctpGetVendorMsgSupport sel s
  | .mctpUnsupportedCmd cmd => Sys2Proof.Machine.execMctpUnsupportedCmd cmd s
  | .mctpMgqCommand cmd data => Sys2Proof.Machine.execMctpMgqCommand cmd data s
  | .devtimeLoRead path => Sys2Proof.Machine.execDevtimeLoRead path s
  | .perstRelease clkSamples => Sys2Proof.Machine.execPerstRelease clkSamples s
  | .perstAssert => Sys2Proof.Machine.execPerstAssert s
  | .hostLinkUp speed width flit reversed polInv => Sys2Proof.Machine.execHostLinkUp speed width flit reversed polInv s
  | .hostLinkDown => Sys2Proof.Machine.execHostLinkDown s
  | .hostReset cause => Sys2Proof.Machine.execHostReset cause s
  | .speedLimitWrite limit autoUp => Sys2Proof.Machine.execSpeedLimitWrite limit autoUp s
  | .speedAutoUp => Sys2Proof.Machine.execSpeedAutoUp s
  | .hostRetrainLink target partnerMax => Sys2Proof.Machine.execHostRetrainLink target partnerMax s
  | .configRequest func reg write tag => Sys2Proof.Machine.execConfigRequest func reg write tag s
  | .pmStateWrite func d3 => Sys2Proof.Machine.execPmStateWrite func d3 s
  | .vfEnable => Sys2Proof.Machine.execVfEnable s
  | .vfDisable => Sys2Proof.Machine.execVfDisable s
  | .flr func => Sys2Proof.Machine.execFlr func s
  | .flrDone func => Sys2Proof.Machine.execFlrDone func s
  | .hostWrite info addr fbe lbe data => Sys2Proof.Machine.execHostWrite info addr fbe lbe data s
  | .hostRead info tag addr ndw fbe lbe => Sys2Proof.Machine.execHostRead info tag addr ndw fbe lbe s
  | .hostAtomic info tag addr op size opnd cmp => Sys2Proof.Machine.execHostAtomic info tag addr op size opnd cmp s
  | .hostZeroLengthRead info tag addr => Sys2Proof.Machine.execHostZeroLengthRead info tag addr s
  | .hostCompletion tag status data completer ide poisoned hdr0 hdr1 hdr2 => Sys2Proof.Machine.execHostCompletion tag status data completer ide poisoned hdr0 hdr1 hdr2 s
  | .cplTimeout tag => Sys2Proof.Machine.execCplTimeout tag s
  | .msixTableWrite func vec dword be value => Sys2Proof.Machine.execMsixTableWrite func vec dword be value s
  | .atsInvalidationRequest itag func pasid addr pages => Sys2Proof.Machine.execAtsInvalidationRequest itag func pasid addr pages s
  | .atsInvalidationComplete itag => Sys2Proof.Machine.execAtsInvalidationComplete itag s
  | .atsTranslationCompletion hall page result => Sys2Proof.Machine.execAtsTranslationCompletion hall page result s
  | .prgResponse hall group code => Sys2Proof.Machine.execPrgResponse hall group code s
  | .ptmReq => Sys2Proof.Machine.execPtmReq s
  | .ptmPeriod => Sys2Proof.Machine.execPtmPeriod s
  | .ptmDialogDone hostTime => Sys2Proof.Machine.execPtmDialogDone hostTime s
  | .ptmDialogFail => Sys2Proof.Machine.execPtmDialogFail s
  | .doeRequest protocol object => Sys2Proof.Machine.execDoeRequest protocol object s
  | .doeAbort => Sys2Proof.Machine.execDoeAbort s
  | .spdmRequest path ver code param1 param2 body => Sys2Proof.Machine.execSpdmRequest path ver code param1 param2 body s
  | .ideKeyProg stream keyset subStream key => Sys2Proof.Machine.execIdeKeyProg stream keyset subStream key s
  | .ideKmMessage stream kind keyset subStream => Sys2Proof.Machine.execIdeKmMessage stream kind keyset subStream s
  | .tdispLockInterface vf => Sys2Proof.Machine.execTdispLockInterface vf s
  | .tdispStartInterface vf nonce => Sys2Proof.Machine.execTdispStartInterface vf nonce s
  | .tdispStopInterface vf => Sys2Proof.Machine.execTdispStopInterface vf s
  | .tdispMessage vf code body => Sys2Proof.Machine.execTdispMessage vf code body s
  | .readExpiry acc => Sys2Proof.Machine.execReadExpiry acc s
  | .npwExpiry acc => Sys2Proof.Machine.execNpwExpiry acc s
  | .drHoldExpiry index => Sys2Proof.Machine.execDrHoldExpiry index s
  | .drRelease value => Sys2Proof.Machine.execDrRelease value s
  | .pwlogRelease value => Sys2Proof.Machine.execPwlogRelease value s
  | .raHoldExpiry slot => Sys2Proof.Machine.execRaHoldExpiry slot s
  | .mirageOutWrite port slot value => Sys2Proof.Machine.execMirageOutWrite port slot value s
  | .mirageUpdateSend anchor => Sys2Proof.Machine.execMirageUpdateSend anchor s
  | .sbPollTimer anchor => Sys2Proof.Machine.execSbPollTimer anchor s
  | .trainingBlockRx port tb freqPpm => Sys2Proof.Machine.execTrainingBlockRx port tb freqPpm s
  | .cableSweepDone port fault tap cond rates => Sys2Proof.Machine.execCableSweepDone port fault tap cond rates s
  | .echoPhaseEnd echo => Sys2Proof.Machine.execEchoPhaseEnd echo s
  | .rateSwitchEnd port => Sys2Proof.Machine.execRateSwitchEnd port s
  | .alignDone port taps => Sys2Proof.Machine.execAlignDone port taps s
  | .trainTimeout port => Sys2Proof.Machine.execTrainTimeout port s
  | .trainRetryWaitEnd port => Sys2Proof.Machine.execTrainRetryWaitEnd port s
  | .faultSweepTimer port => Sys2Proof.Machine.execFaultSweepTimer port s
  | .blockLockGained port => Sys2Proof.Machine.execBlockLockGained port s
  | .blockLockLost port => Sys2Proof.Machine.execBlockLockLost port s
  | .polarityCorrect port => Sys2Proof.Machine.execPolarityCorrect port s
  | .amRx port am skewNs => Sys2Proof.Machine.execAmRx port am skewNs s
  | .markerLockGained port => Sys2Proof.Machine.execMarkerLockGained port s
  | .markerLockLost port => Sys2Proof.Machine.execMarkerLockLost port s
  | .lockLoss port cause => Sys2Proof.Machine.execLockLoss port cause s
  | .retrainWrite port => Sys2Proof.Machine.execRetrainWrite port s
  | .retrainTimeout port => Sys2Proof.Machine.execRetrainTimeout port s
  | .diagRun port fault tap cond => Sys2Proof.Machine.execDiagRun port fault tap cond s
  | .cableChange port taps => Sys2Proof.Machine.execCableChange port taps s
  | .sleepReqWrite port => Sys2Proof.Machine.execSleepReqWrite port s
  | .sleepReqSend anchor => Sys2Proof.Machine.execSleepReqSend anchor s
  | .linkIdleTimer anchor => Sys2Proof.Machine.execLinkIdleTimer anchor s
  | .sleepReqRx anchor blk => Sys2Proof.Machine.execSleepReqRx anchor blk s
  | .sleepAckRx anchor blk => Sys2Proof.Machine.execSleepAckRx anchor blk s
  | .sleepNakRx anchor blk => Sys2Proof.Machine.execSleepNakRx anchor blk s
  | .sleepAnswerTimeout anchor => Sys2Proof.Machine.execSleepAnswerTimeout anchor s
  | .detectorArm anchor => Sys2Proof.Machine.execDetectorArm anchor s
  | .activityWake port => Sys2Proof.Machine.execActivityWake port s
  | .bridgeWake anchor => Sys2Proof.Machine.execBridgeWake anchor s
  | .groupPllLocked group => Sys2Proof.Machine.execGroupPllLocked group s
  | .wakeDetectDelay port => Sys2Proof.Machine.execWakeDetectDelay port s
  | .wakeLockoutEnd port => Sys2Proof.Machine.execWakeLockoutEnd port s
  | .groupAutoSleep group => Sys2Proof.Machine.execGroupAutoSleep group s
  | .codewordRx port cw => Sys2Proof.Machine.execCodewordRx port cw s
  | .frameRx anchor blocks eof => Sys2Proof.Machine.execFrameRx anchor blocks eof s
  | .ackTimer anchor => Sys2Proof.Machine.execAckTimer anchor s
  | .ackRx anchor blk => Sys2Proof.Machine.execAckRx anchor blk s
  | .nakRx anchor blk => Sys2Proof.Machine.execNakRx anchor blk s
  | .flowRx anchor blk => Sys2Proof.Machine.execFlowRx anchor blk s
  | .flowSend anchor => Sys2Proof.Machine.execFlowSend anchor s
  | .frameStart anchor => Sys2Proof.Machine.execFrameStart anchor s
  | .replayTimer anchor => Sys2Proof.Machine.execReplayTimer anchor s
  | .creditAudit anchor => Sys2Proof.Machine.execCreditAudit anchor s
  | .windowStarveTimer anchor => Sys2Proof.Machine.execWindowStarveTimer anchor s
  | .linkInitRx anchor init param => Sys2Proof.Machine.execLinkInitRx anchor init param s
  | .initTimeout anchor => Sys2Proof.Machine.execInitTimeout anchor s
  | .linkEnable anchor => Sys2Proof.Machine.execLinkEnable anchor s
  | .linkDisable anchor => Sys2Proof.Machine.execLinkDisable anchor s
  | .linkResync anchor => Sys2Proof.Machine.execLinkResync anchor s
  | .spareSwRx anchor blk => Sys2Proof.Machine.execSpareSwRx anchor blk s
  | .spareSwitchDone anchor => Sys2Proof.Machine.execSpareSwitchDone anchor s
  | .spareEchoTimeout anchor => Sys2Proof.Machine.execSpareEchoTimeout anchor s
  | .stationRsp anchor => Sys2Proof.Machine.execStationRsp anchor s
  | .errRptRx anchor => Sys2Proof.Machine.execErrRptRx anchor s
  | .msgRx anchor => Sys2Proof.Machine.execMsgRx anchor s
  | .stationEvent anchor => Sys2Proof.Machine.execStationEvent anchor s
  | .mirageUpdateRx anchor => Sys2Proof.Machine.execMirageUpdateRx anchor s
  | .sbPollAnswer anchor => Sys2Proof.Machine.execSbPollAnswer anchor s
  | .timeRoundStart anchor => Sys2Proof.Machine.execTimeRoundStart anchor s
  | .timeEchoRx anchor t4 => Sys2Proof.Machine.execTimeEchoRx anchor t4 s
  | .timeEchoFuRx anchor => Sys2Proof.Machine.execTimeEchoFuRx anchor s
  | .timeRoundTimeout anchor => Sys2Proof.Machine.execTimeRoundTimeout anchor s
  | .identRetry anchor => Sys2Proof.Machine.execIdentRetry anchor s
  | .tagLifetime anchor tag => Sys2Proof.Machine.execTagLifetime anchor tag s
  | .admissionResume account => Sys2Proof.Machine.execAdmissionResume account s
  | .egressSelect egress badCell => Sys2Proof.Machine.execEgressSelect egress badCell s
  | .spillReadback queue => Sys2Proof.Machine.execSpillReadback queue s
  | .spillReadbackDone frame ok => Sys2Proof.Machine.execSpillReadbackDone frame ok s
  | .mcDetach queue => Sys2Proof.Machine.execMcDetach queue s
  | .sessionSweepDone anchor => Sys2Proof.Machine.execSessionSweepDone anchor s
  | .queueFlush value => Sys2Proof.Machine.execQueueFlush value s
  | .bankRetire bank => Sys2Proof.Machine.execBankRetire bank s
  | .bankRetireAuto bank uncorrectable corrected => Sys2Proof.Machine.execBankRetireAuto bank uncorrectable corrected s
  | .bankRetireDone bank unreadable => Sys2Proof.Machine.execBankRetireDone bank unreadable s
  | .naLockoutEnd group => Sys2Proof.Machine.execNaLockoutEnd group s
  | .cascadeFrameRx anchor => Sys2Proof.Machine.execCascadeFrameRx anchor s
  | .cascadeRequestDone relay => Sys2Proof.Machine.execCascadeRequestDone relay s
  | .gateCycleStart anchor => Sys2Proof.Machine.execGateCycleStart anchor s
  | .gateEntryChange anchor => Sys2Proof.Machine.execGateEntryChange anchor s
  | .ringDoorbell via hall ring count => Sys2Proof.Machine.execRingDoorbell via hall ring count s
  | .descNop engine => Sys2Proof.Machine.execDescNop engine s
  | .descCopy engine => Sys2Proof.Machine.execDescCopy engine s
  | .descFence engine => Sys2Proof.Machine.execDescFence engine s
  | .descJump engine => Sys2Proof.Machine.execDescJump engine s
  | .descReservedOp engine => Sys2Proof.Machine.execDescReservedOp engine s
  | .descFetchFail engine => Sys2Proof.Machine.execDescFetchFail engine s
  | .caravanReadData engine => Sys2Proof.Machine.execCaravanReadData engine s
  | .fenceDone engine => Sys2Proof.Machine.execFenceDone engine s
  | .enginePowerDown engine => Sys2Proof.Machine.execEnginePowerDown engine s
  | .ringEnable ring => Sys2Proof.Machine.execRingEnable ring s
  | .ringDisable ring => Sys2Proof.Machine.execRingDisable ring s
  | .ringResume ring => Sys2Proof.Machine.execRingResume ring s
  | .tailClear ring => Sys2Proof.Machine.execTailClear ring s
  | .hallCreate hall => Sys2Proof.Machine.execHallCreate hall s
  | .hallReset hall => Sys2Proof.Machine.execHallReset hall s
  | .hallRelease hall => Sys2Proof.Machine.execHallRelease hall s
  | .hallResetDone hall => Sys2Proof.Machine.execHallResetDone hall s
  | .genWaitEnd hall => Sys2Proof.Machine.execGenWaitEnd hall s
  | .dlFlip hall => Sys2Proof.Machine.execDlFlip hall s
  | .rxRecordWrite queue => Sys2Proof.Machine.execRxRecordWrite queue s
  | .rxConsWrite via hall cons => Sys2Proof.Machine.execRxConsWrite via hall cons s
  | .sourceFire source level => Sys2Proof.Machine.execSourceFire source level s
  | .evinChange pin level => Sys2Proof.Machine.execEvinChange pin level s
  | .swSet value => Sys2Proof.Machine.execSwSet value s
  | .msixDelivery entry => Sys2Proof.Machine.execMsixDelivery entry s
  | .holdoffExpiry group => Sys2Proof.Machine.execHoldoffExpiry group s
  | .sumClaim target path => Sys2Proof.Machine.execSumClaim target path s
  | .sumComplete target source => Sys2Proof.Machine.execSumComplete target source s
  | .sumStackReset target => Sys2Proof.Machine.execSumStackReset target s
  | .sourceClrPend source => Sys2Proof.Machine.execSourceClrPend source s
  | .sourceReassign source => Sys2Proof.Machine.execSourceReassign source s
  | .mgqDoorbell count => Sys2Proof.Machine.execMgqDoorbell count s
  | .ringStop fetchOk cmd => Sys2Proof.Machine.execRingStop fetchOk cmd s
  | .nop cmd => Sys2Proof.Machine.execNop cmd s
  | .tblLoad cmd src => Sys2Proof.Machine.execTblLoad cmd src s
  | .tblDump cmd => Sys2Proof.Machine.execTblDump cmd s
  | .commit cmd => Sys2Proof.Machine.execCommit cmd s
  | .abort cmd => Sys2Proof.Machine.execAbort cmd s
  | .wait cmd => Sys2Proof.Machine.execWait cmd s
  | .auditGallery cmd => Sys2Proof.Machine.execAuditGallery cmd s
  | .auditAllowance cmd => Sys2Proof.Machine.execAuditAllowance cmd s
  | .portTest cmd fault tap cond => Sys2Proof.Machine.execPortTest cmd fault tap cond s
  | .vaultWriteData cmd src => Sys2Proof.Machine.execVaultWriteData cmd src s
  | .vaultCommit cmd => Sys2Proof.Machine.execVaultCommit cmd s
  | .vaultErase cmd => Sys2Proof.Machine.execVaultErase cmd s
  | .stationIdent cmd => Sys2Proof.Machine.execStationIdent cmd s
  | .stationCfgRd cmd => Sys2Proof.Machine.execStationCfgRd cmd s
  | .stationCfgWr cmd => Sys2Proof.Machine.execStationCfgWr cmd s
  | .mgqReservedOp cmd => Sys2Proof.Machine.execMgqReservedOp cmd s
  | .stageRegister data => Sys2Proof.Machine.execStageRegister data s
  | .mezApply ns => Sys2Proof.Machine.execMezApply ns s
  | .ergTrainingDone ch result => Sys2Proof.Machine.execErgTrainingDone ch result s
  | .ergFillDone ch => Sys2Proof.Machine.execErgFillDone ch s
  | .ergAccessDone acc uncorrectable => Sys2Proof.Machine.execErgAccessDone acc uncorrectable s
  | .ergScrubPass ch fixes uncorr => Sys2Proof.Machine.execErgScrubPass ch fixes uncorr s
  | .ergSparingStart ch device corrections uncorr => Sys2Proof.Machine.execErgSparingStart ch device corrections uncorr s
  | .ergSparingDone ch => Sys2Proof.Machine.execErgSparingDone ch s
  | .ergChannelFail ch cause => Sys2Proof.Machine.execErgChannelFail ch cause s
  | .pwrReqRun viaWait => Sys2Proof.Machine.execPwrReqRun viaWait s
  | .pwrReqStandby viaWait modes => Sys2Proof.Machine.execPwrReqStandby viaWait modes s
  | .pwrReqSleep viaWait modes => Sys2Proof.Machine.execPwrReqSleep viaWait modes s
  | .pwrReqDeepSleep viaWait modes => Sys2Proof.Machine.execPwrReqDeepSleep viaWait modes s
  | .pwrReqOff viaWait modes => Sys2Proof.Machine.execPwrReqOff viaWait modes s
  | .stopTimeout inst => Sys2Proof.Machine.execStopTimeout inst s
  | .oasisListWake slot => Sys2Proof.Machine.execOasisListWake slot s
  | .thermalCoolWake temp => Sys2Proof.Machine.execThermalCoolWake temp s
  | .wakeFlagClear ones => Sys2Proof.Machine.execWakeFlagClear ones s
  | .tempSample temp anyBelowZero => Sys2Proof.Machine.execTempSample temp anyBelowZero s
  | .avsConfirmPoll crcOk mv => Sys2Proof.Machine.execAvsConfirmPoll crcOk mv s
  | .powerOn straps spi => Sys2Proof.Machine.execPowerOn straps spi s
  | .supplyLoss rail => Sys2Proof.Machine.execSupplyLoss rail s
  | .reboot value => Sys2Proof.Machine.execReboot value s
  | .rebootEffect spi => Sys2Proof.Machine.execRebootEffect spi s
  | .debugUnlock value => Sys2Proof.Machine.execDebugUnlock value s
  | .supplyReturn straps spi => Sys2Proof.Machine.execSupplyReturn straps spi s
  | .regRead via addr ndw fbe lbe tag => Sys2Proof.Machine.execRegRead via addr ndw fbe lbe tag s
  | .hostRecovery speed width => Sys2Proof.Machine.execHostRecovery speed width s
  | .timeSyncRx anchor s2 => Sys2Proof.Machine.execTimeSyncRx anchor s2 s
  | .timeFollowUpRx anchor => Sys2Proof.Machine.execTimeFollowUpRx anchor s
  | .spdmHeartbeatTimeout path => Sys2Proof.Machine.execSpdmHeartbeatTimeout path s
  | .boundaryScan tms tdi trstN => Sys2Proof.Machine.execBoundaryScan tms tdi trstN s
  | .queueFlushDone => Sys2Proof.Machine.execQueueFlushDone s
  | .auditSweep => Sys2Proof.Machine.execAuditSweep s
  | .auditSweepDone => Sys2Proof.Machine.execAuditSweepDone s
  | .epochFlip => Sys2Proof.Machine.execEpochFlip s
  | .epochDrained => Sys2Proof.Machine.execEpochDrained s
  | .engineAssign => Sys2Proof.Machine.execEngineAssign s
  | .dlFlipDone => Sys2Proof.Machine.execDlFlipDone s
  | .sourceAssign => Sys2Proof.Machine.execSourceAssign s
  | .mgqRingResume => Sys2Proof.Machine.execMgqRingResume s
  | .stationCmdTimeout => Sys2Proof.Machine.execStationCmdTimeout s
  | .mezCommit => Sys2Proof.Machine.execMezCommit s
  | .mezAbort => Sys2Proof.Machine.execMezAbort s
  | .ergPllLocked => Sys2Proof.Machine.execErgPllLocked s
  | .stopBlockStopped => Sys2Proof.Machine.execStopBlockStopped s
  | .wakeInLow => Sys2Proof.Machine.execWakeInLow s
  | .wakeTimer => Sys2Proof.Machine.execWakeTimer s
  | .standbyReturn => Sys2Proof.Machine.execStandbyReturn s
  | .xo32Stopped => Sys2Proof.Machine.execXo32Stopped s
  | .vrunRecompute => Sys2Proof.Machine.execVrunRecompute s
  | .debugEraseDone => Sys2Proof.Machine.execDebugEraseDone s
  | .historyRecordWrite => Sys2Proof.Machine.execHistoryRecordWrite s
  | .historyScanDone => Sys2Proof.Machine.execHistoryScanDone s
  | .vauxLoss => Sys2Proof.Machine.execVauxLoss s
  | .pmeTurnOff => Sys2Proof.Machine.execPmeTurnOff s
  | .smbBusTimeout => Sys2Proof.Machine.execSmbBusTimeout s

end Sys2Proof.Machine
end

