-- ==== Sys2Proof/Machine/Ecc.lean ====
section
/-!
DEFINITION. Uncorrectable ECC errors of table entries (R139, R304, R351, R356, R381, R388, R425, R456, R564).
-/

namespace Sys2Proof.Machine

/-- The page of a table, its TBL_ECC event, and what ERR_CAP1 holds for entry i with error code 0x01 (R139, R325, R351, R356, R388,
R425, R456). The tables of SWC have no code of their own for it (R298). -/
def Tbl.eccCapture (t : Tbl) (i : Nat) : Option (Nat × Nat × Nat) :=
  match t with
  | .win => some (pgBRG, 8, i)
  | .ste | .grp | .mbr | .rte => some (pgWAD, 2, i + t.info.num * 2 ^ 20)
  | .egn | .cls | .leaf | .gct | .gen => some (pgSCH, 2, i + t.info.num * 2 ^ 16)
  | .pole | .sel | .hsel => some (pgPOL, 0, i + t.info.num * 2 ^ 16)
  | .rng | .enl => some (pgCVN, 0, i + t.info.num * 2 ^ 16)
  | .hcx => some (pgHLM, 0, i)
  | .src | .tse | .tgt | .vec | .hof | .wkl => some (pgLND, 0, i + t.info.num * 2 ^ 16)
  | .pwl | .drd | .mir | .acc | .que | .wrp | .vlt => none

/-- Whether an uncorrectable error in an entry of a table is one of those R564 names. DESIGN CHOICE, unsafe: log entry 16. -/
def Tbl.eccNamed (t : Tbl) : Bool := t == .acc || t == .que || (t.eccCapture 0).isSome

/-- An entry whose written fields act at their reset values, with what hardware keeps in it. DESIGN CHOICE, unsafe: log entry 16. -/
def State.eccLeft (s : State) (t : Tbl) (i : Nat) : Entry :=
  let rw := BitVec.ofNat 1024 t.info.rw
  (s.ent t i &&& ~~~rw) ||| (t.zero &&& rw)

/-- A ring context is lost: the ring is DISABLED at once, and its engine abandons its descriptor and writes no status (R381). -/
def State.ringLost (s : State) (g : Nat) : State :=
  let s := s.each (s.cvn.engines.filter (fun e => e.2.ring == some g)) (fun e s => s.engRelease e.1 g)
  let s := { s with cvn := { s.cvn with
      pending := s.cvn.pending.filter (· != g)
      prior := s.cvn.prior.filter (· != g)
      stopDue := s.cvn.stopDue.filter (· != g) } }
  s.setEnt .rng g (Tbl.zero .rng)

/-- What an entry with an uncorrectable error acts as until it is written. DESIGN CHOICE, unsafe: log entry 16. -/
def State.eccActs (s : State) (t : Tbl) (i : Nat) : State :=
  match t with
  | .hcx => if s.hallSt i == hlFREE || s.hallSt i == hlBOUND then (s.st .hcx i T_HCX.STATE hlERROR).fence i else s
  | .rng => s.ringLost i
  | .src => s.resetSource i
  | .egn | .cls | .leaf | .pole => s.writeBuckets t i (s.eccLeft t i)
  | .acc => (s.setEnt t i (s.eccLeft t i)).galUpdate
  | .win | .ste | .grp | .mbr | .rte | .gct | .gen | .sel | .hsel | .enl | .tse | .tgt | .vec | .hof | .wkl | .que
  | .pwl | .drd | .mir | .wrp | .vlt => s.setEnt t i (s.eccLeft t i)

/-- The hall of an entry, for the report of fault capture. -/
def State.eccHall (s : State) (t : Tbl) (i : Nat) : Option Nat :=
  match t with
  | .hcx => some i
  | .rng => some (ringHall i)
  | .enl => some i
  | .win => some (s.tf .win i T_WIN.HALL)
  | _ => none

/-- An uncorrectable error is found in an entry: it acts as its chapter says until it is written, the page captures code 0x01 where it
has one, and fault capture reports an internal fault (R564). DESIGN CHOICE, unsafe: log entry 16. -/
def State.strike (s : State) (t : Tbl) (i : Nat) : State :=
  if !t.eccNamed || t.info.count ≤ i || !s.awakePage t.info.page || s.hurt t i then s else
  let hall := s.eccHall t i
  let s := s.eccActs t i
  let s := { s with flt := { s.flt with hurt := s.flt.hurt ++ [tkey t i] } }
  match t.eccCapture i with
  | some (p, ev, cap) => (s.error p ev 0x01 cap 0 0).internalReport p 0x01 hall
  | none => s.internalReport t.info.page 0 hall

/-- The errors found at this point of model time (Config.tableEcc). DESIGN CHOICE, unsafe: log entry 16. -/
def State.strikes (s : State) : State :=
  s.each (Config.tableEcc s.clock) (fun k s =>
    match tblAt (k / 2 ^ 28) (k / 2 ^ 24 % 16) with
    | some t => s.strike t (k % 2 ^ 24)
    | none => s)

end Sys2Proof.Machine
end

