-- ==== Sys2Proof/Machine/Tick.lean ====
section
/-!
DEFINITION. A nanosecond in which no command arrives (R73, R74, R501): model time and DEVTIME advance, and what the device does
on its own goes on.
-/

namespace Sys2Proof.Machine

/-- The nanoseconds in which DEVTIME is slewed by one: 10,000 at 100 ppm, 1,000 at 1,000 ppm (R74). DESIGN CHOICE, unsafe: log entry 27. -/
def slewPeriod (fast : Bool) : Nat := if fast then 1000 else 10000

/-- DEVTIME advances by 1 ns, or by 0 or 2 at the end of a slew period (R73, R74); it never decreases. DESIGN CHOICE, unsafe: log entry 27. -/
def Sys.tick (y : Sys) : Sys :=
  if y.slew == 0 then { y with devtime := y.devtime + 1 }
  else if y.slewIn + 1 < slewPeriod y.slewFast then { y with devtime := y.devtime + 1, slewIn := y.slewIn + 1 }
  else if 0 < y.slew then { y with devtime := y.devtime + 2, slew := y.slew - 1, slewIn := 0 }
  else { y with slew := y.slew + 1, slewIn := 0 }

/-- Time advances by 1 ns; a slew ends when the error is absorbed (R74, R84). DEVTIME rests in DEEP_SLEEP and OFF (R503).
DESIGN CHOICE, unsafe: log entries 2, 12. -/
def State.advance (s : State) : State :=
  let y := if s.pwr < 3 then s.sys.tick else s.sys
  let t := { s with clock := s.clock + 1, sys := y }
  if s.sys.slew != 0 && y.slew == 0 then t.sf pgHST HST.PTM_STS_SLEWING 0 else t

/-- A nanosecond without a command: time advances, table entries fail, the Oasis goes on with a wake or a stop, MGQ with a command that
waits, and what can leave leaves, onto the pairs too. DESIGN CHOICE, unsafe: log entry 2. -/
def State.idle (s : State) : State := (((s.advance).strikes.powerPump.mgqPump).settle).wireTick

end Sys2Proof.Machine
end

