-- ==== Sys2Proof/Machine/Step.lean ====
section
/-!
DEFINITION. One step of the block: the command at the front of the queue, or a nanosecond without one.
-/

namespace Sys2Proof.Machine

/-- One step: the first waiting command acts on the state with the rest of the queue; without one the block idles.
DESIGN CHOICE, safe: log entry 1; DESIGN CHOICE, unsafe: log entry 2. -/
def step (s : State) : Host.Outcome State Fault Refusal :=
  match s.pending with
  | [] => done s.idle
  | c :: rest => exec c { s with pending := rest }

/-- A command put at the front of the queue; nothing where the word spells none. DESIGN CHOICE, safe: log entry 3. -/
def State.withFetchWord (s : State) (nbits w : Nat) : State :=
  match Sys2Proof.decodeTableWord nbits w with
  | some c => { s with pending := c :: s.pending }
  | none => s

end Sys2Proof.Machine
end

