-- ==== Sys2Proof/Safety.lean ====
section
/-!
DEFINITION. What claims are stated in: a command that answers a next state with a property, a device in which nothing waits, and
what the device always shows of itself.
-/

namespace Sys2Proof.Machine

/-- A command answers a next state that has a property. -/
def Completes (c : Instr) (s : State) (P : State → Prop) : Prop := ∃ t, exec c s = .next t ∧ P t

/-- Nothing waits before the Mezzanine: no staged write, and no table load of MGQ (R29). -/
def State.mezIdle (s : State) : Bool :=
  s.mez.held.isEmpty
    && (match s.mgq.cur with | some run => (match run.wait with | .mez _ => false | _ => true) | none => true)

/-- Nothing waits in or before the bridge engine, at a Caravan engine, at the doorbell bitmaps or before the Mezzanine, so that nothing
follows from what a command leaves (the accesses of R95 to R104, the engines of R364, the bitmap reads of R397, the IDENT of R251). -/
def State.calm (s : State) : Bool :=
  s.brg.accs.isEmpty && s.lards.all (fun e => !e.2.identDue) && s.cvn.engines.all (fun e => e.2.ring.isNone)
    && s.hlm.words.all (fun w => w.old.isSome) && s.brg.held.isEmpty && s.mezIdle

/-- What the registers and pins always show (R46, R64, R467, R566): the requests outstanding toward the host, the records in the
history queue, the writes staged, and SMB_ALERT_N. -/
def State.showsTrue (s : State) : Prop :=
  s.gf pgHST HST.NP_CTL_NP_OUT = s.host.reqs.length % 2 ^ HST.NP_CTL_NP_OUT.w
    ∧ s.gf pgFLT FLT.FLT_STS_QUEUE = s.flt.queue.length % 2 ^ FLT.FLT_STS_QUEUE.w
    ∧ s.gf pgMEZ MEZ.MEZ_STS_COUNT = s.mez.staged.length % 2 ^ MEZ.MEZ_STS_COUNT.w
    ∧ s.smb.alertLow = s.alertDue

end Sys2Proof.Machine
end

