-- ==== Sys2Proof/Certificates/Slice0/Obligations.lean ====
section
/-!
DEFINITION. The statements about the PL1024 for the provers. A conclusion `exec c s = .next t.shown` says that the command is
carried out and leaves `t`, with what the device always shows of itself (State.shown) brought up to date.
-/

open Sys2Proof Sys2Proof.Machine

/-! ### The block as a whole -/

/-- A step of a state with a command at the front of its queue is that command on the state with the rest of the queue (the queue is
the model's own, log entry 1). -/
def Obligations.StepRunsFrontCommand : Prop :=
  ∀ (c : Instr) (rest : List Instr) (s : State), step { s with pending := c :: rest } = exec c { s with pending := rest }

/-- With no command waiting, a step answers a next state: model time advances by 1 ns, then the table entries that fail now fail, the
Oasis and MGQ go on with what they wait for and what can leave leaves, onto the pairs too (the model's idle step, log entry 2). DEVTIME
never decreases in the advance of time: it moves by 1, or by 0 or 2 where PTM slews it, and it rests in DEEP_SLEEP and OFF (R73, R74,
R503). Of the registers only PTM_STS may change, and only where a slew ends: SLEWING then reads 0 (R84).
The model's choices it rests on: log entries 2, 16, 49. -/
def Obligations.IdleStepIsOneNanosecond : Prop :=
  (∀ s : State, s.pending = [] → step s = .next (((s.advance).strikes.powerPump.mgqPump).settle).wireTick.shown)
    ∧ (∀ s : State, s.advance.clock = s.clock + 1 ∧ s.sys.devtime ≤ s.advance.sys.devtime
        ∧ s.advance.sys.devtime ≤ s.sys.devtime + 2 ∧ (3 ≤ s.pwr → s.advance.sys = s.sys)
        ∧ (s.pwr < 3 → s.sys.slew = 0 → s.advance.sys = { s.sys with devtime := s.sys.devtime + 1 })
        ∧ s.advance = { s with clock := s.clock + 1, sys := s.advance.sys, regs := s.advance.regs }
        ∧ (∀ a, a ≠ raddr pgHST HST.PTM_STS_SLEWING.off → s.advance.reg a = s.reg a)
        ∧ (s.sys.slew ≠ 0 → s.advance.sys.slew = 0 → s.advance.gb pgHST HST.PTM_STS_SLEWING = false)
        ∧ ((s.sys.slew = 0 ∨ s.advance.sys.slew ≠ 0) → s.advance.regs = s.regs))
    ∧ (∀ y : Sys, y.slew ≠ 0 → y.tick.slew.natAbs ≤ y.slew.natAbs
        ∧ (y.tick.devtime = y.devtime + 1 → y.tick.slew = y.slew))

/-- The spec gives every row of the table an effect: no command ends in a fault or a refusal, in whatever state it comes.
The model's choices it rests on: log entries 5, 11. -/
def Obligations.EveryCommandAnswers : Prop := ∀ (c : Instr) (s : State), ∃ t, exec c s = .next t

/-- After a reset that acts on the whole device every register and every table entry reads its reset value but for the allowance of the
housekeeping domain in CIS and DEV (R34; without an image, log entry 4), every page's PAGE_ID reads its
block, instance and layout 1, no page is ACTIVE but those that are always on, nothing is queued, stored, held or staged, all
engines are idle, DEVTIME is 0, and the pages' own alarms are off.
The model's choices it rests on: log entries 4, 6, 150. -/
def Obligations.ResetState : Prop :=
  (∀ a, a ≠ 0x3C → a ≠ 0x4048 → State.reset.reg a = regReset a)
    ∧ (∀ t i, State.reset.ent t i = tblReset (tkey t i))
    ∧ (∀ p b k, blkOf p = some (b, k) →
        (State.reset.reg (raddr p 0)).toNat = b.id * 2 ^ 24 + instanceField b k * 2 ^ 12 + 0x100
          ∧ State.reset.active p = b.alwaysOn ∧ State.reset.gb p HDR.ERR_CAP0_VALID = false ∧ State.reset.reg (raddr p 0x10) = 0)
    ∧ State.reset.sys.devtime = 0 ∧ State.reset.gal.frames = [] ∧ State.reset.gal.queues = [] ∧ State.reset.brg.accs = []
    ∧ State.reset.host.reqs = [] ∧ State.reset.mez.staged = [] ∧ State.reset.flt.queue = [] ∧ State.reset.lnd.irqLow = false
    ∧ (∀ e < 128, State.reset.engSt e = enIDLE)
    ∧ (∀ n < 1024, State.reset.ph n = phDISABLED ∧ State.reset.lk n = lkDISABLED) ∧ (∀ h < 4096, State.reset.hallSt h = hlFREE) ∧ State.reset.pending = []

/-- After reset the registers NP_OUT, FLT QUEUE and MEZ COUNT and the pin SMB_ALERT_N show what the device holds.
The model's choices it rests on: log entry 6. -/
def Obligations.ResetShowsTrue : Prop := State.reset.showsTrue

/-- Whatever the state and the command, after every step HST NP_OUT counts the requests outstanding toward the host (R64), FLT QUEUE the
records in the history queue (R566), MEZ COUNT the writes staged (R467), and SMB_ALERT_N is driven low exactly while ALERT_EN is 1 and an
enabled DEV event is set in a housekeeping domain that is on (R46). -/
def Obligations.StepShowsTrue : Prop := ∀ s t : State, step s = .next t → t.showsTrue

/-- Bringing up to date what the device shows changes HST NP_CTL, FLT FLT_STS, MEZ MEZ_STS, the SMBus alert and what was sent, and
nothing else; and where it is already true it changes nothing a register reads as. -/
def Obligations.ShownChangesNothingElse : Prop :=
  ∀ s : State, (∀ a, a ≠ raddr pgHST HST.NP_CTL_NP_OUT.off → a ≠ raddr pgFLT FLT.FLT_STS_QUEUE.off
      → a ≠ raddr pgMEZ MEZ.MEZ_STS_COUNT.off → s.shown.reg a = s.reg a)
    ∧ s.shown = { s with regs := s.shown.regs, out := s.shown.out, smb := { s.smb with alertLow := s.alertDue } }
    ∧ (s.smb.alertLow = s.alertDue → s.shown.out = s.out)
    ∧ (s.smb.alertLow ≠ s.alertDue → s.shown.out = .pin "SMB_ALERT_N" (!s.alertDue) :: s.out)
    ∧ (s.showsTrue → ∀ a, s.shown.reg a = s.reg a)

/-! ### Events, captures and counters -/

/-- Hardware setting event bit b of page p sets exactly that bit of EVT_RAW, whether or not EVT_EN has it (R31). The page's source is
ASSERTED exactly while EVT_RAW and EVT_EN have a common bit. In RUN with LND ACTIVE, a rise of that level makes an IDLE source PENDING
and an ACTIVE one ACTIVE with a pending event (R430, R432). All that may change beside are Landing's and the Oasis's own registers
and the table entry of the source.
The model's choices it rests on: log entry 39. -/
def Obligations.EventSetsItsBit : Prop :=
  ∀ (s : State) (p b : Nat), p < 0x2000 → b < 32 → p ≠ pgOAS → p ≠ pgLND →
    (s.event p b).reg (raddr p 0x10) = (s.reg (raddr p 0x10) ||| BitVec.ofNat 32 (2 ^ b))
      ∧ (∀ a, a ≠ raddr p 0x10 → a / 4096 ≠ pgOAS → a / 4096 ≠ pgLND → (s.event p b).reg a = s.reg a)
      ∧ ((s.event p b).tb .src p T_SRC.ASSERTED
          = (((s.reg (raddr p 0x10) ||| BitVec.ofNat 32 (2 ^ b)) &&& s.reg (raddr p 0x14)) != 0))
      ∧ (s.event p b).out = s.out ∧ (s.event p b).flt = s.flt ∧ (s.event p b).pending = s.pending
      ∧ (s.active pgLND = true → s.gf pgOAS OAS.PWR_STS_STATE < 2 → s.tb .src p T_SRC.ASSERTED = false →
          ((s.reg (raddr p 0x10) ||| BitVec.ofNat 32 (2 ^ b)) &&& s.reg (raddr p 0x14)) ≠ 0 →
          (s.tf .src p T_SRC.STATE = srcIDLE → (s.event p b).tf .src p T_SRC.STATE = srcPENDING)
            ∧ (s.tf .src p T_SRC.STATE = srcACTIVE → (s.event p b).tf .src p T_SRC.STATE = srcACTPEND))

/-- An error of a page other than FLT: with VALID 0 the code, the three details and the stamp are written, VALID and FAULT set; with
VALID 1 CODE, the details and the stamps keep their values, LOST is set and LOST_COUNT advances, saturating at 0xFFFF. The event
bit is set in both cases (R33). A captured error adds one record to the history queue while that has room (R566). -/
def Obligations.FirstErrorIsCaptured : Prop :=
  ∀ (s : State) (p b code c1 c2 c3 : Nat), p < 0x2000 → p ≠ pgOAS → p ≠ pgLND → p ≠ pgFLT → b < 32 → code < 256 →
    s.flt.queue.length < 256 →
    (s.gb p HDR.ERR_CAP0_VALID = false →
      let t := s.error p b code c1 c2 c3
      t.gb p HDR.ERR_CAP0_VALID = true ∧ t.gf p HDR.ERR_CAP0_CODE = code
        ∧ t.reg (raddr p 0x24) = BitVec.ofNat 32 c1 ∧ t.reg (raddr p 0x28) = BitVec.ofNat 32 c2
        ∧ t.reg (raddr p 0x2C) = BitVec.ofNat 32 c3 ∧ t.reg (raddr p 0x30) = BitVec.ofNat 32 s.sys.devtime
        ∧ t.gf p HDR.ERR_STAMP_HI_STAMP_HI = s.sys.devtime / 2 ^ 32 % 2 ^ 16 ∧ t.gb p HDR.PAGE_STS_FAULT = true
        ∧ t.reg (raddr p 0x10) = (s.reg (raddr p 0x10) ||| BitVec.ofNat 32 (2 ^ b))
        ∧ t.flt.queue.length = s.flt.queue.length + 1)
    ∧ (s.gb p HDR.ERR_CAP0_VALID = true →
      let t := s.error p b code c1 c2 c3
      t.gb p HDR.ERR_CAP0_VALID = true ∧ t.gf p HDR.ERR_CAP0_CODE = s.gf p HDR.ERR_CAP0_CODE
        ∧ t.gb p HDR.ERR_CAP0_LOST = true
        ∧ t.gf p HDR.ERR_CAP0_LOST_COUNT = min (s.gf p HDR.ERR_CAP0_LOST_COUNT + 1) 0xFFFF
        ∧ t.reg (raddr p 0x24) = s.reg (raddr p 0x24) ∧ t.reg (raddr p 0x28) = s.reg (raddr p 0x28)
        ∧ t.reg (raddr p 0x2C) = s.reg (raddr p 0x2C) ∧ t.reg (raddr p 0x30) = s.reg (raddr p 0x30)
        ∧ t.reg (raddr p 0x34) = s.reg (raddr p 0x34)
        ∧ t.reg (raddr p 0x10) = (s.reg (raddr p 0x10) ||| BitVec.ofNat 32 (2 ^ b)) ∧ t.flt = s.flt)

/-- A counter advances by its step and never past 0xFFFF_FFFF, never decreases (R572), and every other register and the rest of the
state stay as they were; clearing a page's counters sets each of them to 0 and touches no register outside their range (R85). -/
def Obligations.CountersSaturate : Prop :=
  (∀ (s : State) (p off n : Nat),
    ((s.cnt p off n).reg (raddr p off)).toNat = min ((s.reg (raddr p off)).toNat + n) 0xFFFFFFFF
      ∧ (s.reg (raddr p off)).toNat ≤ ((s.cnt p off n).reg (raddr p off)).toNat
      ∧ (∀ a, a ≠ raddr p off → (s.cnt p off n).reg a = s.reg a)
      ∧ s.cnt p off n = { s with regs := (s.cnt p off n).regs })
    ∧ (∀ (s : State) (p lo hi : Nat), lo ≤ hi →
      (∀ off, (off - lo) % 4 = 0 → lo ≤ off → off ≤ hi → (s.clearRange p lo hi).reg (raddr p off) = 0)
        ∧ (∀ a, a < raddr p lo ∨ raddr p (hi + 3) < a → (s.clearRange p lo hi).reg a = s.reg a)
        ∧ s.clearRange p lo hi = { s with regs := (s.clearRange p lo hi).regs })

/-! ### Register pages (spec/02_register_pages.md) -/

/-- PAGE_ENABLE and ENABLE_READY. Writing 1 to EN of a page without an allowance whose block takes time sets EN and EN_PENDING (R30), and of one whose block is ready at once sets EN and ACTIVE;
of ERG with FEAT_EN.ERG 1 and the allowance admitted it adds 40 units to PAGE_DRAW and the granted totals, counts the admission, clears
NOT_ADMITTED and sets EN and EN_PENDING (R28); where EN_PENDING is already 1 the write is ignored. When the block is ready EN and ACTIVE are
1 and EN_PENDING 0.
The model's choices it rests on: log entries 133, 134, 135. -/
def Obligations.PageEnableAndReady : Prop :=
  (∀ (s : State) (p k : Nat) (b : Blk), blkOf p = some (b, k) → b.slow = true → s.applying p = false →
      s.gb p HDR.PAGE_STS_EN_PENDING = false → s.gb p HDR.PAGE_CTL_EN = false →
      exec (.pageEnable p) s = .next ((s.sf p HDR.PAGE_CTL_EN 1).sf p HDR.PAGE_STS_EN_PENDING 1).shown)
    ∧ (∀ s : State, s.applying pgERG = false → s.gb pgERG HDR.PAGE_STS_EN_PENDING = false → s.gb pgERG HDR.PAGE_CTL_EN = false →
      s.gb pgDEV DEV.FEAT_EN_ERG = true → s.admissible 40 0 = true →
      exec (.pageEnable pgERG) s = .next (((((s.addDraw pgERG 40 0).cnt pgCIS CIS.CNT_ADMITTED).sf pgERG HDR.PAGE_STS_NOT_ADMITTED 0).sf
        pgERG HDR.PAGE_CTL_EN 1).sf pgERG HDR.PAGE_STS_EN_PENDING 1).shown)
    ∧ (∀ (s : State) (p k : Nat) (b : Blk), blkOf p = some (b, k) → s.applying p = false → s.gb p HDR.PAGE_STS_EN_PENDING = true →
      exec (.pageEnable p) s = .next s.shown)
    ∧ (∀ (s : State) (p k : Nat) (b : Blk), blkOf p = some (b, k) → b.atOnce = true → s.featOn b = true → p ≠ pgLND →
      s.applying p = false → s.gb p HDR.PAGE_STS_EN_PENDING = false → s.gb p HDR.PAGE_CTL_EN = false → s.awakePage p = true → s.calm = true →
      exec (.pageEnable p) s = .next (((s.sf p HDR.PAGE_CTL_EN 1).sf p HDR.PAGE_STS_EN_PENDING 0).sf p HDR.PAGE_STS_ACTIVE 1).shown)
    ∧ (∀ (s : State) (p k : Nat) (b : Blk), blkOf p = some (b, k) → b.slow = true → p ≠ pgPOL → p ≠ pgSWC → p ≠ pgBRG →
      s.gb p HDR.PAGE_CTL_EN = true → s.gb p HDR.PAGE_STS_EN_PENDING = true → s.active p = false → s.awakePage p = true → s.calm = true →
      exec (.enableReady p) s = .next (((s.sf p HDR.PAGE_CTL_EN 1).sf p HDR.PAGE_STS_EN_PENDING 0).sf p HDR.PAGE_STS_ACTIVE 1).shown)

/-- PAGE_DISABLE and DISABLE_GATE. Writing 0 to EN of an ACTIVE page clears EN, sets EN_PENDING, and sets QUIESCE on the device's own
account unless software had set it (R28). Once the block holds no work, a page without an allowance loses ACTIVE, EN_PENDING and the QUIESCE the
device had set; a QUIESCE that software had set stays, with QUIESCED 1. Stated for MIR, SCH, CVN, WAD and HLM.
The model's choices it rests on: log entry 133. -/
def Obligations.PageDisableAndGate : Prop :=
  (∀ (s : State) (p k : Nat) (b : Blk), blkOf p = some (b, k) → b ∈ [Blk.mir, .sch, .cvn, .wad, .hlm] → s.applying p = false →
      s.gb p HDR.PAGE_STS_EN_PENDING = false → s.gb p HDR.PAGE_CTL_EN = true → s.active p = true → s.awakePage p = true →
      s.gb p HDR.PAGE_CTL_QUIESCE = false → s.calm = true →
      exec (.pageDisable p) s = .next (({ (s.sf p HDR.PAGE_CTL_EN 0).sf p HDR.PAGE_STS_EN_PENDING 1 with
        sys := { s.sys with devQuiet := p :: s.sys.devQuiet } }).sf p HDR.PAGE_CTL_QUIESCE 1).shown)
    ∧ (∀ (s : State) (p k : Nat) (b : Blk), blkOf p = some (b, k) → b ∈ [Blk.mir, .sch, .cvn, .wad, .hlm] → s.applying p = false →
      s.gb p HDR.PAGE_STS_EN_PENDING = false → s.gb p HDR.PAGE_CTL_EN = true → s.active p = true → s.awakePage p = true →
      s.gb p HDR.PAGE_CTL_QUIESCE = true → s.calm = true →
      exec (.pageDisable p) s = .next ((s.sf p HDR.PAGE_CTL_EN 0).sf p HDR.PAGE_STS_EN_PENDING 1).shown)
    ∧ (∀ (s : State) (p k : Nat) (b : Blk), blkOf p = some (b, k) → b ∈ [Blk.mir, .sch, .cvn, .wad, .hlm] →
      s.gb p HDR.PAGE_STS_EN_PENDING = true → s.gb p HDR.PAGE_CTL_EN = false → s.active p = true → s.quiet b k = true →
      p ∈ s.sys.devQuiet → s.calm = true →
      exec (.disableGate p) s = .next ((({ (s.sf p HDR.PAGE_STS_ACTIVE 0).sf p HDR.PAGE_STS_EN_PENDING 0 with
        sys := { s.sys with devQuiet := s.sys.devQuiet.filter (· != p) } }).sf p HDR.PAGE_CTL_QUIESCE 0).sf
          p HDR.PAGE_STS_QUIESCED 0).shown)
    ∧ (∀ (s : State) (p k : Nat) (b : Blk), blkOf p = some (b, k) → b ∈ [Blk.mir, .sch, .cvn, .wad, .hlm] →
      s.gb p HDR.PAGE_STS_EN_PENDING = true → s.gb p HDR.PAGE_CTL_EN = false → s.active p = true → s.quiet b k = true →
      p ∉ s.sys.devQuiet → s.calm = true →
      exec (.disableGate p) s = .next (((s.sf p HDR.PAGE_STS_ACTIVE 0).sf p HDR.PAGE_STS_EN_PENDING 0).sf
        p HDR.PAGE_STS_QUIESCED 1).shown)

/-- QUIESCE_SET, QUIESCE_CLEAR, QUIESCED and PAGE_LOCK. Setting QUIESCE changes that bit only, and where a link is enabled its flow state,
by which its peer holds frames back (the model's choice, log entry 164); clearing it clears QUIESCED too and
intake goes on at once (R29); a quiescing block without work shows QUIESCED; LOCK is set and stays set (R27).
The model's choices it rests on: log entries 133, 164. -/
def Obligations.QuiesceAndLock : Prop :=
  (∀ (s : State) (p k : Nat) (b : Blk), blkOf p = some (b, k) → b ≠ .prt ∨ s.lk k = lkDISABLED → s.applying p = false → p ∉ s.sys.devQuiet →
      s.gb p HDR.PAGE_CTL_QUIESCE = false → s.calm = true →
      exec (.quiesceSet p) s = .next (s.sf p HDR.PAGE_CTL_QUIESCE 1).shown)
    ∧ (∀ (s : State) (n : Nat), n < 1024 → s.lk n ≠ lkDISABLED → s.applying (pgPRT n) = false → pgPRT n ∉ s.sys.devQuiet →
      s.gb (pgPRT n) HDR.PAGE_CTL_QUIESCE = false → s.calm = true →
      exec (.quiesceSet (pgPRT n)) s = .next ((s.sf (pgPRT n) HDR.PAGE_CTL_QUIESCE 1).flowUpdate n).shown)
    ∧ (∀ (s : State) (p k : Nat) (b : Blk), blkOf p = some (b, k) → b ≠ .prt ∨ s.lk k = lkDISABLED → p ≠ pgBRG → s.applying p = false → p ∉ s.sys.devQuiet →
      s.gb p HDR.PAGE_CTL_QUIESCE = true → s.calm = true →
      exec (.quiesceClear p) s = .next ((s.sf p HDR.PAGE_CTL_QUIESCE 0).sf p HDR.PAGE_STS_QUIESCED 0).shown)
    ∧ (∀ s : State, s.applying pgBRG = false → pgBRG ∉ s.sys.devQuiet → s.gb pgBRG HDR.PAGE_CTL_QUIESCE = true →
      exec (.quiesceClear pgBRG) s
        = .next (((s.sf pgBRG HDR.PAGE_CTL_QUIESCE 0).sf pgBRG HDR.PAGE_STS_QUIESCED 0).acceptHeld.mezTake.settle).shown)
    ∧ (∀ (s : State) (p k : Nat) (b : Blk), blkOf p = some (b, k) → s.gb p HDR.PAGE_CTL_QUIESCE = true → s.quiet b k = true →
      exec (.quiesced p) s = .next (s.sf p HDR.PAGE_STS_QUIESCED 1).shown)
    ∧ (∀ (s : State) (p k : Nat) (b : Blk), blkOf p = some (b, k) → s.applying p = false →
      exec (.pageLock p) s = .next (s.sf p HDR.PAGE_CTL_LOCK 1).shown)

/-- EVT_RAW_CLEAR, EVT_EN_WRITE, EVT_FORCE, ERR_CAP_RELEASE and CNT_CLEAR. Ones written to EVT_RAW clear the listed bits, and a bit
that hardware sets in the same cycle reads 1 afterwards (R32); EVT_EN takes the value; EVT_FORCE sets the listed bits and captures nothing
(R31); after each of the three the page's source fires again where it is still asserted (R430). Releasing a capture without losses
clears VALID, LOST_COUNT and FAULT and nothing else (R33). CNT_CLR sets every counter of the page to 0 and leaves every other register.
The model's choices it rests on: log entry 136. -/
def Obligations.EventRegistersOfAPage : Prop :=
  (∀ (s : State) (p k : Nat) (b : Blk) (ones hw : Word), blkOf p = some (b, k) → s.applying p = false →
      exec (.evtRawClear p ones hw) s = .next ((s.setReg (raddr p 0x10)
        (((s.reg (raddr p 0x10) &&& ~~~ones) ||| hw) &&& BitVec.ofNat 32 (2 ^ b.events - 1))).pageSource p true).shown)
    ∧ (∀ (s : State) (p k : Nat) (b : Blk) (v : Word), blkOf p = some (b, k) → s.applying p = false →
      exec (.evtEnWrite p v) s = .next ((s.setReg (raddr p 0x14) v).pageSource p true).shown)
    ∧ (∀ (s : State) (p k : Nat) (b : Blk) (v : Word), blkOf p = some (b, k) → s.applying p = false →
      exec (.evtForce p v) s = .next ((s.setReg (raddr p 0x10)
        (s.reg (raddr p 0x10) ||| (v &&& BitVec.ofNat 32 (2 ^ b.events - 1)))).pageSource p true).shown)
    ∧ (∀ (s : State) (p k : Nat) (b : Blk), blkOf p = some (b, k) → s.applying p = false → s.gb p HDR.ERR_CAP0_VALID = true →
      s.gf p HDR.ERR_CAP0_LOST_COUNT = 0 →
      exec (.errCapRelease p) s
        = .next (((s.sf p HDR.ERR_CAP0_VALID 0).sf p HDR.ERR_CAP0_LOST_COUNT 0).sf p HDR.PAGE_STS_FAULT 0).shown)
    ∧ (∀ (s : State) (p k lo hi : Nat) (b : Blk), blkOf p = some (b, k) → s.applying p = false → b.counters = some (lo, hi) →
      exec (.cntClear p false) s = .next (s.clearRange p lo hi).shown)

/-- TBL_READ, TBL_WRITE, TBL_OP_INVALID and TBL_OP_DONE. A read of word 0 of an entry takes a snapshot and gives its first 128 bits in
TBL_DATA; a higher word comes from the snapshot; BUSY is 1 until the operation is done (R39). A write of a lower word is held with its
mark and touches no entry; a write of the last word applies the whole held entry (R39), and forgets the marks. OP 0b11 does nothing
and ends with STATUS 0x9 (R37). A read of an entry with an uncorrectable ECC error gives 0 and ends with STATUS 0x7 (R38). At the end BUSY clears, STATUS is written and AUTOINC advances the word or, after the last one, the entry (R40); a write that waits before a quiesced Mezzanine has no end yet (R29).
The model's choices it rests on: log entries 131, 132, 158, 170. -/
def Obligations.TableOperations : Prop :=
  (∀ (s : State) (p : Nat) (x : Path) (v : Word) (t : Tbl), pageHasTbl p = true → s.applying p = false → fld v 0 2 = 1 →
      s.gb p (tcBUSY x) = false → s.awakePage p = true → tblAt p (s.gf p (taTABLE x)) = some t → s.gf p (taINDEX x) < t.info.count →
      s.gf p (taWORD x) = 0 → t.info.count ≤ 2 ^ 24 → t ≠ .vlt → s.hurt t (s.gf p (taINDEX x)) = false → s.calm = true →
      let r := ((s.sf p (tcAUTOINC x) (fld v 2 1)).sf p (tcSTAGE x) (fld v 3 1)).sf p (tcBUSY x) 1
      let f := r.tblFresh t (s.gf p (taINDEX x))
      let e := f.ent t (s.gf p (taINDEX x)) &&& ~~~(BitVec.ofNat 1024 t.info.wo)
      exec (.tblRead p x v) s = .next ((((f.putSet p x { f.tblSet p x with snap := e, held := e }).setData p x
        (fld e 0 128)).tblResult p x 0 (t.words == 1)).settle).shown)
    ∧ (∀ (s : State) (p : Nat) (x : Path) (v : Word) (t : Tbl), pageHasTbl p = true → s.applying p = false → fld v 0 2 = 1 →
      s.gb p (tcBUSY x) = false → s.awakePage p = true → tblAt p (s.gf p (taTABLE x)) = some t → s.gf p (taINDEX x) < t.info.count →
      s.gf p (taWORD x) = 0 → t ≠ .vlt → s.hurt t (s.gf p (taINDEX x)) = true →
      let r := ((s.sf p (tcAUTOINC x) (fld v 2 1)).sf p (tcSTAGE x) (fld v 3 1)).sf p (tcBUSY x) 1
      let f := r.tblFresh t (s.gf p (taINDEX x))
      exec (.tblRead p x v) s = .next ((((f.putSet p x { f.tblSet p x with snap := 0, held := 0 }).setData p x
        0).tblResult p x 0x7 (t.words == 1)).settle).shown)
    ∧ (∀ (s : State) (p : Nat) (x : Path) (v : Word) (t : Tbl), pageHasTbl p = true → s.applying p = false → fld v 0 2 = 2 →
      s.gb p (tcBUSY x) = false → s.awakePage p = true → tblAt p (s.gf p (taTABLE x)) = some t → s.gf p (taINDEX x) < t.info.count →
      s.gf p (taWORD x) + 1 < t.words → t.info.rw ≠ 0 → fld v 3 1 = 0 → s.calm = true →
      let r := ((s.sf p (tcAUTOINC x) (fld v 2 1)).sf p (tcSTAGE x) 0).sf p (tcBUSY x) 1
      let w := s.gf p (taWORD x)
      exec (.tblWrite p x v) s = .next (r.putSet p x { s.tblSet p x with
        held := put (s.tblSet p x).held (128 * w) 128 (s.tblData p x), marks := (s.tblSet p x).marks ||| 2 ^ w,
        result := 0, last := false }).shown)
    ∧ (∀ (s : State) (p : Nat) (x : Path) (v : Word) (t : Tbl), pageHasTbl p = true → s.applying p = false → fld v 0 2 = 2 →
      s.gb p (tcBUSY x) = false → s.awakePage p = true → tblAt p (s.gf p (taTABLE x)) = some t → s.gf p (taINDEX x) < t.info.count →
      s.gf p (taWORD x) + 1 = t.words → t.info.rw ≠ 0 → fld v 3 1 = 0 →
      let r := ((s.sf p (tcAUTOINC x) (fld v 2 1)).sf p (tcSTAGE x) 0).sf p (tcBUSY x) 1
      let w := s.gf p (taWORD x)
      let held := put (s.tblSet p x).held (128 * w) 128 (s.tblData p x)
      let d := (r.putSet p x { s.tblSet p x with held := held, marks := (s.tblSet p x).marks ||| 2 ^ w }).tblDirect t
        (s.gf p (taINDEX x)) (BitVec.ofNat 1024 (held.toNat % 2 ^ t.info.width))
      exec (.tblWrite p x v) s = .next (((d.putSet p x { d.tblSet p x with marks := 0 }).tblResult p x 0 true).settle).shown)
    ∧ (∀ (s : State) (p : Nat) (x : Path) (v : Word), pageHasTbl p = true → s.applying p = false → fld v 0 2 = 3 →
      s.gb p (tcBUSY x) = false → s.calm = true →
      exec (.tblOpInvalid p x v) s
        = .next (((s.sf p (tcAUTOINC x) (fld v 2 1)).sf p (tcSTAGE x) (fld v 3 1)).sf p (tcSTATUS x) 0x9).shown)
    ∧ (∀ (s : State) (p : Nat) (x : Path), pageHasTbl p = true → s.gb p (tcBUSY x) = true → s.gb p (tcAUTOINC x) = false →
      (s.tblSet p x).result ≠ tblUNDONE →
      exec (.tblOpDone p x) s = .next ((s.sf p (tcBUSY x) 0).sf p (tcSTATUS x) (s.tblSet p x).result).shown)
    ∧ (∀ (s : State) (p : Nat) (x : Path), pageHasTbl p = true → s.gb p (tcBUSY x) = true → s.gb p (tcAUTOINC x) = true →
      (s.tblSet p x).result = 0 → (s.tblSet p x).last = true →
      exec (.tblOpDone p x) s = .next ((((s.sf p (tcBUSY x) 0).sf p (tcSTATUS x) 0).sf p (taINDEX x)
        (s.gf p (taINDEX x) + 1)).sf p (taWORD x) 0).shown)
    ∧ (∀ (s : State) (p : Nat) (x : Path), pageHasTbl p = true → s.gb p (tcBUSY x) = true → s.gb p (tcAUTOINC x) = true →
      (s.tblSet p x).result = 0 → (s.tblSet p x).last = false →
      exec (.tblOpDone p x) s = .next (((s.sf p (tcBUSY x) 0).sf p (tcSTATUS x) 0).sf p (taWORD x) (s.gf p (taWORD x) + 1)).shown)
    ∧ (∀ (s : State) (p : Nat) (x : Path), (s.tblSet p x).result = tblUNDONE → exec (.tblOpDone p x) s = .next s.shown)

/-- REG_WRITE and REG_READ. A dword of a register without a row of its own, wholly enabled, in an awake block: of a RW register the
bits of its write mask take the written value and the others keep theirs (R25, R27), and nothing else changes: stated for the own
registers of FLT and for EVT_GROUP of every page; through a doorbell slot the access is the one the slot leads to (R60). A dword of which only some bytes are enabled is not written and sets DEV
error code 0x01 with the BAR0 offset and the requester (R25, R48). A read in reserved space returns 0 and sets DEV error code 0x02 (R26); a read of an existing register
returns its word; a zero-length read accesses nothing. In the page of a member or a spare every LINK register but LINK_STS ignores writes
and reads 0 (R223). While a frame of the host waits for admission, later accesses are kept back (R275).
The model's choices it rests on: log entries 71, 119, 153. -/
def Obligations.HostRegisterAccess : Prop :=
  (∀ (s : State) (q a : Nat) (r : RegInfo) (v : Word), s.sys.hkOn = true → s.hostStall = false → infoAt a = some (.flt, 0, r) → a < 2 ^ 26 → 0x40 ≤ a % 4096 →
      r.name ≠ "CNT_CLR" → s.applying pgFLT = false → s.mezSt ≠ mzOPEN →
      exec (.regWrite (.pf0 q) a 0xF 0 [v]) s = .next (s.setReg a (mergeWord (s.reg a) v (s.regRw pgFLT r))).shown)
    ∧ (∀ (s : State) (q p k : Nat) (b : Blk) (v : Word), s.sys.hkOn = true → s.hostStall = false → blkOf p = some (b, k) → p ≠ 0x11 → p ≠ 0x31 → p < 0x4000 →
      s.applying (headPage p) = false → s.mezSt ≠ mzOPEN →
      exec (.regWrite (.pf0 q) (raddr p 0x1C) 0xF 0 [v]) s = .next (s.sf p HDR.EVT_GROUP_GROUP (fld v 0 10)).shown)
    ∧ (∀ (s : State) (q a : Nat) (v : Word) (be : BitVec 4), s.sys.hkOn = true → s.hostStall = false → a < 2 ^ 26 → a % 4 = 0 →
      s.applying (headPage (a / 4096)) = false → be ≠ 0 → be ≠ 0xF →
      exec (.regWrite (.pf0 q) a be 0 [v]) s = .next (s.devError 0 a q).shown)
    ∧ (∀ (s : State) (q a : Nat) (v : Word), s.sys.hkOn = true → s.hostStall = false → a < 2 ^ 26 → a % 4 = 0 → s.applying (headPage (a / 4096)) = false →
      infoAt a = none → contPage (a / 4096) = false →
      exec (.regWrite (.pf0 q) a 0xF 0 [v]) s = .next (s.devError 1 a q).shown)
    ∧ (∀ (s : State) (q a tag : Nat), s.sys.hkOn = true → s.hostStall = false → a < 2 ^ 26 → s.applying (headPage (a / 4096)) = false →
      exec (.regRead (.pf0 q) a 1 0 0 tag) s = .next (s.emit (.cpl tag .sc [0, 0, 0, 0])).shown)
    ∧ (∀ (s : State) (q a tag k : Nat) (r : RegInfo), s.sys.hkOn = true → s.hostStall = false → a < 2 ^ 26 → a % 4 = 0 → infoAt a = some (.flt, k, r) →
      s.applying pgFLT = false →
      exec (.regRead (.pf0 q) a 1 0xF 0 tag) s = .next (s.complete_ 0 tag a (bytesOf 4 (s.reg a).toNat)).shown)
    ∧ (∀ (s : State) (q vf slot a : Nat) (pasid : Option Nat) (v : Word), s.sys.hkOn = true → s.hostStall = false → a % 4 = 0 → s.applying pgHLM = false →
      exec (.regWrite (.slot vf slot pasid q) a 0xF 0 [v]) s = .next (s.regPut ⟨.host, .slot vf slot pasid q⟩ a v).1.shown)
    ∧ (∀ (s : State) (q k off : Nat) (w : Word), k < 1024 → s.anchorOf k ≠ k → 0x100 ≤ off → off < 0x1000 → off % 4 = 0 → off ≠ 0x104 →
      s.sys.hkOn = true → s.hostStall = false → s.applying (pgPRT k) = false → s.awakePage (pgPRT k) = true →
      (infoAt (raddr (pgPRT k) off)).isSome = true →
      exec (.regWrite (.pf0 q) (raddr (pgPRT k) off) 0xF 0 [w]) s = .next s.shown ∧ s.regGet ⟨.host, .pf0 q⟩ (raddr (pgPRT k) off) = (s, 0, 0))
    ∧ (∀ (s : State) (via : BarPath) (a n tag : Nat) (fbe lbe : BitVec 4) (d : List Word), s.sys.hkOn = true → s.hostStall = true →
      exec (.regWrite via a fbe lbe d) s = .next (s.stallTlp (.regWrite via a fbe lbe d)).shown
      ∧ exec (.regRead via a n fbe lbe tag) s = .next (s.stallTlp (.regRead via a n fbe lbe tag)).shown)

/-- DEVTIME_LO_READ. A read of DEVTIME_LO (BAR0 offset 0x58) over either path returns DEVTIME[31:0], whatever the path latched before, and
latches DEVTIME[63:32] for that path; DEVTIME_HI (0x5C) then reads that value over the same path, the latch of the other path keeps its
own, and a 64-bit read at 0x58 returns both halves of one value. -/
def Obligations.DevtimeReadIsCoherent : Prop :=
  (∀ (s : State) (x : Path), s.sys.hkOn = true →
      exec (.devtimeLoRead x) s = .next ((s.latch x).emit (.regData 0x58 (BitVec.ofNat 32 s.sys.devtime))).shown)
    ∧ (∀ (s : State) (x : Path), (s.latch x).regWord x 0x5C = BitVec.ofNat 32 (s.sys.devtime / 2 ^ 32)
        ∧ (s.latch x).regWord x 0x58 = BitVec.ofNat 32 s.sys.devtime)
    ∧ (∀ (s : State) (x y : Path), x ≠ y → (s.latch x).regWord y 0x5C = s.regWord y 0x5C)
    ∧ (∀ (s : State) (q : Nat), s.sys.hkOn = true →
        s.regReads ⟨.host, .pf0 q⟩ 0x58 2 = (s.latch .host, bytesOf 4 s.sys.devtime ++ bytesOf 4 (s.sys.devtime / 2 ^ 32)))

/-! ### SMBus, MCTP and boundary scan -/

/-- SMB_REG_WRITE, SMB_REG_READ, SMB_STATUS_READ, SMB_ARA and SMB_BUS_TIMEOUT. A write with a right PEC to an own register of FLT has the effect of a host
write and status 0; a wrong PEC, or none where PEC_REQ is 1, writes no register and gives status 0x4; an offset that is no dword of BAR0
gives status 0x1; both set DEV error code 0x04 with requester 0xFFFF (R42, R43, R48). A read returns count 5, the status and the word.
Command 0x12 returns count 1 and the status of the last write. The Alert Response Address is answered with the device's address exactly
while it drives SMB_ALERT_N low (R41). Each answer ends with the
PEC over every byte of the transfer (R41; log entry 162). A clock held low releases the bus and does nothing else (R604).
The model's choices it rests on: log entries 146, 162. -/
def Obligations.SmbusRegisterCommands : Prop :=
  (∀ (s : State) (a : Nat) (r : RegInfo) (v : Word), s.sys.hkOn = true → infoAt a = some (.flt, 0, r) → a < 2 ^ 26 → a % 4 = 0 →
      0x40 ≤ a % 4096 → r.name ≠ "CNT_CLR" → s.applying pgFLT = false → s.mezSt ≠ mzOPEN →
      let t := s.setReg a (mergeWord (s.reg a) v (s.regRw pgFLT r))
      exec (.smbRegWrite a v true true) s = .next ({ t with smb := { s.smb with lastWrite := 0 } }.sf pgDEV DEV.SMB_STS_LAST_STATUS 0).shown)
    ∧ (∀ (s : State) (a : Nat) (v : Word) (given ok : Bool), s.sys.hkOn = true →
      (if given then !ok else s.gb pgDEV DEV.SMB_CTL_PEC_REQ) = true →
      exec (.smbRegWrite a v given ok) s = .next (({ s with smb := { s.smb with lastWrite := 4 } }.sf pgDEV
        DEV.SMB_STS_LAST_STATUS 4).devError 3 a 0xFFFF).shown)
    ∧ (∀ (s : State) (a : Nat) (v : Word), s.sys.hkOn = true → (a % 4 ≠ 0 ∨ 2 ^ 26 ≤ a) →
      exec (.smbRegWrite a v true true) s = .next (({ s with smb := { s.smb with lastWrite := 1 } }.sf pgDEV
        DEV.SMB_STS_LAST_STATUS 1).devError 3 a 0xFFFF).shown)
    ∧ (∀ (s : State) (a : Nat) (r : RegInfo), s.sys.hkOn = true → infoAt a = some (.flt, 0, r) → a < 2 ^ 26 → a % 4 = 0 →
      s.applying pgFLT = false →
      exec (.smbRegRead a) s = .next ((s.sf pgDEV DEV.SMB_STS_LAST_STATUS 0).smbReply
        ([2 * s.smbAddr, 0x11, 4] ++ (bytesOf 4 a).map BitVec.toNat ++ [2 * s.smbAddr + 1])
        ([5, 0] ++ (bytesOf 4 (s.reg a).toNat).map BitVec.toNat)).shown)
    ∧ (∀ (s : State) (a : Nat), s.sys.hkOn = true → (a % 4 ≠ 0 ∨ 2 ^ 26 ≤ a) →
      exec (.smbRegRead a) s = .next (((s.sf pgDEV DEV.SMB_STS_LAST_STATUS 1).devError 3 a 0xFFFF).smbReply
        ([2 * s.smbAddr, 0x11, 4] ++ (bytesOf 4 a).map BitVec.toNat ++ [2 * s.smbAddr + 1]) [5, 1, 0, 0, 0, 0]).shown)
    ∧ (∀ s : State, s.sys.hkOn = true → exec .smbStatusRead s = .next (s.smbReply [2 * s.smbAddr, 0x12, 2 * s.smbAddr + 1]
        [1, s.smb.lastWrite]).shown)
    ∧ (∀ s : State, s.sys.hkOn = true → s.smb.alertLow = true → exec .smbAra s = .next (s.smbReply [0x19] [s.smbAddr * 2]).shown)
    ∧ (∀ s : State, s.smb.alertLow = false → exec .smbAra s = .next s.shown)
    ∧ (∀ s : State, exec .smbBusTimeout s = .next (s.emit .smbRelease).shown)
    ∧ (∀ (s : State) (sent back : List Nat),
      s.smbReply sent back = s.emit (.smb (bytes back ++ [byte (crc8 (bytes (sent ++ back)))])))

/-- With MCTP_EN 1 the six control commands and any other are answered to whoever asked last: Set Endpoint ID sets the endpoint ID, the
others change nothing but what is sent; with MCTP_EN 0 a packet is discarded (R44). A good packet that begins and ends a message hands its
body on with the sender noted; a management command goes to MGQ (R465). The bytes of the answers are those of DSP0236 and DSP0237,
which R44 names (PRESUMED, log entry 20). -/
def Obligations.MctpEndpoint : Prop :=
  (∀ (s : State) (eid : Byte), s.mctpOn = true → eid ≠ 0 → eid ≠ 0xFF →
      exec (.mctpSetEndpointId eid) s = .next ({ s with smb := { s.smb with eid := eid.toNat } }.mctpSend
        (bytes [0, 0, 1, 0, 0, eid.toNat, 0])).shown)
    ∧ (∀ s : State, s.mctpOn = true →
      exec .mctpGetEndpointId s = .next (s.mctpSend (bytes [0, 0, 2, 0, s.smb.eid, 0, 0])).shown
        ∧ exec .mctpGetEndpointUuid s = .next (s.mctpSend (bytes [0, 0, 3, 0] ++ bytesOf 16 Config.endpointUuid.toNat)).shown
        ∧ exec (.mctpGetVersionSupport 0) s = .next (s.mctpSend (bytes [0, 0, 4, 0, 1, 0xF1, 0xF3, 0xFF, 0])).shown
        ∧ exec (.mctpGetVersionSupport 1) s = .next (s.mctpSend (bytes [0, 0, 4, 0x80])).shown
        ∧ exec .mctpGetMessageTypeSupport s = .next (s.mctpSend (bytes [0, 0, 5, 0, 2, 0x05, 0x7E])).shown
        ∧ exec (.mctpGetVendorMsgSupport 0) s = .next (s.mctpSend (bytes [0, 0, 6, 0, 0xFF, 0, 0x1F, 0x3C, 0, 0])).shown)
    ∧ (∀ (s : State) (c : Byte), s.mctpOn = true → (c = 0 ∨ 6 < c.toNat) →
      exec (.mctpUnsupportedCmd c) s = .next (s.mctpSend (bytes [0, 0, c.toNat, 5])).shown)
    ∧ (∀ (s : State) (cmd data : List Byte), s.mctpOn = true →
      exec (.mctpMgqCommand cmd data) s = .next ((s.mqOverMctp (mqOfBytes cmd) data).settle.mgqPump.settle).shown)
    ∧ (∀ (s : State) (p : List Byte), s.gb pgDEV DEV.SMB_CTL_MCTP_EN = false → exec (.mctpPacket p) s = .next s.shown)
    ∧ (∀ (s : State) (p : List Byte), s.mctpOn = true → s.mctpGood p = true → (p.getD 7 0).toNat / 8 = 25 →
      exec (.mctpPacket p) s = .next ({ s with smb := { s.smb with
        peerAddr := (p.getD 3 0).toNat / 2, peerEid := (p.getD 6 0).toNat, peerTag := (p.getD 7 0).toNat % 16,
        nextSeq := ((p.getD 7 0).toNat / 16 + 1) % 4, assembly := none } }.mctpMessage ((p.drop 8).take (p.length - 9))).shown)

/-- BOUNDARY_SCAN. TRST_N low resets the controller; with TRST_N high one cycle of TCK moves it as IEEE 1149.1 says (PRESUMED, log entry
21) and touches nothing but the port, what it sends on TDO and the free value of the captured pins; a shift state shifts TDI in and the
oldest bit out; five cycles with TMS 1 reach Test-Logic-Reset from any state.
The model's choices it rests on: log entry 7. -/
def Obligations.BoundaryScanPort : Prop :=
  (∀ (s : State) (tms tdi : Bool), exec (.boundaryScan tms tdi false) s = .next { s with tap := { s.tap with st := 0, instr := none } }.shown)
    ∧ (∀ (s : State) (tms tdi : Bool), exec (.boundaryScan tms tdi true) s = .next (s.tapClock tms tdi).shown
        ∧ (s.tapClock tms tdi).tap.st = tapNext s.tap.st tms
        ∧ s.tapClock tms tdi = { s with tap := (s.tapClock tms tdi).tap, free := (s.tapClock tms tdi).free, out := (s.tapClock tms tdi).out })
    ∧ (∀ (s : State) (tdi : Bool), s.tap.st = 4 → exec (.boundaryScan false tdi true) s
        = .next ({ s with tap := { s.tap with shift := s.tap.shift.drop 1 ++ [tdi] } }.emit
            (.tdo ((s.tap.shift.drop 1 ++ [tdi]).headD false))).shown)
    ∧ (∀ st, tapNext (tapNext (tapNext (tapNext (tapNext st true) true) true) true) true = 0)

/-! ### The host port (spec/03_host_port.md) -/

/-- PERST_RELEASE, PERST_ASSERT, PME_TURN_OFF, CONFIG_REQUEST and PM_STATE_WRITE. The release of PERST_N in RUN makes HST ACTIVE, takes the clock
strap by majority and offers rates up to BOOT_SPEED (R51, R53). Its assertion without an armed request is a fundamental reset; with DEEP_SLEEP or OFF armed and PME_TO_Ack sent it
enters that state (R534); a second assertion does nothing. PME_Turn_Off is answered with PME_TO_Ack (R505). Before the boot completes a
configuration request gets Request Retry Status (R56); a read returns the register, PF0's vendor ID being 0x1F3C (R57); a write of a
one-bit register whose capability is shown changes it alone, and of a hidden one nothing (R58). With no armed request D3hot leaves the state at RUN (R504).
The model's choices it rests on: log entries 17, 18, 40, 41, 45, 147, 153. -/
def Obligations.PerstAndConfiguration : Prop :=
  (∀ (s : State) (clk : List Nat), s.sys.perst = true → s.sys.hkOn = true → s.pwr < 3 → s.oas.wakeLow = false →
      let t := (({ s with sys := { s.sys with perst := false }, oas := { s.oas with pmeAck := false } }.sf
        pgHST HDR.PAGE_CTL_EN 1).sf pgHST HDR.PAGE_STS_ACTIVE 1).sf pgHST HST.LINK_CFG_CLK_MODE (majority clk)
      exec (.perstRelease clk) s
        = .next { t with host := { s.host with offer := s.gf pgHST HST.LINK_CFG_BOOT_SPEED } }.shown)
    ∧ (∀ s : State, s.sys.perst = false → s.sys.hkOn = true → s.defers = false → s.oas.cur = none →
      exec .perstAssert s = .next { s with sys := { s.sys with perst := true } }.wholeReset.shown)
    ∧ (∀ (s : State) (r : PwrReq), s.sys.perst = false → s.sys.hkOn = true → s.defers = false → s.oas.cur = some r → 3 ≤ r.target →
      s.gb pgOAS OAS.PWR_STS_ARMED = true → s.oas.pmeAck = true →
      exec .perstAssert s = .next ({ s with sys := { s.sys with perst := true }, oas := { s.oas with cur := none } }.powerOff
        r.target r.modes).shown)
    ∧ (∀ s : State, s.sys.perst = true → exec .perstAssert s = .next s.shown)
    ∧ (∀ s : State, s.gb pgHST HST.LINK_STS_DL_UP = true →
      exec .pmeTurnOff s = .next ({ s with oas := { s.oas with pmeAck := true } }.emit .pmeToAck).shown)
    ∧ (∀ (s : State) (f tag : Nat) (r : CfgReg) (w : Option Nat), s.hostStall = false → s.sys.perst = false → s.sys.hkOn = true → s.gf pgOAS OAS.PWR_STS_STATE = 0 →
      s.oas.cur = none → s.gb pgDEV DEV.BOOT_STS_DONE = false →
      exec (.configRequest f r w tag) s = .next (s.emit (.retry tag)).shown)
    ∧ (∀ (s : State) (tag : Nat) (r : CfgReg), s.hostStall = false → s.sys.perst = false → s.sys.hkOn = true → s.gf pgOAS OAS.PWR_STS_STATE = 0 →
      s.oas.cur = none → s.gb pgDEV DEV.BOOT_STS_DONE = true →
      exec (.configRequest 0 r none tag) s = .next (s.emit (.cpl tag .sc (bytesOf 4 (s.cfgRead 0 r)))).shown
        ∧ s.cfgRead 0 .vendorId = 0x1F3C ∧ s.cfgRead 0 .deviceId = 0x1024 ∧ s.cfgRead 0 .classCode = 0x068000)
    ∧ (∀ (s : State) (tag v : Nat) (r : CfgReg), r ∈ [CfgReg.busMaster, .memSpace, .msixEnable, .funcMask, .atsEnable, .priEnable] →
      s.hostStall = false → s.sys.perst = false → s.sys.hkOn = true → s.gf pgOAS OAS.PWR_STS_STATE = 0 → s.oas.cur = none →
      s.gb pgDEV DEV.BOOT_STS_DONE = true → s.calm = true →
      (s.cfgShown 0 r = true →
        exec (.configRequest 0 r (some v) tag) s = .next ((s.setCfg 0 r (v % 2)).emit (.cpl tag .sc [])).shown)
      ∧ (s.cfgShown 0 r = false → exec (.configRequest 0 r (some v) tag) s = .next (s.emit (.cpl tag .sc [])).shown))
    ∧ (∀ s : State, s.gb pgDEV DEV.BOOT_STS_DONE = true → s.gf pgOAS OAS.PWR_STS_STATE = 0 → s.oas.cur = none →
      exec (.pmStateWrite 0 true) s = .next (s.setCfg 0 .powerState 3).shown)
    ∧ (∀ s : State, s.gb pgDEV DEV.BOOT_STS_DONE = true → s.gf pgOAS OAS.PWR_STS_STATE = 0 → s.oas.cur = none → s.calm = true →
      exec (.pmStateWrite 0 false) s = .next (s.setCfg 0 .powerState 0).shown)

/-- HOST_LINK_UP, HOST_RECOVERY, HOST_RETRAIN_LINK, SPEED_LIMIT_WRITE and SPEED_AUTO_UP. After PERST_N is released and the boot is done a rise of the data link
layer shows the link's rate, within what the bridge offers (R53, R54), its width, FLIT mode (always at 64 GT/s, R49), reversal and polarity,
sets DL_UP and event bit 0. Recovery counts a retrain and shows the new rate with event bit 2; without AUTO_UP it never raises the
rate (R55). The lanes in use follow the width and the reversal, and POL_INV speaks of them alone (R50). A LIMIT above ADMITTED that the Cistern admits raises ADMITTED and draws the difference of the
rates' allowances; a refused one counts SPEED_REFUSALS and sets event bit 3; a lower one on a slower link lowers ADMITTED and returns the
difference (R54). With AUTO_UP 1 the bridge asks for the highest offered rate (R55).
The model's choices it rests on: log entries 43, 161. -/
def Obligations.HostLinkAndSpeed : Prop :=
  (∀ (s : State) (speed width : Nat) (flit rev : Bool) (pol : BitVec 16), s.gb pgHST HST.LINK_STS_DL_UP = false → s.sys.perst = false →
      s.gb pgDEV DEV.BOOT_STS_DONE = true → s.gf pgHST HST.SPEED_CTL_ADMITTED ≤ s.speedLimit →
      let v := min speed (min s.host.offer s.speedOffer)
      let t := ((((s.sf pgHST HST.LINK_STS_REVERSED (b2n rev)).sf pgHST HST.LINK_STS_POL_INV pol.toNat).sf pgHST HST.LINK_STS_FLIT
        (b2n (s.flitAt v flit))).sf pgHST HST.LINK_STS_SPEED v).sf pgHST HST.LINK_STS_WIDTH (min width (s.gf pgHST HST.LINK_CFG_WIDTH_MAX))
      exec (.hostLinkUp speed width flit rev pol) s = .next ((t.lanesUse.sf pgHST HST.LINK_STS_DL_UP 1).event pgHST 0).shown)
    ∧ (∀ (s : State) (speed width : Nat), s.gb pgHST HST.LINK_STS_DL_UP = true → s.gf pgHST HST.SPEED_CTL_ADMITTED ≤ s.speedLimit →
      let v := min (if s.gb pgHST HST.SPEED_CTL_AUTO_UP then speed else min speed (s.gf pgHST HST.LINK_STS_SPEED)) s.speedOffer
      let w := min width (s.gf pgHST HST.LINK_CFG_WIDTH_MAX)
      let u := { s with host := { s.host with offer := s.speedOffer } }.sf pgHST HST.LINK_STS_FLIT
        (b2n (s.flitAt v (s.gb pgHST HST.LINK_STS_FLIT)))
      let t := (((u.cnt pgHST HST.CNT_RETRAINS).sf pgHST HST.LINK_STS_SPEED v).sf pgHST HST.LINK_STS_WIDTH w).lanesUse
      (s.gf pgHST HST.LINK_STS_SPEED ≠ v → exec (.hostRecovery speed width) s = .next (t.event pgHST 2).shown)
      ∧ (s.gf pgHST HST.LINK_STS_SPEED = v → s.gf pgHST HST.LINK_STS_WIDTH = w → exec (.hostRecovery speed width) s = .next t.shown))
    ∧ (∀ (s : State) (target most : Nat), target < 16 → s.gb pgHST HST.LINK_STS_DL_UP = true →
      s.gf pgHST HST.SPEED_CTL_ADMITTED ≤ s.speedLimit →
      let r := max 1 (min (min target most) (s.gf pgHST HST.SPEED_CTL_ADMITTED))
      s.gf pgHST HST.LINK_STS_SPEED ≠ r → 1 ≤ s.gf pgHST HST.SPEED_CTL_ADMITTED →
      let c := s.setCfg 0 .targetSpeed target
      let u := { c with host := { c.host with offer := s.gf pgHST HST.SPEED_CTL_ADMITTED } }.sf pgHST HST.LINK_STS_FLIT
        (b2n (s.flitAt r (s.gb pgHST HST.LINK_STS_FLIT)))
      exec (.hostRetrainLink target most) s = .next (((((u.cnt pgHST HST.CNT_RETRAINS).sf pgHST HST.LINK_STS_SPEED r).sf
        pgHST HST.LINK_STS_WIDTH (s.gf pgHST HST.LINK_STS_WIDTH)).lanesUse).event pgHST 2).shown)
    ∧ (∀ (s : State) (limit : Nat) (auto : Bool), limit < 16 →
      let want := min limit (s.gf pgHST HST.LINK_CFG_SPEED_MAX)
      let was := s.gf pgHST HST.SPEED_CTL_ADMITTED
      let t := (s.sf pgHST HST.SPEED_CTL_LIMIT limit).sf pgHST HST.SPEED_CTL_AUTO_UP (b2n auto)
      (was < want → s.admissible (hostDraw want - hostDraw was) 0 = true →
        exec (.speedLimitWrite limit auto) s = .next ((((t.addDraw pgHST (hostDraw want - hostDraw was) 0).cnt pgCIS CIS.CNT_ADMITTED).sf
          pgHST HDR.PAGE_STS_NOT_ADMITTED 0).sf pgHST HST.SPEED_CTL_ADMITTED want).shown)
      ∧ (was < want → s.admissible (hostDraw want - hostDraw was) 0 = false →
        exec (.speedLimitWrite limit auto) s = .next (((t.refuse pgHST (hostDraw want - hostDraw was) 0).cnt
          pgHST HST.CNT_SPEED_REFUSALS).event pgHST 3).shown)
      ∧ (want ≤ was → exec (.speedLimitWrite limit auto) s = .next t.shown))
    ∧ (∀ (s : State) (width : Nat), s.gb pgHST HST.LINK_STS_DL_UP = true → s.speedLimit < s.gf pgHST HST.SPEED_CTL_ADMITTED →
      s.speedLimit < s.gf pgHST HST.LINK_STS_SPEED →
      let u := { s with host := { s.host with offer := s.speedOffer } }.sf pgHST HST.LINK_STS_FLIT
        (b2n (s.flitAt s.speedLimit (s.gb pgHST HST.LINK_STS_FLIT)))
      exec (.hostRecovery s.speedLimit width) s = .next ((((((u.cnt pgHST HST.CNT_RETRAINS).sf pgHST HST.LINK_STS_SPEED s.speedLimit).sf
        pgHST HST.LINK_STS_WIDTH (min width (s.gf pgHST HST.LINK_CFG_WIDTH_MAX))).lanesUse.event pgHST 2).sf
          pgHST HST.SPEED_CTL_ADMITTED s.speedLimit).giveBack pgHST
            (hostDraw (s.gf pgHST HST.SPEED_CTL_ADMITTED) - hostDraw s.speedLimit) 0).shown)
    ∧ (∀ s : State, s.lanesUse.host.lanes = hostLanes (s.gf pgHST HST.LINK_STS_WIDTH) (s.gb pgHST HST.LINK_STS_REVERSED)
      ∧ (∀ i, i ∉ s.lanesUse.host.lanes → bitAt (s.lanesUse.gf pgHST HST.LINK_STS_POL_INV) i = false))
    ∧ (∀ s : State, s.gb pgHST HST.SPEED_CTL_AUTO_UP = true → s.gb pgHST HST.LINK_STS_DL_UP = true →
      s.gf pgHST HST.LINK_STS_SPEED < s.speedOffer → exec .speedAutoUp s = .next (s.emit (.linkSpeed s.speedOffer)).shown)
    ∧ (∀ s : State, s.gb pgHST HST.SPEED_CTL_AUTO_UP = false → exec .speedAutoUp s = .next s.shown)

/-- VF_ENABLE, VF_DISABLE, FLR, FLR_DONE, HOST_RESET and HOST_LINK_DOWN. Where SR-IOV is shown, setting VF Enable makes the VFs visible after 1 ms (R62); clearing
it takes them away. A function-level reset sets event bit 8, releases the function's halls, resets its MSI-X entries and configuration, and
the function takes no request until FLR_DONE, which changes only that (R22, R412). Hot Reset, Link Disable and DL_Down make the host
reset of R535. A reset that arrives during an apply is deferred whole (R475).
The model's choices it rests on: log entries 24, 25, 26. -/
def Obligations.FunctionsAndHostResets : Prop :=
  (∀ s : State, s.sriov = true → s.cfgRaw 0 .vfEnable = 0 → exec .vfEnable s
      = .next { s.setCfg 0 .vfEnable 1 with host := { (s.setCfg 0 .vfEnable 1).host with vfsAt := some (s.clock + 1000000) } }.shown)
    ∧ (∀ s : State, s.sriov = false → exec .vfEnable s = .next s.shown)
    ∧ (∀ s : State, s.cfgRaw 0 .vfEnable = 1 → s.defers = false → exec .vfDisable s = .next s.vfsOff.settle.shown)
    ∧ (∀ (s : State) (f : Nat), s.funcExists f = true → s.defers = false → (f ≠ 0 ∨ s.cfgRaw 0 .vfEnable = 0) →
      let t := ((s.event pgHST 8).funcReset f).clearCfg true (fun g => g == f)
      exec (.flr f) s = .next { t with host := { t.host with
        flrs := t.host.flrs.filter (fun (e : Nat × Nat) => e.1 != f) ++ [(f, t.clock)] } }.settle.shown)
    ∧ (∀ (s : State) (f : Nat), s.calm = true → exec (.flrDone f) s
      = .next { s with host := { s.host with flrs := s.host.flrs.filter (fun e => e.1 != f) } }.shown)
    ∧ (∀ (s : State) (c : HostResetCause), s.defers = false → exec (.hostReset c) s = .next s.hostResetNow.shown)
    ∧ (∀ s : State, s.gb pgHST HST.LINK_STS_DL_UP = true → s.defers = false → exec .hostLinkDown s = .next s.hostResetNow.shown)
    ∧ (∀ s : State, s.gb pgHST HST.LINK_STS_DL_UP = false → exec .hostLinkDown s = .next s.shown)
    ∧ (∀ (s : State) (c : HostResetCause), s.defers = true → exec (.hostReset c) s = .next (s.defer (.hostReset c)).shown)

/-- HOST_WRITE, HOST_READ, HOST_ATOMIC and HOST_ZERO_LENGTH_READ over an up link, without IDE. A request that falls in no BAR is an Unsupported Request: a write
sends the AER message, a non-posted one is answered with UR. In BAR0 a write or read is a register access, and an AtomicOp is answered
with UR. In the aperture of BAR2 the access enters the bridge with its bytes from the first to the last enabled one (R89). A zero-length
read of BAR0 returns zeros and accesses nothing. A poisoned write is discarded, captured and reported (R75). A function in reset takes
no write and answers UR without a report (R22). While a frame of the host waits for admission each of them is kept back, in order (R275).
The model's choices it rests on: log entries 17, 23, 33, 42, 64, 65, 66, 98, 153. -/
def Obligations.HostMemoryRequests : Prop :=
  (∀ (s : State) (i : TlpInfo) (a : Nat) (fbe lbe : BitVec 4) (d : List Word), s.gb pgHST HST.LINK_STS_DL_UP = true → s.hostStall = false → i.ide = .clear →
      s.host.ide = [] → s.gf pgOAS OAS.PWR_STS_STATE = 0 → s.oas.cur = none → s.calm = true →
      (s.inFlr i.func = true → exec (.hostWrite i a fbe lbe d) s = .next s.shown)
      ∧ (s.inFlr i.func = false → i.poisoned = true → exec (.hostWrite i a fbe lbe d) s = .next (s.poisonedTlp i).shown)
      ∧ (s.inFlr i.func = false → i.poisoned = false → s.barHit i.func a = none →
          exec (.hostWrite i a fbe lbe d) s = .next (s.aerUr 0 true (tlpHdr i)).shown))
    ∧ (∀ (s : State) (i : TlpInfo) (a off : Nat) (fbe lbe : BitVec 4) (d : List Word), s.gb pgHST HST.LINK_STS_DL_UP = true → s.hostStall = false → i.ide = .clear →
      s.host.ide = [] → s.gf pgOAS OAS.PWR_STS_STATE = 0 → s.oas.cur = none → s.inFlr i.func = false → i.poisoned = false →
      (s.barHit i.func a = some (0, off) → s.burstHeld (barPath i off) off d.length = false →
          exec (.hostWrite i a fbe lbe d) s = .next ((s.regBurst ⟨.host, barPath i off⟩ off fbe lbe d).settle).shown)
      ∧ (d.length = 1 → fbe = 0xF → s.barHit i.func a = some (2, off) →
          exec (.hostWrite i a fbe lbe d) s = .next ((s.accept ⟨.write, .host 0, i.func, i.pasid, none, off / 4 * 4, a / 4 * 4,
            (bytesOf 4 (d.headD 0).toNat).map some, [], i.req, 0⟩).settle).shown))
    ∧ (∀ (s : State) (i : TlpInfo) (tag a off n : Nat) (fbe lbe : BitVec 4), s.gb pgHST HST.LINK_STS_DL_UP = true → s.hostStall = false → i.ide = .clear →
      s.host.ide = [] → s.gf pgOAS OAS.PWR_STS_STATE = 0 → s.oas.cur = none → s.inFlr i.func = false → 0 < n → (1 < n ∨ fbe ≠ 0) →
      (s.barHit i.func a = some (0, off) → s.burstHeld (barPath i off) off n = false →
          exec (.hostRead i tag a n fbe lbe) s = .next ((s.regAnswer (barPath i off) off n fbe tag).settle).shown)
      ∧ (s.barHit i.func a = some (2, off) → n = 1 → fbe = 0xF →
          exec (.hostRead i tag a n fbe lbe) s = .next ((s.accept ⟨.read, .host tag, i.func, i.pasid, none, off / 4 * 4, a / 4 * 4,
            [some 0, some 0, some 0, some 0], [], i.req, 0⟩).settle).shown)
      ∧ (s.barHit i.func a = none → s.calm = true → exec (.hostRead i tag a n fbe lbe) s = .next (s.urAnswer 0 tag (tlpHdr i)).shown))
    ∧ (∀ (s : State) (i : TlpInfo) (tag a n : Nat) (fbe lbe : BitVec 4), s.gb pgHST HST.LINK_STS_DL_UP = true → s.hostStall = false → i.ide = .clear →
      s.host.ide = [] → s.gf pgOAS OAS.PWR_STS_STATE = 0 → s.oas.cur = none → s.inFlr i.func = true → 1 < n → s.calm = true →
      exec (.hostRead i tag a n fbe lbe) s = .next ((s.cnt pgHST HST.CNT_UR_SENT).emit (.cpl tag .ur [])).shown)
    ∧ (∀ (s : State) (i : TlpInfo) (tag a off : Nat) (op : AtomicOp) (v c : Nat), s.gb pgHST HST.LINK_STS_DL_UP = true → s.hostStall = false → i.ide = .clear →
      s.host.ide = [] → s.gf pgOAS OAS.PWR_STS_STATE = 0 → s.oas.cur = none → s.inFlr i.func = false → i.poisoned = false → a % 4 = 0 →
      (s.barHit i.func a = some (2, off) →
          exec (.hostAtomic i tag a op 4 v c) s = .next ((s.accept ⟨.atomic op, .host tag, i.func, i.pasid, none, off, a,
            (bytesOf 4 v).map some, if op = .cas then bytesOf 4 c else [], i.req, 0⟩).settle).shown)
      ∧ (s.barHit i.func a = some (0, off) → s.calm = true →
          exec (.hostAtomic i tag a op 4 v c) s = .next (s.urAnswer i.func tag (tlpHdr i)).shown))
    ∧ (∀ (s : State) (i : TlpInfo) (tag a off : Nat), s.gb pgHST HST.LINK_STS_DL_UP = true → s.hostStall = false → i.ide = .clear →
      s.host.ide = [] → s.gf pgOAS OAS.PWR_STS_STATE = 0 → s.oas.cur = none → s.inFlr i.func = false →
      (s.barHit i.func a = some (2, off) →
          exec (.hostZeroLengthRead i tag a) s = .next ((s.accept ⟨.zero, .host tag, i.func, i.pasid, none, off / 4 * 4, a / 4 * 4,
            [some 0], [], i.req, 0⟩).settle).shown)
      ∧ (s.barHit i.func a = some (0, off) → s.calm = true →
          exec (.hostZeroLengthRead i tag a) s = .next (s.emit (.cpl tag .sc [0, 0, 0, 0])).shown))
    ∧ (∀ (s : State) (i : TlpInfo) (tag a n v c size : Nat) (op : AtomicOp) (fbe lbe : BitVec 4) (d : List Word),
      s.gb pgHST HST.LINK_STS_DL_UP = true → s.hostStall = true → 0 < n →
      exec (.hostWrite i a fbe lbe d) s = .next (s.stallTlp (.hostWrite i a fbe lbe d)).shown
      ∧ exec (.hostRead i tag a n fbe lbe) s = .next (s.stallTlp (.hostRead i tag a n fbe lbe)).shown
      ∧ exec (.hostAtomic i tag a op size v c) s = .next (s.stallTlp (.hostAtomic i tag a op size v c)).shown
      ∧ exec (.hostZeroLengthRead i tag a) s = .next (s.stallTlp (.hostZeroLengthRead i tag a)).shown)

/-- HOST_COMPLETION, CPL_TIMEOUT, MSIX_TABLE_WRITE, ATS_INVALIDATION_REQUEST, ATS_INVALIDATION_COMPLETE, ATS_TRANSLATION_COMPLETION and PRG_RESPONSE. The last data of a request ends it, frees its tag and reserve
and goes to its requester through the Gallery (R66, R267); a completion without a request is counted, captured and reported and changes nothing else; a request whose
timeout has passed is abandoned with code 0x05 for its requester. A whole dword of an MSI-X entry is taken, a partial one is not (R68).
An invalidation takes the entries it affects out of the cache at once and completes when no request uses them; with 32 in progress
one more waits (R70). A translation
fills the cache (R69), and a PRG response with Success asks for the translation again (R71).
The model's choices it rests on: log entries 22, 30, 31, 153, 160, 169. -/
def Obligations.CompletionsAndTranslations : Prop :=
  (∀ (s : State) (r : HostReq) (data : List Byte) (c : Nat) (h0 h1 h2 : Word), s.gf pgOAS OAS.PWR_STS_STATE = 0 → s.oas.cur = none →
      s.host.ide = [] → s.host.reqs.find? (fun x => x.txn == r.txn) = some r → s.oldCompletion r = false → r.got = [] → data.length = r.len →
      exec (.hostCompletion r.txn .sc data c .clear false h0 h1 h2) s = .next ((((s.viaGallery r).endHostReq r).hostResult r 0 data).settle).shown)
    ∧ (∀ (s : State) (tag c : Nat) (st : CplStatus) (data : List Byte) (p : Bool) (h0 h1 h2 : Word), s.gf pgOAS OAS.PWR_STS_STATE = 0 →
      s.oas.cur = none → s.host.ide = [] → s.host.reqs.find? (fun x => x.txn == tag) = none → s.calm = true →
      exec (.hostCompletion tag st data c .clear p h0 h1 h2) s = .next (((s.cnt pgHST HST.CNT_BAD_TLPS).error pgHST 9 0x02
        (c % 2 ^ 16 + tag % 2 ^ 14 * 2 ^ 16) 0 0).aer 0 .unexpectedCompletion true []).shown)
    ∧ (∀ (s : State) (r : HostReq), s.host.reqs.find? (fun x => x.txn == r.txn) = some r → s.cfgRaw r.func .cplTimeoutDis = 0 →
      s.due (r.issued + s.cplTimeout r.func) = true →
      let t := (s.cnt pgHST HST.CNT_CPL_TIMEOUTS).error pgHST 4 0x01 (r.func % 256 + r.tag % 2 ^ 14 * 2 ^ 8) (r.addr % 2 ^ 32) (r.addr / 2 ^ 32)
      exec (.cplTimeout r.txn) s = .next (((t.aer r.func .completionTimeout false []).hostError r 0x05).settle).shown)
    ∧ (∀ (s : State) (f vec e : Nat) (v : Word), s.host.flrs.any (fun x => x.1 == f) = false → s.vecEntry f vec = some e →
      exec (.msixTableWrite f vec 0 0xF v) s = .next ((s.st .vec e ⟨0, 32⟩ v.toNat).heal .vec e).shown
        ∧ exec (.msixTableWrite f vec 1 0xF v) s = .next ((s.st .vec e ⟨32, 32⟩ v.toNat).heal .vec e).shown
        ∧ exec (.msixTableWrite f vec 2 0xF v) s = .next ((s.st .vec e T_VEC.DATA v.toNat).heal .vec e).shown
        ∧ exec (.msixTableWrite f vec 3 0xF v) s = .next ((s.st .vec e T_VEC.MASK v.toNat).heal .vec e).shown
        ∧ exec (.msixTableWrite f vec 3 0x1 v) s = .next s.shown)
    ∧ (∀ (s : State) (itag f a n : Nat), s.hostStall = false → s.host.invals = [] → s.host.invalQ = [] → s.host.reqs = [] →
      let t := { s with host := { s.host with
        cache := s.host.cache.filter (fun e => !s.invalHits f none a n e.1 e.2.1), invals := [⟨itag, f, none, a, n, []⟩] } }
      exec (.atsInvalidationRequest itag f none a n) s = .next ((t.sf pgHST HST.ATS_STS_CACHE_USED t.host.cache.length).sf
        pgHST HST.ATS_STS_INV_PENDING 1).shown)
    ∧ (∀ (s : State) (itag f a n : Nat) (p : Option Nat), s.hostStall = false → 32 ≤ s.host.invals.length → s.host.invalQ = [] →
      exec (.atsInvalidationRequest itag f p a n) s
        = .next { s with host := { s.host with invalQ := [⟨itag, f, p, a, n, []⟩] } }.shown)
    ∧ (∀ (s : State) (v : Inval), s.host.invals = [v] → s.host.invalQ = [] → v.tags = [] →
      exec (.atsInvalidationComplete v.itag) s = .next ((((({ s with host := { s.host with invals := [] } }.emit (.invCpl v.itag v.func)).cnt
        pgHST HST.CNT_ATS_INVALS).sf pgHST HST.ATS_STS_CACHE_USED s.host.cache.length).sf pgHST HST.ATS_STS_INV_PENDING 0)).shown)
    ∧ (∀ (s : State) (h page a : Nat) (q : HostReq), s.host.reqs = [q] → q.owner = .xlat h page → s.oldCompletion q = false →
      s.host.invals = [] → s.host.cache = [] → s.calm = true →
      let t := s.endHostReq q
      exec (.atsTranslationCompletion h page (.mapped a)) s = .next (({ t with
        host := { t.host with cache := [(h, page, a / 4096)] } }.sf pgHST HST.ATS_STS_CACHE_USED 1).sf
          pgHST HST.ATS_STS_INV_PENDING 0).shown)
    ∧ (∀ (s : State) (h g page : Nat), s.host.prgs = [(h, g, page)] →
      exec (.prgResponse h g .success) s = .next ((({ s with host := { s.host with prgs := [] } }.askXlat h (page * 4096)).settle)).shown)

/-- PTM_REQ, PTM_PERIOD, PTM_DIALOG_DONE and PTM_DIALOG_FAIL. A request starts one dialog at a time, and so does the period timer with AUTO 1 once PERIOD has
passed; none starts while HST is quiesced (R82), and VALID is lost after three periods without one. A completed dialog shows host time minus DEVTIME in PTM_ERR, saturating, sets VALID and, for an error above 1,000 ns, steps
DEVTIME forward to host time with STEPPED and event bit 6; a smaller one is slewed and DEVTIME never moves backward. The third failure
in a row clears VALID and SLEWING and captures error code 0x07.
The model's choices it rests on: log entries 27, 28. -/
def Obligations.PtmDialogs : Prop :=
  (∀ s : State, s.ptmOn = true → s.host.ptmBusy = false → s.quiesce pgHST = false →
      exec .ptmReq s = .next ({ s with host := { s.host with ptmBusy := true, ptmStart := s.clock } }.emit .ptmReq).shown)
    ∧ (∀ s : State, (s.ptmOn = false ∨ s.host.ptmBusy = true ∨ s.quiesce pgHST = true) → exec .ptmReq s = .next s.shown)
    ∧ (∀ s : State, s.gb pgHST HST.PTM_CTL_AUTO = true → s.ptmOn = true → s.host.ptmBusy = false → s.quiesce pgHST = false → s.ptmOverdue = false →
      s.due (s.host.ptmStart + s.ptmPeriodNs) = true →
      exec .ptmPeriod s = .next ({ s with host := { s.host with ptmBusy := true, ptmStart := s.clock } }.emit .ptmReq).shown)
    ∧ (∀ s : State, s.gb pgHST HST.PTM_CTL_AUTO = false →
      (s.ptmOverdue = false → exec .ptmPeriod s = .next s.shown) ∧ (s.ptmOverdue = true → exec .ptmPeriod s = .next s.ptmLost.shown))
    ∧ (∀ (s : State) (h : Nat), s.host.ptmBusy = true → let t := s.ptmDone h
      exec (.ptmDialogDone h) s = .next t.shown
        ∧ t.host.ptmBusy = false ∧ t.host.ptmFails = 0 ∧ t.gb pgHST HST.PTM_STS_VALID = true ∧ s.sys.devtime ≤ t.sys.devtime
        ∧ (s.sys.devtime + 1000 < h → t.sys.devtime = h ∧ t.gb pgHST HST.PTM_STS_STEPPED = true)
        ∧ (h ≤ s.sys.devtime + 1000 → t.sys.devtime = s.sys.devtime ∧ t.gb pgHST HST.PTM_STS_STEPPED = false))
    ∧ (∀ s : State, s.host.ptmBusy = true → s.host.ptmFails = 2 →
      exec .ptmDialogFail s = .next ((({ s with
        host := { s.host with ptmBusy := false, ptmFails := 3 }, sys := { s.sys with slew := 0, slewFast := false, slewIn := 0 } }.sf pgHST HST.PTM_STS_VALID 0).sf
          pgHST HST.PTM_STS_SLEWING 0).error pgHST 7 0x07 3 0 0).shown)
    ∧ (∀ s : State, s.host.ptmBusy = true → s.host.ptmFails < 2 → s.ptmOverdue = false →
      exec .ptmDialogFail s = .next { s with host := { s.host with ptmBusy := false, ptmFails := s.host.ptmFails + 1 } }.shown)

/-- DOE_REQUEST, DOE_ABORT, SPDM_REQUEST, SPDM_HEARTBEAT_TIMEOUT, IDE_KEY_PROG, IDE_KM_MESSAGE and the four TDISP rows. With the mailbox
shown and DOE Error clear, DOE Discovery answers with the protocol of an index, the SPDM protocols with the responder's answer, and an
object of more than 4,096 dwords sets DOE Error; an abort empties the mailbox and clears it (R76). An SPDM request on a path whose responder
is shown is answered on that path, and the requests of a session only under its keys (R77); a session without a heartbeat is closed. In a
secured session a key of 40 bytes for a stream that is not Secure is kept and five Vault words are counted, and for a Secure stream it is
refused with status 4 and nothing is kept (R78, R79, R553); K_SET_GO with the three keys of a set makes the stream Secure and K_SET_STOP
makes it Insecure. A lock moves a VF's interface from CONFIG_UNLOCKED to CONFIG_LOCKED with a fresh nonce, the start with that nonce to
RUN, the stop back to CONFIG_UNLOCKED, with a reset of the VF's halls from RUN and ERROR (R81, R418, R419). The layouts of the messages are
those of the published standards (PRESUMED, log entries 36 to 38).
The model's choices it rests on: log entries 34, 35. -/
def Obligations.SecurityServices : Prop :=
  (∀ (s : State) (o : List Word), s.gb pgDEV DEV.FEAT_EN_DOE_SPDM = true → s.host.doeErr = false →
      (o.length ≤ 4094 → let w := doeDiscovery (fld (o.headD 0) 0 8)
        exec (.doeRequest 0 o) s = .next ({ s with host := { s.host with doeObj := [w] } }.emit (.doe 0 [w])).shown)
      ∧ (4094 < o.length → ∀ p, exec (.doeRequest p o) s = .next { s with host := { s.host with doeErr := true } }.shown)
      ∧ (o.length ≤ 4094 → ∀ p, (p = 1 ∨ p = 2 ∧ s.host.spdmPci.session = true) →
        let l := o.flatMap (fun w => bytesOf 4 w.toNat)
        let r := s.spdmAnswer .host (p == 2) (l.headD 0).toNat (l.getD 1 0).toNat (l.getD 2 0).toNat (l.getD 3 0).toNat (l.drop 4)
        exec (.doeRequest p o) s
          = .next ({ r.1 with host := { r.1.host with doeObj := dwordsOf r.2 } }.emit (.doe p (dwordsOf r.2))).shown))
    ∧ (∀ s : State, exec .doeAbort s = .next { s with host := { s.host with doeObj := [], doeErr := false } }.shown)
    ∧ (∀ (s : State) (x : Path) (v c p1 p2 : Byte) (b : List Byte), s.spdmOn x = true →
      let r := s.spdmAct (s.spdm x) (s.spdm x).session v.toNat c.toNat p1.toNat p2.toNat b
      let w := if c = 0x84 then 0x10 else if v = 0x11 then 0x11 else 0x12
      exec (.spdmRequest x v c p1 p2 b) s = .next (((s.setSpdm x { r.2 with lastMsg := s.clock }).drawn.drawn).emit
        (.spdm x (bytes [w, r.1.code, r.1.p1, r.1.p2] ++ r.1.body))).shown)
    ∧ (∀ (s : State) (x : Spdm) (v c p1 p2 : Nat) (b : List Byte), x.stage = 3 → x.version = v → (v = 0x11 ∨ v = 0x12) →
      c ∈ [0xE5, 0xE8, 0xE9, 0xEC] →
      (s.spdmAct x false v c p1 p2 b).1.code = 0x7F ∧ (s.spdmAct x false v c p1 p2 b).1.p1 = 4 ∧ (s.spdmAct x false v c p1 p2 b).2 = x)
    ∧ (∀ (s : State) (x : Path), (s.spdm x).session = true → (s.spdm x).heartbeat ≠ 0 →
      (s.due ((s.spdm x).lastMsg + 2 * ms (1000 * (s.spdm x).heartbeat)) = true →
        exec (.spdmHeartbeatTimeout x) s
          = .next (s.setSpdm x { s.spdm x with session := false, finished := false, heartbeat := 0 }).shown)
      ∧ (s.due ((s.spdm x).lastMsg + 2 * ms (1000 * (s.spdm x).heartbeat)) = false →
        exec (.spdmHeartbeatTimeout x) s = .next s.shown))
    ∧ (∀ (s : State) (n set sub : Nat) (key : List Byte), s.gb pgDEV DEV.FEAT_EN_IDE = true → s.secured = true → set < 2 → sub < 3 →
      key.length = 40 → s.ideRoom n = true → (s.ideOf n).state ≠ .secure →
      (∀ e ∈ s.vlt.keyTimes, e.1 ≠ n * 16 + set * 8 + sub) →
      let i := s.ideOf n
      let k := set * 8 + sub
      let t := s.setIde n { i with keys := i.keys.filter (fun (e : Nat × List Byte) => e.1 != k) ++ [(k, key)] }
      exec (.ideKeyProg n set sub key) s = .next (({ t with
        vlt := { t.vlt with keyTimes := t.vlt.keyTimes.filter (fun (e : Nat × Nat) => e.1 != n * 16 + k) ++ [(n * 16 + k, s.clock)] } }.cnt
          pgVLT VLT.CNT_WORDS_WRITTEN 5).emit (.ideKm (bytes [0, 3, 0, 0, n % 256, 0, set + sub * 16, 0]))).shown)
    ∧ (∀ (s : State) (n set sub : Nat) (key : List Byte), s.gb pgDEV DEV.FEAT_EN_IDE = true → s.secured = true → set < 2 → sub < 3 →
      key.length = 40 → s.ideRoom n = true → (s.ideOf n).state = .secure →
      exec (.ideKeyProg n set sub key) s = .next (s.emit (.ideKm (bytes [0, 3, 0, 0, n % 256, 4, set + sub * 16, 0]))).shown)
    ∧ (∀ (s : State) (n set sub : Nat), s.gb pgDEV DEV.FEAT_EN_IDE = true → s.secured = true →
      exec (.ideKmMessage n 5 set sub) s = .next ((s.ideInsecure n).emit (.ideKm (bytes [0, 6, 0, 0, n % 256, 0, set + sub * 16, 0]))).shown
      ∧ exec (.ideKmMessage n 0 set sub) s = .next (s.emit (.ideKm (bytes [0, 1, 0, 0, n % 256, 0]))).shown
      ∧ ((∀ u < 3, (s.ideOf n).keys.any (fun e => e.1 == set * 8 + u) = true) →
        exec (.ideKmMessage n 4 set sub) s = .next ((s.setIde n { s.ideOf n with state := .secure, keySet := set }).emit
          (.ideKm (bytes [0, 6, 0, 0, n % 256, 0, set + sub * 16, 0]))).shown))
    ∧ (∀ (s : State) (vf : Nat), s.tdispOn = true → s.tdispHas vf = true → s.tdispOf vf = 0 →
      let t := (s.drawn).setTdisp vf 1
      exec (.tdispLockInterface vf) s = .next (({ t with host := { t.host with
        nonces := t.host.nonces.filter (fun (e : Nat × Nat) => e.1 != vf) ++ [(vf, s.nextFree 256)] } }.tdispSend vf 0x03
          (bytesOf 32 (s.nextFree 256))).settle).shown)
    ∧ (∀ (s : State) (vf : Nat), s.tdispOn = true → s.tdispHas vf = true → s.tdispOf vf ≠ 0 →
      exec (.tdispLockInterface vf) s = .next ((s.tdispErr vf 0x04).settle).shown)
    ∧ (∀ (s : State) (vf nonce : Nat), s.tdispOn = true → s.tdispHas vf = true → s.tdispOf vf = 1 → s.host.nonces.contains (vf, nonce) = true →
      let t := s.setTdisp vf 2
      exec (.tdispStartInterface vf nonce) s = .next (({ t with host := { t.host with
        nonces := t.host.nonces.filter (fun (e : Nat × Nat) => e.1 != vf) } }.tdispSend vf 0x06 []).settle).shown)
    ∧ (∀ (s : State) (vf nonce : Nat), s.tdispOn = true → s.tdispHas vf = true → s.tdispOf vf = 1 → s.host.nonces.contains (vf, nonce) = false →
      exec (.tdispStartInterface vf nonce) s = .next ((s.tdispErr vf 0x102).settle).shown)
    ∧ (∀ (s : State) (vf : Nat), s.tdispOn = true → s.tdispHas vf = true →
      let t := s.setTdisp vf 0
      let u := { t with host := { t.host with nonces := t.host.nonces.filter (fun (e : Nat × Nat) => e.1 != vf) } }
      ((s.tdispOf vf = 2 ∨ s.tdispOf vf = 3) → exec (.tdispStopInterface vf) s
        = .next (((u.each (u.hallsOf vf) (fun h r => r.hallReset h false false)).tdispSend vf 0x07 []).settle).shown)
      ∧ ((s.tdispOf vf = 0 ∨ s.tdispOf vf = 1) → exec (.tdispStopInterface vf) s = .next ((u.tdispSend vf 0x07 []).settle).shown))
    ∧ (∀ (s : State) (vf : Nat) (b : List Byte), s.tdispOn = true →
      exec (.tdispMessage vf 0x81 b) s = .next ((s.tdispSend vf 0x01 (bytes [1, 0x10])).settle).shown
      ∧ (s.tdispHas vf = true →
        exec (.tdispMessage vf 0x85 b) s = .next ((s.tdispSend vf 0x05 (bytes [s.tdispOf vf])).settle).shown
        ∧ exec (.tdispMessage vf 0x83 b) s = exec (.tdispLockInterface vf) s
        ∧ exec (.tdispMessage vf 0x86 b) s = exec (.tdispStartInterface vf (ofBytes (b.take 32))) s
        ∧ exec (.tdispMessage vf 0x87 b) s = exec (.tdispStopInterface vf) s))

/-! ### Windows and the bridge engine (spec/04_windows.md) -/

/-- READ_EXPIRY, NPW_EXPIRY, DR_HOLD_EXPIRY, DR_RELEASE, PWLOG_RELEASE and RA_HOLD_EXPIRY. READ_US after its start an unanswered read fails, READS_EXPIRED advances and error code 0x02
names its first missing byte (R99), and one that still waits before BRG is withdrawn (R102), but for one to the mirage alone, where nothing
expires (R104, R132); the open non-posted writes of a write are logged with CAUSE 0x5 and end (R101). A delayed-read entry is
freed when software releases it, and after HOLD_US it is freed, counted and event bit 4 set (R108). PWLOG_REL frees the oldest entries,
which read 0, moves OLDEST and lowers COUNT, and every other entry stays (R117). A read-ahead slot with unread bytes past its hold time is
discarded, counted, with event bit 5 (R115). Before their time the expiries do nothing. A row that is an access to a page waits while an apply holds it.
The model's choices it rests on: log entries 62, 66, 97. -/
def Obligations.BridgeExpiryAndStores : Prop :=
  (∀ (s : State) (i : Nat) (a : Acc) (p : Part), s.acc? i = some a → a.ended = false → a.op = .read → a.isRelay = false →
      s.brg.held.filter (fun e => e.1 == i) = [] → s.due (a.start + us (s.gf1 pgBRG BRG.EXPIRY_READ_US)) = true →
      a.parts.find? (fun p => !(p.st == .finished && p.got.length == p.len)) = some p →
      exec (.readExpiry i) s = .next (((({ s with brg := { s.brg with held := s.brg.held.filter (fun e => e.1 != i) } }.failRead i 0x06).cnt
        pgBRG BRG.CNT_READS_EXPIRED).error pgBRG 2 0x02 (p.win + p.hall * 2 ^ 16) (p.first % 2 ^ 32) (p.first / 2 ^ 32)).settle).shown)
    ∧ (∀ (s : State) (i : Nat) (a : Acc) (r : Req), s.acc? i = some a → a.ended = false → a.op = .read → a.isRelay = false → a.parts = [] →
      s.brg.held.filter (fun e => e.1 == i) = [(i, r)] → s.due (a.start + us (s.gf1 pgBRG BRG.EXPIRY_READ_US)) = true →
      (s.heldMirage r = false → exec (.readExpiry i) s = .next (((((({ s with brg := { s.brg with
        held := s.brg.held.filter (fun e => e.1 != i) } }.failRead i 0x06).cnt pgBRG BRG.CNT_READS_WITHDRAWN).cnt
          pgBRG BRG.CNT_READS_EXPIRED).error pgBRG 2 0x02 0 0 0)).settle).shown)
      ∧ (s.heldMirage r = true → exec (.readExpiry i) s = .next s.settle.shown))
    ∧ (∀ (s : State) (i : Nat) (a : Acc), s.acc? i = some a → s.due (a.start + us (s.gf1 pgBRG BRG.EXPIRY_READ_US)) = false →
      exec (.readExpiry i) s = .next s.settle.shown ∧ exec (.npwExpiry i) s = .next s.settle.shown)
    ∧ (∀ (s : State) (i : Nat) (a : Acc) (p : Part), s.acc? i = some a → a.ended = false → a.op = .write → a.isRelay = false →
      s.due (a.start + us (s.gf1 pgBRG BRG.EXPIRY_READ_US)) = true → a.parts.filter (fun p => isNpw a p && p.st != .finished && p.st != .stored) = [p] →
      exec (.npwExpiry i) s = .next ((((s.pwLog 5 { p.entry a 0 with np := true }).writeFailed a.who 0x0B).endAcc i).settle).shown)
    ∧ (∀ (s : State) (i : Nat), i < 64 → s.tb .drd i T_DRD.VALID = true →
      us (s.gf1 pgBRG BRG.DR_CTL_HOLD_US) ≤ subMod s.stamp (s.tf .drd i T_DRD.STAMP) 48 →
      exec (.drHoldExpiry i) s = .next ((((s.setEnt .drd i 0).drMap i false).cnt pgBRG BRG.CNT_DR_TIMED_OUT).event pgBRG 4).shown)
    ∧ (∀ (s : State) (i : Nat), subMod s.stamp (s.tf .drd i T_DRD.STAMP) 48 < us (s.gf1 pgBRG BRG.DR_CTL_HOLD_US) →
      exec (.drHoldExpiry i) s = .next s.shown)
    ∧ (∀ (s : State) (v : Word), s.applying pgBRG = false → bitAt v.toNat 8 = true → s.tb .drd (fld v 0 6) T_DRD.VALID = true →
      exec (.drRelease v) s = .next ((s.setEnt .drd (fld v 0 6) 0).drMap (fld v 0 6) false).shown)
    ∧ (∀ (s : State) (v : Word), s.applying pgBRG = false → bitAt v.toNat 8 = false → exec (.drRelease v) s = .next s.shown)
    ∧ (∀ (s : State) (v : Word), s.applying pgBRG = false → let n := s.gf pgBRG BRG.PWLOG_STS_COUNT
      let r := min (fld v 0 9) n
      let o := s.gf pgBRG BRG.PWLOG_STS_OLDEST
      let t := s.pwRelease v
      exec (.pwlogRelease v) s = .next t.shown ∧ t.gf pgBRG BRG.PWLOG_STS_COUNT = n - r
        ∧ t.gf pgBRG BRG.PWLOG_STS_OLDEST = (o + r) % 256
        ∧ (∀ i < r, t.ent .pwl ((o + i) % 256) = 0)
        ∧ (∀ j < 256, (∀ i < r, (o + i) % 256 ≠ j) → t.ent .pwl j = s.ent .pwl j)
        ∧ t = { s with regs := t.regs, tbls := t.tbls })
    ∧ (∀ (s : State) (v : Word), s.applying pgBRG = true → exec (.drRelease v) s = .next (s.mezWait (.drRelease v)).shown
      ∧ exec (.pwlogRelease v) s = .next (s.mezWait (.pwlogRelease v)).shown)
    ∧ (∀ (s : State) (n : Nat) (x : RaSlot), s.brg.slots = [(n, x)] → x.bytes ≠ [] →
      s.due (x.filled + us (s.gf1 pgBRG BRG.RA_CTL_HOLD_US)) = true →
      exec (.raHoldExpiry n) s = .next ((({ s with brg := { s.brg with slots := [] } }.cnt pgBRG BRG.CNT_RA_DISCARDS 1).event pgBRG 5)).shown)
    ∧ (∀ (s : State) (n : Nat) (x : RaSlot), s.brg.slots = [(n, x)] →
      s.due (x.filled + us (s.gf1 pgBRG BRG.RA_CTL_HOLD_US)) = false → exec (.raHoldExpiry n) s = .next s.shown)

/-- MIRAGE_OUT_WRITE, MIRAGE_UPDATE_SEND, MIRAGE_UPDATE_RX, SB_POLL_TIMER, SB_POLL_ANSWER and STATION_EVENT. A write to an outbound slot replaces its value and marks it changed, counting a value that was never sent (R126). The
update carries every changed slot two to a word with its mask, and none stays marked. A received update of one inbound slot below 15 sets
that slot and no other, and counts (R127). POLL_US after the last poll the next is sent with a new tag, and an unanswered one is counted and
captured (R128); the answer with one word enters inbound slot 15. An EVENT of a station that declares it fires source
0x6000 + 16 × anchor + line (R257); of one that does not, it is reported.
The model's choices it rests on: log entries 58, 59. -/
def Obligations.MirageAndSideBand : Prop :=
  (∀ (s : State) (n k : Nat) (v : Word), n < 1024 → k < 16 → bitAt (s.lard n).changed k = false →
      exec (.mirageOutWrite n k v) s = .next ((s.st .mir n (T_MIR.OUT k) v.toNat).setLard n
        { s.lard n with changed := (s.lard n).changed ||| 2 ^ k }).shown)
    ∧ (∀ (s : State) (n k : Nat) (v : Word), n < 1024 → k < 16 → bitAt (s.lard n).changed k = true →
      exec (.mirageOutWrite n k v) s = .next (((s.cnt pgMIR MIR.CNT_OUT_COALESCED).st .mir n (T_MIR.OUT k) v.toNat).setLard n
        { s.lard n with changed := (s.lard n).changed ||| 2 ^ k }).shown)
    ∧ (∀ (s : State) (n k : Nat) (v : Word), 1024 ≤ n → exec (.mirageOutWrite n k v) s = .next s.shown)
    ∧ (∀ (s : State) (a : Nat), s.mirOn = true → s.gb pgMIR MIR.MIR_CTL_OUT_EN = true → s.flows a = true → s.quiesce (pgPRT a) = false → s.stationCan a 50 = true →
      (s.lard a).changed ≠ 0 → ((s.link a).txq ++ (s.link a).held.map (·.2)).any (fun c => c.frame.op == opMIRAGE) = false →
      let slots := (List.range 16).filter (fun i => bitAt (s.lard a).changed i)
      exec (.mirageUpdateSend a) s = .next ((((s.setLard a { s.lard a with changed := 0 }).cnt pgMIR MIR.CNT_OUT_UPDATES).ownFrame a
        (mkMirage (s.lard a).changed (mirageWords (slots.map (fun i => s.tf .mir a (T_MIR.OUT i))))))).shown)
    ∧ (∀ (s : State) (a k : Nat) (f : Frame), s.cascadeLink a = false → s.quiesce pgMIR = false → s.active pgMIR = true →
      s.rxHead a opMIRAGE = some f → s.stationCan a 50 = true → k < 15 → f.mask = 2 ^ k →
      exec (.mirageUpdateRx a) s = .next ((((s.rxTake a f).cnt pgMIR MIR.CNT_IN_UPDATES).st .mir a (T_MIR.IN k)
        (fld (f.words.getD 0 0) 0 32))).shown)
    ∧ (∀ (s : State) (a : Nat) (f : Frame), s.cascadeLink a = false → s.quiesce pgMIR = false →
      s.rxHead a opMIRAGE = some f → s.stationCan a 50 = false →
      exec (.mirageUpdateRx a) s = .next ((s.rxTake a f).stationReport a (s.rxTake a f).device 6 f.op f.seq).shown)
    ∧ (∀ (s : State) (a t : Nat), s.mirOn = true → s.gf pgMIR MIR.MIR_CTL_POLL_US ≠ 0 → s.flows a = true → s.quiesce (pgPRT a) = false → s.stationCan a 51 = true →
      (s.lard a).pollAt = none → (s.lard a).pollTag = none → s.freeTag a = some t →
      let u := s.takeTag a t .poll
      exec (.sbPollTimer a) s = .next ((u.setLard a { u.lard a with pollAt := some u.clock, pollTag := some t }).ownFrame a
        (mkCtl opPOLL t 0 [])).shown)
    ∧ (∀ (s : State) (a t0 t p : Nat), s.mirOn = true → s.gf pgMIR MIR.MIR_CTL_POLL_US ≠ 0 → s.flows a = true → s.quiesce (pgPRT a) = false → s.stationCan a 51 = true →
      (s.lard a).pollAt = some t0 → s.due (t0 + us (s.gf pgMIR MIR.MIR_CTL_POLL_US)) = true → (s.lard a).pollTag = some p →
      s.freeTag a = some t →
      let u := ((s.cnt pgMIR MIR.CNT_POLL_MISSED).error pgMIR 0 0x01 a 0 0).takeTag a t .poll
      exec (.sbPollTimer a) s = .next ((u.setLard a { u.lard a with pollAt := some u.clock, pollTag := some t }).ownFrame a
        (mkCtl opPOLL t 0 [])).shown)
    ∧ (∀ (s : State) (a sent : Nat) (f : Frame) (w : Word64), s.cascadeLink a = false → s.rxHead a opRSP = some f → f.code = 0 →
      f.words = [w] → (s.lard a).tags.find? (fun t => t.tag == f.tag) = some ⟨f.tag, .poll, sent⟩ →
      ((s.rxTake a f).dropTag a f.tag).lard a = { s.lard a with tags := [] } → (s.lard a).pollTag = some f.tag →
      exec (.sbPollAnswer a) s = .next (((((s.rxTake a f).dropTag a f.tag).setLard a { s.lard a with tags := [], pollTag := none }).inSlot a 15
        (fld w 0 32)).settle).shown)
    ∧ (∀ (s : State) (a : Nat) (f : Frame), s.cascadeLink a = false → s.rxHead a opEVENT = some f →
      (s.rxTake a f).stationCan a 53 = true →
      exec (.stationEvent a) s = .next ((s.rxTake a f).fire (0x6000 + 16 * a + f.line)).shown)
    ∧ (∀ (s : State) (a : Nat) (f : Frame), s.cascadeLink a = false → s.rxHead a opEVENT = some f →
      (s.rxTake a f).stationCan a 53 = false →
      exec (.stationEvent a) s = .next ((s.rxTake a f).stationReport a (s.rxTake a f).device 5 f.op f.seq).shown)

/-! ### Larduper transactions and stations (spec/07_larduper.md) -/

/-- STATION_RSP, IDENT_RETRY, TAG_LIFETIME and ERR_RPT_RX. A response whose tag nothing holds is taken and captured by BRG with code 0x04 (R139). The answer to an IDENT with four
words identifies the link once and its tag is free (R251). A response to an access goes to that access (R248). Without a successful
answer for 10 ms of UP time IDENT is asked for again. A tag sent 1 s of UP time ago is released (R246), and one younger is kept. A late
error report of a declared station enters the posted-write log with CAUSE 0x2, the window's owner, and the failed bytes (R250); of an
undeclared one it is a station report.
The model's choices it rests on: log entry 51. -/
def Obligations.ResponsesAndTags : Prop :=
  (∀ (s : State) (a : Nat) (f : Frame), s.cascadeLink a = false → s.rxHead a opRSP = some f →
      (s.lard a).tags.find? (fun t => t.tag == f.tag) = none →
      exec (.stationRsp a) s = .next ((s.rxTake a f).errorNoEvent pgBRG 0x04 (a + f.tag * 2 ^ 10) 0 0).shown)
    ∧ (∀ (s : State) (a i k sent : Nat) (f : Frame), s.cascadeLink a = false → s.rxHead a opRSP = some f →
      (s.lard a).tags.find? (fun t => t.tag == f.tag) = some ⟨f.tag, .access i k, sent⟩ → s.active pgSWC = true → s.quiesce pgSWC = false →
      s.behindMsg a f = false →
      exec (.stationRsp a) s = .next (((s.rxTake a f).respond a i k f).settle).shown)
    ∧ (∀ (s : State) (a sent : Nat) (f : Frame), s.cascadeLink a = false → s.rxHead a opRSP = some f →
      (s.lard a).tags.find? (fun t => t.tag == f.tag) = some ⟨f.tag, .ident, sent⟩ → f.code = 0 → f.words.length = 4 →
      recordValid f.words = true →
      let t := (s.rxTake a f).dropTag a f.tag
      (t.lard a).ident = none →
      exec (.stationRsp a) s = .next ((t.setLard a { t.lard a with ident := some ⟨f.words, true⟩, identDue := false }).settle).shown)
    ∧ (∀ (s : State) (a : Nat), s.flows a = true → s.cascadeLink a = false → (s.lard a).ident = none → (s.lard a).identDue = false →
      (s.lard a).tags = [] → (s.link a).txq = [] →
      exec (.identRetry a) s = .next ((s.setLard a { s.lard a with identDue := true }).identPump).shown)
    ∧ (∀ (s : State) (a : Nat) (w : Ident), (s.lard a).ident = some w → exec (.identRetry a) s = .next s.shown)
    ∧ (∀ (s : State) (a tag sent : Nat), (s.lard a).tags.find? (fun t => t.tag == tag) = some ⟨tag, .ident, sent⟩ → (s.link a).txq = [] →
      sent + ms 1000 ≤ s.upTime a → exec (.tagLifetime a tag) s = .next ((s.dropTag a tag).settle).shown)
    ∧ (∀ (s : State) (a tag : Nat) (r : TagRec), (s.lard a).tags.find? (fun t => t.tag == tag) = some r → s.upTime a < r.sent + ms 1000 →
      exec (.tagLifetime a tag) s = .next s.shown)
    ∧ (∀ (s : State) (a : Nat) (f : Frame), s.cascadeLink a = false → s.rxHead a opERR = some f → s.stationCan a 54 = true →
      s.isMember = false →
      exec (.errRptRx a) s = .next ((s.rxTake a f).pwLog 2 ⟨false, ((s.rxTake a f).win f.ctx).func, ((s.rxTake a f).win f.ctx).hall, f.ctx, a, 0,
        f.addr + fld (f.words.getD 0 0) 12 3, fld (f.words.getD 0 0) 0 12, f.code⟩).shown)
    ∧ (∀ (s : State) (a : Nat) (f : Frame), s.cascadeLink a = false → s.rxHead a opERR = some f → s.stationCan a 54 = false →
      exec (.errRptRx a) s = .next ((s.rxTake a f).stationReport a (s.rxTake a f).device 3 f.op f.seq).shown)

/-- TIME_ROUND_START, TIME_ECHO_RX, TIME_ECHO_FU_RX, TIME_ROUND_TIMEOUT, TIME_SYNC_RX and TIME_FOLLOW_UP_RX. A round starts with a SYNC of the next ID; its ECHO gives s2 and t4, any other ECHO is dropped; its
ECHO_FU ends it with a FOLLOW_UP of t1, D, VALID and the present slew, with VALID 0 where the SYNC was sent again, the ECHO replayed,
t4 − t1 above 1 ms or D negative; without an ECHO for 500 µs it is abandoned (R261). A cascade follower answers SYNC with ECHO and
corrects its DEVTIME by t1 + D − s2, never backward (R320, R74). D is half the difference of the intervals.
The model's choices it rests on: log entry 52. -/
def Obligations.TimeRounds : Prop :=
  (∀ (s : State) (a : Nat), s.flows a = true → s.quiesce (pgPRT a) = false → s.timeLeads a = true → (s.lard a).roundAt = none →
      exec (.timeRoundStart a) s = .next ((s.setLard a { s.lard a with
        round := some ⟨((s.lard a).roundId + 1) % 256, s.sys.devtime, false, s.clock, none, 0⟩
        roundId := ((s.lard a).roundId + 1) % 256
        roundAt := some s.clock }).ownFrame a (mkTime 0 (((s.lard a).roundId + 1) % 256) [])).shown)
    ∧ (∀ (s : State) (a t : Nat), (s.lard a).roundAt = some t → s.due (t + 1000000) = false →
      exec (.timeRoundStart a) s = .next s.shown)
    ∧ (∀ (s : State) (a t4 : Nat) (f : Frame) (r : Round), s.rxTime a 2 = some f → ((s.rxTake a f).lard a).round = some r → r.s2 = none →
      (f.roundId = r.id → exec (.timeEchoRx a t4) s = .next ((s.rxTake a f).setLard a { (s.rxTake a f).lard a with
        round := some { r with s2 := some (f.words.getD 0 0).toNat, t4 := t4 } }).shown)
      ∧ (f.roundId ≠ r.id → exec (.timeEchoRx a t4) s = .next (s.rxTake a f).shown))
    ∧ (∀ (s : State) (a s2 : Nat) (f : Frame) (r : Round), s.rxTime a 3 = some f → ((s.rxTake a f).lard a).round = some r → r.s2 = some s2 →
      f.roundId = r.id →
      let s3 := (f.words.getD 0 0).toNat
      let ok := !r.again && fld (f.words.getD 1 0) 0 1 == 0 && decide ((r.t4 : Int) - r.t1 ≤ 1000000)
        && decide ((s3 : Int) - s2 ≤ (r.t4 : Int) - r.t1)
      exec (.timeEchoFuRx a) s = .next (((s.rxTake a f).setLard a { (s.rxTake a f).lard a with round := none }).ownFrame a (mkTime 1 r.id
        [BitVec.ofNat 64 r.t1, BitVec.ofNat 64 (ofSigned (roundDelay r.t1 r.t4 s2 s3) 64), BitVec.ofNat 64 (b2n ok),
          BitVec.ofNat 64 (ofSigned (s.rxTake a f).slewPpb 32)])).shown)
    ∧ (∀ t1 t4 s2 s3 : Nat, 2 * roundDelay t1 t4 s2 s3 = ((t4 : Int) - t1) - ((s3 : Int) - s2)
        ∨ 2 * roundDelay t1 t4 s2 s3 = ((t4 : Int) - t1) - ((s3 : Int) - s2) + 1)
    ∧ (∀ (s : State) (a : Nat) (r : Round), (s.lard a).round = some r → r.s2 = none →
      (s.due (r.start + 500000) = true → exec (.timeRoundTimeout a) s = .next (s.setLard a { s.lard a with round := none }).shown)
      ∧ (s.due (r.start + 500000) = false → exec (.timeRoundTimeout a) s = .next s.shown))
    ∧ (∀ (s : State) (a s2 : Nat) (f : Frame), s.rxTime a 0 = some f → (s.rxTake a f).cascadeLink a = true →
      (s.rxTake a f).isLeader a = false →
      exec (.timeSyncRx a s2) s = .next (((s.rxTake a f).setLard a { (s.rxTake a f).lard a with
        echo := some ⟨f.roundId, s2, (s.rxTake a f).sys.devtime, false, false⟩ }).ownFrame a (mkTime 2 f.roundId [BitVec.ofNat 64 s2])).shown)
    ∧ (∀ (s : State) (a : Nat) (f : Frame) (x : Echo), s.rxTime a 1 = some f → ((s.rxTake a f).lard a).echo = some x →
      (s.rxTake a f).cascadeLink a = true → (s.rxTake a f).isLeader a = false → f.roundId = x.id → fld (f.words.getD 2 0) 0 1 = 1 →
      exec (.timeFollowUpRx a) s = .next ((((s.rxTake a f).setLard a { (s.rxTake a f).lard a with echo := none }).correctTime
        ((((f.words.getD 0 0).toNat + (f.words.getD 1 0).toNat : Nat) : Int) - x.s2))).shown)
    ∧ (∀ (s : State) (err : Int), s.sys.devtime ≤ (s.correctTime err).sys.devtime
        ∧ (err ≤ 1000 → (s.correctTime err).sys.devtime = s.sys.devtime ∧ (s.correctTime err).sys.slew = err)
        ∧ (1000 < err → ((s.correctTime err).sys.devtime : Int) = s.sys.devtime + err ∧ (s.correctTime err).sys.slew = 0))

/-! ### The Ihlesh physical layer (spec/05_ihlesh_phy.md) -/

/-- CABLE_SWEEP_DONE, ECHO_PHASE_END, RATE_SWITCH_END, TRAINING_BLOCK_RX, ALIGN_DONE, TRAIN_TIMEOUT, TRAIN_RETRY_WAIT_END and
FAULT_SWEEP_TIMER. A leader's clean sweep in DETECT is classified in DIAG_STS and goes to ECHO_LEAD; one that finds an open, a short or
a bad impedance enters FAULT, or in FAULT is reported when the fault is another one. COUNTDOWN 0, sent or seen, moves ECHO_LEAD to
ECHO_FOLLOW and that to DUPLEX, or to fault 0x8 when no rate is left, and a follower that has not locked returns to
DETECT. SWITCH ends after 4 µs. A training block of another type, or with a wrong CRC, only breaks the run of the exchange. The exchange
ends once 8 blocks with ACK were sent and one received: DUPLEX enters SWITCH at the agreed rate, or ALIGN, and a retrain goes on. ALIGN
ends, once COUNTDOWN 0 has left, in ACTIVE with the taps and the peer's ID kept, the training counted and event bit 0. An
expired limit fails the attempt and the link, which waits; DUPLEX and ALIGN count it. The leader's waits end in a new sweep, after 1 ms,
100 ms from the eighth failure on, and 10 ms in FAULT.
The model's choices it rests on: log entries 46, 47, 163. -/
def Obligations.PortTraining : Prop :=
  (∀ (s : State) (n fault tap rates : Nat) (c : Bool), n < 1024 → s.ph n = phDETECT → s.isLeader n = true → (s.port n).waiting = false →
      fault = 0 ∨ fault = 7 →
      let t := (s.setDiag n fault tap c 75294).setPort n { s.port n with reach := rates, rate := 1 }
      t.offered n ≠ 0 →
      exec (.cableSweepDone n fault tap c rates) s = .next ((t.echoLead n false).emit (.phy n "ECHO_LEAD")).shown)
    ∧ (∀ (s : State) (n fault tap rates : Nat) (c : Bool), s.ph n = phDETECT → s.isLeader n = true → (s.port n).waiting = false →
      fault = 1 ∨ fault = 2 ∨ fault = 3 →
      exec (.cableSweepDone n fault tap c rates) s =
        .next ((((s.setDiag n fault tap c 75294).othersTrain n).enterPh n phFAULT).faultReport n fault none).shown)
    ∧ (∀ (s : State) (n fault tap rates : Nat) (c : Bool), s.ph n = phFAULT → s.isLeader n = true → fault = 1 ∨ fault = 2 ∨ fault = 3 →
      let t := s.setDiag n fault tap c 75294
      (s.gf (pgPRT n) PRT.DIAG_STS_FAULT = fault → exec (.cableSweepDone n fault tap c rates) s = .next t.shown)
      ∧ (s.gf (pgPRT n) PRT.DIAG_STS_FAULT ≠ fault → exec (.cableSweepDone n fault tap c rates) s = .next (t.faultReport n fault none).shown))
    ∧ (∀ (s : State) (n fault tap rates : Nat) (c : Bool), (s.ph n ≠ phDETECT ∧ s.ph n ≠ phFAULT) ∨ s.isLeader n = false →
      exec (.cableSweepDone n fault tap c rates) s = .next s.shown)
    ∧ (∀ (s : State) (n rates : Nat), s.ph n = phECHOLEAD → s.echoOver n = true → s.isLeader n = true ∨ (s.port n).locked = true →
      let t := if (s.port n).rate = 1 then s.setPort n { s.port n with reach := (s.port n).reach &&& rates } else s
      (t.offered n ≠ 0 → exec (.echoPhaseEnd ⟨n, rates⟩) s = .next ((t.enterPh n phECHOFOLLOW).emit (.phy n "ECHO_FOLLOW")).shown)
      ∧ (t.offered n = 0 → exec (.echoPhaseEnd ⟨n, rates⟩) s = .next (t.cableFault n 8 none).shown))
    ∧ (∀ (s : State) (n rates : Nat), s.ph n = phECHOFOLLOW → s.echoOver n = true →
      let t := if (s.port n).rate = 1 then s.setPort n { s.port n with reach := (s.port n).reach &&& rates } else s
      (t.offered n ≠ 0 → exec (.echoPhaseEnd ⟨n, rates⟩) s = .next ((t.enterPh n phDUPLEX).emit (.phy n "DUPLEX")).shown)
      ∧ (t.offered n = 0 → exec (.echoPhaseEnd ⟨n, rates⟩) s = .next (t.cableFault n 8 none).shown))
    ∧ (∀ (s : State) (n rates : Nat), s.ph n = phECHOLEAD → s.echoOver n = true → s.isLeader n = false → (s.port n).locked = false →
      exec (.echoPhaseEnd ⟨n, rates⟩) s = .next (s.trainFrom n).shown)
    ∧ (∀ (s : State) (n rates : Nat), s.echoOver n = false → exec (.echoPhaseEnd ⟨n, rates⟩) s = .next s.shown)
    ∧ (∀ (s : State) (n : Nat), s.ph n = phSWITCH →
      (s.due ((s.port n).since + us 4) = true → exec (.rateSwitchEnd n) s = .next (s.echoLead n false).shown)
      ∧ (s.due ((s.port n).since + us 4) = false → exec (.rateSwitchEnd n) s = .next s.shown))
    ∧ (∀ (s : State) (n : Nat) (tb : Word64) (f : Int), blkType tb ≠ 0xC1 ∨ blkGood tb = false →
      (s.ph n = phDISABLED ∨ s.ph n = phSLEEP ∨ s.ph n = phWAKING → exec (.trainingBlockRx n tb f) s = .next s.shown)
      ∧ (s.ph n ≠ phDISABLED ∧ s.ph n ≠ phSLEEP ∧ s.ph n ≠ phWAKING → exec (.trainingBlockRx n tb f) s = .next (s.breakRun n).shown))
    ∧ (∀ (s : State) (n : Nat) (tb : Word64) (f : Int), blkType tb = 0xC1 → blkGood tb = true → fld tb 8 4 = phDUPLEX → s.ph n = phDUPLEX →
      (s.port n).toSleep = none → (s.port n).waiting = false → f.natAbs ≤ 20 → s.isLeader n = true → fld tb 13 1 = 0 →
      (fld tb 24 4, fld tb 28 3, fld tb 31 1 == 1) = s.expectLane n → (s.peerCap n tb).gb (pgPRT n) PRT.PHY_CTL_PEER_CHK = false →
      fld tb 20 2 = (s.port n).rate → (s.peerCap n tb).isLeader n = true → (s.peerCap n tb).port n = s.port n →
      exec (.trainingBlockRx n tb f) s = .next (((s.peerCap n tb).noteTb n tb).exchangeIn n tb).shown)
    ∧ (∀ (s : State) (n : Nat) (tb : Word64), s.exchanging n = true →
      let p := s.port n
      let t := s.setPort n { p with acks := p.acks + 1, gotAck := p.gotAck || fld tb 12 1 == 1 }
      (t.exchanging n = true → t.exchanged n = true → s.exchangeIn n tb = t.exchangeEnd n)
      ∧ (t.exchanged n = false → s.exchangeIn n tb = t))
    ∧ (∀ (s : State) (n : Nat), s.ph n = phDUPLEX →
      let agreed := topRate (s.offered n &&& s.gf (pgPRT n) PRT.PEER_CAP_RATES)
      ((s.port n).rate = 1 ∧ 1 < agreed →
        s.exchangeEnd n = (((s.setPort n { s.port n with rate := agreed }).enterPh n phSWITCH).emit (.phy n "RATE_SWITCH")))
      ∧ ((s.port n).rate ≠ 1 ∨ agreed ≤ 1 → s.exchangeEnd n = ((s.enterPh n phALIGN).startAlign n).emit (.phy n "ALIGN")))
    ∧ (∀ (s : State) (n : Nat) (taps : List Int), s.aligning n = true → s.linkReady_ n = true → (s.port n).cd = 0 → s.frameOver n = true →
      let t := (s.setPort n { s.port n with trained := s.gf (pgPRT n) PRT.PEER_CAP_RX_ID, taps := taps, badCw := 0, bad := 0 }).enterPh n phACTIVE
      let u := t.sf (pgPRT n) PRT.PHY_STS_ALIGNED 1 |>.sf (pgPRT n) PRT.PHY_STS_ATTEMPTS 0
      let v := (u.setReg (raddr (pgPRT n) 0x64) (BitVec.ofNat 32 (u.nextFree 16))).drawn
      let w := if s.ph n = phALIGN then (v.cnt (pgPRT n) PRT.CNT_TRAININGS).event (pgPRT n) 0 else v
      exec (.alignDone n taps) s = .next (w.linkActive n (s.port n).txAt).shown)
    ∧ (∀ (s : State) (n : Nat) (taps : List Int), s.aligning n = false ∨ s.linkReady_ n = false ∨ (s.port n).cd ≠ 0 →
      exec (.alignDone n taps) s = .next s.shown)
    ∧ (∀ (s : State) (n t : Nat), s.trainLimit n = some t → s.due t = true → s.ph n = phDUPLEX ∨ s.ph n = phALIGN →
      exec (.trainTimeout n) s = .next (s.failLink n none).shown)
    ∧ (∀ (s : State) (n t : Nat), s.trainLimit n = some t → s.due t = true → s.ph n = phECHOLEAD →
      exec (.trainTimeout n) s = .next (s.trainFrom n).shown)
    ∧ (∀ (s : State) (n t : Nat), s.trainLimit n = some t → s.due t = true → s.ph n = phECHOFOLLOW →
      exec (.trainTimeout n) s = .next ((s.setDiag n 6 0 false 75294).cableFault n 6 none).shown)
    ∧ (∀ (s : State) (n t : Nat), s.trainLimit n = some t → s.due t = false → exec (.trainTimeout n) s = .next s.shown)
    ∧ (∀ (s : State) (n : Nat), s.ph n = phDETECT → (s.port n).waiting = true → s.isLeader n = true →
      s.due ((s.port n).since + (if s.gf (pgPRT n) PRT.PHY_STS_ATTEMPTS < 8 then ms 1 else ms 100)) = true →
      exec (.trainRetryWaitEnd n) s = .next ((s.setPort n { s.port n with waiting := false }).emit (.phy n "SWEEP")).shown)
    ∧ (∀ (s : State) (n : Nat), s.ph n = phFAULT → s.isLeader n = true → s.due ((s.port n).since + ms 10) = true →
      exec (.faultSweepTimer n) s = .next ((s.setPort n { s.port n with since := s.clock }).emit (.phy n "SWEEP")).shown)
    ∧ (∀ (s : State) (n : Nat), s.isLeader n = false →
      exec (.faultSweepTimer n) s = .next s.shown ∧ exec (.trainRetryWaitEnd n) s = .next s.shown)

/-- BLOCK_LOCK_GAINED, BLOCK_LOCK_LOST, POLARITY_CORRECT, AM_RX, MARKER_LOCK_GAINED, MARKER_LOCK_LOST, LOCK_LOSS, RETRAIN_WRITE and
RETRAIN_TIMEOUT. Block lock shows in PHY_STS while the port is on. With POL_AUTO, as the training took it, the receiver inverts its input
and sets event bit 5; without
it the attempt fails with fault 0x4. A marker counts toward lock when its CRC, lane, width and anchor are right and the skew is at most 60 ns;
otherwise training fails with code 0x08, and in ACTIVE the third invalid one loses marker lock. A lane loses lock with 8 uncorrectable
codewords in a row, without marker lock, or with its group's LREF, which takes every ACTIVE lane of the group: it is counted and captured,
and a single port retrains. The retrain bit acts in ACTIVE only, and a retrain that lasts 150 µs becomes a full training.
The model's choices it rests on: log entries 49, 53, 55, 165, 166. -/
def Obligations.LockMarkersAndRetrain : Prop :=
  (∀ (s : State) (n : Nat), s.ph n ≠ phDISABLED → s.ph n ≠ phSLEEP →
      exec (.blockLockGained n) s = .next ((s.sf (pgPRT n) PRT.PHY_STS_BLOCK_LOCK 1).setPort n { s.port n with locked := true }).shown)
    ∧ (∀ (s : State) (n : Nat), s.ph n = phDISABLED ∨ s.ph n = phSLEEP → exec (.blockLockGained n) s = .next s.shown)
    ∧ (∀ (s : State) (n : Nat),
      exec (.blockLockLost n) s = .next ((s.sf (pgPRT n) PRT.PHY_STS_BLOCK_LOCK 0).setPort n { s.port n with locked := false }).shown)
    ∧ (∀ (s : State) (n : Nat), phDETECT ≤ s.ph n → s.ph n ≤ phRETRAIN → s.ph n ≠ phACTIVE →
      ((s.port n).cfg.polAuto = true → exec (.polarityCorrect n) s = .next (((s.sf (pgPRT n) PRT.PHY_STS_POL_INV
        (1 - s.gf (pgPRT n) PRT.PHY_STS_POL_INV)).sf (pgPRT n) PRT.DIAG_STS_FAULT 4).event (pgPRT n) 5).shown)
      ∧ ((s.port n).cfg.polAuto = false →
        exec (.polarityCorrect n) s = .next ((s.sf (pgPRT n) PRT.DIAG_STS_FAULT 4).failLink n none).shown))
    ∧ (∀ (s : State) (n : Nat) (am : Word64) (k : Nat), blkType am ≠ 0xC2 ∨ s.marksPort n = false → exec (.amRx n am k) s = .next s.shown)
    ∧ (∀ (s : State) (n : Nat) (am : Word64) (k : Nat), blkType am = 0xC2 → s.ph n = phALIGN → s.marksPort n = true →
      (blkGood am = true ∧ s.amGood n am = true ∧ k ≤ 60 → exec (.amRx n am k) s = .next (s.amCount n (fld am 40 16)).shown)
      ∧ (blkGood am = true ∧ (s.amGood n am = false ∨ 60 < k) → exec (.amRx n am k) s = .next (s.failLink n
        (some (0x08, (s.expectLane n).1 + fld am 8 4 * 16, k))).shown)
      ∧ (blkGood am = false → exec (.amRx n am k) s = .next (s.amMissed n 1).shown))
    ∧ (∀ (s : State) (n count : Nat), (s.port n).goodAm = 0 ∨ count = ((s.port n).lastAm + 1) % 65536 →
      s.amCount n count = s.setPort n { s.port n with goodAm := (s.port n).goodAm + 1, badAm := 0, lastAm := count })
    ∧ (∀ (s : State) (n k : Nat),
      ((s.port n).badAm + k < 3 → s.amMissed n k = s.setPort n { s.port n with badAm := (s.port n).badAm + k })
      ∧ (3 ≤ (s.port n).badAm + k → s.amMissed n k =
        ((s.setPort n { s.port n with goodAm := 0, badAm := 3 }).sf (pgPRT n) PRT.PHY_STS_ALIGNED 0).laneLost n 1))
    ∧ (∀ (s : State) (n : Nat), s.marksPort n = true →
      (s.ph n = phACTIVE → exec (.markerLockGained n) s = .next ((s.setPort n { s.port n with goodAm := max 2 (s.port n).goodAm, badAm := 0 }).sf
        (pgPRT n) PRT.PHY_STS_ALIGNED 1).shown)
      ∧ exec (.markerLockLost n) s = .next (((s.setPort n { s.port n with goodAm := 0, badAm := 3 }).sf (pgPRT n)
        PRT.PHY_STS_ALIGNED 0).laneLost n 1).shown)
    ∧ (∀ (s : State) (n : Nat), s.marksPort n = false →
      exec (.markerLockGained n) s = .next s.shown ∧ exec (.markerLockLost n) s = .next s.shown)
    ∧ (∀ (s : State) (n : Nat),
      (8 ≤ (s.port n).badCw → exec (.lockLoss n 0) s = .next (s.laneLost n 0).shown)
      ∧ ((s.port n).badCw < 8 → exec (.lockLoss n 0) s = .next s.shown)
      ∧ (s.marksPort n = true ∧ (s.port n).goodAm < 2 → exec (.lockLoss n 1) s = .next (s.laneLost n 1).shown)
      ∧ (s.marksPort n = false ∨ 2 ≤ (s.port n).goodAm → exec (.lockLoss n 1) s = .next s.shown)
      ∧ (s.ph n = phACTIVE → exec (.lockLoss n 2) s = .next (s.lrefLost (groupBase n)).shown)
      ∧ (s.ph n ≠ phACTIVE → exec (.lockLoss n 2) s = .next s.shown))
    ∧ (∀ (s : State) (b : Nat), s.gb (pgPRT b) PRT.GRP_CTL_LREF_SRC = false →
      (s.sf (pgPRT b) PRT.GRP_STS_PLL_LOCK 0).gb (pgPRT b) PRT.GRP_CTL_LREF_SRC = false →
      s.lrefLost b = (((s.sf (pgPRT b) PRT.GRP_STS_PLL_LOCK 0).each (List.range 16) (fun i s => s.sf (pgPRT (b + i)) PRT.PHY_STS_LREF_OK 0)).each
        (List.range 16) (fun i s => s.laneLost (b + i) 2)))
    ∧ (∀ (s : State) (n c : Nat), s.ph n ≠ phACTIVE → s.laneLost n c = s)
    ∧ (∀ (s : State) (n c : Nat), s.ph n = phACTIVE → s.apart n = false →
      let t := (s.cnt (pgPRT n) PRT.CNT_LOCK_LOSSES).errorNoEvent (pgPRT n) 0x06 (c % 4) 0 0
      t.apart n = false → t.lk (s.anchorOf n) = lkDISABLED ∨ t.width (s.anchorOf n) = 1 →
      s.laneLost n c = t.retrainLink (s.anchorOf n))
    ∧ (∀ (s : State) (n : Nat), s.ph n = phACTIVE →
      (s.apart n = false → exec (.retrainWrite n) s = .next (s.retrainLink (s.anchorOf n)).shown)
      ∧ (s.apart n = true → exec (.retrainWrite n) s = .next (s.enterRetrain n).shown))
    ∧ (∀ (s : State) (n : Nat), s.ph n ≠ phACTIVE → exec (.retrainWrite n) s = .next s.shown)
    ∧ (∀ (s : State) (n : Nat), s.ph n = phRETRAIN →
      (s.due ((s.port n).since + us 150) = true →
        exec (.retrainTimeout n) s = .next ((s.othersTrain n).startTraining n).shown)
      ∧ (s.due ((s.port n).since + us 150) = false → exec (.retrainTimeout n) s = .next s.shown))

/-- DIAG_RUN, CABLE_CHANGE, SLEEP_REQ_WRITE, LINK_IDLE_TIMER, SLEEP_REQ_SEND, SLEEP_REQ_RX, SLEEP_ACK_RX, SLEEP_NAK_RX,
SLEEP_ANSWER_TIMEOUT and DETECTOR_ARM. In ACTIVE a diagnostic keeps the fault and reads the taps; in training it
ends the attempt as a failure, and one in FAULT that finds a fault which stops training leaves the port there. A change of a tap above the threshold is counted, with event bit 4. SLEEP_REQ is taken only in ACTIVE with SLEEP_EN, goes out once
nothing is held, unacknowledged or queued, and its answer is SLEEP_ACK, with which both sides stop at the end of the next codeword, or SLEEP_NAK, which ends the
attempt like 8 µs without an answer. 1 µs after the transmitters stopped every member enters SLEEP.
The model's choices it rests on: log entries 14, 114, 155. -/
def Obligations.DiagnosticsAndSleep : Prop :=
  (∀ (s : State) (n f tap : Nat) (c : Bool), s.ph n = phACTIVE → s.mgq.cur = none →
      exec (.diagRun n f tap c) s = .next (s.setDiag n (s.gf (pgPRT n) PRT.DIAG_STS_FAULT) tap (s.gb (pgPRT n) PRT.DIAG_STS_COND)
        (livePeriod (s.port n).rate)).shown)
    ∧ (∀ (s : State) (n f tap : Nat) (c : Bool), s.ph n = phDUPLEX → s.mgq.cur = none → f = 0 ∨ 3 < f →
      (s.failLink n none).mgq = s.mgq →
      exec (.diagRun n f tap c) s = .next ((s.failLink n none).setDiag n f tap c 75294).shown)
    ∧ (∀ (s : State) (n f tap : Nat) (c : Bool), s.ph n = phFAULT → s.mgq.cur = none → f = 1 ∨ f = 2 ∨ f = 3 →
      (s.sweepFault n f tap c).mgq = s.mgq → exec (.diagRun n f tap c) s = .next (s.sweepFault n f tap c).shown)
    ∧ (∀ (s : State) (n f tap : Nat) (c : Bool), s.ph n = phDISABLED ∨ s.ph n = phSLEEP ∨ s.ph n = phWAKING → s.mgq.cur = none →
      exec (.diagRun n f tap c) s = .next s.shown)
    ∧ (∀ (s : State) (n : Nat) (taps : List Int), s.ph n = phACTIVE → s.gb (pgPRT n) PRT.PHY_CTL_DIAG_LIVE = true →
      let k := largestChange (s.port n).taps taps
      let big := ((s.port n).taps.map Int.natAbs).foldl max 0
      let d := distCm k.1 (livePeriod (s.port n).rate) (s.gf (pgPRT n) PRT.DIAG_CTL_VF) (s.gf (pgPRT n) PRT.DIAG_CTL_BOARD_PS)
      (s.gf1 (pgPRT n) PRT.DIAG_CTL_CHG_THR * big < k.2 * 256 → exec (.cableChange n taps) s = .next
        (((((s.setPort n { s.port n with taps := taps }).sf (pgPRT n) PRT.DIAG_STS_TAP (min k.1 159)).sf (pgPRT n) PRT.DIAG_STS_DIST_CM
          (min d 65535)).cnt (pgPRT n) PRT.CNT_CABLE_CHANGES).event (pgPRT n) 4).shown)
      ∧ (k.2 * 256 ≤ s.gf1 (pgPRT n) PRT.DIAG_CTL_CHG_THR * big → exec (.cableChange n taps) s = .next s.shown))
    ∧ (∀ (s : State) (n : Nat),
      (s.ph n = phACTIVE ∧ s.gb (pgPRT n) PRT.PHY_CTL_SLEEP_EN = true → exec (.sleepReqWrite n) s = .next
        (s.setLard (s.anchorOf n) { s.lard (s.anchorOf n) with sleepReq := true }).shown)
      ∧ (s.ph n ≠ phACTIVE ∨ s.gb (pgPRT n) PRT.PHY_CTL_SLEEP_EN = false → exec (.sleepReqWrite n) s = .next s.shown))
    ∧ (∀ (s : State) (a : Nat), s.sleepOn a = true → (s.link a).held = [] → (s.link a).ackSince = none → (s.link a).credits = 0 →
      s.queuedFor a = false →
      (s.due ((s.link a).lastUse + s.gf1 (pgPRT a) LNK.LINK_CTL_IDLE * us 10) = true →
        exec (.linkIdleTimer a) s = .next (s.setLard a { s.lard a with idleAuto := true }).shown)
      ∧ ((s.lard a).sleepSent = none ∧ (s.lard a).sleepReq = true → exec (.sleepReqSend a) s = .next
        ((s.setLard a { s.lard a with sleepSent := some s.clock }).emit (.ctl a (mkBlk 0xC3 0))).shown)
      ∧ (∀ b, blkType b = 0xC3 ∧ blkGood b = true ∧ (s.lard a).sleepSent = none →
        exec (.sleepReqRx a b) s = .next ((s.emit (.ctl a (mkBlk 0xC4 0))).stopTx a 2).shown))
    ∧ (∀ (s : State) (a : Nat) (b : Word64), s.lk a = lkUP → s.sleepOn a = false → (s.lard a).sleepSent = none →
      (blkType b = 0xC3 ∧ blkGood b = true → exec (.sleepReqRx a b) s = .next (s.emit (.ctl a (mkBlk 0xC5 0))).shown)
      ∧ (blkType b ≠ 0xC3 ∨ blkGood b = false → exec (.sleepReqRx a b) s = .next (s.cnt (pgPRT a) LNK.CNT_BAD_CTL).shown))
    ∧ (∀ (s : State) (a t : Nat) (b : Word64), s.lk a = lkUP → (s.lard a).sleepSent = some t → blkGood b = true →
      (blkType b = 0xC4 → exec (.sleepAckRx a b) s = .next (s.stopTx a 1).shown)
      ∧ (blkType b = 0xC3 → exec (.sleepReqRx a b) s = .next (s.stopTx a 1).shown)
      ∧ (blkType b = 0xC5 → exec (.sleepNakRx a b) s = .next (s.sleepOver a).shown)
      ∧ (s.due (t + us 8) = true ∧ (s.port a).toSleep = none → exec (.sleepAnswerTimeout a) s = .next (s.sleepOver a).shown)
      ∧ (s.due (t + us 8) = false → exec (.sleepAnswerTimeout a) s = .next s.shown))
    ∧ (∀ (s : State) (a t : Nat), (s.port a).toSleep = some t →
      (s.due (t + us 1) = true → exec (.detectorArm a) s = .next ((((s.each (s.crew a) (fun n s => s.portSleeps n)).setLk a lkSLEEP).setLard a
        { s.lard a with sleepReq := false, sleepSent := none, idleAuto := false, round := none })).shown)
      ∧ (s.due (t + us 1) = false → exec (.detectorArm a) s = .next s.shown))

/-- ACTIVITY_WAKE, BRIDGE_WAKE, GROUP_PLL_LOCKED, WAKE_DETECT_DELAY, WAKE_LOCKOUT_END, GROUP_AUTO_SLEEP, and what a wake does. The allowances of a sleeping port are asked for in one
admission. Admitted, it retrains, or waits for the PLL of an asleep group, its detector is disarmed and event bit 7 set; refused, WAKE_REFUSED
advances, code 0x07 names the port and what was asked for, and the detector rests for 1 ms. 100 µs after the PLL of its group locked a waking
port starts a full training. An auto-sleep group whose ports all rest long enough stops its PLL and returns its allowances. An unarmed
detector, or one of a port that does not sleep, does nothing.
The model's choices it rests on: log entries 54, 151. -/
def Obligations.PortAndGroupWake : Prop :=
  (∀ (s : State) (n : Nat), s.ph n = phSLEEP → (s.port n).armed = true → s.sys.hkOn = true → s.pwr = 0 → (s.wakePort n).2 = true →
      exec (.activityWake n) s = .next (((s.wakePort n).1.wakeHint OAS.WAKE_FLAG_PORT).settle).shown)
    ∧ (∀ (s : State) (n : Nat), s.ph n = phSLEEP → (s.port n).armed = true → s.sys.hkOn = true → s.pwr = 0 → (s.wakePort n).2 = false →
      exec (.activityWake n) s = .next ((s.wakePort n).1.settle).shown)
    ∧ (∀ (s : State) (n : Nat), s.ph n = phSLEEP → (s.port n).armed = true → s.sys.hkOn = true → s.pwr ≠ 0 →
      exec (.activityWake n) s = .next (s.portCause n).shown)
    ∧ (∀ (s : State) (n : Nat), s.ph n ≠ phSLEEP ∨ (s.port n).armed = false → exec (.activityWake n) s = .next s.shown)
    ∧ (∀ (s : State) (n : Nat),
      let ports := (n :: s.crew (s.anchorOf n)).dedup.filter (fun m => s.ph m == phSLEEP)
      let t := s.cnt (pgPRT n) PRT.CNT_WAKES
      let d := totalDraw (s.wakeReqs ports)
      (t.askCistern (pgPRT n) (s.wakeReqs ports)).2 = false → (t.askCistern (pgPRT n) (s.wakeReqs ports)).1.groupAwake n = true →
      let u := ((t.askCistern (pgPRT n) (s.wakeReqs ports)).1.cnt (pgPRT n) PRT.CNT_WAKE_REFUSED).error (pgPRT n) 6 0x07 n d.2 d.1
      u.groupAwake n = true →
      s.wakePort n = (u.setPort n { u.port n with armed := false, lockout := some (u.clock + ms 1) }, false))
    ∧ (∀ (s : State) (a : Nat), s.lk a = lkSLEEP → s.queuedFor a = true → s.naLocked a = false → (s.wakePort a).2 = true →
      exec (.bridgeWake a) s = .next (s.wakePort a).1.shown)
    ∧ (∀ (s : State) (a : Nat), s.lk a = lkSLEEP → s.queuedFor a = true → s.naLocked a = false → (s.wakePort a).2 = false →
      exec (.bridgeWake a) s = .next (((s.wakePort a).1.refuseWake a).settle).shown)
    ∧ (∀ (s : State) (a : Nat), s.lk a ≠ lkSLEEP → exec (.bridgeWake a) s = .next s.shown)
    ∧ (∀ (s : State) (g : Nat), g < 64 → s.gb (pgPRT (16 * g)) PRT.GRP_STS_AWAKE = true → s.gb (pgPRT (16 * g)) PRT.GRP_STS_PLL_LOCK = false →
      s.gb (pgPRT (16 * g)) PRT.GRP_CTL_LREF_OE = false → s.gb (pgPRT (16 * g)) PRT.GRP_CTL_LREF_SRC = false →
      (s.sf (pgPRT (16 * g)) PRT.GRP_STS_PLL_LOCK 1).gb (pgPRT (16 * g)) PRT.GRP_CTL_LREF_SRC = false →
      (s.sf (pgPRT (16 * g)) PRT.GRP_STS_PLL_LOCK 1).gb (pgPRT (16 * g)) PRT.GRP_CTL_LREF_OE = false →
      exec (.groupPllLocked g) s = .next ((s.sf (pgPRT (16 * g)) PRT.GRP_STS_PLL_LOCK 1).each (List.range 16) (fun i s =>
        let t := s.sf (pgPRT (16 * g + i)) PRT.PHY_STS_LREF_OK 1
        if t.ph (16 * g + i) == phWAKING then t.setPort (16 * g + i) { t.port (16 * g + i) with wakeAt := some (t.clock + us 100) } else t)).shown)
    ∧ (∀ (s : State) (n t : Nat), (s.port n).wakeAt = some t → s.ph n = phWAKING →
      (s.due t = true → exec (.wakeDetectDelay n) s = .next (((s.setPort n { s.port n with wakeAt := none }).enterPh n
        phDETECT).startTraining n).shown)
      ∧ (s.due t = false → exec (.wakeDetectDelay n) s = .next s.shown))
    ∧ (∀ (s : State) (n t : Nat), (s.port n).lockout = some t →
      (s.due t = true → exec (.wakeLockoutEnd n) s = .next (s.setPort n { s.port n with
        lockout := none
        armed := s.ph n == phSLEEP && s.gb (pgPRT n) PRT.PHY_CTL_ACT_WAKE }).shown)
      ∧ (s.due t = false → exec (.wakeLockoutEnd n) s = .next s.shown))
    ∧ (∀ (s : State) (g : Nat), g < 64 → s.gb (pgPRT (16 * g)) PRT.GRP_CTL_AUTO_SLEEP = true → s.gb (pgPRT (16 * g)) PRT.GRP_STS_AWAKE = true →
      s.groupPorts (16 * g) ≠ [] → (∀ m ∈ s.groupPorts (16 * g), s.ph m = phSLEEP
        ∧ s.due ((s.port m).since + s.gf1 (pgPRT (16 * g)) PRT.GRP_CTL_IDLE * us 100) = true) →
      exec (.groupAutoSleep g) s = .next (s.groupSleep g).shown)
    ∧ (∀ (s : State) (g : Nat), g < 64 → s.gb (pgPRT (16 * g)) PRT.GRP_CTL_AUTO_SLEEP = true → s.gb (pgPRT (16 * g)) PRT.GRP_STS_AWAKE = true →
      s.groupPorts (16 * g) = [] →
      (∀ i < 16, s.due ((s.port (16 * g + i)).since + s.gf1 (pgPRT (16 * g)) PRT.GRP_CTL_IDLE * us 100) = true) →
      exec (.groupAutoSleep g) s = .next (s.groupSleep g).shown)
    ∧ (∀ (s : State) (g m : Nat), m ∈ s.groupPorts (16 * g) → s.ph m ≠ phSLEEP → exec (.groupAutoSleep g) s = .next s.shown)
    ∧ (∀ (s : State) (g : Nat), s.gb (pgPRT (16 * g)) PRT.GRP_CTL_AUTO_SLEEP = false ∨ s.gb (pgPRT (16 * g)) PRT.GRP_STS_AWAKE = false →
      exec (.groupAutoSleep g) s = .next s.shown)

/-! ### The Ihlesh link layer (spec/06_ihlesh_link.md) -/

/-- CODEWORD_RX, FRAME_RX, ACK_TIMER, FLOW_RX and FLOW_SEND. An uncorrectable codeword is counted and captured with code 0x1B, its blocks are lost, and
the eighth in a row loses the lane; a correctable one is counted when a symbol was fixed. The descrambler runs on in both cases, and the blocks
join the stream of their link, in which a data block belongs to a frame and a lost block makes the frame corrupt. An EOF earns its frame's
credit; one with a wrong CRC-8, or outside a frame, is only counted. A frame with the expected number goes into its VC's share and
RX_NEXT moves on; one on an unused VC or too long is consumed and captured with 0x17; one without room is an overrun and a gap. A bad CRC and a
later number are gaps: one NAK until NAK state ends. A number already received is answered with an ACK. The ACK timer sends what has not been
acknowledged. A FLOW block sets the flow state, and a FLOW carries the receiver's own. A control block with a bad CRC is only counted. While no
frames flow nothing happens.
The model's choices it rests on: log entries 49, 50, 167. -/
def Obligations.CodewordsAndReceivedFrames : Prop :=
  (∀ (s : State) (n : Nat) (cw : BitVec 2160), s.ph n = phACTIVE → rsDecode cw = none →
      let t := s.setPort n { s.port n with
        badCw := (s.port n).badCw + 1, lfsr := (descramble (s.port n).lfsr (bits cw.toNat 52 2048)).2 }
      let u := ((t.cnt (pgPRT (s.anchorOf n)) LNK.CNT_CW_UNCORRECTABLE).error (pgPRT (s.anchorOf n)) 21 0x1B
        (t.laneOf n + bits cw.toNat 0 8 * 16) 0 0).cwQueue n lostCw
      ((s.port n).badCw < 7 → exec (.codewordRx n cw) s = .next u.settle.shown)
      ∧ (7 ≤ (s.port n).badCw → exec (.codewordRx n cw) s = .next (u.laneLost n 0).settle.shown))
    ∧ (∀ (s : State) (n : Nat) (cw : BitVec 2160) (syms : List Nat) (fixed : Bool), s.ph n = phACTIVE → rsDecode cw = some (syms, fixed) →
      let w := rsBits syms
      let d := descramble (s.port n).lfsr (bits w 52 2048)
      let t := s.setPort n { s.port n with badCw := 0, lfsr := d.2 }
      exec (.codewordRx n cw) s = .next (((if fixed then t.cnt (pgPRT (s.anchorOf n)) LNK.CNT_CW_CORRECTED else t).cwQueue n
        (bits w 0 8, bitAt w 12, (cwBlocks (bits w 20 32) d.1).map some)).settle).shown)
    ∧ (∀ (s : State) (n : Nat) (cw : BitVec 2160), s.ph n ≠ phACTIVE → exec (.codewordRx n cw) s = .next s.settle.shown)
    ∧ (∀ (s : State) (n : Nat) (c : RxCw), s.lk (s.anchorOf n) ≠ lkINIT → s.flows (s.anchorOf n) = false → s.cwQueue n c = s)
    ∧ (∀ (s : State) (n : Nat) (c : RxCw), s.lk (s.anchorOf n) = lkINIT ∨ s.flows (s.anchorOf n) = true → s.isStandby n = false →
      n ∈ s.members (s.anchorOf n) →
      s.cwQueue n c = (s.setPort n { s.port n with rxCws := (s.port n).rxCws ++ [c] }).rebuild (s.anchorOf n) ((s.port n).rxCws.length + 1))
    ∧ (∀ (s : State) (a : Nat) (w : Word64), s.flows a = true →
      s.blockIn a (some ⟨false, w⟩) = s.setLink a { s.link a with
        data := (s.link a).data ++ [w], corrupt := (s.link a).corrupt || 258 ≤ (s.link a).data.length }
      ∧ s.blockIn a none = s.setLink a { s.link a with corrupt := true })
    ∧ (∀ (s : State) (a : Nat) (w : Word64), blkType w = btEOF → s.blockIn a (some ⟨true, w⟩) = s.eofIn a w)
    ∧ (∀ (s : State) (a : Nat) (bs : List Word64) (eof : Word64), s.flows a = false → exec (.frameRx a bs eof) s = .next s.shown)
    ∧ (∀ (s : State) (a : Nat) (eof : Word64), s.flows a = true → (s.link a).data = [] → (s.link a).corrupt = false →
      exec (.frameRx a [] eof) s = .next (s.cnt (pgPRT a) LNK.CNT_BAD_CTL).shown)
    ∧ (∀ (s : State) (a : Nat) (w : Word64) (eof : Word64), s.flows a = true → blkType eof ≠ btEOF ∨ blkGood eof = false →
      exec (.frameRx a [w] eof) s = .next (((s.dataIn a w).cnt (pgPRT a) LNK.CNT_BAD_CTL).lostBlock a).shown)
    ∧ (∀ (s : State) (a : Nat) (h0 h1 : Word64) (ws : List Word64) (eof : Word64), s.flows a = true → blkType eof = btEOF → blkGood eof = true →
      (s.link a).corrupt = false → (s.link a).data = [] → ws.length < 257 →
      let f : Frame := ⟨BitVec.ofNat 128 (h0.toNat + h1.toNat * 2 ^ 64), ws⟩
      let t := (s.setLink a { s.link a with corrupt := false, data := [], lastUse := s.clock }).creditFrame a (ws.length + 2)
      f.len8 = ws.length → crc32 ((h0 :: h1 :: ws).flatMap (fun w => bytesOf 8 w.toNat)) = fld eof 8 32 →
      (f.seq = s.gf (pgPRT a) LNK.RX_STS_RX_NEXT ∧ f.vc < t.vcs a ∧ f.payload ≤ maxPayBytes (t.gf (pgPRT a) (LNK.VC_CFG_MAXPAY f.vc))
          ∧ (f.payload + 24 : Nat) ≤ t.rxFree a f.vc →
        exec (.frameRx a (h0 :: h1 :: ws) eof) s = .next ((t.takeFrame a f).rxAdvance a f.units).shown)
      ∧ (f.seq = s.gf (pgPRT a) LNK.RX_STS_RX_NEXT ∧ f.vc < t.vcs a ∧ f.payload ≤ maxPayBytes (t.gf (pgPRT a) (LNK.VC_CFG_MAXPAY f.vc))
          ∧ t.rxFree a f.vc < (f.payload + 24 : Nat) →
        exec (.frameRx a (h0 :: h1 :: ws) eof) s = .next (((t.cnt (pgPRT a) LNK.CNT_RX_OVERRUNS).error (pgPRT a) 19 0x16 f.vc
          (t.rxFree a f.vc).toNat 0).gap a).shown)
      ∧ (f.seq = s.gf (pgPRT a) LNK.RX_STS_RX_NEXT ∧ t.vcs a ≤ f.vc →
        exec (.frameRx a (h0 :: h1 :: ws) eof) s = .next ((t.error (pgPRT a) 20 0x17 (f.seq + f.vc * 2 ^ 12 + f.len8 * 2 ^ 16)
          (1 + 2 * b2n (decide (maxPayBytes (t.gf (pgPRT a) (LNK.VC_CFG_MAXPAY f.vc)) < f.payload))) 0).rxAdvance a f.units).shown))
    ∧ (∀ (s : State) (a : Nat) (h0 h1 : Word64) (ws : List Word64) (eof : Word64), s.flows a = true → blkType eof = btEOF → blkGood eof = true →
      s.gb (pgPRT a) LNK.RX_STS_NAK_STATE = false → (s.link a).data = [] → ws.length < 257 →
      let f : Frame := ⟨BitVec.ofNat 128 (h0.toNat + h1.toNat * 2 ^ 64), ws⟩
      let t := (s.setLink a { s.link a with corrupt := false, data := [], lastUse := s.clock }).creditFrame a (ws.length + 2)
      let good := crc32 ((h0 :: h1 :: ws).flatMap (fun w => bytesOf 8 w.toNat)) == fld eof 8 32 && f.len8 == ws.length && !(s.link a).corrupt
      let d := subMod f.seq (s.gf (pgPRT a) LNK.RX_STS_RX_NEXT) 12
      (good = false ∧ (t.cnt (pgPRT a) LNK.CNT_CRC_ERRORS).gb (pgPRT a) LNK.RX_STS_NAK_STATE = false →
        exec (.frameRx a (h0 :: h1 :: ws) eof) s = .next (((((t.cnt (pgPRT a) LNK.CNT_CRC_ERRORS).sf (pgPRT a) LNK.RX_STS_NAK_STATE 1).cnt (pgPRT a)
          LNK.CNT_NAKS_TX)).sendAck a true).shown)
      ∧ (good = true ∧ f.seq ≠ s.gf (pgPRT a) LNK.RX_STS_RX_NEXT ∧ 2048 < d →
        exec (.frameRx a (h0 :: h1 :: ws) eof) s = .next (t.sendAck a false).shown)
      ∧ (good = true ∧ f.seq ≠ s.gf (pgPRT a) LNK.RX_STS_RX_NEXT ∧ d ≤ 2048 →
        exec (.frameRx a (h0 :: h1 :: ws) eof) s = .next (((t.sf (pgPRT a) LNK.RX_STS_NAK_STATE 1).cnt (pgPRT a)
          LNK.CNT_NAKS_TX).sendAck a true).shown))
    ∧ (∀ (s : State) (a t : Nat), s.flows a = true → (s.link a).ackSince = some t →
      s.due (t + s.gf1 (pgPRT a) LNK.ACK_CTL_ACK_T * 10) = true → exec (.ackTimer a) s = .next (s.sendAck a false).shown)
    ∧ (∀ (s : State) (a : Nat), (s.link a).ackSince = none → (s.link a).credSince = none → exec (.ackTimer a) s = .next s.shown)
    ∧ (∀ (s : State) (a : Nat) (b : Word64), s.flows a = true →
      (blkType b = btFLOW ∧ blkGood b = true → exec (.flowRx a b) s = .next (s.sf (pgPRT a) LNK.RX_STS_XOFF_RCVD (fld b 8 8)).shown)
      ∧ (blkType b ≠ btFLOW ∨ blkGood b = false → exec (.flowRx a b) s = .next (s.cnt (pgPRT a) LNK.CNT_BAD_CTL).shown))
    ∧ (∀ (s : State) (a : Nat), s.flows a = true → exec (.flowSend a) s = .next ((s.setLink a { s.link a with flowDue := false }).emit
        (.ctl a (mkFlow (s.gf (pgPRT a) LNK.RX_STS_XOFF_SENT)))).shown)
    ∧ (∀ (s : State) (a : Nat) (b : Word64), s.flows a = false →
      exec (.flowSend a) s = .next s.shown ∧ exec (.flowRx a b) s = .next s.shown ∧ exec (.ackTimer a) s = .next s.shown)

/-- FRAME_START, ACK_RX, NAK_RX, REPLAY_TIMER, CREDIT_AUDIT, WINDOW_STARVE_TIMER and LINK_RESYNC. The oldest frame given to the sender starts when buffer, window, count, flow state and link state
allow it: it takes the next number, is held, and its units leave the window; else STALLED shows. An ACK releases the held frames
up to its number and brings its credit; an ACK of a frame never sent is captured with code 0x1C. A NAK releases those before its number and replays the
rest unless a replay under way will reach them, as does the replay timer, which retrains the link after REPLAY_MAX replays in a row, with code 0x14. An audit at an empty buffer records
the deficit; at LEAK_TH or above it captures 0x15. A starved window, and a resynchronisation asked for while UP, retrain the link.
The model's choices it rests on: log entries 48, 164, 168. -/
def Obligations.SendingAndReplay : Prop :=
  (∀ (s : State) (a : Nat) (c : Cargo), (s.link a).txq = [c] → s.startView a c.frame = .ready →
      exec (.frameStart a) s = .next (s.sendFrame a c).shown)
    ∧ (∀ (s : State) (a : Nat) (c : Cargo), s.startView a c.frame = .ready → (s.link a).txq = [c] →
      let n := s.gf (pgPRT a) LNK.SEQ_STS_TX_NEXT
      let f := c.frame.withLink n (c.frame.onVc (s.vcs a))
      ((s.sendFrame a c).link a).held = (s.link a).held ++ [(n, { c with frame := f })]
      ∧ ((s.sendFrame a c).link a).win = (s.link a).win - (f.units : Int)
      ∧ ((s.sendFrame a c).link a).txq = []
      ∧ (s.sendFrame a c).out = .frame a f :: s.out
      ∧ (s.sendFrame a c).gf (pgPRT a) LNK.SEQ_STS_TX_NEXT = (n + 1) % 4096)
    ∧ (∀ (s : State) (a : Nat) (c : Cargo), (s.link a).txq = [c] → s.startView a c.frame = .off ∨ s.startView a c.frame = .down →
      exec (.frameStart a) s = .next (s.sf (pgPRT a) LNK.REPLAY_STS_STALLED 1).shown)
    ∧ (∀ (s : State) (a : Nat) (c : Cargo), (s.link a).txq = [c] → s.startView a c.frame = .stalled →
      exec (.frameStart a) s = .next (((if s.gb (pgPRT a) LNK.REPLAY_STS_STALLED then s else s.cnt (pgPRT a) LNK.CNT_REPLAY_STALLS).starveWatch
        a).sf (pgPRT a) LNK.REPLAY_STS_STALLED 1).shown)
    ∧ (∀ (s : State) (a : Nat), (s.link a).txq = [] → exec (.frameStart a) s = .next s.shown)
    ∧ (∀ (s : State) (a n : Nat) (b : Word64), s.flows a = true → blkType b = btACK → blkGood b = true → s.releasable a b false = some n →
      exec (.ackRx a b) s = .next ((((s.release a n).takeCredit a b).echoDone a).settle).shown
      ∧ (0 < n → ((s.release a n).link a).held = (s.link a).held.drop n ∧ ((s.release a n).link a).inRow = 0))
    ∧ (∀ (s : State) (a : Nat) (b : Word64), s.flows a = true → blkType b = btACK → blkGood b = true → s.releasable a b false = none →
      exec (.ackRx a b) s = .next (((s.error (pgPRT a) 22 0x1C (ackSeq b) (ackCredit b)
        (s.gf (pgPRT a) LNK.SEQ_STS_TX_NEXT)).echoDone a).settle).shown)
    ∧ (∀ (s : State) (a n : Nat) (b : Word64), s.flows a = true → blkType b = btNAK → blkGood b = true →
      (s.cnt (pgPRT a) LNK.CNT_NAKS_RX).releasable a b true = some n →
      let t := ((s.cnt (pgPRT a) LNK.CNT_NAKS_RX).release a n).takeCredit a b
      ((t.link a).held.any (fun e => e.1 == ackSeq b) = true ∧ t.replayPast a (ackSeq b) = false →
        exec (.nakRx a b) s = .next (((t.replay a (ackSeq b)).echoDone a).settle).shown)
      ∧ ((t.link a).held.any (fun e => e.1 == ackSeq b) = false ∨ t.replayPast a (ackSeq b) = true → exec (.nakRx a b) s = .next ((t.echoDone a).settle).shown))
    ∧ (∀ (s : State) (a seq : Nat) (c : Cargo) (rest : List (Nat × Cargo)), (s.link a).held = (seq, c) :: rest → s.flows a = true →
      s.due ((s.link a).timer + us (s.gf1 (pgPRT a) LNK.ACK_CTL_REPLAY_US)) = true →
      ((s.link a).inRow < s.gf1 (pgPRT a) LNK.ACK_CTL_REPLAY_MAX ∨ (s.link a).rowFrom ≠ seq →
        exec (.replayTimer a) s = .next ((s.setLink a { s.link a with timer := s.clock }).replay a seq).shown)
      ∧ (s.gf1 (pgPRT a) LNK.ACK_CTL_REPLAY_MAX ≤ (s.link a).inRow ∧ (s.link a).rowFrom = seq →
        let t := s.error (pgPRT a) 11 0x14 seq (s.link a).inRow 0
        exec (.replayTimer a) s = .next ((t.setLink a { t.link a with stopped := true }).retrainLink a).shown))
    ∧ (∀ (s : State) (a : Nat), (s.link a).held = [] → exec (.replayTimer a) s = .next s.shown)
    ∧ (∀ (s : State) (a t : Nat), (s.link a).emptyAt = some t → s.flows a = true → (s.link a).held = [] →
      s.due (t + 2 * s.gf1 (pgPRT a) LNK.ACK_CTL_ACK_T * 10) = true →
      let d := min 4095 ((s.gf (pgPRT a) LNK.WIN_STS_WIN_INIT : Int) - (s.link a).win).toNat
      let u := (s.setLink a { s.link a with emptyAt := none }).sf (pgPRT a) LNK.AUDIT_STS_DEFICIT d
        |>.sf (pgPRT a) LNK.AUDIT_STS_DEFICIT_MAX (max d (s.gf (pgPRT a) LNK.AUDIT_STS_DEFICIT_MAX))
      let th := s.gf (pgPRT a) LNK.AUDIT_CTL_LEAK_TH
      (th = 0 ∨ d < th → exec (.creditAudit a) s = .next u.shown)
      ∧ (th ≠ 0 ∧ th ≤ d →
        let v := u.error (pgPRT a) 12 0x15 d (s.gf (pgPRT a) LNK.WIN_STS_WIN_INIT) 0
        exec (.creditAudit a) s = .next (if v.gb (pgPRT a) LNK.LINK_CTL_AUTO_RESYNC then v.retrainLink a else v).shown))
    ∧ (∀ (s : State) (a : Nat), (s.link a).emptyAt = none → exec (.creditAudit a) s = .next s.shown)
    ∧ (∀ (s : State) (a t : Nat), (s.link a).starve = some t → s.flows a = true → s.starved a = true →
      s.due (t + us (s.gf1 (pgPRT a) LNK.ACK_CTL_REPLAY_US)) = true →
      exec (.windowStarveTimer a) s = .next ((s.setLink a { s.link a with starve := none }).retrainLink a).shown)
    ∧ (∀ (s : State) (a : Nat), (s.link a).starve = none ∨ s.starved a = false → exec (.windowStarveTimer a) s = .next s.shown)
    ∧ (∀ (s : State) (a : Nat), s.lk a = lkUP → exec (.linkResync a) s = .next (s.retrainLink a).shown)
    ∧ (∀ (s : State) (a : Nat), s.lk a ≠ lkUP → exec (.linkResync a) s = .next s.shown)

/-- LINK_INIT_RX, INIT_TIMEOUT, LINK_ENABLE, LINK_DISABLE, SPARE_SW_RX, SPARE_SWITCH_DONE and SPARE_ECHO_TIMEOUT. Good INIT blocks of the right mode are
kept; with both the side decides, takes their values and answers, and once both acknowledgements are there the link enters UP. A fresh start sets both numbers to 0, discards and counts
what was held, records the peer's epoch and advances the bridge's own. Cascade mode at one end only fails the exchange with code 0x1A, and 100 µs without an end
with 0x11. LINK_EN with a valid configuration puts the link DOWN and its members into training; an invalid one sets CFG_ERR with
code 0x10. Disabling discards what is held and flushes the queues. The echo of a switchover begun here is noted once, and the peer's own
switchover answered and followed; a block that names another anchor is ignored. Both directions switched, the
spare is a member and the link UP again with code 0x18, while the failed port trains alone; without an echo for 100 µs, for another lane, or
with nothing to switch to, the switchover fails with code 0x19.
The model's choices it rests on: log entries 48, 53, 55, 137, 157, 163, 164. -/
def Obligations.BringingALinkUpAndDown : Prop :=
  (∀ (s : State) (a : Nat) (b p : Word64), blkType b = btINIT → blkGood b = true → blkType p = btPARAM → blkGood p = true → s.lk a = lkINIT →
      initCascade b = s.cascadeLink a →
      let t := s.setLink a { s.link a with init := { (s.link a).init with
        lastInit := some b, gotAck := (s.link a).init.gotAck || initAckBit b } }
      let u := t.setLink a { t.link a with init := { (t.link a).init with param := some p } }
      exec (.linkInitRx a b p) s = .next ((u.initNext a).settle).shown)
    ∧ (∀ (s : State) (a : Nat) (b p : Word64), (s.link a).init.lastInit = some b → (s.link a).init.param = some p → s.lk a = lkINIT →
      let d := s.initDecide a b
      let t := (d.1.initValues a b p).sendInit a
      let u := if (t.link a).init.gotAck && (t.link a).init.sentAck then t.enterUp a else t
      (d.2 = none → s.initNext a = u) ∧ (∀ f, d.2 = some f → s.initNext a = u.afterFresh a (s.gf (pgPRT a) LNK.EPOCH_STATION) f))
    ∧ (∀ (s : State) (a : Nat) (b p : Word64), blkType b ≠ btINIT ∨ blkGood b = false → blkType p ≠ btPARAM ∨ blkGood p = false →
      exec (.linkInitRx a b p) s = .next ((((s.cnt (pgPRT a) LNK.CNT_BAD_CTL).cnt (pgPRT a) LNK.CNT_BAD_CTL).initNext a).settle).shown)
    ∧ (∀ (s : State) (a : Nat) (b p : Word64), blkType b = btINIT → blkGood b = true → s.lk a = lkINIT →
      initCascade b ≠ s.cascadeLink a →
      exec (.linkInitRx a b p) s = .next
        ((((s.initFail a 0x1A (b2n (s.cascadeLink a) + 2 * b2n (initCascade b))).paramGot a p).initNext a).settle).shown)
    ∧ (∀ (s : State) (a : Nat) (b : Word64), a < 1024 →
      let t := (s.freshStart a b).1
      t.gf (pgPRT a) LNK.SEQ_STS_TX_NEXT = 0 ∧ t.gf (pgPRT a) LNK.RX_STS_RX_NEXT = 0 ∧ t.gf (pgPRT a) LNK.EPOCH_STATION = initEpoch b
        ∧ (t.link a).held = [] ∧ (t.link a).rxBuf = (s.link a).rxBuf ∧ (s.freshStart a b).2.discarded = (s.link a).held.map (·.2) ++ (s.link a).txq
        ∧ (s.freshStart a b).2.met = (s.gf (pgPRT a) LNK.EPOCH_STATION != 0))
    ∧ (∀ (s : State) (a : Nat), s.lk a = lkINIT → s.due ((s.link a).init.start + us 100) = true → exec (.initTimeout a) s =
        .next (s.initFail a 0x11 (b2n (s.link a).init.lastInit.isSome + 2 * b2n (s.link a).init.gotAck)).shown)
    ∧ (∀ (s : State) (a : Nat), s.lk a ≠ lkINIT → exec (.initTimeout a) s = .next s.shown)
    ∧ (∀ (s : State) (a : Nat), s.lk a = lkDISABLED → s.anchorOf a = a → s.gb (pgPRT a) LNK.LINK_CTL_LINK_EN = false →
      (s.sf (pgPRT a) LNK.LINK_CTL_LINK_EN 1).cfgError a = none →
      s.gb (pgPRT a) LNK.BOND_CTL_SPARE_EN = false →
      let t := ((s.sf (pgPRT a) LNK.LINK_CTL_LINK_EN 1).sf (pgPRT a) LNK.LINK_STS_CFG_ERR 0 |>.sf (pgPRT a) LNK.LINK_STS_SPARE_IN_USE 0).setLk a lkDOWN
      let u := t.each (t.members a) (fun n s => s.sf (pgPRT n) LNK.LINK_STS_ANCHOR a |>.sf (pgPRT n) LNK.LINK_STS_MEMBER 1)
      u.spareOf a = none → t.spareOf a = none →
      exec (.linkEnable a) s = .next (u.each (u.crew a) (fun n s => (s.takeRate n (s.rateReg a)).startTraining n)).shown)
    ∧ (∀ (s : State) (a c p : Nat), s.lk a = lkDISABLED → s.anchorOf a = a → s.gb (pgPRT a) LNK.LINK_CTL_LINK_EN = false →
      (s.sf (pgPRT a) LNK.LINK_CTL_LINK_EN 1).cfgError a = some (c, p) →
      exec (.linkEnable a) s = .next (((s.sf (pgPRT a) LNK.LINK_CTL_LINK_EN 1).sf (pgPRT a) LNK.LINK_STS_CFG_ERR 1).error (pgPRT a) 18 0x10 c p
        0).shown)
    ∧ (∀ (s : State) (a : Nat), s.lk a ≠ lkDISABLED ∨ s.anchorOf a ≠ a ∨ s.gb (pgPRT a) LNK.LINK_CTL_LINK_EN = true →
      exec (.linkEnable a) s = .next s.shown)
    ∧ (∀ (s : State) (a : Nat), s.anchorOf a ≠ a → exec (.linkDisable a) s = .next s.shown)
    ∧ (∀ (s : State) (a : Nat), s.lk a ≠ lkDISABLED → s.anchorOf a = a →
      exec (.linkDisable a) s = .next (((s.linkOff a).each (List.range 8) (fun c s => s.flushQueue (portQueue a c))).settle).shown
      ∧ ((s.linkOff a).link a).held = [] ∧ ((s.linkOff a).link a).hasState = false)
    ∧ (∀ (s : State) (a : Nat), s.lk a = lkDISABLED → s.anchorOf a = a → exec (.linkDisable a) s =
        .next ((s.sf (pgPRT a) LNK.LINK_CTL_LINK_EN 0).sf (pgPRT a) LNK.LINK_STS_CFG_ERR 0).shown)
    ∧ (∀ (s : State) (a : Nat) (b : Word64) (x : Spare), s.flows a = true → blkType b = btSPARE → blkGood b = true →
      fld b 24 16 = s.gf (pgPRT ((s.members a).headD a)) PRT.PEER_CAP_RX_ID → (s.lard a).spare = some x →
      (x.lane = spareLane b ∧ x.peer = none →
        exec (.spareSwRx a b) s = .next (s.setLard a { s.lard a with spare := some { x with peer := some (spareAt b) } }).shown)
      ∧ (x.lane = spareLane b ∧ x.peer ≠ none → exec (.spareSwRx a b) s = .next s.shown)
      ∧ (x.lane ≠ spareLane b → exec (.spareSwRx a b) s = .next (s.spareFail a (spareLane b) 3).shown))
    ∧ (∀ (s : State) (a : Nat) (b : Word64), s.lk a = lkUP → blkType b = btSPARE → blkGood b = true →
      fld b 24 16 = s.gf (pgPRT ((s.members a).headD a)) PRT.PEER_CAP_RX_ID → (s.lard a).spare = none →
      s.gb (pgPRT a) LNK.LINK_STS_SPARE_IN_USE = false → spareEcho b = false →
      s.spareOf a = none → exec (.spareSwRx a b) s = .next (s.spareFail a (spareLane b) 0).shown)
    ∧ (∀ (s : State) (a sp : Nat) (b : Word64), s.lk a = lkUP → blkType b = btSPARE → blkGood b = true →
      fld b 24 16 = s.gf (pgPRT ((s.members a).headD a)) PRT.PEER_CAP_RX_ID → (s.lard a).spare = none →
      s.gb (pgPRT a) LNK.LINK_STS_SPARE_IN_USE = false → spareEcho b = false → s.spareOf a = some sp →
      (s.ph sp ≠ phACTIVE → exec (.spareSwRx a b) s = .next (s.spareFail a (spareLane b) 1).shown)
      ∧ (s.ph sp = phACTIVE → exec (.spareSwRx a b) s = .next
        (((s.setLard a { s.lard a with
          spare := some ⟨spareLane b, s.clock, ((s.link a).cw + 16) % 256, some (spareAt b), true⟩, round := none }).setLk a
          lkSPARING).emit (.phy sp "SWITCH_LANE")).shown))
    ∧ (∀ (s : State) (a : Nat) (b : Word64), s.flows a = true → blkType b = btSPARE → blkGood b = true →
      fld b 24 16 ≠ s.gf (pgPRT ((s.members a).headD a)) PRT.PEER_CAP_RX_ID → exec (.spareSwRx a b) s = .next s.shown)
    ∧ (∀ (s : State) (a sp : Nat) (x : Spare), (s.lard a).spare = some x → s.spareOf a = some sp → s.lk a = lkSPARING → x.peer ≠ none →
      s.switched a x = true →
      let t := (s.setLard a { s.lard a with spare := none }).sf (pgPRT a) LNK.LINK_STS_SPARE_IN_USE 1
        |>.sf (pgPRT a) LNK.LINK_STS_SPARE_LANE x.lane |>.sf (pgPRT sp) LNK.LINK_STS_STANDBY 0 |>.sf (pgPRT sp) LNK.LINK_STS_MEMBER 1
        |>.sf (pgPRT (a + x.lane)) LNK.LINK_STS_MEMBER 0 |>.sf (pgPRT (a + x.lane)) LNK.LINK_STS_ANCHOR (a + x.lane)
      exec (.spareSwitchDone a) s = .next ((((t.setLk a lkUP).cnt (pgPRT a) LNK.CNT_SPARE_SWITCHES).error (pgPRT a) 15 0x18
        (x.lane + (a + x.lane) * 16) 0 0).startTraining (a + x.lane)).shown)
    ∧ (∀ (s : State) (a : Nat) (x : Spare), (s.lard a).spare = some x → s.lk a = lkSPARING → x.peer = none →
      s.due (x.start + us 100) = true → exec (.spareEchoTimeout a) s = .next (s.spareFail a x.lane 4).shown)
    ∧ (∀ (s : State) (a : Nat), (s.lard a).spare = none →
      exec (.spareEchoTimeout a) s = .next s.shown ∧ exec (.spareSwitchDone a) s = .next s.shown)

/-! ### The Gallery, the Wadi and the scheduler (spec/08_gallery.md, 09_wadi_cascade.md, 10_scheduler.md) -/

/-- MSG_RX and ADMISSION_RESUME. The oldest MSG of a station link is looked up by its DTAG. With the Wadi not ACTIVE, or a drop entry, it is
discarded and its account counts it; a port entry of an enabled link gives it to that port's queue of its class, where it is stored when its account admits it,
or discarded and counted; a port entry of a link that is not enabled has no target. While the Wadi is quiesced it waits, and so it does behind an earlier response of the link to an access. WRED drops it for sure at an average of
MAX_TH or more and never below MIN_TH. An account within its MIN always admits. The first frame that waits for an account is taken from
the waiting ones once it is admitted; the TLPs that the host port kept back then act, in order, until a frame of the host waits again (R275).
The model's choices it rests on: log entries 51, 63, 75, 153. -/
def Obligations.FromMessageToGallery : Prop :=
  (∀ (s : State) (a : Nat) (f : Frame), s.cascadeLink a = false → s.holdsOff pgSWC = false → s.active pgPOL = false → s.active pgWAD = false →
      s.rxHead a opMSG = some f → s.behindRsp a f = false → (s.rxTake a f).active pgPOL = false → (s.rxTake a f).active pgWAD = false →
      exec (.msgRx a) s = .next (((s.rxTake a f).cnt pgWAD WAD.CNT_DROPS).acctDrop (portQueue a f.cls)).shown)
    ∧ (∀ (s : State) (a : Nat) (f : Frame), s.cascadeLink a = false → s.holdsOff pgSWC = false → s.holdsOff pgWAD = false →
      s.active pgPOL = false → s.rxHead a opMSG = some f → s.behindRsp a f = false →
      let f' := f.fromPort a s.device
      let u := (s.rxTake a f).cnt pgWAD WAD.CNT_LOOKUPS
      let acct := portQueue a f.cls
      (s.rxTake a f).active pgPOL = false → (s.rxTake a f).active pgWAD = true → (s.rxTake a f).gb pgWAD HDR.PAGE_CTL_EN = true →
      u.active pgPOL = false → u.tb .ste f'.dtag T_STE.CLASS_SET = false →
      (u.tf .ste f'.dtag T_STE.TYPE = 0 ∨ 4 < u.tf .ste f'.dtag T_STE.TYPE →
        exec (.msgRx a) s = .next ((u.cnt pgWAD WAD.CNT_DROPS).acctDrop acct).shown)
      ∧ (u.tf .ste f'.dtag T_STE.TYPE = 1 ∧ u.linkEnabled (u.tf .ste f'.dtag T_STE.PORT) = false →
        exec (.msgRx a) s = .next (u.noTarget_ f'.dtag 1 (u.tf .ste f'.dtag T_STE.PORT) acct).shown)
      ∧ (u.tf .ste f'.dtag T_STE.TYPE = 1 ∧ u.linkEnabled (u.tf .ste f'.dtag T_STE.PORT) = true
          ∧ u.lockedOut (portQueue (u.tf .ste f'.dtag T_STE.PORT) f'.cls) = false
          ∧ u.tb .que (portQueue (u.tf .ste f'.dtag T_STE.PORT) f'.cls) T_QUE.WRED_EN = false →
        let r := u.tryStore (msgFrame f' acct a false (some u.epochCur)) [(portQueue (u.tf .ste f'.dtag T_STE.PORT) f'.cls, none)]
        exec (.msgRx a) s = .next (if r.2 then r.1 else (r.1.cnt pgSWC SWC.CNT_ADMIT_DROPS).acctDrop acct).shown))
    ∧ (∀ (s : State) (a : Nat), s.holdsOff pgWAD = true ∨ s.rxHead a opMSG = none → exec (.msgRx a) s = .next s.shown)
    ∧ (∀ (s : State) (a : Nat) (f : Frame), s.rxHead a opMSG = some f → s.behindRsp a f = true → exec (.msgRx a) s = .next s.shown)
    ∧ (∀ (s : State) (g : GFrame) (a : Nat) (qs : List (Nat × Option Word64)), g.acct = some a → s.active pgSWC = true → s.quiesce pgSWC = false →
      s.wantsSpill g qs = false →
      (s.admits a g.size = true ∧ s.hasCells g.size = true → s.tryStore g qs = (s.storeIn g qs none, true))
      ∧ (s.admits a g.size = false ∨ s.hasCells g.size = false → s.tryStore g qs = (s, false)))
    ∧ (∀ (s : State) (a k : Nat), s.tf .acc a T_ACC.USED + k ≤ s.tf .acc a T_ACC.MIN → s.admits a k = true)
    ∧ (∀ (s : State) (q c : Nat), s.tb .que q T_QUE.WRED_EN = true →
      let avg := wredAvg (s.tf .que q T_QUE.AVG) (s.tf .que q T_QUE.DEPTH) (s.tf .que q T_QUE.WRED_W)
      let t := s.st .que q T_QUE.AVG avg
      let k := t.wredCurve (t.tf .que q T_QUE.WRED_PROF) c
      (k.2.1 ≤ avg → s.wred q c = (t.drawn.cnt pgSWC SWC.CNT_WRED_DROPS, true))
      ∧ (avg < k.2.1 ∧ avg < k.1 → s.wred q c = (t.drawn, false)))
    ∧ (∀ (s : State) (a : Nat) (w : GWait), s.nextWait a = some w → (s.tryStore w.frame w.queues).2 = true →
      let t := (s.tryStore w.frame w.queues).1
      let u := { t with gal := { t.gal with waiting := t.gal.waiting.erase w } }
      let v := (u.st .acc a T_ACC.WAITING (b2n (u.gal.waiting.any (fun x => x.frame.acct == some a)))).settle
      exec (.admissionResume a) s = .next (v.drainTlps v.host.stalled.length).shown)
    ∧ (∀ (s : State) (a : Nat), s.nextWait a = none →
      exec (.admissionResume a) s = .next (s.settle.drainTlps s.settle.host.stalled.length).shown)
    ∧ (∀ (s : State) (n : Nat), s.host.stalled = [] → s.drainTlps n = s)
    ∧ (∀ (s : State) (i : Instr) (l : List Instr) (n : Nat), s.host.stalled = i :: l →
      let t := ({ s with host := { s.host with stalled := [] } } : State).runTlp i
      (s.gal.waiting.any (·.host) = false → s.drainTlps (n + 1) = ({ t with host := { t.host with stalled := l } } : State).drainTlps n)
      ∧ (s.gal.waiting.any (·.host) = true → s.drainTlps (n + 1) = s))

/-- EGRESS_SELECT, RX_RECORD_WRITE, SPILL_READBACK and SPILL_READBACK_DONE. While SCH is not ACTIVE a link's queue with a frame that may go gives it to the sender,
and a host queue with one that is ready gives it to the host; a request at the head waits while the station's identity is not known. An unreadable cell discards the frame instead. A spilled frame among the first eight of a queue is
read back when a resequencer entry and cells are free, and its copy is taken at the end, or the frame is marked to be discarded at its turn. While SWC is not ACTIVE nothing leaves.
The model's choices it rests on: log entries 80, 81, 152. -/
def Obligations.WhatLeavesTheGallery : Prop :=
  (∀ (s : State) (n c cell : Nat) (r : Ref) (g : GFrame), n < 1024 → c < 8 → s.active pgSWC = true → s.active pgSCH = false → s.lnd.events = [] →
      s.queue (portQueue n c) = [r] → (∀ d < 8, d ≠ c → s.queue (portQueue n d) = []) → s.galFrame r.frame = some g →
      s.refOld (portQueue n c) r = false → g.bad = false → g.present = true → s.flows n = true → (s.link n).stopped = false →
      (s.link n).sweeping = false → s.quiesce (pgPRT n) = false → s.unnamed n g = false → s.startView n (r.sends g) = .ready →
      exec (.egressSelect n none) s = .next (((s.setLastKid (egNode n) 3 (portQueue n c)).toLink n (portQueue n c) r g).settle).shown
      ∧ exec (.egressSelect n (some cell)) s = .next (((s.setLastKid (egNode n) 3 (portQueue n c)).eccDrop (portQueue n c) r g
          cell).settle).shown)
    ∧ (∀ (s : State) (n c : Nat) (r : Ref) (g : GFrame), n < 1024 → c < 8 → s.active pgSWC = true → s.active pgSCH = false → s.lnd.events = [] →
      s.queue (portQueue n c) = [r] → (∀ d < 8, d ≠ c → s.queue (portQueue n d) = []) → s.galFrame r.frame = some g →
      s.refOld (portQueue n c) r = false → g.bad = false → s.flows n = true → (s.link n).stopped = false →
      (s.link n).sweeping = false → s.unnamed n g = true →
      exec (.egressSelect n none) s = .next s.settle.shown)
    ∧ (∀ (s : State) (q : Nat) (r : Ref) (g : GFrame), 8192 ≤ q → s.active pgSWC = true → s.active pgSCH = false → s.hostQueues = [q] →
      s.queue q = [r] → s.galFrame r.frame = some g → s.refOld q r = false → g.bad = false → s.hallSt ((q - 8192) / 8) = hlBOUND →
      s.tb .hcx ((q - 8192) / 8) T_HCX.RX_EN = true → s.hostHead ((q - 8192) / 8) r g = s → s.hostReady q r g = true →
      exec (.egressSelect 1024 none) s = .next (((s.setLastKid (egNode 1024) 3 q).toHost q r g).settle).shown
      ∧ (g.load = .msg → exec (.rxRecordWrite q) s = .next (((s.setLastKid (egNode 1024) 3 q).toHost q r g).settle).shown))
    ∧ (∀ (s : State) (e : Nat) (b : Option Nat), s.active pgSWC = false → s.lnd.events = [] → e ≤ 1024 → s.calm = true →
      exec (.egressSelect e b) s = .next s.shown ∧ exec (.rxRecordWrite e) s = .next s.shown)
    ∧ (∀ (s : State) (q : Nat) (r : Ref) (g : GFrame), s.readbackNext q = some (r, g) →
      (s.refOld q r = true → exec (.spillReadback q) s = .next (s.discardRef q r .generation).shown)
      ∧ (s.refOld q r = false ∧ (s.gal.frames.filter (fun e => e.2.back != 0)).length < 4096 ∧ s.hasCells g.size = true →
        exec (.spillReadback q) s = .next (((s.takeCells g.size).1.putFrame r.frame
          { g with back := 1, cells := (s.takeCells g.size).2 }).galUpdate).shown)
      ∧ (s.refOld q r = false ∧ s.hasCells g.size = false → exec (.spillReadback q) s = .next s.shown))
    ∧ (∀ (s : State) (q : Nat), s.readbackNext q = none → exec (.spillReadback q) s = .next s.shown)
    ∧ (∀ (s : State) (i c : Nat) (g : GFrame), s.galFrame i = some g → g.back = 1 → g.spill = some c →
      exec (.spillReadbackDone i true) s = .next (((s.cnt (pgERGC c) ERGC.CNT_SPILL_READS).putFrame i
        { g with back := 2, bad := false }).galUpdate).shown
      ∧ exec (.spillReadbackDone i false) s = .next (((s.cnt (pgERGC c) ERGC.CNT_SPILL_READS).putFrame i
        { g with back := 1, bad := true }).galUpdate).shown)

/-- QUEUE_FLUSH, QUEUE_FLUSH_DONE, SESSION_SWEEP_DONE, MC_DETACH, BANK_RETIRE, BANK_RETIRE_AUTO, BANK_RETIRE_DONE, AUDIT_SWEEP, AUDIT_SWEEP_DONE and NA_LOCKOUT_END. A flush of an existing queue sets BUSY and discards what
the queue holds; its end clears BUSY and sets event bit 9. A sweep's end lets the link send again. Multicast references of a link out of UP for DETACH_MS
are released. A bank is retired once, at most four are, and a fifth is captured with code 0x03; its end is recorded with code 0x02. AUTO_RETIRE acts on an uncorrectable error or
more than ECC_TH corrected ones. A sweep returns the cells found without an owner twice, with code 0x04. The lock-out of a group ends after its time. A row that is an access to a page waits while an apply holds it.
The model's choices it rests on: log entries 73, 74. -/
def Obligations.GalleryHousekeeping : Prop :=
  (∀ (s : State) (v : Word), s.applying pgSWC = false → s.gb pgSWC SWC.QFLUSH_BUSY = false →
      (bitAt v.toNat 16 = true ∧ fld v 0 16 < 40960 → exec (.queueFlush v) s = .next (({ ((s.sf pgSWC SWC.QFLUSH_QUEUE
        (fld v 0 16)).sf pgSWC SWC.QFLUSH_BUSY 1) with gal := { s.gal with flushing := some (fld v 0 16) } }).flushQueue (fld v 0 16)).shown)
      ∧ (bitAt v.toNat 16 = false ∨ 40960 ≤ fld v 0 16 → exec (.queueFlush v) s = .next (s.sf pgSWC SWC.QFLUSH_QUEUE (fld v 0 16)).shown))
    ∧ (∀ (s : State) (v : Word), s.applying pgSWC = false → s.gb pgSWC SWC.QFLUSH_BUSY = true →
      exec (.queueFlush v) s = .next (s.sf pgSWC SWC.QFLUSH_QUEUE (fld v 0 16)).shown)
    ∧ (∀ (s : State), s.gb pgSWC SWC.QFLUSH_BUSY = true → exec .queueFlushDone s =
        .next ((({ s with gal := { s.gal with flushing := none } }).sf pgSWC SWC.QFLUSH_BUSY 0).event pgSWC 9).shown)
    ∧ (∀ (s : State) (a : Nat), exec (.sessionSweepDone a) s = .next (s.setLink a { s.link a with sweeping := false }).shown)
    ∧ (∀ (s : State) (q : Nat), q < 8192 → s.detaches (q / 8) = true →
      let mc := (s.queue q).filter (fun r => match s.galFrame r.frame with | some g => g.mc | none => false)
      exec (.mcDetach q) s = .next (s.each mc (fun r s => s.discardRef q r .detached)).shown)
    ∧ (∀ (s : State) (q : Nat), 8192 ≤ q ∨ s.detaches (q / 8) = false → exec (.mcDetach q) s = .next s.shown)
    ∧ (∀ (s : State) (b : Nat), s.applying pgSWC = false → b < 64 → s.active pgSWC = true →
      let t := s.sf pgSWC SWC.BANK_CTL_BANK b
      t.bankOut b = false →
      (t.gf pgSWC SWC.GAL_STS_RETIRED_N + t.gal.retiring.length < 4 → exec (.bankRetire b) s =
        .next ({ t with gal := { t.gal with retiring := t.gal.retiring ++ [(b, false)] } }).shown)
      ∧ (4 ≤ t.gf pgSWC SWC.GAL_STS_RETIRED_N + t.gal.retiring.length → exec (.bankRetire b) s = .next (t.error pgSWC 2 0x03 b 0 0).shown))
    ∧ (∀ (s : State) (b : Nat), s.applying pgSWC = false → s.active pgSWC = false → exec (.bankRetire b) s = .next (s.sf pgSWC SWC.BANK_CTL_BANK b).shown)
    ∧ (∀ (s : State) (b n : Nat) (u : Bool), b < 64 → s.active pgSWC = true → s.gb pgSWC SWC.SWC_CTL_AUTO_RETIRE = true → s.bankOut b = false →
      s.gf pgSWC SWC.GAL_STS_RETIRED_N + s.gal.retiring.length < 4 →
      (u = true ∨ s.gf1 pgSWC SWC.SWC_CTL_ECC_TH < n → exec (.bankRetireAuto b u n) s =
        .next ({ s with gal := { s.gal with retiring := s.gal.retiring ++ [(b, true)] } }).shown)
      ∧ (u = false ∧ n ≤ s.gf1 pgSWC SWC.SWC_CTL_ECC_TH → exec (.bankRetireAuto b u n) s = .next s.shown))
    ∧ (∀ (s : State) (b : Nat) (auto : Bool) (bad : List Nat), b < 32 → s.gal.retiring = [(b, auto)] → s.gal.frames = [] →
      exec (.bankRetireDone b bad) s = .next ((({ ((s.sf pgSWC SWC.RETIRED_LO_MAP (putBits (s.gf pgSWC SWC.RETIRED_LO_MAP) (b % 32) 1 1)).sf pgSWC
        SWC.GAL_STS_RETIRED_N ((s.sf pgSWC SWC.RETIRED_LO_MAP (putBits (s.gf pgSWC SWC.RETIRED_LO_MAP) (b % 32) 1 1)).gf pgSWC
          SWC.GAL_STS_RETIRED_N + 1)) with gal := { s.gal with retiring := [] } }).error pgSWC 1 0x02 (b + b2n auto * 2 ^ 6) 0 0).galUpdate).shown)
    ∧ (∀ (s : State) (b : Nat) (bad : List Nat), s.gal.retiring = [] → exec (.bankRetireDone b bad) s = .next s.shown)
    ∧ (∀ (s : State), s.active pgSWC = true → s.gb pgSWC SWC.AUD_CTL_EN = true → s.gal.audit = none →
      s.due (s.gal.auditAt + ms (s.gf1 pgSWC SWC.AUD_CTL_INTERVAL_MS)) = true →
      exec .auditSweep s = .next ({ s with gal := { s.gal with audit := some s.clock, auditAt := s.clock } }).shown)
    ∧ (∀ (s : State) (t : Nat), s.gal.audit = some t → s.due (t + 4 * (262144 + s.gf pgSWC SWC.SPILL_STS_SPILL_CELLS)) = true →
      let lost := s.gal.taken.filter (fun c => !s.gal.frames.any (fun e => e.2.cells.contains c))
      let twice := lost.filter (fun c => s.gal.unowned.contains c)
      let u := { s with gal := { s.gal with audit := none, unowned := lost.filter (fun c => !twice.contains c) } }
      (twice = [] → exec .auditSweepDone s = .next u.shown)
      ∧ (twice ≠ [] → exec .auditSweepDone s = .next ((((((u.freeCells twice).cnt pgSWC SWC.CNT_LEAKED_CELLS twice.length).sf pgSWC
        SWC.AUD_STS_LAST_LEAKED twice.length)).error pgSWC 3 0x04 twice.length (twice.foldl min (2 ^ 19)) 0).galUpdate).shown))
    ∧ (∀ (s : State), s.gal.audit = none → exec .auditSweepDone s = .next s.shown)
    ∧ (∀ (s : State) (g : Nat), exec (.naLockoutEnd g) s =
        .next ({ s with gal := { s.gal with naLock := s.gal.naLock.filter (fun e => !(e.1 == g && s.due e.2)) } }).shown)
    ∧ (∀ (s : State) (v : Word) (b : Nat), s.applying pgSWC = true → exec (.queueFlush v) s = .next (s.mezWait (.queueFlush v)).shown
      ∧ exec (.bankRetire b) s = .next (s.mezWait (.bankRetire b)).shown)

/-- R277: with the AVG just computed, the curve of the frame's colour (0 green, 1 yellow, 2 red) in the queue's profile passes it where AVG lies below MIN_TH and MAX_TH, drops it
where AVG is at least MAX_TH, and between them drops it when R × (MAX_TH − MIN_TH) < MAX_P × 256 × (AVG − MIN_TH), R being a fresh 16-bit free value: a dropped frame
is counted, and the draw is used up either way. -/
def Obligations.WredDecision : Prop :=
  ∀ (s : State) (q colour : Nat), s.tb .que q T_QUE.WRED_EN = true → colour < 3 →
    let avg := wredAvg (s.tf .que q T_QUE.AVG) (s.tf .que q T_QUE.DEPTH) (s.tf .que q T_QUE.WRED_W)
    let t := s.st .que q T_QUE.AVG avg
    let prof := t.tf .que q T_QUE.WRED_PROF
    let mn := t.tf .wrp prof (match colour with | 0 => T_WRP.G_MIN_TH | 1 => T_WRP.Y_MIN_TH | _ => T_WRP.R_MIN_TH)
    let mx := t.tf .wrp prof (match colour with | 0 => T_WRP.G_MAX_TH | 1 => T_WRP.Y_MAX_TH | _ => T_WRP.R_MAX_TH)
    let p := t.tf .wrp prof (match colour with | 0 => T_WRP.G_MAX_P | 1 => T_WRP.Y_MAX_P | _ => T_WRP.R_MAX_P)
    let r := t.nextFree 16
    let dropped := (t.drawn.cnt pgSWC SWC.CNT_WRED_DROPS, true)
    r < 2 ^ 16
    ∧ (avg < mn → avg < mx → s.wred q colour = (t.drawn, false))
    ∧ (mx ≤ avg → s.wred q colour = dropped)
    ∧ (mn ≤ avg → avg < mx → r * (mx - mn) < p * 256 * (avg - mn) → s.wred q colour = dropped)
    ∧ (mn ≤ avg → avg < mx → p * 256 * (avg - mn) ≤ r * (mx - mn) → s.wred q colour = (t.drawn, false))

/-- EPOCH_FLIP, EPOCH_DRAINED, GATE_CYCLE_START and GATE_ENTRY_CHANGE. A flip while DRAINED is 1 changes CUR and the page generation, and DRAINED is 0 until no frame that recorded the
former epoch is left, when event bit 0 is set; a flip before that is refused with event bit 1. At a cycle start the list of the tables is put in force; a disabled
one means none, and one without a duration is captured with code 0x03. OPEN_NOW shows the classes of the entry the cycle has reached, and every class
where no list is in force. A row that is an access to a page waits while an apply holds it.
The model's choices it rests on: log entries 79, 101. -/
def Obligations.EpochsAndGates : Prop :=
  (∀ (s : State), s.applying pgWAD = false → s.gb pgWAD WAD.EPOCH_STS_DRAINED = true →
      let t := s.sf pgWAD WAD.EPOCH_STS_CUR (b2n (!s.epochCur)) |>.sf pgWAD HDR.PAGE_GEN_GEN (b2n (!s.epochCur))
      let u := t.sf pgWAD WAD.EPOCH_STS_OLD_FRAMES t.oldFrames
      (t.oldFrames = 0 → exec .epochFlip s = .next (u.event pgWAD 0).shown)
      ∧ (t.oldFrames ≠ 0 → exec .epochFlip s = .next (u.sf pgWAD WAD.EPOCH_STS_DRAINED 0).shown)
      ∧ t.epochCur = !s.epochCur)
    ∧ (∀ (s : State), s.applying pgWAD = false → s.gb pgWAD WAD.EPOCH_STS_DRAINED = false → exec .epochFlip s = .next (s.event pgWAD 1).shown)
    ∧ (∀ (s : State), s.gb pgWAD WAD.EPOCH_STS_DRAINED = false →
      let t := s.sf pgWAD WAD.EPOCH_STS_OLD_FRAMES s.oldFrames
      (s.oldFrames = 0 → exec .epochDrained s = .next ((t.sf pgWAD WAD.EPOCH_STS_DRAINED 1).event pgWAD 0).shown)
      ∧ (s.oldFrames ≠ 0 → exec .epochDrained s = .next t.shown))
    ∧ (∀ (s : State) (n : Nat), n < 1024 → s.active pgSCH = true → s.gate n = none →
      let g := s.gateTables n
      let rest := s.sch.gates.filter (fun e => e.1 != n)
      let put_ := fun (l : List (Nat × Gate)) => ({ s with sch := { s.sch with gates := l } } : State)
      (s.tb .gct n T_GCT.EN = false ∨ g.entries = [] → exec (.gateCycleStart n) s = .next ((put_ rest).openNow n).shown)
      ∧ (s.tb .gct n T_GCT.EN = true ∧ g.entries ≠ [] ∧ g.used = [] →
        exec (.gateCycleStart n) s = .next (((put_ rest).error pgSCH 1 0x03 n 0 0).openNow n).shown)
      ∧ (s.tb .gct n T_GCT.EN = true ∧ g.used ≠ [] →
        exec (.gateCycleStart n) s = .next ((put_ (rest ++ [(n, g)])).openNow n).shown))
    ∧ (∀ (s : State) (n : Nat) (g : Gate), s.active pgSCH = true → s.gate n = some g → g.lap s.sys.devtime = g.lap g.from_ → n < 1024 →
      exec (.gateCycleStart n) s = .next (s.st .gct n T_GCT.OPEN_NOW (g.openAt s.sys.devtime)).shown
      ∧ exec (.gateEntryChange n) s = .next (s.st .gct n T_GCT.OPEN_NOW (g.openAt s.sys.devtime)).shown)
    ∧ (∀ (s : State) (n : Nat), n < 1024 →
      (s.active pgSCH = true ∧ s.gate n = none → exec (.gateEntryChange n) s = .next (s.st .gct n T_GCT.OPEN_NOW 0xFF).shown)
      ∧ (s.active pgSCH = false → exec (.gateEntryChange n) s = .next (s.st .gct n T_GCT.OPEN_NOW 0).shown))
    ∧ (∀ (s : State) (i : Nat) (e : Entry), i < 1048576 → (s.writeSteer i e).tf .ste i T_STE.EPOCH = b2n s.epochCur
      ∧ (∀ j, j ≠ i → j < 1048576 → (s.writeSteer i e).ent .ste j = s.ent .ste j))
    ∧ (∀ (s : State), s.applying pgWAD = true → exec .epochFlip s = .next (s.mezWait .epochFlip).shown)

/-- CASCADE_FRAME_RX and CASCADE_REQUEST_DONE. A frame of a cascade link without a valid word is discarded with code 0x05. A message for a hall or a port of this device goes there, one
without a way is discarded with code 0x02 and a message for nothing that exists with 0x03. A REQUEST for no station is answered with CODE 0x01, posted it is
only counted. An EVENT is written to host memory as PF0. A relayed request ends, when all its parts have, with one RSP toward the head; while a part is outstanding it waits.
The model's choices it rests on: log entries 83, 84, 87, 88. -/
def Obligations.CascadeFrames : Prop :=
  (∀ (s : State) (a : Nat) (f : Frame), s.cascadeLink a = true → (s.link a).rxBuf = [f] → f.op ≠ opTIME →
      f.words = [] ∨ cwValid (f.words.getD 0 0) f.stripped.op = false →
      exec (.cascadeFrameRx a) s = .next (((s.rxTake a f).cwError a (f.words.getD 0 0)).settle).shown)
    ∧ (∀ (s : State) (a : Nat) (f : Frame) (w : Word64) (ws : List Word64), s.cascadeLink a = true → (s.link a).rxBuf = [f] → f.words = w :: ws →
      cwValid w f.stripped.op = true → f.stripped.op = opMSG → s.holdsOff pgWAD = false → s.holdsOff pgPOL = false → s.holdsOff pgSWC = false →
      s.active pgPOL = false → (s.rxTake a f).active pgPOL = false →
      let t := s.rxTake a f
      let acct := portQueue a f.stripped.cls
      (cwDestDev w = t.device ∧ cwKind w = cwPORT ∧ t.linkEnabled (cwDestPort w) = true →
        ((t.cascMsgTo a f.stripped acct 0 [(portQueue (cwDestPort w) (cwClass w), none)]).link a).rxBuf = [] →
        exec (.cascadeFrameRx a) s = .next ((t.cascMsgTo a f.stripped acct 0 [(portQueue (cwDestPort w) (cwClass w), none)]).settle).shown)
      ∧ (cwDestDev w = t.device ∧ cwKind w = cwHOST ∧ t.hallExists (cwHall w) = false →
        exec (.cascadeFrameRx a) s = .next ((t.noTarget_ f.stripped.dtag 3 (cwHall w) acct).settle).shown)
      ∧ (cwDestDev w ≠ t.device ∧ t.routeOf (cwDestDev w) = none →
        exec (.cascadeFrameRx a) s = .next (((t.routeDrop (cwDestDev w) (cwHops w) a).acctDrop acct).settle).shown))
    ∧ (∀ (s : State) (a : Nat) (f : Frame) (w d e : Word64), s.cascadeLink a = true → (s.link a).rxBuf = [f] → f.words = [w, d, e] →
      cwValid w opEVENT = true → f.stripped.op = opEVENT → s.cwMine w = true → s.hostBefore a f = false → s.mayMaster 0 = true →
      exec (.cascadeFrameRx a) s = .next (((s.rxTake a f).emit (.memWr 0 none false d.toNat (bytesOf 4 (fld e 0 32)))).settle).shown)
    ∧ (∀ (s : State) (a : Nat), s.cascadeLink a = false → exec (.cascadeFrameRx a) s = .next s.shown)
    ∧ (∀ (s : State) (a : Nat) (w : Word64) (f : Frame), s.stationAt (cwDestPort w) = false → s.isMember = false →
      (f.op = opPW → s.cascRequest a f w f = (s.rxTake a f).cnt pgWAD WAD.CNT_NO_TARGET)
      ∧ (f.op ≠ opPW ∧ s.canReserve (frameCells (mkRsp f.tag 0x01 [])) = true → s.cascRequest a f w f =
        (s.rxTake a f).cascReturn a (cwClass w) (cwDestPort w) (mkRsp f.tag 0x01 [])))
    ∧ (∀ (s : State) (i an tag cls : Nat) (a : Acc), s.acc? i = some a → a.who = .relay an tag cls → a.op ≠ .write → a.ended = false →
      a.parts.all (fun p => p.st == .finished && p.gen != unanswered) = true →
      exec (.cascadeRequestDone i) s = .next (((s.relayEnd i a.parts.length).cascReturn an cls
        (match a.parts with | p :: _ => p.link | [] => 0) (relayRsp a tag)).settle).shown)
    ∧ (∀ (s : State) (i : Nat) (a : Acc), s.acc? i = some a → a.parts.any (fun p => p.st != .finished) = true →
      exec (.cascadeRequestDone i) s = .next s.settle.shown)

/-! ### The Caravan (spec/11_caravan.md) -/

/-- RING_DOORBELL, RING_ENABLE, RING_DISABLE, RING_RESUME, TAIL_CLEAR, ENGINE_ASSIGN and ENGINE_POWER_DOWN. A doorbell within the ring sets PCOUNT, and an idle ring with work enters the PENDING list; one outside
it changes no count and is captured with code 0x02. Enabling sets the counts to 0, disabling takes a ring that no engine holds out of the list, and a stopped ring resumes.
The first ready ring gets the lowest idle engine, with the start's allowance where that is not powered; a refusal leaves it NOT_ADMITTED with code 0x03. An engine
without a ring for 10 µs returns 12 units. A row that is an access to a page waits while an apply holds it.
The model's choices it rests on: log entries 139, 148. -/
def Obligations.RingsAndEngines : Prop :=
  (∀ (s : State) (h r p q : Nat), h < 4096 → r < 8 → p < 65536 → s.sys.coreOn = true → s.ringServed (8 * h + r) = true →
      subMod p (s.tf .rng (8 * h + r) T_RNG.CCOUNT) 16 ≤ 2 ^ s.ringSize (8 * h + r) →
      let t := s.st .rng (8 * h + r) T_RNG.PCOUNT p
      (t.active pgCVN = true ∧ t.ringSt (8 * h + r) = rgIDLE ∧ p ≠ s.tf .rng (8 * h + r) T_RNG.CCOUNT →
        exec (.ringDoorbell (.pf0 q) h r p) s = .next ((t.ringPending (8 * h + r)).settle).shown)
      ∧ (t.active pgCVN = false ∨ t.ringSt (8 * h + r) = rgPENDING ∨ t.ringSt (8 * h + r) = rgRUNNING →
        exec (.ringDoorbell (.pf0 q) h r p) s = .next (t.settle).shown))
    ∧ (∀ (s : State) (h r p q : Nat), h < 4096 → r < 8 → p < 65536 → s.sys.coreOn = true →
      2 ^ s.ringSize (8 * h + r) < subMod p (s.tf .rng (8 * h + r) T_RNG.CCOUNT) 16 →
      exec (.ringDoorbell (.pf0 q) h r p) s = .next (((s.cnt pgCVN CVN.CNT_DB_IGNORED).error pgCVN 1 0x02 (8 * h + r + p * 2 ^ 16)
        (s.tf .rng (8 * h + r) T_RNG.CCOUNT) (s.ringSize (8 * h + r))).settle).shown)
    ∧ (∀ (s : State) (g : Nat), s.applying pgCVN = false → g < 32768 → s.tb .rng g T_RNG.EN = false →
      let t := s.st .rng g T_RNG.EN 1 |>.st .rng g T_RNG.PCOUNT 0 |>.st .rng g T_RNG.CCOUNT 0 |>.st .rng g T_RNG.DCOUNT 0
      exec (.ringEnable g) s = .next (if t.ringSt g = rgDISABLED then t.setRing g rgIDLE else t).shown
      ∧ exec (.ringDisable g) s = .next s.shown)
    ∧ (∀ (s : State) (g : Nat), s.applying pgCVN = false → g < 32768 → s.tb .rng g T_RNG.EN = true →
      let t := s.st .rng g T_RNG.EN 0
      exec (.ringEnable g) s = .next s.shown
      ∧ (t.ringSt g = rgRUNNING → exec (.ringDisable g) s = .next t.shown)
      ∧ (t.ringSt g ≠ rgRUNNING → exec (.ringDisable g) s =
          .next ((t.setRing g rgDISABLED).setPending (s.cvn.pending.filter (· != g))).shown))
    ∧ (∀ (s : State) (g : Nat), s.applying pgCVN = false → s.ringSt g = rgSTOPPED →
      let t := { s.st .rng g T_RNG.STOP_CODE 0 with cvn := { s.cvn with stopDue := s.cvn.stopDue.filter (· != g) } }
      exec (.ringResume g) s = .next (if t.tf .rng g T_RNG.PCOUNT ≠ t.tf .rng g T_RNG.CCOUNT then t.ringPending g else t.setRing g rgIDLE).shown)
    ∧ (∀ (s : State) (g : Nat), s.applying pgCVN = false → s.ringSt g ≠ rgSTOPPED → exec (.ringResume g) s = .next s.shown)
    ∧ (∀ (s : State) (g : Nat), s.applying pgCVN = false → g < 32768 → exec (.tailClear g) s = .next (s.st .rng g T_RNG.TAIL_VALID 0).shown)
    ∧ (∀ (s : State) (g e : Nat), s.active pgCVN = true → s.quiesce pgCVN = false → s.cvn.pending.find? s.ringReady = some g →
      (List.range 128).find? s.engReady = some e → s.gb (pgCVE e) CVE.ENG_STS_POWERED = true → s.cvn.stopDue = [] →
      let t := ((s.setPending (s.cvn.pending.filter (· != g))).cnt pgCVN CVN.CNT_ASSIGNS).setRing g rgRUNNING
      let u := (t.st .enl (ringHall g) T_ENL.ENG_NOW (t.tf .enl (ringHall g) T_ENL.ENG_NOW + 1)).sf (pgCVE e) CVE.ENG_STS_RING g
      exec .engineAssign s = .next (((u.setEng e { Engine.reset with ring := some g, nextRd := (s.eng e).nextRd, rest := (s.eng e).rest }).engSlot e
        g).engRun e).shown)
    ∧ (∀ (s : State) (g e : Nat), s.active pgCVN = true → s.quiesce pgCVN = false → s.cvn.pending.find? s.ringReady = some g →
      (List.range 128).find? s.engReady = some e → s.gb (pgCVE e) CVE.ENG_STS_POWERED = false → (s.askCistern (pgCVE e) [(pgCVE e, 12, 0)]).2 = false →
      let t := (s.askCistern (pgCVE e) [(pgCVE e, 12, 0)]).1.setPending (s.cvn.pending.filter (· != g))
      exec .engineAssign s = .next ((((t.setRing g rgNOTADM).cnt pgCVN CVN.CNT_START_REFUSED).error pgCVN 2 0x03 g e 12).event (pgCVE e) 2).shown)
    ∧ (∀ (s : State), s.active pgCVN = false ∨ s.cvn.pending = [] → exec .engineAssign s = .next s.shown)
    ∧ (∀ (s : State) (e : Nat), e < 128 → s.gb (pgCVE e) CVE.ENG_STS_POWERED = true → (s.eng e).ring = none →
      (s.due ((s.eng e).idleAt + us 10) = true → exec (.enginePowerDown e) s =
        .next ((s.sf (pgCVE e) CVE.ENG_STS_POWERED 0).giveBack (pgCVE e) 12 0).shown)
      ∧ (s.due ((s.eng e).idleAt + us 10) = false → exec (.enginePowerDown e) s = .next s.shown))
    ∧ (∀ (s : State) (g : Nat), s.applying pgCVN = true → exec (.ringEnable g) s = .next (s.mezWait (.ringEnable g)).shown
      ∧ exec (.ringDisable g) s = .next (s.mezWait (.ringDisable g)).shown ∧ exec (.ringResume g) s = .next (s.mezWait (.ringResume g)).shown
      ∧ exec (.tailClear g) s = .next (s.mezWait (.tailClear g)).shown)
    ∧ (∀ (s : State) (vf k q h r c : Nat) (pa : Option Nat) (v : Word), s.applying pgHLM = true → s.sys.coreOn = true →
      exec (.ringDoorbell (.slot vf k pa q) h r c) s = .next (s.mezWait (.ringDoorbell (.slot vf k pa q) h r c)).shown
      ∧ exec (.rxConsWrite (.slot vf k pa q) h v) s = .next (s.mezWait (.rxConsWrite (.slot vf k pa q) h v)).shown)

/-- DESC_NOP, DESC_COPY, DESC_FENCE, DESC_JUMP, DESC_RESERVED_OP, DESC_FETCH_FAIL, CARAVAN_READ_DATA and FENCE_DONE. A ring slot with the other phase fails with code 0x02; with its own it advances CCOUNT and acts: a NOP completes, a COPY
begins to move, a FENCE reads its address through the hall's queue, a JUMP goes one hop on. A COPY of no bytes, an address a FENCE or JUMP may not have, and a reserved OP fail with 0x01, a
failed fetch with 0x03, the hop past the limit with 0x0D and a failed fence with 0x0F; a fetch whose page cannot be translated ends as a transfer does, past its slot. Read data enter the holding register in the order of
the reads. A completed ring slot writes its status, counts, sets RING_DONE when asked, and the next begins.
The model's choices it rests on: log entries 93, 94, 96, 148. -/
def Obligations.Descriptors : Prop :=
  (∀ (s : State) (e g : Nat) (d : BitVec 256), (s.eng e).ring = some g → (s.eng e).desc = some d → s.engSt e = enFETCH → s.engStalled e = false →
      (s.eng e).chain = false → dPhase d = bitAt (s.engCount e) (s.ringSize g) →
      let t := (s.st .rng g T_RNG.CCOUNT (s.engCount e + 1)).setEng e { s.eng e with irq := dIrq d }
      (dOp d = 0 → exec (.descNop e) s = .next ((t.engComplete e).settle).shown)
      ∧ (dOp d = 1 ∧ dLen d ≠ 0 → exec (.descCopy e) s = .next ((((t.setEngSt e enMOVE).engShow e).engRun e).settle).shown)
      ∧ (dOp d = 1 ∧ dLen d = 0 → exec (.descCopy e) s = .next ((t.engFail e 0x01 true).settle).shown)
      ∧ (dOp d = 2 ∧ dDst d % 4 = 0 ∧ dDstSp d = false → exec (.descFence e) s = .next (((((t.setEng e { t.eng e with fence := some none }).setEngSt e
          enFENCE).engFrame e g (.memRd e (dDst d)) 4)).settle).shown)
      ∧ (dOp d = 2 ∧ dDst d % 4 ≠ 0 → exec (.descFence e) s = .next ((t.engFail e 0x01 true).settle).shown)
      ∧ (dOp d = 3 ∧ dDst d % 32 = 0 → exec (.descJump e) s = .next ((t.engHop e (dDst d)).settle).shown)
      ∧ (dOp d = 3 ∧ dDst d % 32 ≠ 0 → exec (.descJump e) s = .next ((t.engFail e 0x01 true).settle).shown)
      ∧ (4 ≤ dOp d → exec (.descReservedOp e) s = .next ((t.engFail e 0x01 true).settle).shown))
    ∧ (∀ (s : State) (e g : Nat) (d : BitVec 256), (s.eng e).ring = some g → (s.eng e).desc = some d → s.engSt e = enFETCH → s.engStalled e = false →
      (s.eng e).chain = false → dPhase d ≠ bitAt (s.engCount e) (s.ringSize g) → dOp d = 0 →
      exec (.descNop e) s = .next ((s.engFail e 0x02 false).settle).shown)
    ∧ (∀ (s : State) (e : Nat), (s.eng e).ring = none →
      exec (.descNop e) s = .next s.settle.shown ∧ exec (.descCopy e) s = .next s.settle.shown ∧ exec (.descJump e) s = .next s.settle.shown
        ∧ exec (.descFence e) s = .next s.settle.shown ∧ exec (.descReservedOp e) s = .next s.settle.shown)
    ∧ (∀ (s : State) (e g : Nat) (d : BitVec 256), (s.eng e).ring = some g → (s.eng e).desc = some d → (s.eng e).chain = false →
      let t := ((s.engStatus e g (s.eng e).addr 0 0).cnt (pgCVE e) CVE.CNT_DESCRIPTORS)
      let u := if dIrq d then t.event (pgHAL (ringHall g)) (g % 8) else t
      s.engComplete e = (u.st .rng g T_RNG.DCOUNT (u.tf .rng g T_RNG.DCOUNT + 1)).engNext e g)
    ∧ (∀ (s : State) (e a : Nat), s.gf1 pgCVN CVN.CVN_CTL_HOP_LIMIT < (s.eng e).hop + 1 →
      s.engHop e a = (s.cnt pgCVN CVN.CNT_LOOPS).engFail e 0x0D false)
    ∧ (∀ (s : State) (e : Nat), (s.eng e).failed = true → s.engSt e = enFETCH →
      exec (.descFetchFail e) s = .next ((s.engFail e 0x03 false).settle).shown)
    ∧ (∀ (s : State) (e g : Nat), (s.eng e).ring = some g → s.engSt e = enFETCH → (s.eng e).desc = none → (s.eng e).failed = false →
      s.engStalled e = false → s.host.reqs = [] → (s.eng e).code ≠ 0 →
      ((s.eng e).chain = false → s.engRun e = (s.st .rng g T_RNG.CCOUNT (s.engCount e + 1)).engFail e (s.eng e).code true)
      ∧ ((s.eng e).chain = true → s.engRun e = s.engFail e (s.eng e).code true))
    ∧ (∀ (s : State) (e : Nat), (s.eng e).failed = false → exec (.descFetchFail e) s = .next s.shown)
    ∧ (∀ (s : State) (e num a n code : Nat) (data : List Byte) (rest : List SrcRead), s.engSt e = enMOVE → s.engStalled e = false →
      (s.eng e).hold.length < 128 → (s.eng e).reads = ⟨num, a, n, some (code, data)⟩ :: rest →
      (code = 0 → exec (.caravanReadData e) s = .next (((s.setEng e { s.eng e with reads := rest, hold := (s.eng e).hold ++ data }).engRun
        e).settle).shown)
      ∧ (code ≠ 0 → exec (.caravanReadData e) s = .next (((s.setEng e { s.eng e with code := code }).engRun e).settle).shown))
    ∧ (∀ (s : State) (e : Nat), (s.eng e).reads = [] → exec (.caravanReadData e) s = .next s.settle.shown)
    ∧ (∀ (s : State) (e : Nat), s.engSt e = enFENCE →
      ((s.eng e).fence = some (some true) → exec (.fenceDone e) s = .next ((s.engComplete e).settle).shown)
      ∧ ((s.eng e).fence = some (some false) → exec (.fenceDone e) s = .next ((s.engFail e 0x0F true).settle).shown)
      ∧ ((s.eng e).fence = some none → exec (.fenceDone e) s = .next s.shown))

/-! ### Halls (spec/12_halls.md) -/

/-- HALL_CREATE, HALL_RESET, HALL_RELEASE, HALL_RESET_DONE, GEN_WAIT_END, DL_FLIP, DL_FLIP_DONE and RX_CONS_WRITE. A binding that fails a check ends with the check's number; one that passes makes the
hall BOUND. A reset or release of a free hall ends with 1; of a bound one it advances GEN and fences the hall, and its end resets what the hall owns, leaves it BOUND or FREE,
and sets CMD_DONE. A waiting advance happens once no old item is left. While BUSY is 1 a command is ignored but for the fields it writes. A flip changes the bitmap in use and writes the cached words of the former one
back. A consumer count that would make more than the area used is ignored. A row that is an access to a page waits while an apply holds it.
The model's choices it rests on: log entries 99, 101. -/
def Obligations.HallCommands : Prop :=
  (∀ (s : State) (h : Nat), h < 4096 → s.active pgHLM = true → s.gb pgHLM HLM.HALL_CMD_BUSY = false →
      (s.sf pgHLM HLM.HALL_CMD_HALL h |>.sf pgHLM HLM.HALL_CMD_OP 1).gb pgHLM HLM.HALL_CMD_BUSY = false →
      (s.sf pgHLM HLM.HALL_CMD_HALL h |>.sf pgHLM HLM.HALL_CMD_OP 1).active pgHLM = true →
      (s.sf pgHLM HLM.HALL_CMD_HALL h |>.sf pgHLM HLM.HALL_CMD_OP 1).defers = false →
      let t := (s.sf pgHLM HLM.HALL_CMD_HALL h |>.sf pgHLM HLM.HALL_CMD_OP 1).sf pgHLM HLM.HALL_CMD_BUSY 1
      (t.createCheck h ≠ 0 → exec (.hallCreate h) s = .next (((t.sf pgHLM HLM.HALL_CMD_BUSY 0 |>.sf pgHLM HLM.HALL_CMD_STATUS
          (t.createCheck h)).event pgHLM 4).settle).shown)
      ∧ (t.createCheck h = 0 →
        let u := ((t.st .hcx h T_HCX.STATE hlBOUND).st .hcx h T_HCX.TDISP (t.tdispOf (t.hallFunc h))).floorFix h
        exec (.hallCreate h) s = .next (((((u.setGen h
          (((t.st .hcx h T_HCX.STATE hlBOUND).st .hcx h T_HCX.TDISP (t.tdispOf (t.hallFunc h))).hallGen h)).countHalls.cnt pgHLM
            HLM.CNT_CREATES).hallCmdEnd 0)).settle).shown))
    ∧ (∀ (s : State) (h : Nat) (rel : Bool), h < 4096 → s.gb pgHLM HLM.HALL_CMD_BUSY = false → s.hlm.resets = [] →
      let b := s.sf pgHLM HLM.HALL_CMD_HALL h |>.sf pgHLM HLM.HALL_CMD_OP (if rel then 3 else 2)
      let t := b.sf pgHLM HLM.HALL_CMD_BUSY 1
      b.gb pgHLM HLM.HALL_CMD_BUSY = false → b.active pgHLM = true → b.defers = false →
      (t.hallSt h = hlFREE → exec (if rel then .hallRelease h else .hallReset h) s = .next ((t.hallCmdEnd 1).settle).shown)
      ∧ (t.hallSt h = hlBOUND ∧ t.hallFunc h = 0 ∧ t.oldItems h = 0 →
        let u := ({ t with hlm := { t.hlm with resets := [(⟨h, rel, true, true, true⟩ : HallReset)] } } : State).floorFix h
        exec (if rel then .hallRelease h else .hallReset h) s = .next ((((((u.st .hcx h T_HCX.STATE hlRESETTING).setGen h
          ((u.hallGen h + 1) % 2 ^ 16)).fence h).floorFix h)).settle).shown))
    ∧ (∀ (s : State) (h op : Nat), let b := s.sf pgHLM HLM.HALL_CMD_HALL h |>.sf pgHLM HLM.HALL_CMD_OP op
      b.gb pgHLM HLM.HALL_CMD_BUSY = true → b.defers = false →
      (op = 1 → exec (.hallCreate h) s = .next b.settle.shown) ∧ (op = 2 → exec (.hallReset h) s = .next b.settle.shown)
        ∧ (op = 3 → exec (.hallRelease h) s = .next b.settle.shown))
    ∧ (∀ (s : State) (h : Nat) (rel : Bool), s.hlm.resets = [⟨h, rel, true, true, true⟩] → s.hallSt h = hlRESETTING →
      let t := (s.resetOwned h).resetWindows h
      let u := if rel then
          t.each [T_HCX.STATE, T_HCX.NOPASID, T_HCX.FUNC, T_HCX.PASID, T_HCX.SLOT, T_HCX.TDISP] (fun f s => s.st .hcx h f 0)
        else t.st .hcx h T_HCX.STATE hlBOUND
      exec (.hallResetDone h) s = .next ((((({ u with hlm := { u.hlm with resets := u.hlm.resets.filter (fun y => y.hall != h) } } :
        State).countHalls.cnt pgHLM HLM.CNT_RESETS).hallCmdEnd 0).resetsGo).settle).shown)
    ∧ (∀ (s : State) (h : Nat), s.hlm.resets = [] → exec (.hallResetDone h) s = .next s.settle.shown)
    ∧ (∀ (s : State) (h : Nat), s.hallSt h = hlWAITING → s.oldItems h = 0 →
      let t := s.floorFix h
      exec (.genWaitEnd h) s = .next (((t.st .hcx h T_HCX.STATE hlRESETTING).setGen h ((t.hallGen h + 1) % 2 ^ 16)).floorFix h).shown)
    ∧ (∀ (s : State) (h : Nat), s.hallSt h ≠ hlWAITING ∨ s.oldItems h ≠ 0 → exec (.genWaitEnd h) s = .next s.shown)
    ∧ (∀ (s : State) (h : Nat), s.applying pgHLM = false → h < 4096 →
      let t := s.sf pgHLM HLM.DL_CMD_HALL h
      t.gb pgHLM HLM.DL_CMD_BUSY = false →
      (t.active pgHLM = true ∧ t.tb .hcx h T_HCX.DL_EN = true →
        let w := t.tb .hcx h T_HCX.DL_ACTIVE
        let u := ((t.sf pgHLM HLM.DL_CMD_BUSY 1).st .hcx h T_HCX.DL_ACTIVE (b2n (!w))).st .hcx h T_HCX.DL_OVER 0
        let v : State := { u with hlm := { u.hlm with flip := some h } }
        exec (.dlFlip h) s = .next (v.each ((v.wordsIn h w).filter (fun x => x.old.isSome)) (fun x s => s.dlWriteBack x)).shown)
      ∧ (t.active pgHLM = false ∨ t.tb .hcx h T_HCX.DL_EN = false → exec (.dlFlip h) s = .next t.shown))
    ∧ (∀ (s : State) (h : Nat), s.applying pgHLM = false → h < 4096 → let t := s.sf pgHLM HLM.DL_CMD_HALL h
      t.gb pgHLM HLM.DL_CMD_BUSY = true → exec (.dlFlip h) s = .next t.shown)
    ∧ (∀ (s : State) (h : Nat), s.hlm.flip = some h → s.hlm.words = [] →
      exec .dlFlipDone s = .next ((({ s with hlm := { s.hlm with flip := none } } : State).sf pgHLM HLM.DL_CMD_BUSY 0).event pgHLM 3).shown)
    ∧ (∀ (s : State), s.hlm.flip = none → exec .dlFlipDone s = .next s.shown)
    ∧ (∀ (s : State) (h q : Nat) (v : Word),
      (subMod (s.rxProd h) v.toNat 32 ≤ s.rxSize h → exec (.rxConsWrite (.pf0 q) h v) s = .next (s.sf (pgHAL h) HAL.RX_CONS_CONS v.toNat).shown)
      ∧ (s.rxSize h < subMod (s.rxProd h) v.toNat 32 → exec (.rxConsWrite (.pf0 q) h v) s = .next s.shown))
    ∧ (∀ (s : State) (h : Nat), s.applying pgHLM = true → exec (.dlFlip h) s = .next (s.mezWait (.dlFlip h)).shown)

/-! ### The Landing interrupt controller (spec/13_landing.md) -/

/-- SOURCE_FIRE, EVIN_CHANGE, SW_SET, SOURCE_ASSIGN, MSIX_DELIVERY and HOLDOFF_EXPIRY. An idle source that fires is PENDING, an ACTIVE one fires again after its service, and while LND is not ACTIVE nothing
happens. A pin acts as its mode says. A software source is pulsed. The eligible source of highest priority goes to the first ready target after NEXT: an unmasked
entry makes it ACTIVE, a masked one holds it, a summary target has it AT_SUMMARY; without a target it waits. The first source of an entry leaves with one
message and its service ends, unless HST is quiesced; held sources leave together when the entry is unmasked. A group's hold-off ends after its time. A row that is an access to a page waits while an apply holds it.
The model's choices it rests on: log entries 102, 103. -/
def Obligations.FromSourceToMessage : Prop :=
  (∀ (s : State) (x : Nat), s.gf pgOAS OAS.PWR_STS_STATE < 2 → s.active pgLND = true →
      (s.tf .src x T_SRC.STATE = srcIDLE → s.fire x = (s.becomePending x).wakeBySource x)
      ∧ (s.tf .src x T_SRC.STATE = srcACTIVE → s.fire x = (s.st .src x T_SRC.STATE srcACTPEND).wakeBySource x)
      ∧ (s.tf .src x T_SRC.STATE = srcPENDING ∨ s.tf .src x T_SRC.STATE = srcSUMMARY ∨ s.tf .src x T_SRC.STATE = srcHELD
        → s.fire x = s.wakeBySource x))
    ∧ (∀ (s : State) (x : Nat), s.gf pgOAS OAS.PWR_STS_STATE < 2 → s.active pgLND = false → s.fire x = s)
    ∧ (∀ (s : State) (x : Nat) (l : Bool), 0x2000 ≤ x → x < 0x6000 → exec (.sourceFire x l) s = .next (s.setLevel x l).shown)
    ∧ (∀ (s : State) (x : Nat), (0x6000 ≤ x ∧ x < 0xA000) ∨ (0xA010 ≤ x ∧ x < 0x10000) →
      exec (.sourceFire x true) s = .next (s.fire x).shown ∧ exec (.sourceFire x false) s = .next s.shown)
    ∧ (∀ (s : State) (p : Nat) (b : Blk) (k : Nat), p < 0x2000 → blkOf p = some (b, k) →
      (s.tb .src p T_SRC.ASSERTED = true → exec (.sourceFire p true) s = .next (s.fire p).shown)
      ∧ (s.tb .src p T_SRC.ASSERTED = false → exec (.sourceFire p true) s = .next s.shown))
    ∧ (∀ (s : State) (i : Nat) (l : Bool), i < 16 →
      let was := bitAt (s.gf pgLND LND.EVIN_STS_LEVEL) i
      let t := s.sf pgLND LND.EVIN_STS_LEVEL (putBits (s.gf pgLND LND.EVIN_STS_LEVEL) i 1 (b2n l))
      (t.gf pgLND (LND.EVIN_CFG_MODE i) = 0 → exec (.evinChange i l) s = .next (t.setLevel (0xA000 + i) l).shown)
      ∧ (t.gf pgLND (LND.EVIN_CFG_MODE i) = 1 → exec (.evinChange i l) s = .next (t.setLevel (0xA000 + i) (!l)).shown)
      ∧ (t.gf pgLND (LND.EVIN_CFG_MODE i) = 2 ∧ was = false ∧ l = true →
        exec (.evinChange i l) s = .next ((t.setLevel (0xA000 + i) false).fire (0xA000 + i)).shown)
      ∧ (t.gf pgLND (LND.EVIN_CFG_MODE i) = 3 ∧ was = true ∧ l = false →
        exec (.evinChange i l) s = .next ((t.setLevel (0xA000 + i) false).fire (0xA000 + i)).shown)
      ∧ (t.gf pgLND (LND.EVIN_CFG_MODE i) = 4 ∧ was = l → exec (.evinChange i l) s = .next (t.setLevel (0xA000 + i) false).shown))
    ∧ (∀ (s : State) (v : Word), s.applying pgLND = false → (0xA010 ≤ fld v 0 16 → exec (.swSet v) s = .next (s.fire (fld v 0 16)).shown)
      ∧ (fld v 0 16 < 0xA010 → exec (.swSet v) s = .next s.shown))
    ∧ (∀ (s : State) (x p o : Nat) (v : TargetView), s.active pgLND = true → s.quiesce pgLND = false →
      bestSource (s.eligible.filter (fun e => (chosen (s.search e.1)).isSome || !s.lnd.waited.contains e.1)) = some (x, p) →
      (s.search x).any (fun e => e.2 == .denied) = false →
      (chosen (s.search x) = some (o, v) → exec .sourceAssign s = .next (s.assignTo x o).shown)
      ∧ (chosen (s.search x) = none → exec .sourceAssign s = .next (s.noTarget x (s.search x)).shown))
    ∧ (∀ (s : State), s.active pgLND = false ∨ s.eligible = [] → exec .sourceAssign s = .next s.shown)
    ∧ (∀ (s : State) (x o : Nat), x < 0x10000 → o < 64 → let k := s.tf .tse (s.tf .src x T_SRC.TSET) T_TSE.FIRST + o
      s.tb .tgt k T_TGT.KIND = false → s.entryMasked (s.tf .tgt k T_TGT.INDEX) = false →
      let t := (s.st .tse (s.tf .src x T_SRC.TSET) T_TSE.NEXT o).st .src x T_SRC.TARGET (s.tf .tgt k T_TGT.INDEX)
      let u := ({ t with lnd := { t.lnd with waited := t.lnd.waited.filter (· != x) } } : State).st .src x T_SRC.TKIND 0
      s.assignTo x o = { u.st .src x T_SRC.STATE srcACTIVE with lnd := { u.lnd with order := u.lnd.order ++ [x] } })
    ∧ (∀ (s : State) (e x : Nat), s.active pgLND = true → s.quiesce pgLND = false → s.entryAsleep e = false → s.entryMasked e = false →
      s.isMember = false → s.quiesce pgHST = false → s.lnd.events = [] → s.srcsAt srcHELD 0 e = [] → s.lnd.order = [x] → s.tf .src x T_SRC.TARGET = e →
      let t : State := { s with lnd := { s.lnd with order := [] } }
      exec (.msixDelivery e) s = .next ((((t.cnt pgLND LND.CNT_MSGS_SENT).emit (.msix ((t.entryFunc e).getD 0) (t.tf .vec e T_VEC.ADDR)
        (t.tf .vec e T_VEC.DATA))).delivered x)).shown)
    ∧ (∀ (s : State) (e : Nat), s.lnd.events = [] → s.active pgLND = false ∨ s.entryAsleep e = true
      ∨ (s.quiesce pgHST = true ∧ s.isMember = false) → exec (.msixDelivery e) s = .next s.shown)
    ∧ (∀ (s : State) (e x p : Nat), s.active pgLND = true → s.quiesce pgLND = false → s.entryAsleep e = false → s.entryMasked e = false →
      s.isMember = false → s.quiesce pgHST = false → s.lnd.events = [] → s.srcsAt srcHELD 0 e = [(x, p)] → ((s.sendMsix e).delivered x).lnd.events = [] →
      exec (.msixDelivery e) s = .next (((s.sendMsix e).delivered x).pendUpdate e).shown)
    ∧ (∀ (s : State) (g : Nat), exec (.holdoffExpiry g) s =
        .next ({ s with lnd := { s.lnd with holds := s.lnd.holds.filter (fun e => !(e.1 == g && s.due e.2)) } } : State).shown)
    ∧ (∀ (s : State) (v : Word), s.applying pgLND = true → exec (.swSet v) s = .next (s.mezWait (.swSet v)).shown)

/-- SUM_CLAIM, SUM_COMPLETE, SUM_STACK_RESET, SOURCE_CLR_PEND and SOURCE_REASSIGN. A claim returns the waiting source of highest priority above the top, pushes it and makes it
ACTIVE; with nothing to claim it returns bit 31. Completing the top source pops it and ends its service; completing another puts the target into FAULT with
code 0x02. A stack reset leaves FAULT and ends the service of all that is stacked. CLR_PEND discards the pending event of a source, and REASSIGN gives a
held or waiting source back to the search. A target or source that does not exist changes nothing. A row that is an access to a page waits while an apply holds it.
The model's choices it rests on: log entry 104. -/
def Obligations.LandingStacks : Prop :=
  (∀ (s : State) (t x p : Nat), s.applying pgLND = false → t < 64 → s.claimable t = some (x, p) →
      exec (.sumClaim t .host) s = .next ((((((s.setStack t ((x, p) :: s.stack t)).st .src x T_SRC.STATE srcACTIVE).cnt pgLND LND.CNT_CLAIMS).sumUpdate t
        true)).emit (.regData (raddr pgLND (0x800 + 32 * t + 8)) (BitVec.ofNat 32 (x + p * 2 ^ 16)))).shown)
    ∧ (∀ (s : State) (t : Nat), s.applying pgLND = false → t < 64 → s.claimable t = none →
      exec (.sumClaim t .host) s = .next (s.emit (.regData (raddr pgLND (0x800 + 32 * t + 8)) 0x80000000)).shown
      ∧ exec (.sumClaim t .smb) s = .next (s.smbAnswer (raddr pgLND (0x800 + 32 * t + 8)) 0 0x80000000).shown)
    ∧ (∀ (s : State) (off : Nat) (w : Word), s.smbAnswer off 0 w = (s.sf pgDEV DEV.SMB_STS_LAST_STATUS 0).smbReply
        ([2 * (s.sf pgDEV DEV.SMB_STS_LAST_STATUS 0).smbAddr, 0x11, 4] ++ (bytesOf 4 off).map BitVec.toNat
          ++ [2 * (s.sf pgDEV DEV.SMB_STS_LAST_STATUS 0).smbAddr + 1]) ([5, 0] ++ (bytesOf 4 w.toNat).map BitVec.toNat))
    ∧ (∀ (s : State) (t x p y q : Nat), s.claimable t = some (x, p) →
      (x, p) ∈ s.srcsAt srcSUMMARY 1 t ∧ ((y, q) ∈ s.srcsAt srcSUMMARY 1 t → s.gf pgLND (sumF t SUM.SUM_CTL_THRESH) ≤ q → q ≤ p)
        ∧ s.gf pgLND (sumF t SUM.SUM_CTL_THRESH) ≤ p ∧ (s.stack t).head?.all (fun top => decide (top.2 < p)) = true
        ∧ (s.stack t).length < 16)
    ∧ (∀ (s : State) (t y p : Nat) (rest : List (Nat × Nat)), s.applying pgLND = false → t < 64 → s.gb pgLND (sumF t SUM.SUM_STS_FAULT) = false → s.stack t = (y, p) :: rest →
      y < 65536 →
      exec (.sumComplete t y) s = .next (((((s.setStack t rest).endService y).cnt pgLND LND.CNT_COMPLETES).sumUpdate t true)).shown)
    ∧ (∀ (s : State) (t x y p : Nat) (rest : List (Nat × Nat)), s.applying pgLND = false → t < 64 → s.gb pgLND (sumF t SUM.SUM_STS_FAULT) = false →
      s.stack t = (y, p) :: rest → x < 65536 → x ≠ y →
      let u := ((s.cnt pgLND LND.CNT_STACK_FAULTS).error pgLND 1 0x02 (t + x * 2 ^ 16) y (rest.length + 1)).sf pgLND (sumF t SUM.SUM_STS_FAULT) 1
      exec (.sumComplete t x) s = .next ((u.each (u.srcsAt srcSUMMARY 1 t) (fun e s => s.becomePending e.1)).sumUpdate t false).shown)
    ∧ (∀ (s : State) (t x : Nat), s.applying pgLND = false → t < 64 → s.gb pgLND (sumF t SUM.SUM_STS_FAULT) = true → exec (.sumComplete t x) s = .next s.shown)
    ∧ (∀ (s : State) (t : Nat), s.applying pgLND = false → t < 64 → exec (.sumStackReset t) s =
        .next (((((s.setStack t []).sf pgLND (sumF t SUM.SUM_STS_FAULT) 0).each (s.stack t) (fun e s => s.endService e.1)).sumUpdate t false)).shown)
    ∧ (∀ (s : State) (x : Nat), s.applying pgLND = false → x < 0x10000 →
      (s.tf .src x T_SRC.STATE = srcPENDING → exec (.sourceClrPend x) s = .next (s.st .src x T_SRC.STATE srcIDLE).shown
        ∧ exec (.sourceReassign x) s = .next s.shown)
      ∧ (s.tf .src x T_SRC.STATE = srcSUMMARY ∨ s.tf .src x T_SRC.STATE = srcHELD →
        exec (.sourceClrPend x) s = .next ((s.st .src x T_SRC.STATE srcIDLE).leaveTarget x).shown
        ∧ exec (.sourceReassign x) s = .next ((s.becomePending x).leaveTarget x).shown)
      ∧ (s.tf .src x T_SRC.STATE = srcIDLE ∨ s.tf .src x T_SRC.STATE = srcACTIVE ∨ s.tf .src x T_SRC.STATE = srcACTPEND →
        exec (.sourceClrPend x) s = .next s.shown ∧ exec (.sourceReassign x) s = .next s.shown))
    ∧ (∀ (s : State) (t x : Nat) (p : Path), 64 ≤ t → exec (.sumClaim t p) s = .next s.shown ∧ exec (.sumComplete t x) s = .next s.shown
      ∧ exec (.sumStackReset t) s = .next s.shown)
    ∧ (∀ (s : State) (t x : Nat) (p : Path), s.applying pgLND = true → t < 64 → x < 0x10000 →
      exec (.sumClaim t p) s = .next (s.mezWait (.sumClaim t p)).shown ∧ exec (.sumComplete t x) s = .next (s.mezWait (.sumComplete t x)).shown
      ∧ exec (.sumStackReset t) s = .next (s.mezWait (.sumStackReset t)).shown
      ∧ exec (.sourceClrPend x) s = .next (s.mezWait (.sourceClrPend x)).shown
      ∧ exec (.sourceReassign x) s = .next (s.mezWait (.sourceReassign x)).shown)

/-! ### The management queue and the Mezzanine (spec/14_mezzanine.md) -/

/-- MGQ_DOORBELL, MGQ_RING_RESUME, RING_STOP, NOP, a reserved OP, COMMIT, ABORT, WAIT and STATION_CMD_TIMEOUT. A doorbell within the ring sets COUNT and starts an idle ring with work; another is counted
and captured with code 0x02. A stopped ring resumes. A failed fetch stops the ring with 0x07 and a wrong PHASE with 0x02. A command of the right PHASE advances CCOUNT and runs: NOP ends with 0, a
reserved OP with 0x01, ABORT with the number of writes discarded, COMMIT at once or at the apply's end, WAIT with its power request. A STATION command unanswered for 10 ms ends with 0x12.
The model's choices it rests on: log entries 139, 140, 142, 159. -/
def Obligations.ManagementRing : Prop :=
  (∀ (s : State) (p : Nat), p < 65536 →
      let c := s.gf pgMGQ MGQ.RING_STS_CCOUNT
      let t := s.sf pgMGQ MGQ.DB_COUNT p
      (subMod p c 16 ≤ 2 ^ s.mqSize ∧ t.gf pgMGQ MGQ.RING_STS_STATE = mqIDLE ∧ p ≠ c →
        exec (.mgqDoorbell p) s = .next (t.sf pgMGQ MGQ.RING_STS_STATE mqRUNNING).shown)
      ∧ (subMod p c 16 ≤ 2 ^ s.mqSize ∧ t.gf pgMGQ MGQ.RING_STS_STATE ≠ mqIDLE → exec (.mgqDoorbell p) s = .next t.shown)
      ∧ (2 ^ s.mqSize < subMod p c 16 → exec (.mgqDoorbell p) s =
          .next ((s.cnt pgMGQ MGQ.CNT_DB_IGNORED).error pgMGQ 3 0x02 (p + c * 2 ^ 16) 0 0).shown))
    ∧ (∀ (s : State),
      (s.gf pgMGQ MGQ.RING_STS_STATE = mqSTOPPED ∧ s.gf pgMGQ MGQ.DB_COUNT = s.gf pgMGQ MGQ.RING_STS_CCOUNT →
        exec .mgqRingResume s = .next (s.sf pgMGQ MGQ.RING_STS_STATE mqIDLE).shown)
      ∧ (s.gf pgMGQ MGQ.RING_STS_STATE = mqSTOPPED ∧ s.gf pgMGQ MGQ.DB_COUNT ≠ s.gf pgMGQ MGQ.RING_STS_CCOUNT →
        exec .mgqRingResume s = .next (s.sf pgMGQ MGQ.RING_STS_STATE mqRUNNING).shown)
      ∧ (s.gf pgMGQ MGQ.RING_STS_STATE ≠ mqSTOPPED → exec .mgqRingResume s = .next s.shown))
    ∧ (∀ (s : State) (c : BitVec 512), s.mqMayFetch = true →
      let stop := fun (code : Nat) => (s.sf pgMGQ MGQ.RING_STS_STATE mqSTOPPED).sf pgMGQ MGQ.RING_STS_STOP_CODE code
      (exec (.ringStop false c) s = .next ((stop 0x07).error pgMGQ 2 0x01
        ((stop 0x07).gf pgMGQ MGQ.RING_STS_CCOUNT + 0x07 * 2 ^ 16) 0 0).shown)
      ∧ (mqPhase c ≠ s.mqLap (s.gf pgMGQ MGQ.RING_STS_CCOUNT) → exec (.ringStop true c) s = .next ((stop 0x02).error pgMGQ 2 0x01
        ((stop 0x02).gf pgMGQ MGQ.RING_STS_CCOUNT + 0x02 * 2 ^ 16) 0 0).shown
        ∧ exec (.nop c) s = .next ((stop 0x02).error pgMGQ 2 0x01 ((stop 0x02).gf pgMGQ MGQ.RING_STS_CCOUNT + 0x02 * 2 ^ 16) 0 0).shown)
      ∧ (mqPhase c = s.mqLap (s.gf pgMGQ MGQ.RING_STS_CCOUNT) → exec (.ringStop true c) s = .next s.shown))
    ∧ (∀ (s : State) (c : BitVec 512), s.mqMayFetch = true → mqPhase c = s.mqLap (s.gf pgMGQ MGQ.RING_STS_CCOUNT) →
      let k := s.gf pgMGQ MGQ.RING_STS_CCOUNT
      let run : MgqRun := ⟨mqFields c, false, k, .commit⟩
      let t := (s.sf pgMGQ MGQ.RING_STS_CCOUNT ((k + 1) % 65536)).mqBegin run
      let fin := fun (u : State) => ((u.settle).mgqPump).settle
      (mqOp c = 0x00 → exec (.nop c) s = .next (fin (t.mgqEnd run ⟨0, 0, 0, 0, []⟩)).shown)
      ∧ (0x0A ≤ mqOp c → exec (.mgqReservedOp c) s = .next (fin (t.mgqEnd run ⟨0x01, 0, 0, 0, []⟩)).shown)
      ∧ (mqOp c = 0x03 ∧ t.mezCommit.2 = none → exec (.commit c) s = .next (fin (t.mezCommit.1.mgqWait run .commit)).shown)
      ∧ (mqOp c = 0x03 ∧ t.mezCommit.2 = some 0 → exec (.commit c) s = .next (fin (t.mezCommit.1.mgqEnd run ⟨0, 0, 0, 0, []⟩)).shown)
      ∧ (mqOp c = 0x03 ∧ t.mezCommit.2 = some 0x0B → exec (.commit c) s = .next (fin (t.mezCommit.1.mgqEnd run ⟨0x0B, 0,
          (t.mezCommit.1.reg (raddr pgMEZ 0x54)).toNat, (t.mezCommit.1.reg (raddr pgMEZ 0x58)).toNat, []⟩)).shown)
      ∧ (mqOp c = 0x04 → exec (.abort c) s = .next (fin (t.mezAbort.1.mgqEnd run ⟨t.mezAbort.2.1, t.mezAbort.2.2, 0, 0, []⟩)).shown)
      ∧ (mqOp c = 0x05 → exec (.wait c) s = .next (fin ((t.mgqWait run .power).powerRequest (mqPwr (mqFields c)))).shown))
    ∧ (∀ (s : State) (c : BitVec 512) (d : HostFetch), s.mqMayFetch = false → exec (.nop c) s = .next s.shown ∧ exec (.commit c) s = .next s.shown
      ∧ exec (.tblLoad c d) s = .next s.shown ∧ exec (.stationCfgRd c) s = .next s.shown)
    ∧ (∀ (s : State) (run : MgqRun) (a tag sent : Nat), s.mgq.cur = some run → run.wait = .station a tag sent →
      (s.due (sent + ms 10) = true → exec .stationCmdTimeout s = .next ((((s.mgqEnd run ⟨0x12, 0, 0, 0, []⟩).settle).mgqPump).settle).shown)
      ∧ (s.due (sent + ms 10) = false → exec .stationCmdTimeout s = .next s.shown))
    ∧ (∀ (s : State), s.mgq.cur = none → exec .stationCmdTimeout s = .next s.shown)

/-- TBL_LOAD, TBL_DUMP, AUDIT of either kind, PORT_TEST, VAULT_WRITE of each action and STATION of each kind. A load writes the entries its data give and ends with their number; a dump returns the entries. A table
that does not exist ends with 0x03 and a range past its end with 0x04. An audit of the Gallery ends with the cells reclaimed, one of the allowances with the two differences. A test of a port that is
off, asleep or waking ends with 0x10, any other runs and ends with its result. The Vault's actions end with what the Vault did, or 0x01 where it refuses. IDENT returns the identity, a configuration
access goes to the station, and a link without an identified station ends with 0x0F.
The model's choices it rests on: log entries 140, 141, 143. -/
def Obligations.ManagementCommands : Prop :=
  (∀ (s : State) (c : BitVec 512) (t0 : Tbl) (b : List Byte), s.mqMayFetch = true → mqPhase c = s.mqLap (s.gf pgMGQ MGQ.RING_STS_CCOUNT) →
      let k := s.gf pgMGQ MGQ.RING_STS_CCOUNT
      let run : MgqRun := ⟨mqFields c, false, k, .commit⟩
      let t := (s.sf pgMGQ MGQ.RING_STS_CCOUNT ((k + 1) % 65536)).mqBegin run
      let fin := fun (u : State) => ((u.settle).mgqPump).settle
      let i := mqArg1 (mqFields c) % 2 ^ 24
      let n := mqArg2 (mqFields c) % 2 ^ 21
      (mqOp c = 0x01 ∧ t.mqTransfer run = (some t0, 0) ∧ mqStage (mqFields c) = false ∧ b.length = n * t0.bytes →
        let es := (List.range ((b.take (n * t0.bytes)).length / t0.bytes)).map (fun j =>
          (BitVec.ofNat 1024 (ofBytes (((b.take (n * t0.bytes)).drop (j * t0.bytes)).take t0.bytes) % 2 ^ t0.info.width) : Entry))
        exec (.tblLoad c (.data b)) s = .next (fin ((t.each es.zipIdx (fun e s => s.tblDirect t0 (i + e.2) e.1)).mgqEnd run
          ⟨0, es.length, 0, 0, []⟩)).shown)
      ∧ (mqOp c = 0x02 ∧ t.mqTransfer run = (some t0, 0) → exec (.tblDump c) s = .next (fin ((t.mqReadAll t0 i n).1.mgqEnd run
          ⟨if (t.mqReadAll t0 i n).2.2 then 0x08 else 0, n, 0, 0, (t.mqReadAll t0 i n).2.1⟩)).shown)
      ∧ (mqOp c = 0x01 ∧ mqTable (mqArg0 (mqFields c)) = none ∧ fld (mqFields c) 64 4 = 0 → exec (.tblLoad c (.data b)) s =
          .next (fin (t.mgqEnd run ⟨0x03, 0, 0, 0, []⟩)).shown)
      ∧ (mqOp c = 0x02 ∧ mqTable (mqArg0 (mqFields c)) = none ∧ fld (mqFields c) 64 4 = 0 → exec (.tblDump c) s =
          .next (fin (t.mgqEnd run ⟨0x03, 0, 0, 0, []⟩)).shown)
      ∧ (mqOp c = 0x02 ∧ fld (mqFields c) 64 4 = 0 ∧ mqTable (mqArg0 (mqFields c)) = some t0 ∧ t0.info.count < i + n →
        exec (.tblDump c) s = .next (fin (t.mgqEnd run ⟨0x04, 0, 0, 0, []⟩)).shown))
    ∧ (∀ (s : State) (c : BitVec 512) (f tap : Nat) (q : Bool), s.mqMayFetch = true → mqPhase c = s.mqLap (s.gf pgMGQ MGQ.RING_STS_CCOUNT) →
      let k := s.gf pgMGQ MGQ.RING_STS_CCOUNT
      let run : MgqRun := ⟨mqFields c, false, k, .commit⟩
      let t := (s.sf pgMGQ MGQ.RING_STS_CCOUNT ((k + 1) % 65536)).mqBegin run
      let fin := fun (u : State) => ((u.settle).mgqPump).settle
      (mqOp c = 0x06 ∧ mqArg0 c % 2 = 0 ∧ mqArg0 (mqFields c) % 2 = 0 → exec (.auditGallery c) s = .next (fin (t.mqSweep run)).shown)
      ∧ (mqOp c = 0x06 ∧ mqArg0 c % 2 = 1 ∧ mqArg0 (mqFields c) % 2 = 1 → exec (.auditAllowance c) s = .next (fin (t.mgqEnd run
          ⟨0, subMod (t.drawSum HDR.PAGE_DRAW_VDD) (t.gf pgCIS CIS.GRANTED_VDD) 32, subMod (t.drawSum HDR.PAGE_DRAW_VDDL)
            (t.gf pgCIS CIS.GRANTED_VDDL) 32, 0, []⟩)).shown)
      ∧ (let p := mqArg0 (mqFields c) % 1024
        mqOp c = 0x07 ∧ (t.ph p = phDISABLED ∨ t.ph p = phSLEEP ∨ t.ph p = phWAKING) → exec (.portTest c f tap q) s =
          .next (fin (t.mgqEnd run ⟨0x10, 0, 0, 0, []⟩)).shown)
      ∧ (let p := mqArg0 (mqFields c) % 1024
        mqOp c = 0x07 ∧ (t.ph p = phACTIVE ∨ t.ph p = phFAULT ∨ t.ph p = phDETECT) → exec (.portTest c f tap q) s =
          .next (fin ((t.diagRun p f tap q).mqPortDone p run)).shown))
    ∧ (∀ (s : State) (c : BitVec 512) (b : List Byte), s.mqMayFetch = true → mqPhase c = s.mqLap (s.gf pgMGQ MGQ.RING_STS_CCOUNT) → mqOp c = 0x08 →
      let k := s.gf pgMGQ MGQ.RING_STS_CCOUNT
      let run : MgqRun := ⟨mqFields c, false, k, .commit⟩
      let t := (s.sf pgMGQ MGQ.RING_STS_CCOUNT ((k + 1) % 65536)).mqBegin run
      let fin := fun (u : State) => ((u.settle).mgqPump).settle
      let a0 := mqArg0 (mqFields c)
      let a1 := mqArg1 (mqFields c)
      let n := mqArg2 (mqFields c)
      mqArg0 c = a0 → t.vaultRefuses a0 a1 n = false → fld (mqFields c) 64 4 = 0 →
      (bits a0 4 2 = 0 ∧ b.length = n → exec (.vaultWriteData c (.data b)) s =
        .next (fin ((t.vaultWrite a0 a1 b).1.mgqEnd run (t.vaultWrite a0 a1 b).2)).shown)
      ∧ (bits a0 4 2 = 0 ∧ 0 < n → exec (.vaultWriteData c .failed) s = .next (fin (t.mgqEnd run ⟨0x07, 0, 0, 0, []⟩)).shown)
      ∧ (bits a0 4 2 = 1 → exec (.vaultCommit c) s = .next (fin ((t.vaultCommit a0).1.mgqEnd run (t.vaultCommit a0).2)).shown)
      ∧ (bits a0 4 2 = 2 → exec (.vaultErase c) s = .next (fin ((t.vaultErase a0).1.mgqEnd run (t.vaultErase a0).2)).shown))
    ∧ (∀ (s : State) (c : BitVec 512), s.mqMayFetch = true → mqPhase c = s.mqLap (s.gf pgMGQ MGQ.RING_STS_CCOUNT) → mqOp c = 0x08 →
      let k := s.gf pgMGQ MGQ.RING_STS_CCOUNT
      let run : MgqRun := ⟨mqFields c, false, k, .commit⟩
      let t := (s.sf pgMGQ MGQ.RING_STS_CCOUNT ((k + 1) % 65536)).mqBegin run
      let a0 := mqArg0 (mqFields c)
      mqArg0 c = a0 → bits a0 4 2 = 1 → t.vaultRefuses a0 (mqArg1 (mqFields c)) (mqArg2 (mqFields c)) = true →
      exec (.vaultCommit c) s = .next ((((t.mgqEnd run ⟨0x01, 0, 0, 0, []⟩).settle).mgqPump).settle).shown)
    ∧ (∀ (s : State) (c : BitVec 512) (w : Ident) (tag : Nat), s.mqMayFetch = true → mqPhase c = s.mqLap (s.gf pgMGQ MGQ.RING_STS_CCOUNT) →
      mqOp c = 0x09 →
      let k := s.gf pgMGQ MGQ.RING_STS_CCOUNT
      let run : MgqRun := ⟨mqFields c, false, k, .commit⟩
      let t := (s.sf pgMGQ MGQ.RING_STS_CCOUNT ((k + 1) % 65536)).mqBegin run
      let fin := fun (u : State) => ((u.settle).mgqPump).settle
      let a := mqArg0 c % 1024
      t.quiesce (pgPRT a) = false → mqArg0 (mqFields c) = mqArg0 c → mqOp (mqFields c) = 9 → fld (mqFields c) 48 2 = bits (mqArg0 c) 16 2 → fld (mqFields c) 64 4 = 0 →
      (bits (mqArg0 c) 16 2 = 0 ∧ t.stationUp a = true ∧ (t.lard a).ident = some w → exec (.stationIdent c) s = .next (fin (t.mgqEnd run
        ⟨0, 0, 0, 0, w.words.flatMap (fun w => bytesOf 8 w.toNat)⟩)).shown)
      ∧ (bits (mqArg0 c) 16 2 = 1 ∧ t.stationUp a = true ∧ t.freeTag a = some tag → exec (.stationCfgRd c) s = .next (fin (((t.takeTag a tag
        (.stationCmd 1)).ownFrame a (mkCtl opCFGRD tag (mqArg1 (mqFields c) % 65536) [])).mgqWait run (.station a tag t.clock))).shown)
      ∧ (bits (mqArg0 c) 16 2 = 2 ∧ t.stationUp a = true ∧ t.freeTag a = some tag → exec (.stationCfgWr c) s = .next (fin (((t.takeTag a tag
        (.stationCmd 0)).ownFrame a (mkCtl opCFGWR tag (mqArg1 (mqFields c) % 65536) [BitVec.ofNat 64 (mqArg2 (mqFields c))])).mgqWait run
          (.station a tag t.clock))).shown)
      ∧ (bits (mqArg0 c) 16 2 = 1 ∧ t.stationUp a = false → exec (.stationCfgRd c) s = .next (fin (t.mgqEnd run ⟨0x0F, 0, 0, 0, []⟩)).shown)
      ∧ (bits (mqArg0 c) 16 2 = 3 → exec (.mgqReservedOp c) s = .next (fin (t.mgqEnd run ⟨0x01, 0, 0, 0, []⟩)).shown))

/-- R468: staging into an open transaction that holds 16,384 writes is refused (RESULT 1), leaves the staged writes as they are, advances OVERFLOWS, sets OVERFLOW and its event bit 2
and captures error code 0x02; and a commit of a transaction marked OVERFLOW is refused with STATUS 0x0B and applies nothing. -/
def Obligations.FullTransactionOverflows : Prop :=
  (∀ (s : State) (w : Staged), s.mezSt = mzOPEN → s.gb pgDEV DEV.FEAT_EN_MEZ = true → s.active pgMEZ = true →
      s.gb pgMEZ HDR.PAGE_CTL_QUIESCE = false → 16384 ≤ s.mez.staged.length →
      s.stage w = ((((s.sf pgMEZ MEZ.MEZ_STS_OVERFLOW 1).cnt pgMEZ MEZ.CNT_OVERFLOWS).error pgMEZ 2 0x02 (w.conflict0 0) 0 0), 1)
      ∧ (s.stage w).1.mez = s.mez
      ∧ (s.stage w).1.gb pgMEZ MEZ.MEZ_STS_OVERFLOW = true)
    ∧ (∀ (s : State) (u : Tbl) (i a : Nat), s.mezSt = mzOPEN → s.mez.staged ≠ [] → s.gb pgMEZ MEZ.MEZ_STS_OVERFLOW = true →
      s.mezCommit.2 = some 0x0B ∧ s.mezCommit.1.mez.staged = []
      ∧ (tkey u i / 2 ^ 24 ≠ tkey .src 0 / 2 ^ 24 → s.mezCommit.1.ent u i = s.ent u i)
      ∧ (stageTarget a = true → a ≠ raddr pgLND LND.CNT_HOLDOFF_WAITS → s.mezCommit.1.reg a = s.reg a))

/-- STAGE_REGISTER, MEZ_COMMIT, MEZ_ABORT and MEZ_APPLY. A register write is staged at the end of the transaction, which opens, and its page shows STAGED; a target that is not stageable gives
RESULT 3 and a closed Mezzanine RESULT 2; before a quiesced Mezzanine it waits. A commit of nothing ends at once; one that no rule refuses makes STATE APPLYING; a refused one discards the transaction and captures code
0x01. A commit or an abort during an apply changes LAST_STATUS alone. An abort discards it and counts. The apply lets every staged write act in staging order, releases the blocks, records its time and counts; without a commit it does nothing.
The model's choices it rests on: log entries 144, 145, 156, 158. -/
def Obligations.MezzanineTransactions : Prop :=
  (∀ (s : State) (v : Word), let a := s.gf pgMEZ MEZ.STAGE_ADDR_OFFSET * 4
      s.mezSt ≠ mzAPPLYING → s.gb pgDEV DEV.FEAT_EN_MEZ = true → s.active pgMEZ = true → s.gb pgMEZ HDR.PAGE_CTL_QUIESCE = false →
      (stageTarget a = true ∧ s.mez.staged.length < 16384 → exec (.stageRegister v) s = .next (((({ s with mez := { s.mez with
          staged := s.mez.staged ++ [.reg a v] } } : State).sf pgMEZ MEZ.MEZ_STS_STATE mzOPEN).sf (a / 4096) HDR.PAGE_STS_STAGED 1).sf pgMEZ
            MEZ.STAGE_STS_RESULT 0).shown)
      ∧ (stageTarget a = false → exec (.stageRegister v) s = .next (s.sf pgMEZ MEZ.STAGE_STS_RESULT 3).shown))
    ∧ (∀ (s : State) (v : Word), s.mezSt ≠ mzAPPLYING → s.active pgMEZ = false →
      exec (.stageRegister v) s = .next (s.sf pgMEZ MEZ.STAGE_STS_RESULT 2).shown)
    ∧ (∀ (s : State) (v : Word), s.mezHolds = true → stageTarget (s.gf pgMEZ MEZ.STAGE_ADDR_OFFSET * 4) = true →
      exec (.stageRegister v) s = .next ({ s with mez := { s.mez with
        held := s.mez.held ++ [(.reg (s.gf pgMEZ MEZ.STAGE_ADDR_OFFSET * 4) v, none)] } } : State).shown)
    ∧ (∀ (s : State), s.mezSt ≠ mzAPPLYING →
      (s.mez.staged = [] → exec .mezCommit s = .next (s.sf pgMEZ MEZ.MEZ_STS_LAST_STATUS 0).shown
        ∧ exec .mezAbort s = .next (s.sf pgMEZ MEZ.MEZ_STS_LAST_STATUS 0).shown)
      ∧ (s.mez.staged ≠ [] ∧ s.commitReason = none → exec .mezCommit s = .next (({ s with mez := { s.mez with start := s.clock } } : State).sf pgMEZ
          MEZ.MEZ_STS_STATE mzAPPLYING).shown)
      ∧ (s.mez.staged ≠ [] → exec .mezAbort s = .next (((s.sf pgMEZ MEZ.MEZ_STS_LAST_STATUS 0).mezDiscard).cnt pgMEZ MEZ.CNT_ABORTS).shown))
    ∧ (∀ (s : State) (w : Option Staged) (r : Nat), s.mezSt ≠ mzAPPLYING → s.mez.staged ≠ [] → s.commitReason = some (w, r) →
      exec .mezCommit s = .next (s.commitRefuse w r).shown ∧ (s.commitRefuse w r).mez.staged = [])
    ∧ (∀ (s : State), s.mezSt = mzAPPLYING → exec .mezCommit s = .next (s.sf pgMEZ MEZ.MEZ_STS_LAST_STATUS 0x0C).shown
      ∧ exec .mezAbort s = .next (s.sf pgMEZ MEZ.MEZ_STS_LAST_STATUS 0x0C).shown)
    ∧ (∀ (s : State), s.mezDiscard.mez.staged = [] ∧ s.mezDiscard.gf pgMEZ MEZ.MEZ_STS_STATE = 0)
    ∧ (∀ (s : State) (w : Staged), w ∈ s.mez.staged → s.mezDiscard.gb w.page HDR.PAGE_STS_STAGED = false)
    ∧ (∀ (s : State) (ns : Nat), s.mezSt = mzAPPLYING → s.mgq = Mgq.reset →
      let t := (s.each s.mez.staged (fun w s => s.applyOne w)).mezRelease
      let u := ((((t.sf pgMEZ MEZ.APPLY_NS_NS ns).sf pgMEZ MEZ.MEZ_STS_LAST_STATUS 0).cnt pgMEZ MEZ.CNT_COMMITS).cnt pgMEZ MEZ.CNT_WRITES_APPLIED
        s.mez.staged.length).event pgMEZ 0
      u.mgq = Mgq.reset → u.mez.deferred = [] → u.mez.held = [] →
      exec (.mezApply ns) s = .next (({ u with mez := { u.mez with deferred := [] } } : State).settle).shown)
    ∧ (∀ (s : State) (ns : Nat), s.mezSt ≠ mzAPPLYING → exec (.mezApply ns) s = .next s.shown)

/-! ### The Erg memory controller (spec/15_erg.md) -/

/-- ERG_PLL_LOCKED, ERG_TRAINING_DONE, ERG_FILL_DONE, ERG_SCRUB_PASS, ERG_SPARING_START, ERG_SPARING_DONE and ERG_CHANNEL_FAIL. The lock of the PLL makes an enabling global page ACTIVE. A channel trained after
its times is ACTIVE when its contents were kept, else every byte reads 0 and it is in FILL; a failure captures code 0x04, returns the allowance and sets EN 0. After the fill the channel is ACTIVE. A scrub
counts its fixes and its pass and captures each uncorrectable codeword. Sparing starts above CE_TH corrections or at an uncorrectable error, once, and ends with SPARED set. A failure captures
code 0x03 with its cause and the spilled frames, which are lost. Where its condition is not met, a command leaves the state.
The model's choices it rests on: log entries 106, 107. -/
def Obligations.ErgChannels : Prop :=
  (∀ (s : State), s.gb pgERG HDR.PAGE_STS_EN_PENDING = true → s.gb pgERG HDR.PAGE_CTL_EN = true → s.active pgERG = false →
      exec .ergPllLocked s = .next (s.sf pgERG HDR.PAGE_STS_EN_PENDING 0 |>.sf pgERG HDR.PAGE_STS_ACTIVE 1).ergShow.shown)
    ∧ (∀ (s : State), s.gb pgERG HDR.PAGE_STS_EN_PENDING = false → exec .ergPllLocked s = .next s.shown)
    ∧ (∀ (s : State) (c step lane : Nat), c < 4 → s.ergSt c = erINIT →
      let kept := s.erg.retained.contains c
      let lost := s.ergLose c
      let due := s.due (SMap.get (fun _ => 0) s.erg.since c + us (if kept then 200 else 700))
      (due = true ∧ kept = true → exec (.ergTrainingDone c .ok) s = .next (s.ergReady c true).shown)
      ∧ (due = true ∧ kept = false → exec (.ergTrainingDone c .ok) s = .next (lost.setErgSt c erFILL).ergShow.shown)
      ∧ (due = true → exec (.ergTrainingDone c (.failed step lane)) s = .next
        ((((((lost.setErgSt c erFAILED).sf (pgERGC c) HDR.PAGE_CTL_EN 0).sf (pgERGC c) HDR.PAGE_STS_EN_PENDING 0).giveBackAll (pgERGC c)).error
          (pgERGC c) 5 0x04 (step % 16) (lane % 256) 0).ergShow).shown)
      ∧ (due = false → exec (.ergTrainingDone c .ok) s = .next s.shown ∧ exec (.ergTrainingDone c (.failed step lane)) s = .next s.shown))
    ∧ (∀ (s : State) (c : Nat), c < 4 → s.ergSt c ≠ erINIT → exec (.ergTrainingDone c .ok) s = .next s.shown)
    ∧ (∀ (s : State) (c x : Nat), c * 2 ^ 36 ≤ x → x < c * 2 ^ 36 + 2 ^ 36 → Memory.read (s.ergLose c).erg.mem x = 0)
    ∧ (∀ (s : State) (c x : Nat), x < c * 2 ^ 36 ∨ c * 2 ^ 36 + 2 ^ 36 ≤ x → Memory.read (s.ergLose c).erg.mem x = Memory.read s.erg.mem x)
    ∧ (∀ (s : State) (c : Nat), c < 4 → (s.ergSt c = erFILL → exec (.ergFillDone c) s = .next (s.ergReady c false).shown)
      ∧ (s.ergSt c ≠ erFILL → exec (.ergFillDone c) s = .next s.shown))
    ∧ (∀ (s : State) (c : Nat) (k : Bool), c < 4 → (s.ergReady c k).ergSt c = erACTIVE ∧ (s.ergReady c k).active (pgERGC c) = true
      ∧ (s.ergReady c k).gb (pgERGC c) HDR.PAGE_STS_EN_PENDING = false ∧ (s.ergReady c k).gb (pgERGC c) ERGC.CH_STS_RETAINED = k
      ∧ (s.ergReady c k).erg.retained.contains c = false ∧ (s.ergReady c k).erg.mem = s.erg.mem)
    ∧ (∀ (s : State) (c fixes : Nat) (u : List (Nat × Nat)), c < 4 →
      (s.gb pgERG ERG.SCRUB_CTL_EN = true ∧ s.ergSt c = erACTIVE → exec (.ergScrubPass c fixes u) s =
        .next (((s.cnt (pgERGC c) ERGC.CNT_SCRUB_FIXES fixes).cnt (pgERGC c) ERGC.CNT_SCRUB_PASSES).each u (fun u s =>
          (s.cnt (pgERGC c) ERGC.CNT_UNCORRECTABLE).error (pgERGC c) 1 0x01 (u.1 % 2 ^ 36 % 2 ^ 32)
            (u.1 % 2 ^ 36 / 2 ^ 32 % 16 + u.2 % 2 * 16 + 32) (s.ergRegion c (u.1 % 2 ^ 36)))).shown)
      ∧ (s.gb pgERG ERG.SCRUB_CTL_EN = false ∨ s.ergSt c ≠ erACTIVE → exec (.ergScrubPass c fixes u) s = .next s.shown))
    ∧ (∀ (s : State) (c dev n : Nat) (u : Bool), c < 4 →
      let t := ((s.cnt (pgERGC c) ERGC.CNT_CORRECTED n).sf (pgERGC c) ERGC.LAST_CORR_DEVICE dev).sf (pgERGC c) ERGC.LAST_CORR_RANK 0
      let may := s.ergSpares = true ∧ s.ergSt c = erACTIVE ∧ s.gb (pgERGC c) ERGC.CH_STS_SPARED = false
      (may ∧ (u = true ∨ max 1 (s.gf pgERG ERG.ERG_CFG_CE_TH) < n) → exec (.ergSparingStart c dev n u) s =
        .next ((t.setErgSt c erSPARING).error (pgERGC c) 2 0x02 (dev % 32 + b2n u * 32) n 0).ergShow.shown)
      ∧ (s.ergSpares = false ∨ s.ergSt c ≠ erACTIVE ∨ s.gb (pgERGC c) ERGC.CH_STS_SPARED = true ∨ (u = false ∧ n ≤ max 1 (s.gf pgERG ERG.ERG_CFG_CE_TH)) →
        exec (.ergSparingStart c dev n u) s = .next s.shown))
    ∧ (∀ (s : State) (c : Nat), c < 4 → (s.ergSt c = erSPARING → exec (.ergSparingDone c) s =
        .next (((s.setErgSt c erACTIVE).sf (pgERGC c) ERGC.CH_STS_SPARED 1).event (pgERGC c) 3).ergShow.shown)
      ∧ (s.ergSt c ≠ erSPARING → exec (.ergSparingDone c) s = .next s.shown))
    ∧ (∀ (s : State) (c : Nat), c < 4 →
      let held := s.gal.frames.filter (fun e => e.2.spill == some c && e.2.back != 2)
      let fail := fun (code : Nat) => ((((s.setErgSt c erFAILED).error (pgERGC c) 4 0x03 code held.length 0).spillLost c).ergShow).settle
      (s.ergSt c = erACTIVE ∨ s.ergSt c = erSPARING → exec (.ergChannelFail c .uncorrectable) s = .next (fail 0).shown
        ∧ exec (.ergChannelFail c .caParity) s = .next (fail 1).shown ∧ exec (.ergChannelFail c .zq) s = .next (fail 2).shown
        ∧ exec (.ergChannelFail c .forced) s = .next (fail 3).shown)
      ∧ (s.ergSt c ≠ erACTIVE ∧ s.ergSt c ≠ erSPARING → exec (.ergChannelFail c .zq) s = .next s.settle.shown))

/-- ERG_ACCESS_DONE. The next part of an access at the Erg is performed in the order of its hall and class. A channel that is absent, an offset past USABLE or in the spill region is answered with CODE 0x01, a
write into the history region with 0x02, a channel that does not serve with 0x03; these store nothing. An access with CODE 0 is counted; a write stores the bytes it carries, at its place, and no other; an atomic
stores its result at the bytes of its operand, and the answer holds the bytes before it. An uncorrectable codeword is captured and answered with 0x05. With no such part the command leaves the state.
The model's choices it rests on: log entries 9, 14, 108. -/
def Obligations.ErgAccesses : Prop :=
  (∀ (s : State) (i k : Nat) (a : Acc) (p : Part), s.ergNext i = some (i, a, k, p) →
      let c := ergChan p
      let t := s.cnt (pgERGC c) ERGC.CNT_USER_ACCESSES
      let off := p.base % 2 ^ 36
      (s.ergCode a p = 0 → exec (.ergAccessDone i false) s = .next (((t.ergDo a p).ergAnswer i k a p 0 (t.ergWords a p)).settle).shown)
      ∧ (s.ergCode a p ≠ 0 → exec (.ergAccessDone i false) s = .next ((s.ergAnswer i k a p (s.ergCode a p) []).settle).shown
        ∧ exec (.ergAccessDone i true) s = .next ((s.ergAnswer i k a p (s.ergCode a p) []).settle).shown)
      ∧ (s.ergCode a p = 0 ∧ a.op ≠ .write ∧ (t.ergUncorr c off (t.ergRankOf c off) false).ergRegion c off = 2 →
        exec (.ergAccessDone i true) s = .next (((t.ergUncorr c off (t.ergRankOf c off) false).ergAnswer i k a p 0x05 []).settle).shown)
      ∧ (s.ergCode a p = 0 ∧ a.op = .write → exec (.ergAccessDone i true) s =
        .next (((t.ergDo a p).ergAnswer i k a p 0 (t.ergWords a p)).settle).shown))
    ∧ (∀ (s : State) (i : Nat) (u : Bool), s.ergNext i = none → exec (.ergAccessDone i u) s = .next s.settle.shown)
    ∧ (∀ (s : State) (a : Acc) (p : Part),
      let c := ergChan p
      let off := p.base % 2 ^ 36
      let there := bitAt (s.gf pgERG ERG.ERG_CFG_CH_PRESENT) c = true
      let serves := s.ergSt c = erACTIVE ∨ s.ergSt c = erSPARING
      let within := off / 2 ^ 26 < s.ergUsable
      (¬ there → s.ergCode a p = 0x01)
      ∧ (there ∧ ¬ serves → s.ergCode a p = 0x03)
      ∧ (there ∧ serves ∧ ¬ within → s.ergCode a p = 0x01)
      ∧ (there ∧ serves ∧ within ∧ s.histSize c ≤ off / 2 ^ 26 ∧ off / 2 ^ 26 < s.histSize c + s.spillSize c → s.ergCode a p = 0x01)
      ∧ (there ∧ serves ∧ within ∧ off / 2 ^ 26 < s.histSize c ∧ a.op ≠ .read → s.ergCode a p = 0x02)
      ∧ (there ∧ serves ∧ within ∧ off / 2 ^ 26 < s.histSize c ∧ a.op = .read → s.ergCode a p = 0)
      ∧ (there ∧ serves ∧ within ∧ s.histSize c + s.spillSize c ≤ off / 2 ^ 26 → s.ergCode a p = 0))
    ∧ (∀ (s : State) (a : Acc) (p : Part) (x : Nat), a.op = .write → x < p.base ∨ p.base + p.cells.length ≤ x →
      Memory.read (s.ergDo a p).erg.mem x = Memory.read s.erg.mem x)
    ∧ (∀ (s : State) (a : Acc) (p : Part) (j : Nat) (b : Byte), a.op = .write →
      (p.cells[j]? = some (some b) → Memory.read (s.ergDo a p).erg.mem (p.base + j) = b)
      ∧ (p.cells[j]? = some none → Memory.read (s.ergDo a p).erg.mem (p.base + j) = Memory.read s.erg.mem (p.base + j)))
    ∧ (∀ (s : State) (a : Acc) (p : Part) (x : Nat), a.op = .atomic .swap → x < p.first ∨ p.first + (p.cells.filterMap id).length ≤ x →
      Memory.read (s.ergDo a p).erg.mem x = Memory.read s.erg.mem x)
    ∧ (∀ (s : State) (a : Acc) (p : Part), (a.op = .atomic .swap → s.ergDo a p = { s with erg := { s.erg with
        mem := Memory.writeN s.erg.mem p.first (p.cells.filterMap id) } })
      ∧ (a.op = .read → s.ergDo a p = s ∧ s.ergWords a p = wordsOf p.nw (Memory.readN s.erg.mem p.base (8 * p.nw))))
    ∧ (∀ (old opnd cmp : List Byte), ergAtomic .fadd old opnd cmp = bytesOf old.length (ofBytes old + ofBytes opnd)
      ∧ ergAtomic .cas old opnd old = opnd ∧ ergAtomic .swap old opnd cmp = opnd ∧ (old ≠ cmp → ergAtomic .cas old opnd cmp = old))

/-! ### Power states, the Cistern and the supplies (spec/16, spec/17) -/

/-- The five PWR_REQ rows, by register or by WAIT, STOP_BLOCK_STOPPED and STOP_TIMEOUT. A request sets the fields of PWR_REQ and is judged: result 0x4 for a reserved TARGET or a lower state asked for
below STANDBY, 0x0 for the present state; one of the same TARGET joins; RUN rolls the request in progress back with 0x3; another lower state is held; else the stop sequence begins. When the block at its turn has
stopped, the next one is taken; after the last, STANDBY is entered and a lower state armed. A block that has not stopped in STOP_US refuses: the QUIESCE set by the device is undone and the request
ends with result 0x1, PWR_REFUSER, ROLLBACK and code 0x01.
The model's choices it rests on: log entries 110, 113, 116. -/
def Obligations.PowerRequests : Prop :=
  (∀ (s : State) (m : Nat), s.sys.hkOn = true →
      let row := fun (target modes : Nat) => (s.setReg (raddr pgOAS 0x40) (BitVec.ofNat 32 (target + modes % 8 * 256))).powerRequest ⟨target, modes % 8, false⟩
      exec (.pwrReqRun false) s = .next (row 0 0).shown ∧ exec (.pwrReqStandby false m) s = .next (row 1 m).shown
      ∧ exec (.pwrReqSleep false m) s = .next (row 2 m).shown ∧ exec (.pwrReqDeepSleep false m) s = .next (row 3 m).shown
      ∧ exec (.pwrReqOff false m) s = .next (row 4 m).shown)
    ∧ (∀ (s : State) (m : Nat), s.sys.hkOn = false → exec (.pwrReqRun false) s = .next s.shown ∧ exec (.pwrReqStandby false m) s = .next s.shown
      ∧ exec (.pwrReqSleep false m) s = .next s.shown ∧ exec (.pwrReqDeepSleep false m) s = .next s.shown ∧ exec (.pwrReqOff false m) s = .next s.shown)
    ∧ (∀ (s : State) (m : Nat),
      let cmd := fun (target modes : Nat) => BitVec.ofNat 512 (5 + b2n (s.mqLap (s.gf pgMGQ MGQ.RING_STS_CCOUNT)) * 2 ^ 8
        + (target + modes % 8 * 256) * 2 ^ 32)
      exec (.pwrReqRun true) s = exec (.wait (cmd 0 0)) s ∧ exec (.pwrReqStandby true m) s = exec (.wait (cmd 1 m)) s
      ∧ exec (.pwrReqSleep true m) s = exec (.wait (cmd 2 m)) s ∧ exec (.pwrReqDeepSleep true m) s = exec (.wait (cmd 3 m)) s
      ∧ exec (.pwrReqOff true m) s = exec (.wait (cmd 4 m)) s)
    ∧ (∀ (s : State) (r : PwrReq), let st := s.gf pgOAS OAS.PWR_STS_STATE
      (5 ≤ r.target ∨ (r.target ≠ 0 ∧ 2 ≤ st) → s.powerRequest r = s.endReq 4 r)
      ∧ (s.oas.cur = none ∧ r.target = 0 ∧ st = 0 → s.powerRequest r = s.endReq 0 r)
      ∧ (s.oas.cur = none ∧ s.oas.waking = false ∧ st < 2 ∧ r.target < 5 ∧ r.target ≠ 0 ∧ r.target = st → s.powerRequest r = s.endReq 0 r)
      ∧ (s.oas.cur = none ∧ s.oas.waking = false ∧ st < 2 ∧ r.target < 5 ∧ r.target ≠ 0 ∧ r.target ≠ st → s.powerRequest r = s.seqStart r)
      ∧ (s.oas.cur = none ∧ s.oas.waking = true ∧ st < 2 ∧ r.target < 5 ∧ r.target ≠ 0 → s.powerRequest r = s.hold r))
    ∧ (∀ (s : State) (r c : PwrReq), s.gf pgOAS OAS.PWR_STS_STATE < 2 → r.target < 5 → s.oas.cur = some c →
      let armed := s.gb pgOAS OAS.PWR_STS_ARMED
      (c.target = r.target ∧ armed = true → s.powerRequest r = s.endReq 0 r)
      ∧ (c.target = r.target ∧ armed = false → s.powerRequest r = { s with oas := { s.oas with joined := s.oas.joined ++ [r] } })
      ∧ (c.target ≠ r.target ∧ r.target = 0 → s.powerRequest r = ((s.seqUndo.endAll 3).endReq 0 r).heldGo.settle)
      ∧ (c.target ≠ r.target ∧ r.target ≠ 0 ∧ armed = false → s.powerRequest r = s.hold r))
    ∧ (∀ (s : State) (r : PwrReq), (s.oas.held = none → s.hold r = s.setHeld (some r))
      ∧ (∀ h, s.oas.held = some h → s.hold r = (s.setHeld (some r)).endReq 3 h)
      ∧ (s.setHeld (some r)).gb pgOAS OAS.PWR_STS_HELD = true ∧ (s.setHeld none).gb pgOAS OAS.PWR_STS_HELD = false)
    ∧ (∀ (s : State) (t m code : Nat), (code ≠ 3 → s.endReq code ⟨t, m, false⟩ = (s.sf pgOAS OAS.PWR_STS_RESULT code).event pgOAS 1)
      ∧ (code = 3 → s.endReq code ⟨t, m, false⟩ = ((s.cnt pgOAS OAS.CNT_SUPERSEDED).sf pgOAS OAS.PWR_STS_RESULT 3).event pgOAS 1))
    ∧ (∀ (s : State) (r : PwrReq), r.target < 8 → (s.seqStart r).oas.cur = some r ∧ (s.seqStart r).oas.stopAt = 0
      ∧ (s.seqStart r).gf pgOAS OAS.PWR_STS_TARGET = r.target ∧ (s.seqStart r).gb pgOAS OAS.PWR_STS_BUSY = true
      ∧ (s.seqStart r).gb pgOAS OAS.PWR_STS_ARMED = false
      ∧ (s.seqStart r).oas.deadline = s.clock + us (s.gf1 pgOAS OAS.OAS_CTL_STOP_US))
    ∧ (∀ (s : State) (r : PwrReq) (e : Nat), e < 128 → s.oas.stopped = [] → s.active (pgCVE e) = true → (s.seqStart r).quiesce (pgCVE e) = true)
    ∧ (∀ (s : State) (r : PwrReq), s.oas.waking = false → s.oas.cur = some r → r.target ≠ 0 →
      let t := s.wakeAny
      let i := s.oas.stopAt
      let go := t.gb pgOAS OAS.PWR_STS_ARMED = false ∧ t.stopOk i r.target = true
      (t.gb pgOAS OAS.PWR_STS_ARMED = true ∨ t.stopOk i r.target = false → exec .stopBlockStopped s = .next t.shown)
      ∧ (go ∧ i ≠ 4 ∧ i ≠ 5 ∧ i + 1 = lastStop r.target ∧ r.target = 1 → exec .stopBlockStopped s = .next (t.standbyEnter r).shown)
      ∧ (go ∧ i ≠ 4 ∧ i ≠ 5 ∧ i + 1 = lastStop r.target ∧ r.target ≠ 1 → exec .stopBlockStopped s = .next (t.seqArm r).shown)
      ∧ (go ∧ i ≠ 4 ∧ i ≠ 5 ∧ i + 1 ≠ lastStop r.target ∧ (t.seqTurn (i + 1)).refusesNow (i + 1) r.target = none →
        exec .stopBlockStopped s = .next (t.seqTurn (i + 1)).shown)
      ∧ (go ∧ i = 4 ∧ (t.stopGroups.seqTurn 5).refusesNow 5 r.target = none → exec .stopBlockStopped s = .next (t.stopGroups.seqTurn 5).shown)
      ∧ (go ∧ i = 5 ∧ (t.stopErg.seqTurn 6).refusesNow 6 r.target = none → exec .stopBlockStopped s = .next (t.stopErg.seqTurn 6).shown))
    ∧ (∀ (s : State) (r : PwrReq) (k : Nat), s.oas.waking = false → s.oas.cur = some r → r.target ≠ 0 → s.oas.stopAt = 4 →
      let u := s.wakeAny.stopGroups.seqTurn 5
      (s.wakeAny.gb pgOAS OAS.PWR_STS_ARMED = false ∧ s.wakeAny.stopOk 4 r.target = true ∧ u.refusesNow 5 r.target = some k →
        exec .stopBlockStopped s = .next (u.seqRefuse r k).shown))
    ∧ (∀ (s : State) (r : PwrReq) (inst : Nat) (b : Blk) (k : Nat), s.oas.waking = false → s.oas.cur = some r → r.target ≠ 0 →
      blkOf (stopPage s.oas.stopAt inst) = some (b, k) →
      let t := s.wakeAny
      let i := s.oas.stopAt
      let waits := t.gb pgOAS OAS.PWR_STS_ARMED = false ∧ stopReason i ≠ 0 ∧ t.stopOk i r.target = false
      let u := ((t.seqUndo.sf pgOAS OAS.PWR_REFUSER_REASON (stopReason t.oas.stopAt)).sf pgOAS OAS.PWR_REFUSER_INSTANCE (instanceField b k)).sf pgOAS
        OAS.PWR_REFUSER_BLOCK b.id
      (waits ∧ (t.due t.oas.deadline = true ∨ t.refusesSeen i inst = true) ∧ t.oas.stopAt = i → exec (.stopTimeout inst) s = .next
        ((((u.cnt pgOAS OAS.CNT_ROLLBACKS).error pgOAS 2 0x01 (u.reg (raddr pgOAS 0x48)).toNat r.target (t.oas.stopped.filter (fun e => !(stopPages i).contains e.1)).length).endAll 1).heldGo.settle).shown)
      ∧ (waits ∧ t.due t.oas.deadline = false ∧ t.refusesSeen i inst = false → exec (.stopTimeout inst) s = .next t.shown))
    ∧ (∀ (s : State) (inst : Nat), s.oas.waking = false → s.oas.cur = none →
      exec (.stopTimeout inst) s = .next s.wakeAny.shown ∧ exec .stopBlockStopped s = .next s.wakeAny.shown)
    ∧ ((List.range 12).map stopReason = [1, 0, 2, 3, 4, 5, 6, 0, 7, 0, 8, 9] ∧ (List.range 12).map (fun i => stopPages i) =
      [pgCVN :: (List.range 128).map pgCVE, [pgMIR], [pgBRG], [pgSWC], (List.range 1024).map pgPRT, (List.range 4).map pgERGC, [pgHLM], [pgWAD, pgPOL, pgSCH], [pgMEZ], [pgLND], [pgHST], [pgVLT]]
      ∧ lastStop 1 = 9 ∧ lastStop 2 = 11 ∧ lastStop 3 = 12 ∧ lastStop 4 = 12)

/-- WAKE_IN_LOW, WAKE_TIMER, OASIS_LIST_WAKE, THERMAL_COOL_WAKE, STANDBY_RETURN, WAKE_FLAG_CLEAR and XO32_STOPPED. A cause of the state in force sets its flag; STANDBY asks for V_RUN and returns when it is confirmed,
SLEEP asks the host for D0 by PME, DEEP_SLEEP drives WAKE_N low and boots, OFF drives WAKE_N low. A cause that is not enabled, not due or not listed leaves the state. Clearing the last flag releases WAKE_N. The loss
of the crystal starts the RC clock and captures code 0x02.
The model's choices it rests on: log entries 112, 113, 114, 118. -/
def Obligations.Wakes : Prop :=
  (∀ (s : State), let st := s.gf pgOAS OAS.PWR_STS_STATE
      let below := 1 ≤ st ∧ (s.sys.hkOn = true ∨ 3 ≤ st)
      (below ∧ bitAt s.oas.modes 2 = true → exec .wakeInLow s = .next (s.wakeBy OAS.WAKE_FLAG_WAKE_IN).shown)
      ∧ (¬ below ∨ bitAt s.oas.modes 2 = false → exec .wakeInLow s = .next s.shown)
      ∧ (below ∧ bitAt s.oas.modes 1 = true ∧ s.due (s.oas.entered + ceilDiv (s.gf1 pgOAS OAS.WAKE_TIMER_TICKS * 1000000000) 32768) = true →
        exec .wakeTimer s = .next (s.wakeBy OAS.WAKE_FLAG_TIMER).shown)
      ∧ (¬ below ∨ bitAt s.oas.modes 1 = false ∨ s.due (s.oas.entered + ceilDiv (s.gf1 pgOAS OAS.WAKE_TIMER_TICKS * 1000000000) 32768) = false →
        exec .wakeTimer s = .next s.shown))
    ∧ (∀ (s : State) (slot x : Nat), s.oas.wakeList.find? (fun e => e.1 == slot) = some (slot, x) →
      let st := s.gf pgOAS OAS.PWR_STS_STATE
      let wakes := (st = 2 ∧ s.sys.hkOn = true) ∨ 3 ≤ st
      (wakes ∧ srcAlive st x = true → exec (.oasisListWake slot) s = .next ((s.oasLatch slot x).wakeBy OAS.WAKE_FLAG_LIST).shown)
      ∧ (¬ wakes ∨ srcAlive st x = false → exec (.oasisListWake slot) s = .next s.shown))
    ∧ (∀ (s : State) (slot : Nat), s.oas.wakeList.find? (fun e => e.1 == slot) = none → exec (.oasisListWake slot) s = .next s.shown)
    ∧ (∀ (s : State) (t trip : Nat), s.oas.tripTemp = some trip →
      (s.gf pgOAS OAS.PWR_STS_STATE = 3 ∧ t + 20 < s.oas.tripAt → exec (.thermalCoolWake t) s = .next (s.wakeBy OAS.WAKE_FLAG_THERMAL).shown)
      ∧ (s.gf pgOAS OAS.PWR_STS_STATE ≠ 3 ∨ s.oas.tripAt ≤ t + 20 → exec (.thermalCoolWake t) s = .next s.shown))
    ∧ (∀ (s : State) (t : Nat), s.oas.tripTemp = none → exec (.thermalCoolWake t) s = .next s.shown)
    ∧ (∀ (s : State) (f : Fld), let u : State := { s.sf pgOAS f 1 with oas := { (s.sf pgOAS f 1).oas with waking := true } }
      (u.gf pgOAS OAS.PWR_STS_STATE = 3 → s.wakeBy f = u.wakeAny.wakeLow.bootWake)
      ∧ (u.gf pgOAS OAS.PWR_STS_STATE = 4 → s.wakeBy f = u.wakeAny.wakeLow)
      ∧ (u.gf pgOAS OAS.PWR_STS_STATE < 3 → s.wakeBy f = u.oasPump))
    ∧ (∀ (s : State), s.oas.waking = true → s.oas.cur = none →
      let t := s.wakeAny
      let u : State := { t with oas := { t.oas with waking := false } }
      let v : State := { t with avs := { t.avs with asked := true } }
      (t.gf pgOAS OAS.PWR_STS_STATE = 1 ∧ t.avs.asked = false → s.oasPump = v.avsWrite (v.gf pgCIS CIS.AVS_STS_VRUN_MV))
      ∧ (t.gf pgOAS OAS.PWR_STS_STATE = 2 ∧ t.cfgRaw 0 .pmeEnable = 1 → s.oasPump = u.emit (.pme 0))
      ∧ (t.gf pgOAS OAS.PWR_STS_STATE = 2 ∧ t.cfgRaw 0 .pmeEnable ≠ 1 → s.oasPump = u))
    ∧ (∀ (s : State), s.oas.cur = none → s.oas.waking = true → s.gf pgOAS OAS.PWR_STS_STATE = 1 → s.avs.asked = true →
      (s.avs.target = none → exec .standbyReturn s = .next s.wakeAny.runAgain.shown)
      ∧ (s.avs.target ≠ none → exec .standbyReturn s = .next s.wakeAny.shown))
    ∧ (∀ (s : State), s.oas.cur = none → s.oas.held = none → s.oas.portWake = [] → s.oas.ergWas = [] → s.oas.stopped = [] →
      let t : State := { s with
        oas := { s.oas with waking := false, base := 0, stopAt := 0 }
        sys := { s.sys with coreOn := true, coreSlow := s.gb pgCIS CIS.AVS_STS_FAILED } }
      let ticks := min 0xFFFFFFFF ((s.clock - s.oas.entered) * 32768 / 1000000000)
      s.runAgain = (((t.sf pgOAS OAS.PWR_STS_STATE 0).setReg (raddr pgOAS 0x60) (BitVec.ofNat 32 ticks)).cnt pgOAS OAS.CNT_WAKES).settle)
    ∧ (∀ (s : State) (v : Word), let t := (s.setReg (raddr pgOAS 0x4C) (s.reg (raddr pgOAS 0x4C) &&& ~~~(v &&& 0x3F))).wakeAny
      (t.gb pgOAS OAS.WAKE_FLAG_ANY = true ∨ t.oas.wakeLow = false → exec (.wakeFlagClear v) s = .next t.shown)
      ∧ (t.gb pgOAS OAS.WAKE_FLAG_ANY = false ∧ t.oas.wakeLow = true → exec (.wakeFlagClear v) s =
        .next (({ t with oas := { t.oas with wakeLow := false } } : State).emit (.pin "WAKE_N" true)).shown))
    ∧ (∀ (s : State), (s.gb pgOAS OAS.OAS_CTL_RC_ACTIVE = false → exec .xo32Stopped s =
        .next ((s.sf pgOAS OAS.OAS_CTL_RC_ACTIVE 1).error pgOAS 3 0x02 0 0 0).shown)
      ∧ (s.gb pgOAS OAS.OAS_CTL_RC_ACTIVE = true → exec .xo32Stopped s = .next s.shown))

/-- AVS_CONFIRM_POLL, VRUN_RECOMPUTE, TEMP_SAMPLE, POWER_ON, SUPPLY_LOSS, SUPPLY_RETURN, VAUX_LOSS and the admission test. A request is admitted when both rails keep the reserve under the budget and the device does not
throttle; the whole of it is granted, or it is refused with code 0x01, the totals and NOT_ADMITTED. A Voltage read within -10 and +25 mV in the window confirms; a raise is tried three times and once at 850 mV, and then
AVSBus is given up with code 0x02. The device throttles from THROT until below THROT - HYST, and a trip enters DEEP_SLEEP at once. The loss of VAUX keeps only the Vault.
The model's choices it rests on: log entries 111, 112, 117, 120, 129, 171. -/
def Obligations.CisternAndSupplies : Prop :=
  (∀ (s : State) (v l : Nat), s.admissible v l = true ↔ (s.gf pgCIS CIS.GRANTED_VDD + v + s.gf pgCIS CIS.RESERVE_VDD ≤ s.gf pgCIS CIS.BUDGET_VDD
      ∧ s.gf pgCIS CIS.GRANTED_VDDL + l + s.gf pgCIS CIS.RESERVE_VDDL ≤ s.gf pgCIS CIS.BUDGET_VDDL ∧ s.gb pgCIS CIS.TEMP_THROTTLING = false))
    ∧ (∀ (s : State) (p q v l : Nat) (b : Blk) (k : Nat), blkOf p = some (b, k) →
      (s.admissible v l = true → s.askCistern p [(q, v, l)] = (((s.addDraw q v l).cnt pgCIS CIS.CNT_ADMITTED).sf p HDR.PAGE_STS_NOT_ADMITTED 0, true))
      ∧ (s.admissible v l = false → s.askCistern p [(q, v, l)] = (((s.cnt pgCIS CIS.CNT_REFUSED).error pgCIS 0 0x01 (b.id + instanceField b k * 2 ^ 8)
        (v + l * 2 ^ 16) (s.reg (raddr pgCIS 0x48)).toNat).sf p HDR.PAGE_STS_NOT_ADMITTED 1, false)))
    ∧ (∀ (s : State) (p v l : Nat), s.gf pgCIS CIS.GRANTED_VDD + v < 65536 →
      s.gf p HDR.PAGE_DRAW_VDD + v < 65536 → (s.addDraw p v l).gf pgCIS CIS.GRANTED_VDD = s.gf pgCIS CIS.GRANTED_VDD + v
        ∧ (s.addDraw p v l).gf p HDR.PAGE_DRAW_VDD = s.gf p HDR.PAGE_DRAW_VDD + v)
    ∧ (∀ (s : State) (mv t : Nat), s.avs.target = some t →
      let done := ({ s with avs := { s.avs with target := none, failed := 0, last := false } } : State).sf pgCIS CIS.AVS_STS_CONFIRMED_MV t
      let near := t ≤ mv + 10 ∧ mv ≤ t + 25
      (near → exec (.avsConfirmPoll true mv) s = .next done.shown)
      ∧ (¬ near ∧ s.due s.avs.deadline = false → exec (.avsConfirmPoll true mv) s = .next s.shown)
      ∧ (¬ near ∧ s.due s.avs.deadline = true → exec (.avsConfirmPoll true mv) s = .next (s.avsUnconfirmed t mv).shown)
      ∧ exec (.avsConfirmPoll false mv) s = .next (s.avsUnconfirmed t 0xFFF).shown)
    ∧ (∀ (s : State) (c : Bool) (mv : Nat), s.avs.target = none → exec (.avsConfirmPoll c mv) s = .next s.shown)
    ∧ (∀ (s : State) (t back : Nat), let raise := s.gf pgCIS CIS.AVS_STS_CONFIRMED_MV < t
      let n : State := { s with avs := { s.avs with failed := s.avs.failed + 1 } }
      let z : State := { s with avs := { s.avs with last := true } }
      let y : State := { s with
        avs := { s.avs with target := none }, sys := { s.sys with coreSlow := true } }
      (s.avs.last = true → s.avsUnconfirmed t back = (y.sf pgCIS CIS.AVS_STS_FAILED 1).error pgCIS 3 0x02 t back 0)
      ∧ (s.avs.last = false ∧ raise ∧ s.avs.failed < 2 → s.avsUnconfirmed t back = n.avsSend t)
      ∧ (s.avs.last = false ∧ raise ∧ 2 ≤ s.avs.failed → s.avsUnconfirmed t back = z.avsSend 850))
    ∧ (∀ (s : State) (mv : Nat), let w : State := { s with avs := { s.avs with
        target := some mv, deadline := s.clock + us (s.gf1 pgCIS CIS.AVS_CTL_SETTLE_US) } }
      (s.gb pgCIS CIS.AVS_CTL_EN = true ∧ s.gb pgCIS CIS.AVS_STS_FAILED = false → s.avsSend mv = (w.emit (.avsWrite mv)).cnt pgCIS CIS.CNT_AVS_WRITES)
      ∧ (s.gb pgCIS CIS.AVS_CTL_EN = false ∨ s.gb pgCIS CIS.AVS_STS_FAILED = true → s.avsSend mv = s))
    ∧ (∀ (s : State), s.sys.hkOn = true → s.due (s.avs.vrunAt + ms 10) = true →
      let mv := min 850 (max 650 (Config.fusedVoltage + (if s.avs.cold then 20 else 0)))
      let t := ({ s with avs := { s.avs with vrunAt := s.clock } } : State).sf pgCIS CIS.AVS_STS_VRUN_MV mv
      (s.avs.target ≠ none → exec .vrunRecompute s = .next t.shown)
      ∧ (s.avs.target = none ∧ s.gf pgOAS OAS.PWR_STS_STATE = 0 → exec .vrunRecompute s = .next (t.avsWrite (t.gf pgCIS CIS.AVS_STS_VRUN_MV)).shown)
      ∧ (s.avs.target = none ∧ s.gf pgOAS OAS.PWR_STS_STATE = 1 ∧ s.oas.waking = false →
        exec .vrunRecompute s = .next (t.avsWrite (max 650 (t.gf pgCIS CIS.AVS_STS_VRUN_MV - 80))).shown))
    ∧ (∀ (s : State), s.sys.hkOn = false ∨ s.due (s.avs.vrunAt + ms 10) = false → exec .vrunRecompute s = .next s.shown)
    ∧ (∀ (s : State) (x : Nat) (cold hot : Bool), x < 256 → s.sys.hkOn = true →
      hot = (if s.gb pgCIS CIS.TEMP_THROTTLING then !decide (x + s.gf1 pgCIS CIS.THERM_CTL_HYST < s.gf pgCIS CIS.THERM_CTL_THROT)
        else decide (s.gf pgCIS CIS.THERM_CTL_THROT ≤ x)) →
      let t := ((({ s with avs := { s.avs with cold := cold } } : State).sf pgCIS CIS.TEMP_NOW x).sf pgCIS CIS.TEMP_MAX
        (max x (s.gf pgCIS CIS.TEMP_MAX))).sf pgCIS CIS.TEMP_THROTTLING (b2n hot)
      let start := (t.cnt pgCIS CIS.CNT_THROTTLES).event pgCIS 1
      let was := s.gb pgCIS CIS.TEMP_THROTTLING
      ((hot = false ∨ was = true) ∧ x < t.tripPoint → exec (.tempSample x cold) s = .next t.shown)
      ∧ (hot = true ∧ was = false ∧ x < start.tripPoint → exec (.tempSample x cold) s = .next start.shown)
      ∧ ((hot = false ∨ was = true) ∧ t.tripPoint ≤ x → exec (.tempSample x cold) s = .next (t.trip x).shown)
      ∧ (hot = true ∧ was = false ∧ start.tripPoint ≤ x → exec (.tempSample x cold) s = .next (start.trip x).shown))
    ∧ (∀ (s : State) (x : Nat) (cold : Bool), s.sys.hkOn = false → exec (.tempSample x cold) s = .next s.shown)
    ∧ (∀ (s : State) (x : Nat), let t := ((s.sf pgOAS OAS.WAKE_FLAG_THERMAL 1).wakeAny).powerOff 3 0
      s.tripPoint = min 0xCC (max 0xBD (s.gf pgCIS CIS.THERM_CTL_TRIP))
      ∧ s.trip x = { t with oas := { t.oas with tripTemp := some x, tripAt := s.tripPoint } })
    ∧ (∀ (s : State), exec .vauxLoss s = .next s.vauxGone.shown ∧ s.vauxGone.vlt.mem = s.vlt.mem ∧ s.vauxGone.vlt.bad = s.vlt.bad
      ∧ s.vauxGone.erg = State.reset.erg ∧ s.vauxGone.regs = State.reset.regs ∧ s.vauxGone.tbls = State.reset.tbls
      ∧ s.vauxGone.sys.hkOn = false)
    ∧ (∀ (s : State) (straps : Nat) (spi : Candidate), exec (.powerOn straps spi) s = .next ((s.vauxGone.sampled straps spi).boot).shown)
    ∧ (∀ (s : State) (r : Rail), let st := s.gf pgOAS OAS.PWR_STS_STATE
      (r = .vaux → exec (.supplyLoss r) s = .next s.vauxGone.shown)
      ∧ (r = .vdd ∧ st < 3 ∧ s.sys.hkOn = true → exec (.supplyLoss r) s = .next (s.dark false).shown)
      ∧ (r = .vddio ∧ st < 3 ∧ s.sys.hkOn = true → exec (.supplyLoss r) s = .next (s.dark true).shown)
      ∧ (r = .vddq ∧ st < 3 ∧ s.sys.hkOn = true → exec (.supplyLoss r) s = .next (s.dark false).shown)
      ∧ (r = .vdd ∧ st = 3 → exec (.supplyLoss r) s = .next (s.sf pgOAS OAS.PWR_STS_STATE 4).shown)
      ∧ (r = .vdd ∧ st = 4 → exec (.supplyLoss r) s = .next s.shown))
    ∧ (∀ (s : State) (straps : Nat) (spi : Candidate),
      (s.sys.hkOn = false ∧ s.gf pgOAS OAS.PWR_STS_STATE ≠ 3 ∧ (s.sampled straps spi).gf pgOAS OAS.PWR_STS_STATE = 4 →
        exec (.supplyReturn straps spi) s = .next ((s.sampled straps spi).bootWake).shown)
      ∧ (s.sys.hkOn = false ∧ s.gf pgOAS OAS.PWR_STS_STATE ≠ 3 ∧ (s.sampled straps spi).gf pgOAS OAS.PWR_STS_STATE ≠ 4 →
        exec (.supplyReturn straps spi) s = .next ((s.sampled straps spi).boot).shown)
      ∧ (s.sys.hkOn = true → exec (.supplyReturn straps spi) s = .next s.shown))

/-! ### Resets, the boot, debug and the fault history (spec/17, spec/18) -/

/-- REBOOT, REBOOT_EFFECT, DEBUG_UNLOCK, DEBUG_ERASE_DONE, HISTORY_RECORD_WRITE and HISTORY_SCAN_DONE, and what a whole-device reset keeps. A reboot asked for with its magic writes 850 mV and takes effect
from 10 µs later; during an apply it is deferred. The reset keeps the Oasis registers but BUSY, ARMED and HELD, the Vault's bytes and the retained Erg channels, and no other Erg byte; the boot advances the boot number and
takes the newer VALID slot first. Opening debug erases the secrets. The oldest record leaves the queue with its SEQ, to the Vault from its CLASS on and at most 1,000 times a second (the model's sliding second,
DESIGN CHOICE, log entry 127), and NEXT_SEQ passes 0. The scan ends with NEXT_SEQ above what it found.
The model's choices it rests on: log entries 109, 120, 124, 127, 128. -/
def Obligations.ResetsAndHistory : Prop :=
  (∀ (s : State) (v : Word),
      (fld v 0 1 = 1 ∧ fld v 16 16 = 0xB007 ∧ s.vlt.rebootAt = none → exec (.reboot v) s =
        .next (({ s with vlt := { s.vlt with rebootAt := some (s.clock + us 10) } } : State).avsWrite 850).shown)
      ∧ (fld v 0 1 = 0 ∨ fld v 16 16 ≠ 0xB007 ∨ s.vlt.rebootAt ≠ none → exec (.reboot v) s = .next s.shown))
    ∧ (∀ (s : State) (t : Nat) (spi : Candidate), s.vlt.rebootAt = some t →
      let due := t ≤ s.clock ∧ (s.avs.target = none ∨ t - us 10 + us (s.gf1 pgCIS CIS.AVS_CTL_SETTLE_US) ≤ s.clock)
      let given : State := { s with vlt := { s.vlt with spi := spi } }
      let late : State := { s with mez := { s.mez with deferred := s.mez.deferred ++ [.rebootEffect spi] } }
      (due ∧ s.gf pgMEZ MEZ.MEZ_STS_STATE ≠ 2 → exec (.rebootEffect spi) s = .next (given.wipe true).boot.shown)
      ∧ (due ∧ s.gf pgMEZ MEZ.MEZ_STS_STATE = 2 → exec (.rebootEffect spi) s = .next ((late.cnt pgMEZ MEZ.CNT_RESETS_DEFERRED).event pgMEZ 3).shown)
      ∧ (¬ due → exec (.rebootEffect spi) s = .next s.shown))
    ∧ (∀ (s : State) (spi : Candidate), s.vlt.rebootAt = none → exec (.rebootEffect spi) s = .next s.shown)
    ∧ (∀ (s : State) (e : Bool), (s.wipe e).vlt.mem = s.vlt.mem ∧ (s.wipe e).vlt.bad = s.vlt.bad ∧ (s.wipe e).tbls = [] ∧ (s.wipe e).sets = []
      ∧ (s.wipe e).brg = State.reset.brg ∧ (s.wipe e).gal = State.reset.gal ∧ (s.wipe e).cvn = State.reset.cvn ∧ (s.wipe e).links = []
      ∧ (s.wipe e).flt.queue = [] ∧ (s.wipe e).mgq = State.reset.mgq ∧ (s.wipe e).mez = State.reset.mez ∧ (s.wipe e).sys.devtime = 0
      ∧ (s.wipe e).pending = s.pending ∧ (s.wipe e).tap = s.tap)
    ∧ (∀ (s : State) (e : Bool), (s.wipe e).gb pgOAS OAS.PWR_STS_BUSY = false ∧ (s.wipe e).gb pgOAS OAS.PWR_STS_ARMED = false
      ∧ (s.wipe e).gb pgOAS OAS.PWR_STS_HELD = false ∧ (s.wipe e).oas.cur = none ∧ (s.wipe e).oas.held = none)
    ∧ (∀ (s : State) (e : Bool) (p off : Nat), off < 4096 →
      (p = pgOAS ∧ off ≠ 0x44 → (s.wipe e).reg (raddr p off) = s.reg (raddr p off))
      ∧ (p ≠ pgOAS → (s.wipe e).reg (raddr p off) = State.reset.reg (raddr p off)))
    ∧ (∀ (s : State) (c x : Nat), c < 4 → x / 2 ^ 36 = c →
      (s.ergKept.contains c = true → Memory.read (s.wipe true).erg.mem x = Memory.read s.erg.mem x)
      ∧ (s.ergKept.contains c = false → Memory.read (s.wipe true).erg.mem x = 0)
      ∧ Memory.read (s.wipe false).erg.mem x = 0)
    ∧ (∀ (s : State) (c : Nat), c < 4 → (s.ergKept.contains c = true ↔ (s.erg.retained.contains c = true
      ∨ (s.gb pgERG ERG.ERG_CFG_RETAIN = true ∧ s.ergSt c = erACTIVE))))
    ∧ (∀ (s : State), Memory.read (s.bootNumber).vlt.mem (vaultBoot + 16) = BitVec.ofNat 8 (nextEpoch (s.bootWord 2 % 65536))
      ∧ nextEpoch 0 = 1 ∧ nextEpoch 0xFFFF = 1 ∧ nextEpoch 0x1234 = 0x1235)
    ∧ (∀ (s : State), s.slotState false = 2 → s.slotState true = 2 →
      let d := subMod (s.slotSeq false) (s.slotSeq true) 32
      let ab := (s.trySlot false ⟨0, [], 0⟩).1.trySlot true (s.trySlot false ⟨0, [], 0⟩).2
      let ba := (s.trySlot true ⟨0, [], 0⟩).1.trySlot false (s.trySlot true ⟨0, [], 0⟩).2
      (1 ≤ d ∧ d ≤ 2 ^ 31 → s.chooseImage = ab.1.trySpi ab.2) ∧ (d = 0 ∨ 2 ^ 31 < d → s.chooseImage = ba.1.trySpi ba.2))
    ∧ (∀ (s : State) (b : Bool) (c : Choice),
      let img := s.slotBytes b
      let code := s.imgCheck img
      let bad := (s.cnt pgVLT VLT.CNT_REJECTS).error pgVLT 1 0x02 (b2n b + code * 2 ^ 8) (if code = 1 then 0 else imgNum img 0x0C 4) 0
      (c.source ≠ 0 ∨ s.slotState b ≠ 2 → s.trySlot b c = (s, c))
      ∧ (c.source = 0 ∧ s.slotState b = 2 ∧ s.slotBad b = none → s.trySlot b c =
        if code = 0 then (s.showCheck b 0, { c with source := 1 + b2n b, image := img }) else (bad.showCheck b code, c.met code)))
    ∧ (∀ (s : State), s.slotState false = 0 → s.slotState true = 0 → s.vlt.spi = .blank →
      s.chooseImage = ((((s.sf pgVLT VLT.SPI_STS_READ 1).sf pgVLT VLT.SPI_STS_CHECK 0x06).cnt pgVLT VLT.CNT_REJECTS).error pgVLT 1 0x02
        (2 + 0x06 * 2 ^ 8) 0 0, ⟨0, [], 0x06⟩))
    ∧ (∀ (s : State) (v : Word), let a := ((s.setBootWord 3 1).vaultShow.sf pgVLT VLT.VLT_STS_DEBUG 1).sf pgVLT VLT.VLT_STS_WRITE_BUSY 1
      let b := (a.spdmClose .host).spdmClose .smb
      let c := b.each ((b.host.ide.filter (fun e => e.2.state == .secure)).map (·.1)) (fun n s => s.ideInsecure n)
      (fld v 0 1 = 1 ∧ fld v 16 16 = 0xDB6E ∧ s.gf pgVLT VLT.VLT_STS_DEBUG = 0 → exec (.debugUnlock v) s =
        .next ({ c with vlt := { c.vlt with erasing := true } } : State).shown)
      ∧ (fld v 0 1 = 0 ∨ fld v 16 16 ≠ 0xDB6E ∨ s.gf pgVLT VLT.VLT_STS_DEBUG ≠ 0 → exec (.debugUnlock v) s = .next s.shown))
    ∧ (∀ (s : State), let t := ({ s with vlt := { s.vlt with erasing := false } } : State).secretsGone
      (s.vlt.erasing = true → exec .debugEraseDone s = .next
        ((((t.sf pgVLT VLT.VLT_STS_WRITE_BUSY 0).sf pgVLT VLT.VLT_STS_DEBUG 2).sf pgDEV DEV.FEAT_EN_DEBUG_OPEN 1).event pgVLT 4).shown)
      ∧ (s.vlt.erasing = false → exec .debugEraseDone s = .next s.shown))
    ∧ (∀ (s : State) (x : Nat), vaultIdent ≤ x → x < vaultIdent + 0x1000 → Memory.read (s.vaultZero vaultIdent 0x1000 18).vlt.mem x = 0)
    ∧ (∀ (s : State) (x : Nat), x < vaultIdent ∨ vaultIdent + 0x1000 ≤ x →
      Memory.read (s.vaultZero vaultIdent 0x1000 18).vlt.mem x = Memory.read s.vlt.mem x)
    ∧ (∀ (s : State) (r : BitVec 256) (rest : List (BitVec 256)), s.flt.queue = r :: rest →
      let seq := s.gf pgFLT FLT.NEXT_SEQ_SEQ
      let rec_ := put r 224 32 seq
      let t := ({ s with flt := { s.flt with queue := rest } } : State).sf pgFLT FLT.NEXT_SEQ_SEQ (nextSeq seq)
      (s.historyWaits = false → exec .historyRecordWrite s = .next ((t.historyVault rec_ seq).historyErg rec_ seq).shown)
      ∧ (s.historyWaits = true → exec .historyRecordWrite s = .next s.shown))
    ∧ (∀ (s : State), s.flt.queue = [] → exec .historyRecordWrite s = .next s.shown)
    ∧ (∀ (s : State), s.historyWaits = false ↔ (s.gb pgFLT FLT.FLT_STS_SCANNING = false ∧ s.gf pgOAS OAS.PWR_STS_STATE = 0
      ∧ s.gb pgDEV DEV.BOOT_STS_DONE = true ∧ (s.gb pgFLT FLT.FLT_CTL_ERG_EN = false ∨ s.ergSt (s.gf pgFLT FLT.FLT_CTL_ERG_CH) ≠ erREFRESH)))
    ∧ (∀ (s : State) (r : BitVec 256) (q : Nat), let recent := s.flt.times.filter (fun t => s.clock < t + ms 1000)
      let on := s.gb pgFLT FLT.FLT_CTL_VAULT_EN = true ∧ min 4 (s.gf pgFLT FLT.FLT_CTL_VAULT_CLASS) ≤ fld r 77 3
      let t : State := { s with flt := { s.flt with times := recent ++ [s.clock] } }
      (on ∧ recent.length < 1000 → s.historyVault r q =
        (t.vaultPut (vaultHist + 32 * (q % 65536)) (bytesOf 32 r.toNat)).cnt pgFLT FLT.CNT_VAULT_RECORDS)
      ∧ (on ∧ 1000 ≤ recent.length → s.historyVault r q = s.cnt pgFLT FLT.CNT_VAULT_SKIPPED)
      ∧ (¬ on → s.historyVault r q = s))
    ∧ (∀ (s : State) (a x : Nat) (b : List Byte), x < a ∨ a + b.length ≤ x → Memory.read (s.vaultPut a b).vlt.mem x = Memory.read s.vlt.mem x)
    ∧ (∀ (s : State) (r : BitVec 256) (q : Nat), let c := s.gf pgFLT FLT.FLT_CTL_ERG_CH
      let n := s.histSize c * 2097152
      let t : State := { s with erg := { s.erg with mem := Memory.writeN s.erg.mem (c * 2 ^ 36 + 32 * (q % n)) (bytesOf 32 r.toNat) } }
      let on := s.gb pgFLT FLT.FLT_CTL_ERG_EN = true
      (on ∧ s.ergServes c = true ∧ 0 < n → s.historyErg r q = t.cnt pgFLT FLT.CNT_ERG_RECORDS)
      ∧ (on ∧ s.ergServes c = false → s.historyErg r q = s.cnt pgFLT FLT.CNT_ERG_SKIPPED)
      ∧ (¬ on → s.historyErg r q = s))
    ∧ (nextSeq 0xFFFFFFFF = 1 ∧ nextSeq 0 = 1 ∧ nextSeq 1 = 2 ∧ laterSeq 0xFFFFFFF0 5 = 5 ∧ laterSeq 5 0xFFFFFFF0 = 5)
    ∧ (∀ (s : State), let c := s.gf pgFLT FLT.FLT_CTL_ERG_CH
      let t := s.sf pgFLT FLT.FLT_STS_SCANNING 0
      let vault := seqsIn s.vlt.mem vaultHist 0x200000
      let erg := seqsIn s.erg.mem (c * 2 ^ 36) (s.histSize c * 2 ^ 26)
      let on := s.gb pgFLT FLT.FLT_STS_SCANNING = true
      let kept := s.ergServes c && s.gb (pgERGC c) ERGC.CH_STS_RETAINED
      (on ∧ kept = false → exec .historyScanDone s = .next (t.sf pgFLT FLT.NEXT_SEQ_SEQ (nextSeq (vault.foldl laterSeq 0))).shown)
      ∧ (on ∧ kept = true → exec .historyScanDone s = .next (t.sf pgFLT FLT.NEXT_SEQ_SEQ (nextSeq ((vault ++ erg).foldl laterSeq 0))).shown)
      ∧ (¬ on → exec .historyScanDone s = .next s.shown))

/-! ### What stays as it was -/

/-- XO32_STOPPED, WAKE_FLAG_CLEAR, ERG_PLL_LOCKED, ERG_SCRUB_PASS, ERG_SPARING_START, ERG_SPARING_DONE, MGQ_DOORBELL, MGQ_RING_RESUME, REBOOT, AVS_CONFIRM_POLL and VRUN_RECOMPUTE answer a next state in which
every register outside their own page, OAS, LND, FLT, HST and MEZ (where events, captures and the shown counts lie), every table entry but Landing's sources, every byte of the Vault and of the Erg, and all that links,
ports, stations, the Gallery, the bridge, the engines, the halls, the host interface, the command ring and the boundary-scan port hold are as before.
The model's choices it rests on: log entry 14. -/
def Obligations.ReportsLeaveTheRest : Prop :=
  ∀ (s : State) (c : Instr), ∃ t, exec c s = .next t ∧
    (let quiet := fun (pages : List Nat) =>
      (∀ a, a / 4096 ∉ pages → a / 4096 ∉ [pgOAS, pgLND, pgFLT, pgHST, pgMEZ] → t.reg a = s.reg a)
      ∧ (∀ k, k / 2 ^ 24 ≠ 0x800 → SMap.get tblReset t.tbls k = SMap.get tblReset s.tbls k)
      ∧ (∀ x, Memory.read t.vlt.mem x = Memory.read s.vlt.mem x) ∧ (∀ x, Memory.read t.erg.mem x = Memory.read s.erg.mem x)
      ∧ t.links = s.links ∧ t.lards = s.lards ∧ t.ports = s.ports ∧ t.gal = s.gal ∧ t.brg = s.brg ∧ t.sch = s.sch ∧ t.cvn = s.cvn
      ∧ t.hlm = s.hlm ∧ t.host = s.host ∧ t.mgq = s.mgq ∧ t.mez = s.mez ∧ t.tap = s.tap ∧ t.pending = s.pending ∧ t.clock = s.clock
    (c = .xo32Stopped → quiet [] ∧ t.sys = s.sys ∧ t.avs = s.avs)
    ∧ (∀ v, c = .wakeFlagClear v → quiet [] ∧ t.sys = s.sys ∧ t.flt = s.flt)
    ∧ (c = .ergPllLocked → quiet [pgERG] ∧ t.sys = s.sys)
    ∧ (∀ ch fixes u, c = .ergScrubPass ch fixes u → quiet [pgERGC (ch % 4)] ∧ t.sys = s.sys)
    ∧ (∀ ch dev n u, c = .ergSparingStart ch dev n u → quiet [pgERG, pgERGC (ch % 4)] ∧ t.sys = s.sys)
    ∧ (∀ ch, c = .ergSparingDone ch → quiet [pgERG, pgERGC (ch % 4)] ∧ t.sys = s.sys ∧ t.flt = s.flt)
    ∧ (∀ p, c = .mgqDoorbell p → quiet [pgMGQ] ∧ t.sys = s.sys)
    ∧ (c = .mgqRingResume → quiet [pgMGQ] ∧ t.sys = s.sys ∧ t.flt = s.flt ∧ t.oas = s.oas)
    ∧ (∀ v, c = .reboot v → quiet [pgCIS] ∧ t.sys = s.sys ∧ t.flt = s.flt ∧ t.oas = s.oas)
    ∧ (∀ k mv, c = .avsConfirmPoll k mv → quiet [pgCIS])
    ∧ (c = .vrunRecompute → quiet [pgCIS] ∧ t.sys = s.sys ∧ t.flt = s.flt ∧ t.oas = s.oas))
end

