-- ==== Sys2Proof/Laws/Codewords.lean ====
section
/-!
SUPPORT. The Reed-Solomon code of R189: leading zero symbols change no syndrome.
-/

namespace Sys2Proof.Machine

/-- Zero times anything is zero in GF(2^10). -/
theorem gfMul_zero (b : Nat) : gfMul 0 b = 0 := by
  have key : ∀ l : List Nat, l.foldl (fun (t : Nat × Nat) i => (if b / 2 ^ i % 2 == 1 then t.1 ^^^ t.2 else t.1, gfTimesA t.2)) (0, 0) = (0, 0) := by
    intro l
    induction l with
    | nil => rfl
    | cons i t ih =>
      rw [List.foldl_cons]
      have h0 : ((if b / 2 ^ i % 2 == 1 then (0 : Nat) ^^^ 0 else 0, gfTimesA 0) : Nat × Nat) = (0, 0) := by
        have h : gfTimesA 0 = 0 := by decide
        rw [h]; split <;> rfl
      rw [h0]; exact ih
  unfold gfMul
  rw [key]

/-- Leading zero symbols leave a syndrome. -/
theorem rsSyndrome_zeros (n : Nat) (l : List Nat) (j : Nat) : rsSyndrome (List.replicate n 0 ++ l) j = rsSyndrome l j := by
  unfold rsSyndrome
  induction n with
  | zero => rfl
  | succ n ih => rw [List.replicate_succ, List.cons_append, List.foldl_cons, gfMul_zero]; exact ih

/-- Leading zero symbols leave the syndromes. -/
theorem rsSyndromes_zeros (n : Nat) (l : List Nat) : rsSyndromes (List.replicate n 0 ++ l) = rsSyndromes l := by
  unfold rsSyndromes
  exact List.map_congr_left (fun j _ => rsSyndrome_zeros n l j)

end Sys2Proof.Machine
end

