-- ==== Sys2Proof/Laws/Maps.lean ====
section
/-!
SUPPORT. Finite maps and byte memories: a read after a write, and the canonical form kept by every operation.
-/

namespace Sys2Proof.Machine

namespace SMap

variable {α : Type}

theorem get_del_self (d : Nat → α) (m : List (Nat × α)) (k : Nat) : get d (del m k) k = d k := by
  induction m with
  | nil => rfl
  | cons e t ih =>
    obtain ⟨k', v⟩ := e
    by_cases h : k = k' <;> simp [del, get, h]
    · subst h; exact ih
    · exact ih

theorem get_del_of_ne (d : Nat → α) (m : List (Nat × α)) {k j : Nat} (h : j ≠ k) : get d (del m k) j = get d m j := by
  induction m with
  | nil => rfl
  | cons e t ih =>
    obtain ⟨k', v⟩ := e
    by_cases hk : k = k'
    · subst hk; simp [del, get, h, ih]
    · by_cases hj : j = k' <;> simp [del, get, hk, hj, ih]

theorem get_ins_self (d : Nat → α) (m : List (Nat × α)) (k : Nat) (v : α) (hm : ∀ e ∈ m, e.1 ≠ k) :
    get d (ins m k v) k = v := by
  induction m with
  | nil => simp [ins, get]
  | cons e t ih =>
    obtain ⟨k', v'⟩ := e
    have hne : k ≠ k' := fun hk => hm (k', v') (by simp) hk.symm
    by_cases hl : k < k'
    · simp [ins, get, hl]
    · simp only [ins, hl, if_false, get, hne]
      exact ih (fun e he => hm e (by simp [he]))

theorem get_ins_of_ne (d : Nat → α) (m : List (Nat × α)) {k j : Nat} (v : α) (h : j ≠ k) :
    get d (ins m k v) j = get d m j := by
  induction m with
  | nil => simp [ins, get, h]
  | cons e t ih =>
    obtain ⟨k', v'⟩ := e
    by_cases hl : k < k'
    · simp [ins, get, hl, h]
    · simp [ins, get, hl, ih]

theorem ne_of_mem_del {m : List (Nat × α)} {k : Nat} {e : Nat × α} (h : e ∈ del m k) : e.1 ≠ k := by
  induction m with
  | nil => simp [del] at h
  | cons x t ih =>
    obtain ⟨k', v⟩ := x
    by_cases hk : k = k'
    · simp only [del, hk, if_true] at h; subst hk; exact ih h
    · simp only [del, hk, if_false, List.mem_cons] at h
      rcases h with rfl | h
      · exact fun h' => hk h'.symm
      · exact ih h

/-- A read at the key that was written gives the value written. -/
@[simp] theorem get_set_self [DecidableEq α] (d : Nat → α) (m : List (Nat × α)) (k : Nat) (v : α) :
    get d (set d m k v) k = v := by
  by_cases h : v = d k
  · simp [set, h, get_del_self]
  · simp only [set, h, if_false]
    exact get_ins_self d _ k v (fun _ he => ne_of_mem_del he)

/-- A read at another key gives what it gave before. -/
theorem get_set_of_ne [DecidableEq α] (d : Nat → α) (m : List (Nat × α)) {k j : Nat} (v : α) (h : j ≠ k) :
    get d (set d m k v) j = get d m j := by
  by_cases hv : v = d k
  · simp [set, hv, get_del_of_ne d m h]
  · simp only [set, hv, if_false]
    rw [get_ins_of_ne d _ v h, get_del_of_ne d m h]

theorem all_del {m : List (Nat × α)} {k : Nat} {p : Nat × α → Bool} (h : m.all p = true) : (del m k).all p = true := by
  induction m with
  | nil => rfl
  | cons x t ih =>
    obtain ⟨k', v⟩ := x
    simp only [List.all_cons, Bool.and_eq_true] at h
    by_cases hk : k = k'
    · simp only [del, hk, if_true]; subst hk; exact ih h.2
    · simp [del, hk, h.1, ih h.2]

theorem wf_del [DecidableEq α] {d : Nat → α} {m : List (Nat × α)} {k : Nat} (h : wf d m = true) : wf d (del m k) = true := by
  induction m with
  | nil => rfl
  | cons x t ih =>
    obtain ⟨k', v⟩ := x
    simp only [wf, Bool.and_eq_true] at h
    by_cases hk : k = k'
    · simp only [del, hk, if_true]; subst hk; exact ih h.2
    · simp only [del, hk, if_false, wf, Bool.and_eq_true]
      exact ⟨⟨h.1.1, all_del h.1.2⟩, ih h.2⟩

theorem all_ins {m : List (Nat × α)} {k : Nat} {v : α} {p : Nat × α → Bool} (h : m.all p = true) (hv : p (k, v) = true) :
    (ins m k v).all p = true := by
  induction m with
  | nil => simp [ins, hv]
  | cons x t ih =>
    obtain ⟨k', v'⟩ := x
    simp only [List.all_cons, Bool.and_eq_true] at h
    by_cases hl : k < k'
    · simp only [ins, hl, if_true, List.all_cons, Bool.and_eq_true]; exact ⟨hv, h.1, h.2⟩
    · simp only [ins, hl, if_false, List.all_cons, Bool.and_eq_true]; exact ⟨h.1, ih h.2⟩

theorem wf_ins [DecidableEq α] {d : Nat → α} {m : List (Nat × α)} {k : Nat} {v : α} (h : wf d m = true) (hv : v ≠ d k)
    (hk : ∀ e ∈ m, e.1 ≠ k) : wf d (ins m k v) = true := by
  induction m with
  | nil => simp [ins, wf, hv]
  | cons x t ih =>
    obtain ⟨k', v'⟩ := x
    simp only [wf, Bool.and_eq_true, decide_eq_true_eq] at h
    by_cases hl : k < k'
    · simp only [ins, hl, if_true, wf, Bool.and_eq_true, decide_eq_true_eq, List.all_cons]
      refine ⟨⟨hv, trivial, ?_⟩, h⟩
      rw [List.all_eq_true] at h ⊢
      intro e he
      have := h.1.2 e he
      simp only [decide_eq_true_eq] at this ⊢
      omega
    · have hne : k' ≠ k := hk (k', v') (by simp)
      simp only [ins, hl, if_false, wf, Bool.and_eq_true, decide_eq_true_eq]
      exact ⟨⟨h.1.1, all_ins h.1.2 (by simp; omega)⟩, ih h.2 (fun e he => hk e (by simp [he]))⟩

/-- Writing keeps the canonical form. -/
theorem wf_set [DecidableEq α] {d : Nat → α} {m : List (Nat × α)} (k : Nat) (v : α) (h : wf d m = true) :
    wf d (set d m k v) = true := by
  by_cases hv : v = d k
  · simp only [set, hv, if_true]; exact wf_del h
  · simp only [set, hv, if_false]; exact wf_ins (wf_del h) hv (fun _ he => ne_of_mem_del he)

theorem wf_filter [DecidableEq α] {d : Nat → α} {m : List (Nat × α)} (p : Nat × α → Bool) (h : wf d m = true) :
    wf d (m.filter p) = true := by
  induction m with
  | nil => rfl
  | cons x t ih =>
    obtain ⟨k, v⟩ := x
    simp only [wf, Bool.and_eq_true] at h
    by_cases hp : p (k, v) = true
    · simp only [List.filter_cons_of_pos hp, wf, Bool.and_eq_true]
      refine ⟨⟨h.1.1, ?_⟩, ih h.2⟩
      rw [List.all_eq_true] at h ⊢
      intro e he
      exact h.1.2 e (List.mem_of_mem_filter he)
    · rw [List.filter_cons_of_neg hp]; exact ih h.2

end SMap

namespace Memory

@[simp] theorem read_write_self (m : List Host.Cell) (a : Nat) (b : Byte) : read (write m a b) a = b := SMap.get_set_self _ _ _ _

theorem read_write_of_ne (m : List Host.Cell) {a x : Nat} (b : Byte) (h : x ≠ a) : read (write m a b) x = read m x :=
  SMap.get_set_of_ne _ _ _ h

theorem wf_write {m : List Host.Cell} (a : Nat) (b : Byte) (h : wf m = true) : wf (write m a b) = true := SMap.wf_set _ _ h

theorem wf_writeN {m : List Host.Cell} (a : Nat) (l : List Byte) (h : wf m = true) : wf (writeN m a l) = true := by
  induction l generalizing m a with
  | nil => exact h
  | cons b t ih => exact ih _ (wf_write a b h)

theorem wf_clear {m : List Host.Cell} (a n : Nat) (h : wf m = true) : wf (clear m a n) = true := SMap.wf_filter _ h

theorem read_writeN_of_lt (m : List Host.Cell) (a : Nat) (l : List Byte) {x : Nat} (h : x < a) : read (writeN m a l) x = read m x := by
  induction l generalizing m a with
  | nil => rfl
  | cons b t ih => rw [writeN, ih _ _ (by omega), read_write_of_ne _ _ (by omega)]

/-- Bytes outside the written range keep their value. -/
theorem read_writeN_outside (m : List Host.Cell) (a : Nat) (l : List Byte) {x : Nat} (h : x < a ∨ a + l.length ≤ x) :
    read (writeN m a l) x = read m x := by
  induction l generalizing m a with
  | nil => rfl
  | cons b t ih =>
    simp only [List.length_cons] at h
    rw [writeN, ih _ _ (by omega), read_write_of_ne _ _ (by omega)]

end Memory

end Sys2Proof.Machine
end

