-- ==== Sys2Proof/Laws/State.lean ====
section
/-!
SUPPORT. What each update of the state leaves unchanged, field by field, and what reading back a register or a table entry gives.
-/

namespace Sys2Proof.Machine

variable (s : State)

/-! ### One field replaced -/

theorem State.with_regs_pending (x : List (Nat × Word)) : State.pending { s with regs := x } = s.pending := rfl
theorem State.with_regs_clock (x : List (Nat × Word)) : State.clock { s with regs := x } = s.clock := rfl
theorem State.with_regs_free (x : List (Nat × Word)) : State.free { s with regs := x } = s.free := rfl
theorem State.with_regs_out (x : List (Nat × Word)) : State.out { s with regs := x } = s.out := rfl
theorem State.with_regs_tbls (x : List (Nat × Word)) : State.tbls { s with regs := x } = s.tbls := rfl
theorem State.with_regs_sets (x : List (Nat × Word)) : State.sets { s with regs := x } = s.sets := rfl
theorem State.with_regs_smb (x : List (Nat × Word)) : State.smb { s with regs := x } = s.smb := rfl
theorem State.with_regs_sys (x : List (Nat × Word)) : State.sys { s with regs := x } = s.sys := rfl
theorem State.with_regs_lnd (x : List (Nat × Word)) : State.lnd { s with regs := x } = s.lnd := rfl
theorem State.with_regs_flt (x : List (Nat × Word)) : State.flt { s with regs := x } = s.flt := rfl
theorem State.with_regs_oas (x : List (Nat × Word)) : State.oas { s with regs := x } = s.oas := rfl
theorem State.with_regs_avs (x : List (Nat × Word)) : State.avs { s with regs := x } = s.avs := rfl
theorem State.with_regs_vlt (x : List (Nat × Word)) : State.vlt { s with regs := x } = s.vlt := rfl
theorem State.with_regs_host (x : List (Nat × Word)) : State.host { s with regs := x } = s.host := rfl
theorem State.with_regs_links (x : List (Nat × Word)) : State.links { s with regs := x } = s.links := rfl
theorem State.with_regs_lards (x : List (Nat × Word)) : State.lards { s with regs := x } = s.lards := rfl
theorem State.with_regs_ports (x : List (Nat × Word)) : State.ports { s with regs := x } = s.ports := rfl
theorem State.with_regs_brg (x : List (Nat × Word)) : State.brg { s with regs := x } = s.brg := rfl
theorem State.with_regs_gal (x : List (Nat × Word)) : State.gal { s with regs := x } = s.gal := rfl
theorem State.with_regs_sch (x : List (Nat × Word)) : State.sch { s with regs := x } = s.sch := rfl
theorem State.with_regs_cvn (x : List (Nat × Word)) : State.cvn { s with regs := x } = s.cvn := rfl
theorem State.with_regs_hlm (x : List (Nat × Word)) : State.hlm { s with regs := x } = s.hlm := rfl
theorem State.with_regs_erg (x : List (Nat × Word)) : State.erg { s with regs := x } = s.erg := rfl
theorem State.with_regs_mgq (x : List (Nat × Word)) : State.mgq { s with regs := x } = s.mgq := rfl
theorem State.with_regs_mez (x : List (Nat × Word)) : State.mez { s with regs := x } = s.mez := rfl
theorem State.with_regs_tap (x : List (Nat × Word)) : State.tap { s with regs := x } = s.tap := rfl

theorem State.with_tbls_pending (x : List (Nat × Entry)) : State.pending { s with tbls := x } = s.pending := rfl
theorem State.with_tbls_clock (x : List (Nat × Entry)) : State.clock { s with tbls := x } = s.clock := rfl
theorem State.with_tbls_free (x : List (Nat × Entry)) : State.free { s with tbls := x } = s.free := rfl
theorem State.with_tbls_out (x : List (Nat × Entry)) : State.out { s with tbls := x } = s.out := rfl
theorem State.with_tbls_regs (x : List (Nat × Entry)) : State.regs { s with tbls := x } = s.regs := rfl
theorem State.with_tbls_sets (x : List (Nat × Entry)) : State.sets { s with tbls := x } = s.sets := rfl
theorem State.with_tbls_smb (x : List (Nat × Entry)) : State.smb { s with tbls := x } = s.smb := rfl
theorem State.with_tbls_sys (x : List (Nat × Entry)) : State.sys { s with tbls := x } = s.sys := rfl
theorem State.with_tbls_lnd (x : List (Nat × Entry)) : State.lnd { s with tbls := x } = s.lnd := rfl
theorem State.with_tbls_flt (x : List (Nat × Entry)) : State.flt { s with tbls := x } = s.flt := rfl
theorem State.with_tbls_oas (x : List (Nat × Entry)) : State.oas { s with tbls := x } = s.oas := rfl
theorem State.with_tbls_avs (x : List (Nat × Entry)) : State.avs { s with tbls := x } = s.avs := rfl
theorem State.with_tbls_vlt (x : List (Nat × Entry)) : State.vlt { s with tbls := x } = s.vlt := rfl
theorem State.with_tbls_host (x : List (Nat × Entry)) : State.host { s with tbls := x } = s.host := rfl
theorem State.with_tbls_links (x : List (Nat × Entry)) : State.links { s with tbls := x } = s.links := rfl
theorem State.with_tbls_lards (x : List (Nat × Entry)) : State.lards { s with tbls := x } = s.lards := rfl
theorem State.with_tbls_ports (x : List (Nat × Entry)) : State.ports { s with tbls := x } = s.ports := rfl
theorem State.with_tbls_brg (x : List (Nat × Entry)) : State.brg { s with tbls := x } = s.brg := rfl
theorem State.with_tbls_gal (x : List (Nat × Entry)) : State.gal { s with tbls := x } = s.gal := rfl
theorem State.with_tbls_sch (x : List (Nat × Entry)) : State.sch { s with tbls := x } = s.sch := rfl
theorem State.with_tbls_cvn (x : List (Nat × Entry)) : State.cvn { s with tbls := x } = s.cvn := rfl
theorem State.with_tbls_hlm (x : List (Nat × Entry)) : State.hlm { s with tbls := x } = s.hlm := rfl
theorem State.with_tbls_erg (x : List (Nat × Entry)) : State.erg { s with tbls := x } = s.erg := rfl
theorem State.with_tbls_mgq (x : List (Nat × Entry)) : State.mgq { s with tbls := x } = s.mgq := rfl
theorem State.with_tbls_mez (x : List (Nat × Entry)) : State.mez { s with tbls := x } = s.mez := rfl
theorem State.with_tbls_tap (x : List (Nat × Entry)) : State.tap { s with tbls := x } = s.tap := rfl

theorem State.with_out_pending (x : List Out) : State.pending { s with out := x } = s.pending := rfl
theorem State.with_out_clock (x : List Out) : State.clock { s with out := x } = s.clock := rfl
theorem State.with_out_free (x : List Out) : State.free { s with out := x } = s.free := rfl
theorem State.with_out_regs (x : List Out) : State.regs { s with out := x } = s.regs := rfl
theorem State.with_out_tbls (x : List Out) : State.tbls { s with out := x } = s.tbls := rfl
theorem State.with_out_sets (x : List Out) : State.sets { s with out := x } = s.sets := rfl
theorem State.with_out_smb (x : List Out) : State.smb { s with out := x } = s.smb := rfl
theorem State.with_out_sys (x : List Out) : State.sys { s with out := x } = s.sys := rfl
theorem State.with_out_lnd (x : List Out) : State.lnd { s with out := x } = s.lnd := rfl
theorem State.with_out_flt (x : List Out) : State.flt { s with out := x } = s.flt := rfl
theorem State.with_out_oas (x : List Out) : State.oas { s with out := x } = s.oas := rfl
theorem State.with_out_avs (x : List Out) : State.avs { s with out := x } = s.avs := rfl
theorem State.with_out_vlt (x : List Out) : State.vlt { s with out := x } = s.vlt := rfl
theorem State.with_out_host (x : List Out) : State.host { s with out := x } = s.host := rfl
theorem State.with_out_links (x : List Out) : State.links { s with out := x } = s.links := rfl
theorem State.with_out_lards (x : List Out) : State.lards { s with out := x } = s.lards := rfl
theorem State.with_out_ports (x : List Out) : State.ports { s with out := x } = s.ports := rfl
theorem State.with_out_brg (x : List Out) : State.brg { s with out := x } = s.brg := rfl
theorem State.with_out_gal (x : List Out) : State.gal { s with out := x } = s.gal := rfl
theorem State.with_out_sch (x : List Out) : State.sch { s with out := x } = s.sch := rfl
theorem State.with_out_cvn (x : List Out) : State.cvn { s with out := x } = s.cvn := rfl
theorem State.with_out_hlm (x : List Out) : State.hlm { s with out := x } = s.hlm := rfl
theorem State.with_out_erg (x : List Out) : State.erg { s with out := x } = s.erg := rfl
theorem State.with_out_mgq (x : List Out) : State.mgq { s with out := x } = s.mgq := rfl
theorem State.with_out_mez (x : List Out) : State.mez { s with out := x } = s.mez := rfl
theorem State.with_out_tap (x : List Out) : State.tap { s with out := x } = s.tap := rfl

theorem State.with_free_pending (x : Nat) : State.pending { s with free := x } = s.pending := rfl
theorem State.with_free_clock (x : Nat) : State.clock { s with free := x } = s.clock := rfl
theorem State.with_free_out (x : Nat) : State.out { s with free := x } = s.out := rfl
theorem State.with_free_regs (x : Nat) : State.regs { s with free := x } = s.regs := rfl
theorem State.with_free_tbls (x : Nat) : State.tbls { s with free := x } = s.tbls := rfl
theorem State.with_free_sets (x : Nat) : State.sets { s with free := x } = s.sets := rfl
theorem State.with_free_smb (x : Nat) : State.smb { s with free := x } = s.smb := rfl
theorem State.with_free_sys (x : Nat) : State.sys { s with free := x } = s.sys := rfl
theorem State.with_free_lnd (x : Nat) : State.lnd { s with free := x } = s.lnd := rfl
theorem State.with_free_flt (x : Nat) : State.flt { s with free := x } = s.flt := rfl
theorem State.with_free_oas (x : Nat) : State.oas { s with free := x } = s.oas := rfl
theorem State.with_free_avs (x : Nat) : State.avs { s with free := x } = s.avs := rfl
theorem State.with_free_vlt (x : Nat) : State.vlt { s with free := x } = s.vlt := rfl
theorem State.with_free_host (x : Nat) : State.host { s with free := x } = s.host := rfl
theorem State.with_free_links (x : Nat) : State.links { s with free := x } = s.links := rfl
theorem State.with_free_lards (x : Nat) : State.lards { s with free := x } = s.lards := rfl
theorem State.with_free_ports (x : Nat) : State.ports { s with free := x } = s.ports := rfl
theorem State.with_free_brg (x : Nat) : State.brg { s with free := x } = s.brg := rfl
theorem State.with_free_gal (x : Nat) : State.gal { s with free := x } = s.gal := rfl
theorem State.with_free_sch (x : Nat) : State.sch { s with free := x } = s.sch := rfl
theorem State.with_free_cvn (x : Nat) : State.cvn { s with free := x } = s.cvn := rfl
theorem State.with_free_hlm (x : Nat) : State.hlm { s with free := x } = s.hlm := rfl
theorem State.with_free_erg (x : Nat) : State.erg { s with free := x } = s.erg := rfl
theorem State.with_free_mgq (x : Nat) : State.mgq { s with free := x } = s.mgq := rfl
theorem State.with_free_mez (x : Nat) : State.mez { s with free := x } = s.mez := rfl
theorem State.with_free_tap (x : Nat) : State.tap { s with free := x } = s.tap := rfl


theorem State.with_smb_pending (x : Smb) : State.pending { s with smb := x } = s.pending := rfl
theorem State.with_smb_clock (x : Smb) : State.clock { s with smb := x } = s.clock := rfl
theorem State.with_smb_free (x : Smb) : State.free { s with smb := x } = s.free := rfl
theorem State.with_smb_out (x : Smb) : State.out { s with smb := x } = s.out := rfl
theorem State.with_smb_regs (x : Smb) : State.regs { s with smb := x } = s.regs := rfl
theorem State.with_smb_tbls (x : Smb) : State.tbls { s with smb := x } = s.tbls := rfl
theorem State.with_smb_sets (x : Smb) : State.sets { s with smb := x } = s.sets := rfl
theorem State.with_smb_sys (x : Smb) : State.sys { s with smb := x } = s.sys := rfl
theorem State.with_smb_lnd (x : Smb) : State.lnd { s with smb := x } = s.lnd := rfl
theorem State.with_smb_flt (x : Smb) : State.flt { s with smb := x } = s.flt := rfl
theorem State.with_smb_oas (x : Smb) : State.oas { s with smb := x } = s.oas := rfl
theorem State.with_smb_avs (x : Smb) : State.avs { s with smb := x } = s.avs := rfl
theorem State.with_smb_vlt (x : Smb) : State.vlt { s with smb := x } = s.vlt := rfl
theorem State.with_smb_host (x : Smb) : State.host { s with smb := x } = s.host := rfl
theorem State.with_smb_links (x : Smb) : State.links { s with smb := x } = s.links := rfl
theorem State.with_smb_lards (x : Smb) : State.lards { s with smb := x } = s.lards := rfl
theorem State.with_smb_ports (x : Smb) : State.ports { s with smb := x } = s.ports := rfl
theorem State.with_smb_brg (x : Smb) : State.brg { s with smb := x } = s.brg := rfl
theorem State.with_smb_gal (x : Smb) : State.gal { s with smb := x } = s.gal := rfl
theorem State.with_smb_sch (x : Smb) : State.sch { s with smb := x } = s.sch := rfl
theorem State.with_smb_cvn (x : Smb) : State.cvn { s with smb := x } = s.cvn := rfl
theorem State.with_smb_hlm (x : Smb) : State.hlm { s with smb := x } = s.hlm := rfl
theorem State.with_smb_erg (x : Smb) : State.erg { s with smb := x } = s.erg := rfl
theorem State.with_smb_mgq (x : Smb) : State.mgq { s with smb := x } = s.mgq := rfl
theorem State.with_smb_mez (x : Smb) : State.mez { s with smb := x } = s.mez := rfl
theorem State.with_smb_tap (x : Smb) : State.tap { s with smb := x } = s.tap := rfl

/-! ### setReg -/

@[simp] theorem State.setReg_pending (a : Nat) (v : Word) : (s.setReg a v).pending = s.pending := s.with_regs_pending _
@[simp] theorem State.setReg_clock (a : Nat) (v : Word) : (s.setReg a v).clock = s.clock := s.with_regs_clock _
@[simp] theorem State.setReg_free (a : Nat) (v : Word) : (s.setReg a v).free = s.free := s.with_regs_free _
@[simp] theorem State.setReg_out (a : Nat) (v : Word) : (s.setReg a v).out = s.out := s.with_regs_out _
@[simp] theorem State.setReg_tbls (a : Nat) (v : Word) : (s.setReg a v).tbls = s.tbls := s.with_regs_tbls _
@[simp] theorem State.setReg_sets (a : Nat) (v : Word) : (s.setReg a v).sets = s.sets := s.with_regs_sets _
@[simp] theorem State.setReg_smb (a : Nat) (v : Word) : (s.setReg a v).smb = s.smb := s.with_regs_smb _
@[simp] theorem State.setReg_sys (a : Nat) (v : Word) : (s.setReg a v).sys = s.sys := s.with_regs_sys _
@[simp] theorem State.setReg_lnd (a : Nat) (v : Word) : (s.setReg a v).lnd = s.lnd := s.with_regs_lnd _
@[simp] theorem State.setReg_flt (a : Nat) (v : Word) : (s.setReg a v).flt = s.flt := s.with_regs_flt _
@[simp] theorem State.setReg_oas (a : Nat) (v : Word) : (s.setReg a v).oas = s.oas := s.with_regs_oas _
@[simp] theorem State.setReg_avs (a : Nat) (v : Word) : (s.setReg a v).avs = s.avs := s.with_regs_avs _
@[simp] theorem State.setReg_vlt (a : Nat) (v : Word) : (s.setReg a v).vlt = s.vlt := s.with_regs_vlt _
@[simp] theorem State.setReg_host (a : Nat) (v : Word) : (s.setReg a v).host = s.host := s.with_regs_host _
@[simp] theorem State.setReg_links (a : Nat) (v : Word) : (s.setReg a v).links = s.links := s.with_regs_links _
@[simp] theorem State.setReg_lards (a : Nat) (v : Word) : (s.setReg a v).lards = s.lards := s.with_regs_lards _
@[simp] theorem State.setReg_ports (a : Nat) (v : Word) : (s.setReg a v).ports = s.ports := s.with_regs_ports _
@[simp] theorem State.setReg_brg (a : Nat) (v : Word) : (s.setReg a v).brg = s.brg := s.with_regs_brg _
@[simp] theorem State.setReg_gal (a : Nat) (v : Word) : (s.setReg a v).gal = s.gal := s.with_regs_gal _
@[simp] theorem State.setReg_sch (a : Nat) (v : Word) : (s.setReg a v).sch = s.sch := s.with_regs_sch _
@[simp] theorem State.setReg_cvn (a : Nat) (v : Word) : (s.setReg a v).cvn = s.cvn := s.with_regs_cvn _
@[simp] theorem State.setReg_hlm (a : Nat) (v : Word) : (s.setReg a v).hlm = s.hlm := s.with_regs_hlm _
@[simp] theorem State.setReg_erg (a : Nat) (v : Word) : (s.setReg a v).erg = s.erg := s.with_regs_erg _
@[simp] theorem State.setReg_mgq (a : Nat) (v : Word) : (s.setReg a v).mgq = s.mgq := s.with_regs_mgq _
@[simp] theorem State.setReg_mez (a : Nat) (v : Word) : (s.setReg a v).mez = s.mez := s.with_regs_mez _
@[simp] theorem State.setReg_tap (a : Nat) (v : Word) : (s.setReg a v).tap = s.tap := s.with_regs_tap _

/-! ### sf -/

@[simp] theorem State.sf_pending (p : Nat) (f : Fld) (v : Nat) : (s.sf p f v).pending = s.pending := s.setReg_pending _ _
@[simp] theorem State.sf_clock (p : Nat) (f : Fld) (v : Nat) : (s.sf p f v).clock = s.clock := s.setReg_clock _ _
@[simp] theorem State.sf_free (p : Nat) (f : Fld) (v : Nat) : (s.sf p f v).free = s.free := s.setReg_free _ _
@[simp] theorem State.sf_out (p : Nat) (f : Fld) (v : Nat) : (s.sf p f v).out = s.out := s.setReg_out _ _
@[simp] theorem State.sf_tbls (p : Nat) (f : Fld) (v : Nat) : (s.sf p f v).tbls = s.tbls := s.setReg_tbls _ _
@[simp] theorem State.sf_sets (p : Nat) (f : Fld) (v : Nat) : (s.sf p f v).sets = s.sets := s.setReg_sets _ _
@[simp] theorem State.sf_smb (p : Nat) (f : Fld) (v : Nat) : (s.sf p f v).smb = s.smb := s.setReg_smb _ _
@[simp] theorem State.sf_sys (p : Nat) (f : Fld) (v : Nat) : (s.sf p f v).sys = s.sys := s.setReg_sys _ _
@[simp] theorem State.sf_lnd (p : Nat) (f : Fld) (v : Nat) : (s.sf p f v).lnd = s.lnd := s.setReg_lnd _ _
@[simp] theorem State.sf_flt (p : Nat) (f : Fld) (v : Nat) : (s.sf p f v).flt = s.flt := s.setReg_flt _ _
@[simp] theorem State.sf_oas (p : Nat) (f : Fld) (v : Nat) : (s.sf p f v).oas = s.oas := s.setReg_oas _ _
@[simp] theorem State.sf_avs (p : Nat) (f : Fld) (v : Nat) : (s.sf p f v).avs = s.avs := s.setReg_avs _ _
@[simp] theorem State.sf_vlt (p : Nat) (f : Fld) (v : Nat) : (s.sf p f v).vlt = s.vlt := s.setReg_vlt _ _
@[simp] theorem State.sf_host (p : Nat) (f : Fld) (v : Nat) : (s.sf p f v).host = s.host := s.setReg_host _ _
@[simp] theorem State.sf_links (p : Nat) (f : Fld) (v : Nat) : (s.sf p f v).links = s.links := s.setReg_links _ _
@[simp] theorem State.sf_lards (p : Nat) (f : Fld) (v : Nat) : (s.sf p f v).lards = s.lards := s.setReg_lards _ _
@[simp] theorem State.sf_ports (p : Nat) (f : Fld) (v : Nat) : (s.sf p f v).ports = s.ports := s.setReg_ports _ _
@[simp] theorem State.sf_brg (p : Nat) (f : Fld) (v : Nat) : (s.sf p f v).brg = s.brg := s.setReg_brg _ _
@[simp] theorem State.sf_gal (p : Nat) (f : Fld) (v : Nat) : (s.sf p f v).gal = s.gal := s.setReg_gal _ _
@[simp] theorem State.sf_sch (p : Nat) (f : Fld) (v : Nat) : (s.sf p f v).sch = s.sch := s.setReg_sch _ _
@[simp] theorem State.sf_cvn (p : Nat) (f : Fld) (v : Nat) : (s.sf p f v).cvn = s.cvn := s.setReg_cvn _ _
@[simp] theorem State.sf_hlm (p : Nat) (f : Fld) (v : Nat) : (s.sf p f v).hlm = s.hlm := s.setReg_hlm _ _
@[simp] theorem State.sf_erg (p : Nat) (f : Fld) (v : Nat) : (s.sf p f v).erg = s.erg := s.setReg_erg _ _
@[simp] theorem State.sf_mgq (p : Nat) (f : Fld) (v : Nat) : (s.sf p f v).mgq = s.mgq := s.setReg_mgq _ _
@[simp] theorem State.sf_mez (p : Nat) (f : Fld) (v : Nat) : (s.sf p f v).mez = s.mez := s.setReg_mez _ _
@[simp] theorem State.sf_tap (p : Nat) (f : Fld) (v : Nat) : (s.sf p f v).tap = s.tap := s.setReg_tap _ _

/-! ### cnt -/

@[simp] theorem State.cnt_pending (p off n : Nat) : (s.cnt p off n).pending = s.pending := s.setReg_pending _ _
@[simp] theorem State.cnt_clock (p off n : Nat) : (s.cnt p off n).clock = s.clock := s.setReg_clock _ _
@[simp] theorem State.cnt_free (p off n : Nat) : (s.cnt p off n).free = s.free := s.setReg_free _ _
@[simp] theorem State.cnt_out (p off n : Nat) : (s.cnt p off n).out = s.out := s.setReg_out _ _
@[simp] theorem State.cnt_tbls (p off n : Nat) : (s.cnt p off n).tbls = s.tbls := s.setReg_tbls _ _
@[simp] theorem State.cnt_sets (p off n : Nat) : (s.cnt p off n).sets = s.sets := s.setReg_sets _ _
@[simp] theorem State.cnt_smb (p off n : Nat) : (s.cnt p off n).smb = s.smb := s.setReg_smb _ _
@[simp] theorem State.cnt_sys (p off n : Nat) : (s.cnt p off n).sys = s.sys := s.setReg_sys _ _
@[simp] theorem State.cnt_lnd (p off n : Nat) : (s.cnt p off n).lnd = s.lnd := s.setReg_lnd _ _
@[simp] theorem State.cnt_flt (p off n : Nat) : (s.cnt p off n).flt = s.flt := s.setReg_flt _ _
@[simp] theorem State.cnt_oas (p off n : Nat) : (s.cnt p off n).oas = s.oas := s.setReg_oas _ _
@[simp] theorem State.cnt_avs (p off n : Nat) : (s.cnt p off n).avs = s.avs := s.setReg_avs _ _
@[simp] theorem State.cnt_vlt (p off n : Nat) : (s.cnt p off n).vlt = s.vlt := s.setReg_vlt _ _
@[simp] theorem State.cnt_host (p off n : Nat) : (s.cnt p off n).host = s.host := s.setReg_host _ _
@[simp] theorem State.cnt_links (p off n : Nat) : (s.cnt p off n).links = s.links := s.setReg_links _ _
@[simp] theorem State.cnt_lards (p off n : Nat) : (s.cnt p off n).lards = s.lards := s.setReg_lards _ _
@[simp] theorem State.cnt_ports (p off n : Nat) : (s.cnt p off n).ports = s.ports := s.setReg_ports _ _
@[simp] theorem State.cnt_brg (p off n : Nat) : (s.cnt p off n).brg = s.brg := s.setReg_brg _ _
@[simp] theorem State.cnt_gal (p off n : Nat) : (s.cnt p off n).gal = s.gal := s.setReg_gal _ _
@[simp] theorem State.cnt_sch (p off n : Nat) : (s.cnt p off n).sch = s.sch := s.setReg_sch _ _
@[simp] theorem State.cnt_cvn (p off n : Nat) : (s.cnt p off n).cvn = s.cvn := s.setReg_cvn _ _
@[simp] theorem State.cnt_hlm (p off n : Nat) : (s.cnt p off n).hlm = s.hlm := s.setReg_hlm _ _
@[simp] theorem State.cnt_erg (p off n : Nat) : (s.cnt p off n).erg = s.erg := s.setReg_erg _ _
@[simp] theorem State.cnt_mgq (p off n : Nat) : (s.cnt p off n).mgq = s.mgq := s.setReg_mgq _ _
@[simp] theorem State.cnt_mez (p off n : Nat) : (s.cnt p off n).mez = s.mez := s.setReg_mez _ _
@[simp] theorem State.cnt_tap (p off n : Nat) : (s.cnt p off n).tap = s.tap := s.setReg_tap _ _

/-! ### setEnt -/

@[simp] theorem State.setEnt_pending (t : Tbl) (i : Nat) (e : Entry) : (s.setEnt t i e).pending = s.pending := s.with_tbls_pending _
@[simp] theorem State.setEnt_clock (t : Tbl) (i : Nat) (e : Entry) : (s.setEnt t i e).clock = s.clock := s.with_tbls_clock _
@[simp] theorem State.setEnt_free (t : Tbl) (i : Nat) (e : Entry) : (s.setEnt t i e).free = s.free := s.with_tbls_free _
@[simp] theorem State.setEnt_out (t : Tbl) (i : Nat) (e : Entry) : (s.setEnt t i e).out = s.out := s.with_tbls_out _
@[simp] theorem State.setEnt_regs (t : Tbl) (i : Nat) (e : Entry) : (s.setEnt t i e).regs = s.regs := s.with_tbls_regs _
@[simp] theorem State.setEnt_sets (t : Tbl) (i : Nat) (e : Entry) : (s.setEnt t i e).sets = s.sets := s.with_tbls_sets _
@[simp] theorem State.setEnt_smb (t : Tbl) (i : Nat) (e : Entry) : (s.setEnt t i e).smb = s.smb := s.with_tbls_smb _
@[simp] theorem State.setEnt_sys (t : Tbl) (i : Nat) (e : Entry) : (s.setEnt t i e).sys = s.sys := s.with_tbls_sys _
@[simp] theorem State.setEnt_lnd (t : Tbl) (i : Nat) (e : Entry) : (s.setEnt t i e).lnd = s.lnd := s.with_tbls_lnd _
@[simp] theorem State.setEnt_flt (t : Tbl) (i : Nat) (e : Entry) : (s.setEnt t i e).flt = s.flt := s.with_tbls_flt _
@[simp] theorem State.setEnt_oas (t : Tbl) (i : Nat) (e : Entry) : (s.setEnt t i e).oas = s.oas := s.with_tbls_oas _
@[simp] theorem State.setEnt_avs (t : Tbl) (i : Nat) (e : Entry) : (s.setEnt t i e).avs = s.avs := s.with_tbls_avs _
@[simp] theorem State.setEnt_vlt (t : Tbl) (i : Nat) (e : Entry) : (s.setEnt t i e).vlt = s.vlt := s.with_tbls_vlt _
@[simp] theorem State.setEnt_host (t : Tbl) (i : Nat) (e : Entry) : (s.setEnt t i e).host = s.host := s.with_tbls_host _
@[simp] theorem State.setEnt_links (t : Tbl) (i : Nat) (e : Entry) : (s.setEnt t i e).links = s.links := s.with_tbls_links _
@[simp] theorem State.setEnt_lards (t : Tbl) (i : Nat) (e : Entry) : (s.setEnt t i e).lards = s.lards := s.with_tbls_lards _
@[simp] theorem State.setEnt_ports (t : Tbl) (i : Nat) (e : Entry) : (s.setEnt t i e).ports = s.ports := s.with_tbls_ports _
@[simp] theorem State.setEnt_brg (t : Tbl) (i : Nat) (e : Entry) : (s.setEnt t i e).brg = s.brg := s.with_tbls_brg _
@[simp] theorem State.setEnt_gal (t : Tbl) (i : Nat) (e : Entry) : (s.setEnt t i e).gal = s.gal := s.with_tbls_gal _
@[simp] theorem State.setEnt_sch (t : Tbl) (i : Nat) (e : Entry) : (s.setEnt t i e).sch = s.sch := s.with_tbls_sch _
@[simp] theorem State.setEnt_cvn (t : Tbl) (i : Nat) (e : Entry) : (s.setEnt t i e).cvn = s.cvn := s.with_tbls_cvn _
@[simp] theorem State.setEnt_hlm (t : Tbl) (i : Nat) (e : Entry) : (s.setEnt t i e).hlm = s.hlm := s.with_tbls_hlm _
@[simp] theorem State.setEnt_erg (t : Tbl) (i : Nat) (e : Entry) : (s.setEnt t i e).erg = s.erg := s.with_tbls_erg _
@[simp] theorem State.setEnt_mgq (t : Tbl) (i : Nat) (e : Entry) : (s.setEnt t i e).mgq = s.mgq := s.with_tbls_mgq _
@[simp] theorem State.setEnt_mez (t : Tbl) (i : Nat) (e : Entry) : (s.setEnt t i e).mez = s.mez := s.with_tbls_mez _
@[simp] theorem State.setEnt_tap (t : Tbl) (i : Nat) (e : Entry) : (s.setEnt t i e).tap = s.tap := s.with_tbls_tap _

/-! ### st -/

@[simp] theorem State.st_pending (t : Tbl) (i : Nat) (f : TFld) (v : Nat) : (s.st t i f v).pending = s.pending := s.setEnt_pending _ _ _
@[simp] theorem State.st_clock (t : Tbl) (i : Nat) (f : TFld) (v : Nat) : (s.st t i f v).clock = s.clock := s.setEnt_clock _ _ _
@[simp] theorem State.st_free (t : Tbl) (i : Nat) (f : TFld) (v : Nat) : (s.st t i f v).free = s.free := s.setEnt_free _ _ _
@[simp] theorem State.st_out (t : Tbl) (i : Nat) (f : TFld) (v : Nat) : (s.st t i f v).out = s.out := s.setEnt_out _ _ _
@[simp] theorem State.st_regs (t : Tbl) (i : Nat) (f : TFld) (v : Nat) : (s.st t i f v).regs = s.regs := s.setEnt_regs _ _ _
@[simp] theorem State.st_sets (t : Tbl) (i : Nat) (f : TFld) (v : Nat) : (s.st t i f v).sets = s.sets := s.setEnt_sets _ _ _
@[simp] theorem State.st_smb (t : Tbl) (i : Nat) (f : TFld) (v : Nat) : (s.st t i f v).smb = s.smb := s.setEnt_smb _ _ _
@[simp] theorem State.st_sys (t : Tbl) (i : Nat) (f : TFld) (v : Nat) : (s.st t i f v).sys = s.sys := s.setEnt_sys _ _ _
@[simp] theorem State.st_lnd (t : Tbl) (i : Nat) (f : TFld) (v : Nat) : (s.st t i f v).lnd = s.lnd := s.setEnt_lnd _ _ _
@[simp] theorem State.st_flt (t : Tbl) (i : Nat) (f : TFld) (v : Nat) : (s.st t i f v).flt = s.flt := s.setEnt_flt _ _ _
@[simp] theorem State.st_oas (t : Tbl) (i : Nat) (f : TFld) (v : Nat) : (s.st t i f v).oas = s.oas := s.setEnt_oas _ _ _
@[simp] theorem State.st_avs (t : Tbl) (i : Nat) (f : TFld) (v : Nat) : (s.st t i f v).avs = s.avs := s.setEnt_avs _ _ _
@[simp] theorem State.st_vlt (t : Tbl) (i : Nat) (f : TFld) (v : Nat) : (s.st t i f v).vlt = s.vlt := s.setEnt_vlt _ _ _
@[simp] theorem State.st_host (t : Tbl) (i : Nat) (f : TFld) (v : Nat) : (s.st t i f v).host = s.host := s.setEnt_host _ _ _
@[simp] theorem State.st_links (t : Tbl) (i : Nat) (f : TFld) (v : Nat) : (s.st t i f v).links = s.links := s.setEnt_links _ _ _
@[simp] theorem State.st_lards (t : Tbl) (i : Nat) (f : TFld) (v : Nat) : (s.st t i f v).lards = s.lards := s.setEnt_lards _ _ _
@[simp] theorem State.st_ports (t : Tbl) (i : Nat) (f : TFld) (v : Nat) : (s.st t i f v).ports = s.ports := s.setEnt_ports _ _ _
@[simp] theorem State.st_brg (t : Tbl) (i : Nat) (f : TFld) (v : Nat) : (s.st t i f v).brg = s.brg := s.setEnt_brg _ _ _
@[simp] theorem State.st_gal (t : Tbl) (i : Nat) (f : TFld) (v : Nat) : (s.st t i f v).gal = s.gal := s.setEnt_gal _ _ _
@[simp] theorem State.st_sch (t : Tbl) (i : Nat) (f : TFld) (v : Nat) : (s.st t i f v).sch = s.sch := s.setEnt_sch _ _ _
@[simp] theorem State.st_cvn (t : Tbl) (i : Nat) (f : TFld) (v : Nat) : (s.st t i f v).cvn = s.cvn := s.setEnt_cvn _ _ _
@[simp] theorem State.st_hlm (t : Tbl) (i : Nat) (f : TFld) (v : Nat) : (s.st t i f v).hlm = s.hlm := s.setEnt_hlm _ _ _
@[simp] theorem State.st_erg (t : Tbl) (i : Nat) (f : TFld) (v : Nat) : (s.st t i f v).erg = s.erg := s.setEnt_erg _ _ _
@[simp] theorem State.st_mgq (t : Tbl) (i : Nat) (f : TFld) (v : Nat) : (s.st t i f v).mgq = s.mgq := s.setEnt_mgq _ _ _
@[simp] theorem State.st_mez (t : Tbl) (i : Nat) (f : TFld) (v : Nat) : (s.st t i f v).mez = s.mez := s.setEnt_mez _ _ _
@[simp] theorem State.st_tap (t : Tbl) (i : Nat) (f : TFld) (v : Nat) : (s.st t i f v).tap = s.tap := s.setEnt_tap _ _ _

/-! ### tcnt -/

@[simp] theorem State.tcnt_pending (t : Tbl) (i : Nat) (f : TFld) (n : Nat) : (s.tcnt t i f n).pending = s.pending := s.st_pending _ _ _ _
@[simp] theorem State.tcnt_clock (t : Tbl) (i : Nat) (f : TFld) (n : Nat) : (s.tcnt t i f n).clock = s.clock := s.st_clock _ _ _ _
@[simp] theorem State.tcnt_free (t : Tbl) (i : Nat) (f : TFld) (n : Nat) : (s.tcnt t i f n).free = s.free := s.st_free _ _ _ _
@[simp] theorem State.tcnt_out (t : Tbl) (i : Nat) (f : TFld) (n : Nat) : (s.tcnt t i f n).out = s.out := s.st_out _ _ _ _
@[simp] theorem State.tcnt_regs (t : Tbl) (i : Nat) (f : TFld) (n : Nat) : (s.tcnt t i f n).regs = s.regs := s.st_regs _ _ _ _
@[simp] theorem State.tcnt_sets (t : Tbl) (i : Nat) (f : TFld) (n : Nat) : (s.tcnt t i f n).sets = s.sets := s.st_sets _ _ _ _
@[simp] theorem State.tcnt_smb (t : Tbl) (i : Nat) (f : TFld) (n : Nat) : (s.tcnt t i f n).smb = s.smb := s.st_smb _ _ _ _
@[simp] theorem State.tcnt_sys (t : Tbl) (i : Nat) (f : TFld) (n : Nat) : (s.tcnt t i f n).sys = s.sys := s.st_sys _ _ _ _
@[simp] theorem State.tcnt_lnd (t : Tbl) (i : Nat) (f : TFld) (n : Nat) : (s.tcnt t i f n).lnd = s.lnd := s.st_lnd _ _ _ _
@[simp] theorem State.tcnt_flt (t : Tbl) (i : Nat) (f : TFld) (n : Nat) : (s.tcnt t i f n).flt = s.flt := s.st_flt _ _ _ _
@[simp] theorem State.tcnt_oas (t : Tbl) (i : Nat) (f : TFld) (n : Nat) : (s.tcnt t i f n).oas = s.oas := s.st_oas _ _ _ _
@[simp] theorem State.tcnt_avs (t : Tbl) (i : Nat) (f : TFld) (n : Nat) : (s.tcnt t i f n).avs = s.avs := s.st_avs _ _ _ _
@[simp] theorem State.tcnt_vlt (t : Tbl) (i : Nat) (f : TFld) (n : Nat) : (s.tcnt t i f n).vlt = s.vlt := s.st_vlt _ _ _ _
@[simp] theorem State.tcnt_host (t : Tbl) (i : Nat) (f : TFld) (n : Nat) : (s.tcnt t i f n).host = s.host := s.st_host _ _ _ _
@[simp] theorem State.tcnt_links (t : Tbl) (i : Nat) (f : TFld) (n : Nat) : (s.tcnt t i f n).links = s.links := s.st_links _ _ _ _
@[simp] theorem State.tcnt_lards (t : Tbl) (i : Nat) (f : TFld) (n : Nat) : (s.tcnt t i f n).lards = s.lards := s.st_lards _ _ _ _
@[simp] theorem State.tcnt_ports (t : Tbl) (i : Nat) (f : TFld) (n : Nat) : (s.tcnt t i f n).ports = s.ports := s.st_ports _ _ _ _
@[simp] theorem State.tcnt_brg (t : Tbl) (i : Nat) (f : TFld) (n : Nat) : (s.tcnt t i f n).brg = s.brg := s.st_brg _ _ _ _
@[simp] theorem State.tcnt_gal (t : Tbl) (i : Nat) (f : TFld) (n : Nat) : (s.tcnt t i f n).gal = s.gal := s.st_gal _ _ _ _
@[simp] theorem State.tcnt_sch (t : Tbl) (i : Nat) (f : TFld) (n : Nat) : (s.tcnt t i f n).sch = s.sch := s.st_sch _ _ _ _
@[simp] theorem State.tcnt_cvn (t : Tbl) (i : Nat) (f : TFld) (n : Nat) : (s.tcnt t i f n).cvn = s.cvn := s.st_cvn _ _ _ _
@[simp] theorem State.tcnt_hlm (t : Tbl) (i : Nat) (f : TFld) (n : Nat) : (s.tcnt t i f n).hlm = s.hlm := s.st_hlm _ _ _ _
@[simp] theorem State.tcnt_erg (t : Tbl) (i : Nat) (f : TFld) (n : Nat) : (s.tcnt t i f n).erg = s.erg := s.st_erg _ _ _ _
@[simp] theorem State.tcnt_mgq (t : Tbl) (i : Nat) (f : TFld) (n : Nat) : (s.tcnt t i f n).mgq = s.mgq := s.st_mgq _ _ _ _
@[simp] theorem State.tcnt_mez (t : Tbl) (i : Nat) (f : TFld) (n : Nat) : (s.tcnt t i f n).mez = s.mez := s.st_mez _ _ _ _
@[simp] theorem State.tcnt_tap (t : Tbl) (i : Nat) (f : TFld) (n : Nat) : (s.tcnt t i f n).tap = s.tap := s.st_tap _ _ _ _

/-! ### emit -/

@[simp] theorem State.emit_pending (o : Out) : (s.emit o).pending = s.pending := s.with_out_pending _
@[simp] theorem State.emit_clock (o : Out) : (s.emit o).clock = s.clock := s.with_out_clock _
@[simp] theorem State.emit_free (o : Out) : (s.emit o).free = s.free := s.with_out_free _
@[simp] theorem State.emit_regs (o : Out) : (s.emit o).regs = s.regs := s.with_out_regs _
@[simp] theorem State.emit_tbls (o : Out) : (s.emit o).tbls = s.tbls := s.with_out_tbls _
@[simp] theorem State.emit_sets (o : Out) : (s.emit o).sets = s.sets := s.with_out_sets _
@[simp] theorem State.emit_smb (o : Out) : (s.emit o).smb = s.smb := s.with_out_smb _
@[simp] theorem State.emit_sys (o : Out) : (s.emit o).sys = s.sys := s.with_out_sys _
@[simp] theorem State.emit_lnd (o : Out) : (s.emit o).lnd = s.lnd := s.with_out_lnd _
@[simp] theorem State.emit_flt (o : Out) : (s.emit o).flt = s.flt := s.with_out_flt _
@[simp] theorem State.emit_oas (o : Out) : (s.emit o).oas = s.oas := s.with_out_oas _
@[simp] theorem State.emit_avs (o : Out) : (s.emit o).avs = s.avs := s.with_out_avs _
@[simp] theorem State.emit_vlt (o : Out) : (s.emit o).vlt = s.vlt := s.with_out_vlt _
@[simp] theorem State.emit_host (o : Out) : (s.emit o).host = s.host := s.with_out_host _
@[simp] theorem State.emit_links (o : Out) : (s.emit o).links = s.links := s.with_out_links _
@[simp] theorem State.emit_lards (o : Out) : (s.emit o).lards = s.lards := s.with_out_lards _
@[simp] theorem State.emit_ports (o : Out) : (s.emit o).ports = s.ports := s.with_out_ports _
@[simp] theorem State.emit_brg (o : Out) : (s.emit o).brg = s.brg := s.with_out_brg _
@[simp] theorem State.emit_gal (o : Out) : (s.emit o).gal = s.gal := s.with_out_gal _
@[simp] theorem State.emit_sch (o : Out) : (s.emit o).sch = s.sch := s.with_out_sch _
@[simp] theorem State.emit_cvn (o : Out) : (s.emit o).cvn = s.cvn := s.with_out_cvn _
@[simp] theorem State.emit_hlm (o : Out) : (s.emit o).hlm = s.hlm := s.with_out_hlm _
@[simp] theorem State.emit_erg (o : Out) : (s.emit o).erg = s.erg := s.with_out_erg _
@[simp] theorem State.emit_mgq (o : Out) : (s.emit o).mgq = s.mgq := s.with_out_mgq _
@[simp] theorem State.emit_mez (o : Out) : (s.emit o).mez = s.mez := s.with_out_mez _
@[simp] theorem State.emit_tap (o : Out) : (s.emit o).tap = s.tap := s.with_out_tap _

/-! ### drawn -/

@[simp] theorem State.drawn_pending : s.drawn.pending = s.pending := s.with_free_pending _
@[simp] theorem State.drawn_clock : s.drawn.clock = s.clock := s.with_free_clock _
@[simp] theorem State.drawn_out : s.drawn.out = s.out := s.with_free_out _
@[simp] theorem State.drawn_regs : s.drawn.regs = s.regs := s.with_free_regs _
@[simp] theorem State.drawn_tbls : s.drawn.tbls = s.tbls := s.with_free_tbls _
@[simp] theorem State.drawn_sets : s.drawn.sets = s.sets := s.with_free_sets _
@[simp] theorem State.drawn_smb : s.drawn.smb = s.smb := s.with_free_smb _
@[simp] theorem State.drawn_sys : s.drawn.sys = s.sys := s.with_free_sys _
@[simp] theorem State.drawn_lnd : s.drawn.lnd = s.lnd := s.with_free_lnd _
@[simp] theorem State.drawn_flt : s.drawn.flt = s.flt := s.with_free_flt _
@[simp] theorem State.drawn_oas : s.drawn.oas = s.oas := s.with_free_oas _
@[simp] theorem State.drawn_avs : s.drawn.avs = s.avs := s.with_free_avs _
@[simp] theorem State.drawn_vlt : s.drawn.vlt = s.vlt := s.with_free_vlt _
@[simp] theorem State.drawn_host : s.drawn.host = s.host := s.with_free_host _
@[simp] theorem State.drawn_links : s.drawn.links = s.links := s.with_free_links _
@[simp] theorem State.drawn_lards : s.drawn.lards = s.lards := s.with_free_lards _
@[simp] theorem State.drawn_ports : s.drawn.ports = s.ports := s.with_free_ports _
@[simp] theorem State.drawn_brg : s.drawn.brg = s.brg := s.with_free_brg _
@[simp] theorem State.drawn_gal : s.drawn.gal = s.gal := s.with_free_gal _
@[simp] theorem State.drawn_sch : s.drawn.sch = s.sch := s.with_free_sch _
@[simp] theorem State.drawn_cvn : s.drawn.cvn = s.cvn := s.with_free_cvn _
@[simp] theorem State.drawn_hlm : s.drawn.hlm = s.hlm := s.with_free_hlm _
@[simp] theorem State.drawn_erg : s.drawn.erg = s.erg := s.with_free_erg _
@[simp] theorem State.drawn_mgq : s.drawn.mgq = s.mgq := s.with_free_mgq _
@[simp] theorem State.drawn_mez : s.drawn.mez = s.mez := s.with_free_mez _
@[simp] theorem State.drawn_tap : s.drawn.tap = s.tap := s.with_free_tap _

/-! ### Fields of words -/

theorem bits_lt (x lo w : Nat) : bits x lo w < 2 ^ w := Nat.mod_lt _ (by positivity)

theorem putBits_lt {n x lo w v : Nat} (hx : x < 2 ^ n) (h : lo + w ≤ n) : putBits x lo w v < 2 ^ n := by
  have hd : x / 2 ^ (lo + w) < 2 ^ (n - (lo + w)) := by
    rw [Nat.div_lt_iff_lt_mul (by positivity), ← pow_add]; simpa [Nat.sub_add_cancel h] using hx
  have h1 : x % 2 ^ lo < 2 ^ lo := Nat.mod_lt _ (by positivity)
  have h2 : v % 2 ^ w < 2 ^ w := Nat.mod_lt _ (by positivity)
  have e : 2 ^ n = 2 ^ (n - (lo + w)) * 2 ^ (lo + w) := by rw [← pow_add, Nat.sub_add_cancel h]
  have e2 : 2 ^ (lo + w) = 2 ^ lo * 2 ^ w := pow_add _ _ _
  unfold putBits
  have h3 : x % 2 ^ lo + v % 2 ^ w * 2 ^ lo < 2 ^ (lo + w) := by
    have h4 : (v % 2 ^ w + 1) * 2 ^ lo ≤ 2 ^ w * 2 ^ lo := Nat.mul_le_mul_right _ h2
    rw [e2, Nat.mul_comm (2 ^ lo)]; rw [Nat.add_mul] at h4; omega
  calc _ < 2 ^ (lo + w) + x / 2 ^ (lo + w) * 2 ^ (lo + w) := by omega
    _ = (x / 2 ^ (lo + w) + 1) * 2 ^ (lo + w) := by ring
    _ ≤ 2 ^ (n - (lo + w)) * 2 ^ (lo + w) := Nat.mul_le_mul_right _ hd
    _ = 2 ^ n := e.symm

theorem bits_putBits_self (x lo w v : Nat) : bits (putBits x lo w v) lo w = v % 2 ^ w := by
  have h1 : x % 2 ^ lo < 2 ^ lo := Nat.mod_lt _ (by positivity)
  have e2 : 2 ^ (lo + w) = 2 ^ lo * 2 ^ w := pow_add _ _ _
  unfold bits putBits
  have : x % 2 ^ lo + v % 2 ^ w * 2 ^ lo + x / 2 ^ (lo + w) * 2 ^ (lo + w)
      = x % 2 ^ lo + 2 ^ lo * (v % 2 ^ w + 2 ^ w * (x / 2 ^ (lo + w))) := by rw [e2]; ring
  rw [this, Nat.add_mul_div_left _ _ (by positivity), Nat.div_eq_of_lt h1, Nat.zero_add, Nat.add_mul_mod_self_left,
    Nat.mod_mod]

theorem testBit_bits (x lo w i : Nat) : (bits x lo w).testBit i = (decide (i < w) && x.testBit (lo + i)) := by
  simp [bits, Nat.testBit_mod_two_pow, Nat.testBit_div_two_pow, Nat.add_comm]

theorem testBit_putBits (x lo w v i : Nat) : (putBits x lo w v).testBit i =
    if i < lo then x.testBit i else if i < lo + w then v.testBit (i - lo) else x.testBit i := by
  have e2 : 2 ^ (lo + w) = 2 ^ lo * 2 ^ w := pow_add _ _ _
  have h1 : x % 2 ^ lo < 2 ^ lo := Nat.mod_lt _ (by positivity)
  have h2 : v % 2 ^ w < 2 ^ w := Nat.mod_lt _ (by positivity)
  have : putBits x lo w v = 2 ^ lo * (2 ^ w * (x / 2 ^ (lo + w)) + v % 2 ^ w) + x % 2 ^ lo := by
    unfold putBits; rw [e2]; ring
  rw [this, Nat.testBit_two_pow_mul_add _ h1]
  by_cases hi : i < lo
  · simp [hi, Nat.testBit_mod_two_pow]
  · rw [if_neg hi, if_neg hi, Nat.testBit_two_pow_mul_add _ h2]
    by_cases hj : i < lo + w
    · have : i - lo < w := by omega
      simp [hj, this, Nat.testBit_mod_two_pow]
    · have : ¬ i - lo < w := by omega
      rw [if_neg this, if_neg hj, Nat.testBit_div_two_pow]
      congr 1; omega

theorem bits_putBits_of_disjoint {x lo w v lo' w' : Nat} (h : lo' + w' ≤ lo ∨ lo + w ≤ lo') :
    bits (putBits x lo w v) lo' w' = bits x lo' w' := by
  apply Nat.eq_of_testBit_eq
  intro i
  rw [testBit_bits, testBit_bits, testBit_putBits]
  by_cases hi : i < w'
  · have h' : lo' + i < lo ∨ lo + w ≤ lo' + i := by omega
    rcases h' with h' | h'
    · simp [h']
    · have : ¬ lo' + i < lo := by omega
      have h'' : ¬ lo' + i < lo + w := by omega
      simp [this, h'']
  · simp [hi]

/-- A field that was put reads as what was put, below 2 ^ w. -/
theorem fld_put_self {n : Nat} (x : BitVec n) {lo w : Nat} (v : Nat) (h : lo + w ≤ n) : fld (put x lo w v) lo w = v % 2 ^ w := by
  unfold fld put
  rw [BitVec.toNat_ofNat, Nat.mod_eq_of_lt (putBits_lt x.isLt h), bits_putBits_self]

/-- A field apart from the one that was put keeps its value. -/
theorem fld_put_of_disjoint {n : Nat} (x : BitVec n) {lo w lo' w' : Nat} (v : Nat) (h : lo + w ≤ n)
    (hd : lo' + w' ≤ lo ∨ lo + w ≤ lo') : fld (put x lo w v) lo' w' = fld x lo' w' := by
  unfold fld put
  rw [BitVec.toNat_ofNat, Nat.mod_eq_of_lt (putBits_lt x.isLt h), bits_putBits_of_disjoint hd]

theorem fld_lt {n : Nat} (x : BitVec n) (lo w : Nat) : fld x lo w < 2 ^ w := bits_lt _ _ _

/-! ### Registers -/

@[simp] theorem State.reg_setReg_self (a : Nat) (v : Word) : (s.setReg a v).reg a = v := SMap.get_set_self _ _ _ _

theorem State.reg_setReg_of_ne {a b : Nat} (v : Word) (h : b ≠ a) : (s.setReg a v).reg b = s.reg b := SMap.get_set_of_ne _ _ _ h

theorem State.reg_sf_of_ne {p b : Nat} {f : Fld} (v : Nat) (h : b ≠ raddr p f.off) : (s.sf p f v).reg b = s.reg b :=
  s.reg_setReg_of_ne _ h

theorem State.reg_cnt_of_ne {p off b : Nat} (n : Nat) (h : b ≠ raddr p off) : (s.cnt p off n).reg b = s.reg b :=
  s.reg_setReg_of_ne _ h

/-- A field of a register that hardware set reads as the value, below 2 ^ w. -/
theorem State.gf_sf_self (p : Nat) (f : Fld) (v : Nat) (h : f.lo + f.w ≤ 32) : (s.sf p f v).gf p f = v % 2 ^ f.w := by
  unfold State.gf State.sf
  rw [State.reg_setReg_self, fld_put_self _ _ h]

/-- Another field of the same register keeps its value. -/
theorem State.gf_sf_of_disjoint (p : Nat) {f g : Fld} (v : Nat) (h : f.lo + f.w ≤ 32)
    (hd : g.off ≠ f.off ∨ g.lo + g.w ≤ f.lo ∨ f.lo + f.w ≤ g.lo) : (s.sf p f v).gf p g = s.gf p g := by
  unfold State.gf State.sf
  by_cases ho : g.off = f.off
  · rw [ho, State.reg_setReg_self, fld_put_of_disjoint _ _ h (by simpa [ho] using hd)]
  · rw [State.reg_setReg_of_ne]
    simp only [raddr]; omega

/-- A field of another register keeps its value. -/
theorem State.gf_setReg_of_ne {p a : Nat} {f : Fld} (v : Word) (h : raddr p f.off ≠ a) : (s.setReg a v).gf p f = s.gf p f := by
  unfold State.gf; rw [State.reg_setReg_of_ne _ _ h]

theorem State.gf_sf_of_ne {p q : Nat} {f g : Fld} (v : Nat) (h : raddr q g.off ≠ raddr p f.off) : (s.sf p f v).gf q g = s.gf q g :=
  s.gf_setReg_of_ne _ h

theorem State.gf_cnt_of_ne {p q off : Nat} {g : Fld} (n : Nat) (h : raddr q g.off ≠ raddr p off) :
    (s.cnt p off n).gf q g = s.gf q g := s.gf_setReg_of_ne _ h

theorem State.gf_lt (p : Nat) (f : Fld) : s.gf p f < 2 ^ f.w := fld_lt _ _ _

/-- A counter that is not at its greatest value advances. -/
theorem State.reg_cnt_self (p off n : Nat) :
    ((s.cnt p off n).reg (raddr p off)).toNat = min ((s.reg (raddr p off)).toNat + n) 0xFFFFFFFF := by
  unfold State.cnt
  rw [State.reg_setReg_self, BitVec.toNat_ofNat, Nat.mod_eq_of_lt]
  have : min ((s.reg (raddr p off)).toNat + n) 0xFFFFFFFF ≤ 0xFFFFFFFF := Nat.min_le_right _ _
  omega

@[simp] theorem State.reg_setEnt (t : Tbl) (i : Nat) (e : Entry) (a : Nat) : (s.setEnt t i e).reg a = s.reg a := by rw [State.reg, State.setEnt_regs, State.reg]
@[simp] theorem State.reg_st (t : Tbl) (i : Nat) (f : TFld) (v a : Nat) : (s.st t i f v).reg a = s.reg a := by rw [State.reg, State.st_regs, State.reg]
@[simp] theorem State.reg_tcnt (t : Tbl) (i : Nat) (f : TFld) (n a : Nat) : (s.tcnt t i f n).reg a = s.reg a := by rw [State.reg, State.tcnt_regs, State.reg]
@[simp] theorem State.reg_emit (o : Out) (a : Nat) : (s.emit o).reg a = s.reg a := by rw [State.reg, State.emit_regs, State.reg]
@[simp] theorem State.reg_drawn (a : Nat) : s.drawn.reg a = s.reg a := by rw [State.reg, State.drawn_regs, State.reg]
@[simp] theorem State.gf_setEnt (t : Tbl) (i : Nat) (e : Entry) (p : Nat) (f : Fld) : (s.setEnt t i e).gf p f = s.gf p f := by rw [State.gf, State.reg_setEnt, State.gf]
@[simp] theorem State.gf_st (t : Tbl) (i : Nat) (f : TFld) (v p : Nat) (g : Fld) : (s.st t i f v).gf p g = s.gf p g := by rw [State.gf, State.reg_st, State.gf]
@[simp] theorem State.gf_emit (o : Out) (p : Nat) (f : Fld) : (s.emit o).gf p f = s.gf p f := by rw [State.gf, State.reg_emit, State.gf]

/-! ### Tables -/

@[simp] theorem State.ent_setEnt_self (t : Tbl) (i : Nat) (e : Entry) : (s.setEnt t i e).ent t i = e := SMap.get_set_self _ _ _ _

theorem State.ent_setEnt_of_ne {t u : Tbl} {i j : Nat} (e : Entry) (h : tkey u j ≠ tkey t i) :
    (s.setEnt t i e).ent u j = s.ent u j := SMap.get_set_of_ne _ _ _ h

/-- A field of a table entry that hardware set reads as the value, below 2 ^ w. -/
theorem State.tf_st_self (t : Tbl) (i : Nat) (f : TFld) (v : Nat) (h : f.lo + f.w ≤ 1024) : (s.st t i f v).tf t i f = v % 2 ^ f.w := by
  unfold State.tf State.st
  rw [State.ent_setEnt_self, fld_put_self _ _ h]

theorem State.tf_st_of_disjoint (t : Tbl) (i : Nat) {f g : TFld} (v : Nat) (h : f.lo + f.w ≤ 1024)
    (hd : g.lo + g.w ≤ f.lo ∨ f.lo + f.w ≤ g.lo) : (s.st t i f v).tf t i g = s.tf t i g := by
  unfold State.tf State.st
  rw [State.ent_setEnt_self, fld_put_of_disjoint _ _ h hd]

theorem State.tf_st_of_ne {t u : Tbl} {i j : Nat} {f g : TFld} (v : Nat) (h : tkey u j ≠ tkey t i) :
    (s.st t i f v).tf u j g = s.tf u j g := by
  unfold State.tf; rw [State.st, State.ent_setEnt_of_ne _ _ h]

@[simp] theorem State.ent_setReg (a : Nat) (v : Word) (t : Tbl) (i : Nat) : (s.setReg a v).ent t i = s.ent t i := by rw [State.ent, State.setReg_tbls, State.ent]
@[simp] theorem State.ent_sf (p : Nat) (f : Fld) (v : Nat) (t : Tbl) (i : Nat) : (s.sf p f v).ent t i = s.ent t i := by rw [State.ent, State.sf_tbls, State.ent]
@[simp] theorem State.ent_cnt (p off n : Nat) (t : Tbl) (i : Nat) : (s.cnt p off n).ent t i = s.ent t i := by rw [State.ent, State.cnt_tbls, State.ent]
@[simp] theorem State.ent_emit (o : Out) (t : Tbl) (i : Nat) : (s.emit o).ent t i = s.ent t i := by rw [State.ent, State.emit_tbls, State.ent]
@[simp] theorem State.tf_setReg (a : Nat) (v : Word) (t : Tbl) (i : Nat) (f : TFld) : (s.setReg a v).tf t i f = s.tf t i f := by rw [State.tf, State.ent_setReg, State.tf]
@[simp] theorem State.tf_sf (p : Nat) (f : Fld) (v : Nat) (t : Tbl) (i : Nat) (g : TFld) : (s.sf p f v).tf t i g = s.tf t i g := by rw [State.tf, State.ent_sf, State.tf]
@[simp] theorem State.tf_cnt (p off n : Nat) (t : Tbl) (i : Nat) (f : TFld) : (s.cnt p off n).tf t i f = s.tf t i f := by rw [State.tf, State.ent_cnt, State.tf]
@[simp] theorem State.tf_emit (o : Out) (t : Tbl) (i : Nat) (f : TFld) : (s.emit o).tf t i f = s.tf t i f := by rw [State.tf, State.ent_emit, State.tf]

/-! ### heal, rewrite: an entry written again (R38) -/

@[simp] theorem State.heal_pending (t : Tbl) (i : Nat) : (s.heal t i).pending = s.pending := rfl
@[simp] theorem State.heal_clock (t : Tbl) (i : Nat) : (s.heal t i).clock = s.clock := rfl
@[simp] theorem State.heal_free (t : Tbl) (i : Nat) : (s.heal t i).free = s.free := rfl
@[simp] theorem State.heal_out (t : Tbl) (i : Nat) : (s.heal t i).out = s.out := rfl
@[simp] theorem State.heal_regs (t : Tbl) (i : Nat) : (s.heal t i).regs = s.regs := rfl
@[simp] theorem State.heal_tbls (t : Tbl) (i : Nat) : (s.heal t i).tbls = s.tbls := rfl
@[simp] theorem State.heal_sets (t : Tbl) (i : Nat) : (s.heal t i).sets = s.sets := rfl
@[simp] theorem State.heal_smb (t : Tbl) (i : Nat) : (s.heal t i).smb = s.smb := rfl
@[simp] theorem State.heal_sys (t : Tbl) (i : Nat) : (s.heal t i).sys = s.sys := rfl
@[simp] theorem State.heal_lnd (t : Tbl) (i : Nat) : (s.heal t i).lnd = s.lnd := rfl
@[simp] theorem State.heal_oas (t : Tbl) (i : Nat) : (s.heal t i).oas = s.oas := rfl
@[simp] theorem State.heal_avs (t : Tbl) (i : Nat) : (s.heal t i).avs = s.avs := rfl
@[simp] theorem State.heal_vlt (t : Tbl) (i : Nat) : (s.heal t i).vlt = s.vlt := rfl
@[simp] theorem State.heal_host (t : Tbl) (i : Nat) : (s.heal t i).host = s.host := rfl
@[simp] theorem State.heal_links (t : Tbl) (i : Nat) : (s.heal t i).links = s.links := rfl
@[simp] theorem State.heal_lards (t : Tbl) (i : Nat) : (s.heal t i).lards = s.lards := rfl
@[simp] theorem State.heal_ports (t : Tbl) (i : Nat) : (s.heal t i).ports = s.ports := rfl
@[simp] theorem State.heal_brg (t : Tbl) (i : Nat) : (s.heal t i).brg = s.brg := rfl
@[simp] theorem State.heal_gal (t : Tbl) (i : Nat) : (s.heal t i).gal = s.gal := rfl
@[simp] theorem State.heal_sch (t : Tbl) (i : Nat) : (s.heal t i).sch = s.sch := rfl
@[simp] theorem State.heal_cvn (t : Tbl) (i : Nat) : (s.heal t i).cvn = s.cvn := rfl
@[simp] theorem State.heal_hlm (t : Tbl) (i : Nat) : (s.heal t i).hlm = s.hlm := rfl
@[simp] theorem State.heal_erg (t : Tbl) (i : Nat) : (s.heal t i).erg = s.erg := rfl
@[simp] theorem State.heal_mgq (t : Tbl) (i : Nat) : (s.heal t i).mgq = s.mgq := rfl
@[simp] theorem State.heal_mez (t : Tbl) (i : Nat) : (s.heal t i).mez = s.mez := rfl
@[simp] theorem State.heal_tap (t : Tbl) (i : Nat) : (s.heal t i).tap = s.tap := rfl
@[simp] theorem State.rewrite_pending (t : Tbl) (i : Nat) (e : Entry) : (s.rewrite t i e).pending = s.pending :=
  ((s.setEnt t i e).heal_pending t i).trans (s.setEnt_pending t i e)
@[simp] theorem State.rewrite_clock (t : Tbl) (i : Nat) (e : Entry) : (s.rewrite t i e).clock = s.clock :=
  ((s.setEnt t i e).heal_clock t i).trans (s.setEnt_clock t i e)
@[simp] theorem State.rewrite_free (t : Tbl) (i : Nat) (e : Entry) : (s.rewrite t i e).free = s.free :=
  ((s.setEnt t i e).heal_free t i).trans (s.setEnt_free t i e)
@[simp] theorem State.rewrite_out (t : Tbl) (i : Nat) (e : Entry) : (s.rewrite t i e).out = s.out :=
  ((s.setEnt t i e).heal_out t i).trans (s.setEnt_out t i e)
@[simp] theorem State.rewrite_regs (t : Tbl) (i : Nat) (e : Entry) : (s.rewrite t i e).regs = s.regs :=
  ((s.setEnt t i e).heal_regs t i).trans (s.setEnt_regs t i e)
@[simp] theorem State.rewrite_sets (t : Tbl) (i : Nat) (e : Entry) : (s.rewrite t i e).sets = s.sets :=
  ((s.setEnt t i e).heal_sets t i).trans (s.setEnt_sets t i e)
@[simp] theorem State.rewrite_smb (t : Tbl) (i : Nat) (e : Entry) : (s.rewrite t i e).smb = s.smb :=
  ((s.setEnt t i e).heal_smb t i).trans (s.setEnt_smb t i e)
@[simp] theorem State.rewrite_sys (t : Tbl) (i : Nat) (e : Entry) : (s.rewrite t i e).sys = s.sys :=
  ((s.setEnt t i e).heal_sys t i).trans (s.setEnt_sys t i e)
@[simp] theorem State.rewrite_lnd (t : Tbl) (i : Nat) (e : Entry) : (s.rewrite t i e).lnd = s.lnd :=
  ((s.setEnt t i e).heal_lnd t i).trans (s.setEnt_lnd t i e)
@[simp] theorem State.rewrite_oas (t : Tbl) (i : Nat) (e : Entry) : (s.rewrite t i e).oas = s.oas :=
  ((s.setEnt t i e).heal_oas t i).trans (s.setEnt_oas t i e)
@[simp] theorem State.rewrite_avs (t : Tbl) (i : Nat) (e : Entry) : (s.rewrite t i e).avs = s.avs :=
  ((s.setEnt t i e).heal_avs t i).trans (s.setEnt_avs t i e)
@[simp] theorem State.rewrite_vlt (t : Tbl) (i : Nat) (e : Entry) : (s.rewrite t i e).vlt = s.vlt :=
  ((s.setEnt t i e).heal_vlt t i).trans (s.setEnt_vlt t i e)
@[simp] theorem State.rewrite_host (t : Tbl) (i : Nat) (e : Entry) : (s.rewrite t i e).host = s.host :=
  ((s.setEnt t i e).heal_host t i).trans (s.setEnt_host t i e)
@[simp] theorem State.rewrite_links (t : Tbl) (i : Nat) (e : Entry) : (s.rewrite t i e).links = s.links :=
  ((s.setEnt t i e).heal_links t i).trans (s.setEnt_links t i e)
@[simp] theorem State.rewrite_lards (t : Tbl) (i : Nat) (e : Entry) : (s.rewrite t i e).lards = s.lards :=
  ((s.setEnt t i e).heal_lards t i).trans (s.setEnt_lards t i e)
@[simp] theorem State.rewrite_ports (t : Tbl) (i : Nat) (e : Entry) : (s.rewrite t i e).ports = s.ports :=
  ((s.setEnt t i e).heal_ports t i).trans (s.setEnt_ports t i e)
@[simp] theorem State.rewrite_brg (t : Tbl) (i : Nat) (e : Entry) : (s.rewrite t i e).brg = s.brg :=
  ((s.setEnt t i e).heal_brg t i).trans (s.setEnt_brg t i e)
@[simp] theorem State.rewrite_gal (t : Tbl) (i : Nat) (e : Entry) : (s.rewrite t i e).gal = s.gal :=
  ((s.setEnt t i e).heal_gal t i).trans (s.setEnt_gal t i e)
@[simp] theorem State.rewrite_sch (t : Tbl) (i : Nat) (e : Entry) : (s.rewrite t i e).sch = s.sch :=
  ((s.setEnt t i e).heal_sch t i).trans (s.setEnt_sch t i e)
@[simp] theorem State.rewrite_cvn (t : Tbl) (i : Nat) (e : Entry) : (s.rewrite t i e).cvn = s.cvn :=
  ((s.setEnt t i e).heal_cvn t i).trans (s.setEnt_cvn t i e)
@[simp] theorem State.rewrite_hlm (t : Tbl) (i : Nat) (e : Entry) : (s.rewrite t i e).hlm = s.hlm :=
  ((s.setEnt t i e).heal_hlm t i).trans (s.setEnt_hlm t i e)
@[simp] theorem State.rewrite_erg (t : Tbl) (i : Nat) (e : Entry) : (s.rewrite t i e).erg = s.erg :=
  ((s.setEnt t i e).heal_erg t i).trans (s.setEnt_erg t i e)
@[simp] theorem State.rewrite_mgq (t : Tbl) (i : Nat) (e : Entry) : (s.rewrite t i e).mgq = s.mgq :=
  ((s.setEnt t i e).heal_mgq t i).trans (s.setEnt_mgq t i e)
@[simp] theorem State.rewrite_mez (t : Tbl) (i : Nat) (e : Entry) : (s.rewrite t i e).mez = s.mez :=
  ((s.setEnt t i e).heal_mez t i).trans (s.setEnt_mez t i e)
@[simp] theorem State.rewrite_tap (t : Tbl) (i : Nat) (e : Entry) : (s.rewrite t i e).tap = s.tap :=
  ((s.setEnt t i e).heal_tap t i).trans (s.setEnt_tap t i e)
@[simp] theorem State.reg_heal (t : Tbl) (i a : Nat) : (s.heal t i).reg a = s.reg a := rfl
@[simp] theorem State.ent_heal (t u : Tbl) (i j : Nat) : (s.heal t i).ent u j = s.ent u j := rfl
@[simp] theorem State.ent_rewrite_self (t : Tbl) (i : Nat) (e : Entry) : (s.rewrite t i e).ent t i = e :=
  ((s.setEnt t i e).ent_heal t t i i).trans (s.ent_setEnt_self t i e)

/-- An entry written again has no error, and the others keep theirs. -/
theorem State.hurt_heal_self (t : Tbl) (i : Nat) : (s.heal t i).hurt t i = false := by
  simp [State.hurt, State.heal]
theorem State.hurt_heal_of_ne {t u : Tbl} {i j : Nat} (h : tkey u j ≠ tkey t i) : (s.heal t i).hurt u j = s.hurt u j := by
  simp [State.hurt, State.heal, h]

end Sys2Proof.Machine
end

