-- ==== Sys2Proof/Laws/Reports.lean ====
section
/-!
SUPPORT. What a report (an event, a capture, the firing of a source) may change: registers, Landing sources, the Oasis, the history
queue; and nothing else.
-/

namespace Sys2Proof.Machine

/-- A state is another but for its registers, its tables, the Oasis and the history queue. -/
def SameBut (s t : State) : Prop := t = { s with regs := t.regs, tbls := t.tbls, oas := t.oas, flt := t.flt }

theorem SameBut.refl (s : State) : SameBut s s := rfl

theorem SameBut.trans {s t u : State} (h : SameBut s t) (k : SameBut t u) : SameBut s u := by
  unfold SameBut at *; rw [k, h]

theorem sameBut_regs (s : State) (x : List (Nat × Word)) : SameBut s { s with regs := x } := rfl
theorem sameBut_tbls (s : State) (x : List (Nat × Entry)) : SameBut s { s with tbls := x } := rfl
theorem sameBut_oas (s : State) (x : Oasis) : SameBut s { s with oas := x } := rfl
theorem sameBut_flt (s : State) (x : Flt) : SameBut s { s with flt := x } := rfl

theorem SameBut.pending {s t : State} (h : SameBut s t) : t.pending = s.pending := by rw [h]
theorem SameBut.clock {s t : State} (h : SameBut s t) : t.clock = s.clock := by rw [h]
theorem SameBut.free {s t : State} (h : SameBut s t) : t.free = s.free := by rw [h]
theorem SameBut.out {s t : State} (h : SameBut s t) : t.out = s.out := by rw [h]
theorem SameBut.sets {s t : State} (h : SameBut s t) : t.sets = s.sets := by rw [h]
theorem SameBut.smb {s t : State} (h : SameBut s t) : t.smb = s.smb := by rw [h]
theorem SameBut.sys {s t : State} (h : SameBut s t) : t.sys = s.sys := by rw [h]
theorem SameBut.lnd {s t : State} (h : SameBut s t) : t.lnd = s.lnd := by rw [h]
theorem SameBut.avs {s t : State} (h : SameBut s t) : t.avs = s.avs := by rw [h]
theorem SameBut.vlt {s t : State} (h : SameBut s t) : t.vlt = s.vlt := by rw [h]
theorem SameBut.host {s t : State} (h : SameBut s t) : t.host = s.host := by rw [h]
theorem SameBut.links {s t : State} (h : SameBut s t) : t.links = s.links := by rw [h]
theorem SameBut.lards {s t : State} (h : SameBut s t) : t.lards = s.lards := by rw [h]
theorem SameBut.ports {s t : State} (h : SameBut s t) : t.ports = s.ports := by rw [h]
theorem SameBut.brg {s t : State} (h : SameBut s t) : t.brg = s.brg := by rw [h]
theorem SameBut.gal {s t : State} (h : SameBut s t) : t.gal = s.gal := by rw [h]
theorem SameBut.sch {s t : State} (h : SameBut s t) : t.sch = s.sch := by rw [h]
theorem SameBut.cvn {s t : State} (h : SameBut s t) : t.cvn = s.cvn := by rw [h]
theorem SameBut.hlm {s t : State} (h : SameBut s t) : t.hlm = s.hlm := by rw [h]
theorem SameBut.erg {s t : State} (h : SameBut s t) : t.erg = s.erg := by rw [h]
theorem SameBut.mgq {s t : State} (h : SameBut s t) : t.mgq = s.mgq := by rw [h]
theorem SameBut.mez {s t : State} (h : SameBut s t) : t.mez = s.mez := by rw [h]
theorem SameBut.tap {s t : State} (h : SameBut s t) : t.tap = s.tap := by rw [h]

theorem sameBut_setReg (s : State) (a : Nat) (v : Word) : SameBut s (s.setReg a v) := sameBut_regs s _
theorem sameBut_sf (s : State) (p : Nat) (f : Fld) (v : Nat) : SameBut s (s.sf p f v) := sameBut_regs s _
theorem sameBut_cnt (s : State) (p off n : Nat) : SameBut s (s.cnt p off n) := sameBut_regs s _
theorem sameBut_setEnt (s : State) (t : Tbl) (i : Nat) (e : Entry) : SameBut s (s.setEnt t i e) := sameBut_tbls s _
theorem sameBut_st (s : State) (t : Tbl) (i : Nat) (f : TFld) (v : Nat) : SameBut s (s.st t i f v) := sameBut_tbls s _

theorem sameBut_ite {s a b : State} {c : Prop} [Decidable c] (h : SameBut s a) (k : SameBut s b) :
    SameBut s (if c then a else b) := by
  by_cases hc : c
  · rw [if_pos hc]; exact h
  · rw [if_neg hc]; exact k

theorem sameBut_becomePending (s : State) (x : Nat) : SameBut s (s.becomePending x) := by
  unfold State.becomePending
  extract_lets t
  split
  · exact (sameBut_st s _ _ _ _).trans (sameBut_cnt _ _ _ _)
  · exact sameBut_st s _ _ _ _

theorem sameBut_wakeHint (s : State) (f : Fld) : SameBut s (s.wakeHint f) := by
  unfold State.wakeHint
  exact sameBut_ite ((sameBut_oas s _).trans (sameBut_sf _ _ _ _)) (SameBut.refl s)

theorem sameBut_wakeBySource (s : State) (x : Nat) : SameBut s (s.wakeBySource x) := by
  unfold State.wakeBySource
  extract_lets t l
  exact sameBut_ite (sameBut_ite ((sameBut_oas s _).trans (sameBut_sf _ _ _ _)) (SameBut.refl s))
    (sameBut_ite (sameBut_wakeHint s _) (SameBut.refl s))

theorem sameBut_oasLatch (s : State) (slot x : Nat) : SameBut s (s.oasLatch slot x) := by
  unfold State.oasLatch
  split
  · exact SameBut.refl s
  · extract_lets t u a
    have h1 : SameBut s t := by
      unfold t
      split
      · exact (sameBut_sf s _ _ _).trans (sameBut_sf _ _ _ _)
      · exact SameBut.refl s
    exact ((h1.trans (sameBut_oas t _)).trans (sameBut_setReg _ _ _)).trans (sameBut_sf _ _ _ _)

theorem sameBut_oasWatch (s : State) (x : Nat) : SameBut s (s.oasWatch x) := by
  unfold State.oasWatch
  repeat' split
  · exact sameBut_oasLatch s _ _
  · exact SameBut.refl s
  · exact SameBut.refl s

theorem sameBut_fire (s : State) (x : Nat) : SameBut s (s.fire x) := by
  unfold State.fire
  split
  · exact sameBut_oasWatch s x
  · split
    · extract_lets st t
      have h : SameBut s t := by
        unfold t
        repeat' split
        · exact sameBut_becomePending s x
        · exact sameBut_st s _ _ _ _
        · exact SameBut.refl s
      exact h.trans (sameBut_wakeBySource t x)
    · exact SameBut.refl s

theorem sameBut_setLevel (s : State) (x : Nat) (l : Bool) : SameBut s (s.setLevel x l) := by
  unfold State.setLevel
  extract_lets was t
  split
  · exact (sameBut_st s _ _ _ _).trans (sameBut_fire _ _)
  · exact sameBut_st s _ _ _ _

theorem sameBut_pageSource (s : State) (p : Nat) (w : Bool) : SameBut s (s.pageSource p w) := by
  unfold State.pageSource
  extract_lets l was t
  split
  · exact (sameBut_setLevel s _ _).trans (sameBut_fire _ _)
  · exact sameBut_setLevel s _ _

theorem sameBut_event (s : State) (p b : Nat) : SameBut s (s.event p b) :=
  (sameBut_setReg s _ _).trans (sameBut_pageSource _ _ _)

theorem sameBut_takeCapture (s : State) (p code c1 c2 c3 : Nat) : SameBut s (s.takeCapture p code c1 c2 c3) := by
  unfold State.takeCapture
  split
  · exact (sameBut_sf s _ _ _).trans (sameBut_sf _ _ _ _)
  · exact (((((((sameBut_sf s _ _ _).trans (sameBut_sf _ _ _ _)).trans (sameBut_setReg _ _ _)).trans (sameBut_setReg _ _ _)).trans
      (sameBut_setReg _ _ _)).trans (sameBut_setReg _ _ _)).trans (sameBut_sf _ _ _ _)).trans (sameBut_sf _ _ _ _)

theorem sameBut_pushRecord (s : State) (r : BitVec 256) : SameBut s (s.pushRecord r) := by
  unfold State.pushRecord
  extract_lets t u
  split
  · exact ((sameBut_cnt s _ _ _).trans (sameBut_flt t _)).trans (sameBut_sf _ _ _ _)
  · exact (sameBut_cnt s _ _ _).trans (sameBut_cnt _ _ _ _)

theorem sameBut_captureOnce (s : State) (p code c1 c2 c3 : Nat) : SameBut s (s.captureOnce p code c1 c2 c3) := by
  unfold State.captureOnce
  extract_lets f t
  split
  · exact (sameBut_takeCapture s _ _ _ _ _).trans (sameBut_pushRecord _ _)
  · exact sameBut_takeCapture s _ _ _ _ _

theorem sameBut_queueFull (s : State) (p : Nat) : SameBut s (s.queueFull p) := by
  unfold State.queueFull
  extract_lets f t u
  have h : SameBut s t := sameBut_captureOnce s _ _ _ _ _
  have k : SameBut t u := by
    unfold u
    split
    · exact sameBut_takeCapture t _ _ _ _ _
    · exact SameBut.refl t
  exact (h.trans k).trans (sameBut_event _ _ _)

theorem sameBut_errorNoEvent (s : State) (p code c1 c2 c3 : Nat) : SameBut s (s.errorNoEvent p code c1 c2 c3) := by
  unfold State.errorNoEvent
  extract_lets f t
  split
  · exact (sameBut_captureOnce s _ _ _ _ _).trans (sameBut_queueFull _ _)
  · exact sameBut_captureOnce s _ _ _ _ _

theorem sameBut_error (s : State) (p bit code c1 c2 c3 : Nat) : SameBut s (s.error p bit code c1 c2 c3) :=
  (sameBut_errorNoEvent s p code c1 c2 c3).trans (sameBut_event _ _ _)

theorem sameBut_devError (s : State) (bit off req : Nat) : SameBut s (s.devError bit off req) := sameBut_error s _ _ _ _ _ _

@[simp] theorem State.fire_pending (s : State) (x : Nat) : (s.fire x).pending = s.pending := SameBut.pending (sameBut_fire s x)
@[simp] theorem State.fire_clock (s : State) (x : Nat) : (s.fire x).clock = s.clock := SameBut.clock (sameBut_fire s x)
@[simp] theorem State.fire_free (s : State) (x : Nat) : (s.fire x).free = s.free := SameBut.free (sameBut_fire s x)
@[simp] theorem State.fire_out (s : State) (x : Nat) : (s.fire x).out = s.out := SameBut.out (sameBut_fire s x)
@[simp] theorem State.fire_sets (s : State) (x : Nat) : (s.fire x).sets = s.sets := SameBut.sets (sameBut_fire s x)
@[simp] theorem State.fire_smb (s : State) (x : Nat) : (s.fire x).smb = s.smb := SameBut.smb (sameBut_fire s x)
@[simp] theorem State.fire_sys (s : State) (x : Nat) : (s.fire x).sys = s.sys := SameBut.sys (sameBut_fire s x)
@[simp] theorem State.fire_lnd (s : State) (x : Nat) : (s.fire x).lnd = s.lnd := SameBut.lnd (sameBut_fire s x)
@[simp] theorem State.fire_avs (s : State) (x : Nat) : (s.fire x).avs = s.avs := SameBut.avs (sameBut_fire s x)
@[simp] theorem State.fire_vlt (s : State) (x : Nat) : (s.fire x).vlt = s.vlt := SameBut.vlt (sameBut_fire s x)
@[simp] theorem State.fire_host (s : State) (x : Nat) : (s.fire x).host = s.host := SameBut.host (sameBut_fire s x)
@[simp] theorem State.fire_links (s : State) (x : Nat) : (s.fire x).links = s.links := SameBut.links (sameBut_fire s x)
@[simp] theorem State.fire_lards (s : State) (x : Nat) : (s.fire x).lards = s.lards := SameBut.lards (sameBut_fire s x)
@[simp] theorem State.fire_ports (s : State) (x : Nat) : (s.fire x).ports = s.ports := SameBut.ports (sameBut_fire s x)
@[simp] theorem State.fire_brg (s : State) (x : Nat) : (s.fire x).brg = s.brg := SameBut.brg (sameBut_fire s x)
@[simp] theorem State.fire_gal (s : State) (x : Nat) : (s.fire x).gal = s.gal := SameBut.gal (sameBut_fire s x)
@[simp] theorem State.fire_sch (s : State) (x : Nat) : (s.fire x).sch = s.sch := SameBut.sch (sameBut_fire s x)
@[simp] theorem State.fire_cvn (s : State) (x : Nat) : (s.fire x).cvn = s.cvn := SameBut.cvn (sameBut_fire s x)
@[simp] theorem State.fire_hlm (s : State) (x : Nat) : (s.fire x).hlm = s.hlm := SameBut.hlm (sameBut_fire s x)
@[simp] theorem State.fire_erg (s : State) (x : Nat) : (s.fire x).erg = s.erg := SameBut.erg (sameBut_fire s x)
@[simp] theorem State.fire_mgq (s : State) (x : Nat) : (s.fire x).mgq = s.mgq := SameBut.mgq (sameBut_fire s x)
@[simp] theorem State.fire_mez (s : State) (x : Nat) : (s.fire x).mez = s.mez := SameBut.mez (sameBut_fire s x)
@[simp] theorem State.fire_tap (s : State) (x : Nat) : (s.fire x).tap = s.tap := SameBut.tap (sameBut_fire s x)

@[simp] theorem State.setLevel_pending (s : State) (x : Nat) (l : Bool) : (s.setLevel x l).pending = s.pending := SameBut.pending (sameBut_setLevel s x l)
@[simp] theorem State.setLevel_clock (s : State) (x : Nat) (l : Bool) : (s.setLevel x l).clock = s.clock := SameBut.clock (sameBut_setLevel s x l)
@[simp] theorem State.setLevel_free (s : State) (x : Nat) (l : Bool) : (s.setLevel x l).free = s.free := SameBut.free (sameBut_setLevel s x l)
@[simp] theorem State.setLevel_out (s : State) (x : Nat) (l : Bool) : (s.setLevel x l).out = s.out := SameBut.out (sameBut_setLevel s x l)
@[simp] theorem State.setLevel_sets (s : State) (x : Nat) (l : Bool) : (s.setLevel x l).sets = s.sets := SameBut.sets (sameBut_setLevel s x l)
@[simp] theorem State.setLevel_smb (s : State) (x : Nat) (l : Bool) : (s.setLevel x l).smb = s.smb := SameBut.smb (sameBut_setLevel s x l)
@[simp] theorem State.setLevel_sys (s : State) (x : Nat) (l : Bool) : (s.setLevel x l).sys = s.sys := SameBut.sys (sameBut_setLevel s x l)
@[simp] theorem State.setLevel_lnd (s : State) (x : Nat) (l : Bool) : (s.setLevel x l).lnd = s.lnd := SameBut.lnd (sameBut_setLevel s x l)
@[simp] theorem State.setLevel_avs (s : State) (x : Nat) (l : Bool) : (s.setLevel x l).avs = s.avs := SameBut.avs (sameBut_setLevel s x l)
@[simp] theorem State.setLevel_vlt (s : State) (x : Nat) (l : Bool) : (s.setLevel x l).vlt = s.vlt := SameBut.vlt (sameBut_setLevel s x l)
@[simp] theorem State.setLevel_host (s : State) (x : Nat) (l : Bool) : (s.setLevel x l).host = s.host := SameBut.host (sameBut_setLevel s x l)
@[simp] theorem State.setLevel_links (s : State) (x : Nat) (l : Bool) : (s.setLevel x l).links = s.links := SameBut.links (sameBut_setLevel s x l)
@[simp] theorem State.setLevel_lards (s : State) (x : Nat) (l : Bool) : (s.setLevel x l).lards = s.lards := SameBut.lards (sameBut_setLevel s x l)
@[simp] theorem State.setLevel_ports (s : State) (x : Nat) (l : Bool) : (s.setLevel x l).ports = s.ports := SameBut.ports (sameBut_setLevel s x l)
@[simp] theorem State.setLevel_brg (s : State) (x : Nat) (l : Bool) : (s.setLevel x l).brg = s.brg := SameBut.brg (sameBut_setLevel s x l)
@[simp] theorem State.setLevel_gal (s : State) (x : Nat) (l : Bool) : (s.setLevel x l).gal = s.gal := SameBut.gal (sameBut_setLevel s x l)
@[simp] theorem State.setLevel_sch (s : State) (x : Nat) (l : Bool) : (s.setLevel x l).sch = s.sch := SameBut.sch (sameBut_setLevel s x l)
@[simp] theorem State.setLevel_cvn (s : State) (x : Nat) (l : Bool) : (s.setLevel x l).cvn = s.cvn := SameBut.cvn (sameBut_setLevel s x l)
@[simp] theorem State.setLevel_hlm (s : State) (x : Nat) (l : Bool) : (s.setLevel x l).hlm = s.hlm := SameBut.hlm (sameBut_setLevel s x l)
@[simp] theorem State.setLevel_erg (s : State) (x : Nat) (l : Bool) : (s.setLevel x l).erg = s.erg := SameBut.erg (sameBut_setLevel s x l)
@[simp] theorem State.setLevel_mgq (s : State) (x : Nat) (l : Bool) : (s.setLevel x l).mgq = s.mgq := SameBut.mgq (sameBut_setLevel s x l)
@[simp] theorem State.setLevel_mez (s : State) (x : Nat) (l : Bool) : (s.setLevel x l).mez = s.mez := SameBut.mez (sameBut_setLevel s x l)
@[simp] theorem State.setLevel_tap (s : State) (x : Nat) (l : Bool) : (s.setLevel x l).tap = s.tap := SameBut.tap (sameBut_setLevel s x l)

@[simp] theorem State.pageSource_pending (s : State) (p : Nat) (w : Bool) : (s.pageSource p w).pending = s.pending := SameBut.pending (sameBut_pageSource s p w)
@[simp] theorem State.pageSource_clock (s : State) (p : Nat) (w : Bool) : (s.pageSource p w).clock = s.clock := SameBut.clock (sameBut_pageSource s p w)
@[simp] theorem State.pageSource_free (s : State) (p : Nat) (w : Bool) : (s.pageSource p w).free = s.free := SameBut.free (sameBut_pageSource s p w)
@[simp] theorem State.pageSource_out (s : State) (p : Nat) (w : Bool) : (s.pageSource p w).out = s.out := SameBut.out (sameBut_pageSource s p w)
@[simp] theorem State.pageSource_sets (s : State) (p : Nat) (w : Bool) : (s.pageSource p w).sets = s.sets := SameBut.sets (sameBut_pageSource s p w)
@[simp] theorem State.pageSource_smb (s : State) (p : Nat) (w : Bool) : (s.pageSource p w).smb = s.smb := SameBut.smb (sameBut_pageSource s p w)
@[simp] theorem State.pageSource_sys (s : State) (p : Nat) (w : Bool) : (s.pageSource p w).sys = s.sys := SameBut.sys (sameBut_pageSource s p w)
@[simp] theorem State.pageSource_lnd (s : State) (p : Nat) (w : Bool) : (s.pageSource p w).lnd = s.lnd := SameBut.lnd (sameBut_pageSource s p w)
@[simp] theorem State.pageSource_avs (s : State) (p : Nat) (w : Bool) : (s.pageSource p w).avs = s.avs := SameBut.avs (sameBut_pageSource s p w)
@[simp] theorem State.pageSource_vlt (s : State) (p : Nat) (w : Bool) : (s.pageSource p w).vlt = s.vlt := SameBut.vlt (sameBut_pageSource s p w)
@[simp] theorem State.pageSource_host (s : State) (p : Nat) (w : Bool) : (s.pageSource p w).host = s.host := SameBut.host (sameBut_pageSource s p w)
@[simp] theorem State.pageSource_links (s : State) (p : Nat) (w : Bool) : (s.pageSource p w).links = s.links := SameBut.links (sameBut_pageSource s p w)
@[simp] theorem State.pageSource_lards (s : State) (p : Nat) (w : Bool) : (s.pageSource p w).lards = s.lards := SameBut.lards (sameBut_pageSource s p w)
@[simp] theorem State.pageSource_ports (s : State) (p : Nat) (w : Bool) : (s.pageSource p w).ports = s.ports := SameBut.ports (sameBut_pageSource s p w)
@[simp] theorem State.pageSource_brg (s : State) (p : Nat) (w : Bool) : (s.pageSource p w).brg = s.brg := SameBut.brg (sameBut_pageSource s p w)
@[simp] theorem State.pageSource_gal (s : State) (p : Nat) (w : Bool) : (s.pageSource p w).gal = s.gal := SameBut.gal (sameBut_pageSource s p w)
@[simp] theorem State.pageSource_sch (s : State) (p : Nat) (w : Bool) : (s.pageSource p w).sch = s.sch := SameBut.sch (sameBut_pageSource s p w)
@[simp] theorem State.pageSource_cvn (s : State) (p : Nat) (w : Bool) : (s.pageSource p w).cvn = s.cvn := SameBut.cvn (sameBut_pageSource s p w)
@[simp] theorem State.pageSource_hlm (s : State) (p : Nat) (w : Bool) : (s.pageSource p w).hlm = s.hlm := SameBut.hlm (sameBut_pageSource s p w)
@[simp] theorem State.pageSource_erg (s : State) (p : Nat) (w : Bool) : (s.pageSource p w).erg = s.erg := SameBut.erg (sameBut_pageSource s p w)
@[simp] theorem State.pageSource_mgq (s : State) (p : Nat) (w : Bool) : (s.pageSource p w).mgq = s.mgq := SameBut.mgq (sameBut_pageSource s p w)
@[simp] theorem State.pageSource_mez (s : State) (p : Nat) (w : Bool) : (s.pageSource p w).mez = s.mez := SameBut.mez (sameBut_pageSource s p w)
@[simp] theorem State.pageSource_tap (s : State) (p : Nat) (w : Bool) : (s.pageSource p w).tap = s.tap := SameBut.tap (sameBut_pageSource s p w)

@[simp] theorem State.event_pending (s : State) (p b : Nat) : (s.event p b).pending = s.pending := SameBut.pending (sameBut_event s p b)
@[simp] theorem State.event_clock (s : State) (p b : Nat) : (s.event p b).clock = s.clock := SameBut.clock (sameBut_event s p b)
@[simp] theorem State.event_free (s : State) (p b : Nat) : (s.event p b).free = s.free := SameBut.free (sameBut_event s p b)
@[simp] theorem State.event_out (s : State) (p b : Nat) : (s.event p b).out = s.out := SameBut.out (sameBut_event s p b)
@[simp] theorem State.event_sets (s : State) (p b : Nat) : (s.event p b).sets = s.sets := SameBut.sets (sameBut_event s p b)
@[simp] theorem State.event_smb (s : State) (p b : Nat) : (s.event p b).smb = s.smb := SameBut.smb (sameBut_event s p b)
@[simp] theorem State.event_sys (s : State) (p b : Nat) : (s.event p b).sys = s.sys := SameBut.sys (sameBut_event s p b)
@[simp] theorem State.event_lnd (s : State) (p b : Nat) : (s.event p b).lnd = s.lnd := SameBut.lnd (sameBut_event s p b)
@[simp] theorem State.event_avs (s : State) (p b : Nat) : (s.event p b).avs = s.avs := SameBut.avs (sameBut_event s p b)
@[simp] theorem State.event_vlt (s : State) (p b : Nat) : (s.event p b).vlt = s.vlt := SameBut.vlt (sameBut_event s p b)
@[simp] theorem State.event_host (s : State) (p b : Nat) : (s.event p b).host = s.host := SameBut.host (sameBut_event s p b)
@[simp] theorem State.event_links (s : State) (p b : Nat) : (s.event p b).links = s.links := SameBut.links (sameBut_event s p b)
@[simp] theorem State.event_lards (s : State) (p b : Nat) : (s.event p b).lards = s.lards := SameBut.lards (sameBut_event s p b)
@[simp] theorem State.event_ports (s : State) (p b : Nat) : (s.event p b).ports = s.ports := SameBut.ports (sameBut_event s p b)
@[simp] theorem State.event_brg (s : State) (p b : Nat) : (s.event p b).brg = s.brg := SameBut.brg (sameBut_event s p b)
@[simp] theorem State.event_gal (s : State) (p b : Nat) : (s.event p b).gal = s.gal := SameBut.gal (sameBut_event s p b)
@[simp] theorem State.event_sch (s : State) (p b : Nat) : (s.event p b).sch = s.sch := SameBut.sch (sameBut_event s p b)
@[simp] theorem State.event_cvn (s : State) (p b : Nat) : (s.event p b).cvn = s.cvn := SameBut.cvn (sameBut_event s p b)
@[simp] theorem State.event_hlm (s : State) (p b : Nat) : (s.event p b).hlm = s.hlm := SameBut.hlm (sameBut_event s p b)
@[simp] theorem State.event_erg (s : State) (p b : Nat) : (s.event p b).erg = s.erg := SameBut.erg (sameBut_event s p b)
@[simp] theorem State.event_mgq (s : State) (p b : Nat) : (s.event p b).mgq = s.mgq := SameBut.mgq (sameBut_event s p b)
@[simp] theorem State.event_mez (s : State) (p b : Nat) : (s.event p b).mez = s.mez := SameBut.mez (sameBut_event s p b)
@[simp] theorem State.event_tap (s : State) (p b : Nat) : (s.event p b).tap = s.tap := SameBut.tap (sameBut_event s p b)

@[simp] theorem State.errorNoEvent_pending (s : State) (p code c1 c2 c3 : Nat) : (s.errorNoEvent p code c1 c2 c3).pending = s.pending := SameBut.pending (sameBut_errorNoEvent s p code c1 c2 c3)
@[simp] theorem State.errorNoEvent_clock (s : State) (p code c1 c2 c3 : Nat) : (s.errorNoEvent p code c1 c2 c3).clock = s.clock := SameBut.clock (sameBut_errorNoEvent s p code c1 c2 c3)
@[simp] theorem State.errorNoEvent_free (s : State) (p code c1 c2 c3 : Nat) : (s.errorNoEvent p code c1 c2 c3).free = s.free := SameBut.free (sameBut_errorNoEvent s p code c1 c2 c3)
@[simp] theorem State.errorNoEvent_out (s : State) (p code c1 c2 c3 : Nat) : (s.errorNoEvent p code c1 c2 c3).out = s.out := SameBut.out (sameBut_errorNoEvent s p code c1 c2 c3)
@[simp] theorem State.errorNoEvent_sets (s : State) (p code c1 c2 c3 : Nat) : (s.errorNoEvent p code c1 c2 c3).sets = s.sets := SameBut.sets (sameBut_errorNoEvent s p code c1 c2 c3)
@[simp] theorem State.errorNoEvent_smb (s : State) (p code c1 c2 c3 : Nat) : (s.errorNoEvent p code c1 c2 c3).smb = s.smb := SameBut.smb (sameBut_errorNoEvent s p code c1 c2 c3)
@[simp] theorem State.errorNoEvent_sys (s : State) (p code c1 c2 c3 : Nat) : (s.errorNoEvent p code c1 c2 c3).sys = s.sys := SameBut.sys (sameBut_errorNoEvent s p code c1 c2 c3)
@[simp] theorem State.errorNoEvent_lnd (s : State) (p code c1 c2 c3 : Nat) : (s.errorNoEvent p code c1 c2 c3).lnd = s.lnd := SameBut.lnd (sameBut_errorNoEvent s p code c1 c2 c3)
@[simp] theorem State.errorNoEvent_avs (s : State) (p code c1 c2 c3 : Nat) : (s.errorNoEvent p code c1 c2 c3).avs = s.avs := SameBut.avs (sameBut_errorNoEvent s p code c1 c2 c3)
@[simp] theorem State.errorNoEvent_vlt (s : State) (p code c1 c2 c3 : Nat) : (s.errorNoEvent p code c1 c2 c3).vlt = s.vlt := SameBut.vlt (sameBut_errorNoEvent s p code c1 c2 c3)
@[simp] theorem State.errorNoEvent_host (s : State) (p code c1 c2 c3 : Nat) : (s.errorNoEvent p code c1 c2 c3).host = s.host := SameBut.host (sameBut_errorNoEvent s p code c1 c2 c3)
@[simp] theorem State.errorNoEvent_links (s : State) (p code c1 c2 c3 : Nat) : (s.errorNoEvent p code c1 c2 c3).links = s.links := SameBut.links (sameBut_errorNoEvent s p code c1 c2 c3)
@[simp] theorem State.errorNoEvent_lards (s : State) (p code c1 c2 c3 : Nat) : (s.errorNoEvent p code c1 c2 c3).lards = s.lards := SameBut.lards (sameBut_errorNoEvent s p code c1 c2 c3)
@[simp] theorem State.errorNoEvent_ports (s : State) (p code c1 c2 c3 : Nat) : (s.errorNoEvent p code c1 c2 c3).ports = s.ports := SameBut.ports (sameBut_errorNoEvent s p code c1 c2 c3)
@[simp] theorem State.errorNoEvent_brg (s : State) (p code c1 c2 c3 : Nat) : (s.errorNoEvent p code c1 c2 c3).brg = s.brg := SameBut.brg (sameBut_errorNoEvent s p code c1 c2 c3)
@[simp] theorem State.errorNoEvent_gal (s : State) (p code c1 c2 c3 : Nat) : (s.errorNoEvent p code c1 c2 c3).gal = s.gal := SameBut.gal (sameBut_errorNoEvent s p code c1 c2 c3)
@[simp] theorem State.errorNoEvent_sch (s : State) (p code c1 c2 c3 : Nat) : (s.errorNoEvent p code c1 c2 c3).sch = s.sch := SameBut.sch (sameBut_errorNoEvent s p code c1 c2 c3)
@[simp] theorem State.errorNoEvent_cvn (s : State) (p code c1 c2 c3 : Nat) : (s.errorNoEvent p code c1 c2 c3).cvn = s.cvn := SameBut.cvn (sameBut_errorNoEvent s p code c1 c2 c3)
@[simp] theorem State.errorNoEvent_hlm (s : State) (p code c1 c2 c3 : Nat) : (s.errorNoEvent p code c1 c2 c3).hlm = s.hlm := SameBut.hlm (sameBut_errorNoEvent s p code c1 c2 c3)
@[simp] theorem State.errorNoEvent_erg (s : State) (p code c1 c2 c3 : Nat) : (s.errorNoEvent p code c1 c2 c3).erg = s.erg := SameBut.erg (sameBut_errorNoEvent s p code c1 c2 c3)
@[simp] theorem State.errorNoEvent_mgq (s : State) (p code c1 c2 c3 : Nat) : (s.errorNoEvent p code c1 c2 c3).mgq = s.mgq := SameBut.mgq (sameBut_errorNoEvent s p code c1 c2 c3)
@[simp] theorem State.errorNoEvent_mez (s : State) (p code c1 c2 c3 : Nat) : (s.errorNoEvent p code c1 c2 c3).mez = s.mez := SameBut.mez (sameBut_errorNoEvent s p code c1 c2 c3)
@[simp] theorem State.errorNoEvent_tap (s : State) (p code c1 c2 c3 : Nat) : (s.errorNoEvent p code c1 c2 c3).tap = s.tap := SameBut.tap (sameBut_errorNoEvent s p code c1 c2 c3)

@[simp] theorem State.error_pending (s : State) (p bit code c1 c2 c3 : Nat) : (s.error p bit code c1 c2 c3).pending = s.pending := SameBut.pending (sameBut_error s p bit code c1 c2 c3)
@[simp] theorem State.error_clock (s : State) (p bit code c1 c2 c3 : Nat) : (s.error p bit code c1 c2 c3).clock = s.clock := SameBut.clock (sameBut_error s p bit code c1 c2 c3)
@[simp] theorem State.error_free (s : State) (p bit code c1 c2 c3 : Nat) : (s.error p bit code c1 c2 c3).free = s.free := SameBut.free (sameBut_error s p bit code c1 c2 c3)
@[simp] theorem State.error_out (s : State) (p bit code c1 c2 c3 : Nat) : (s.error p bit code c1 c2 c3).out = s.out := SameBut.out (sameBut_error s p bit code c1 c2 c3)
@[simp] theorem State.error_sets (s : State) (p bit code c1 c2 c3 : Nat) : (s.error p bit code c1 c2 c3).sets = s.sets := SameBut.sets (sameBut_error s p bit code c1 c2 c3)
@[simp] theorem State.error_smb (s : State) (p bit code c1 c2 c3 : Nat) : (s.error p bit code c1 c2 c3).smb = s.smb := SameBut.smb (sameBut_error s p bit code c1 c2 c3)
@[simp] theorem State.error_sys (s : State) (p bit code c1 c2 c3 : Nat) : (s.error p bit code c1 c2 c3).sys = s.sys := SameBut.sys (sameBut_error s p bit code c1 c2 c3)
@[simp] theorem State.error_lnd (s : State) (p bit code c1 c2 c3 : Nat) : (s.error p bit code c1 c2 c3).lnd = s.lnd := SameBut.lnd (sameBut_error s p bit code c1 c2 c3)
@[simp] theorem State.error_avs (s : State) (p bit code c1 c2 c3 : Nat) : (s.error p bit code c1 c2 c3).avs = s.avs := SameBut.avs (sameBut_error s p bit code c1 c2 c3)
@[simp] theorem State.error_vlt (s : State) (p bit code c1 c2 c3 : Nat) : (s.error p bit code c1 c2 c3).vlt = s.vlt := SameBut.vlt (sameBut_error s p bit code c1 c2 c3)
@[simp] theorem State.error_host (s : State) (p bit code c1 c2 c3 : Nat) : (s.error p bit code c1 c2 c3).host = s.host := SameBut.host (sameBut_error s p bit code c1 c2 c3)
@[simp] theorem State.error_links (s : State) (p bit code c1 c2 c3 : Nat) : (s.error p bit code c1 c2 c3).links = s.links := SameBut.links (sameBut_error s p bit code c1 c2 c3)
@[simp] theorem State.error_lards (s : State) (p bit code c1 c2 c3 : Nat) : (s.error p bit code c1 c2 c3).lards = s.lards := SameBut.lards (sameBut_error s p bit code c1 c2 c3)
@[simp] theorem State.error_ports (s : State) (p bit code c1 c2 c3 : Nat) : (s.error p bit code c1 c2 c3).ports = s.ports := SameBut.ports (sameBut_error s p bit code c1 c2 c3)
@[simp] theorem State.error_brg (s : State) (p bit code c1 c2 c3 : Nat) : (s.error p bit code c1 c2 c3).brg = s.brg := SameBut.brg (sameBut_error s p bit code c1 c2 c3)
@[simp] theorem State.error_gal (s : State) (p bit code c1 c2 c3 : Nat) : (s.error p bit code c1 c2 c3).gal = s.gal := SameBut.gal (sameBut_error s p bit code c1 c2 c3)
@[simp] theorem State.error_sch (s : State) (p bit code c1 c2 c3 : Nat) : (s.error p bit code c1 c2 c3).sch = s.sch := SameBut.sch (sameBut_error s p bit code c1 c2 c3)
@[simp] theorem State.error_cvn (s : State) (p bit code c1 c2 c3 : Nat) : (s.error p bit code c1 c2 c3).cvn = s.cvn := SameBut.cvn (sameBut_error s p bit code c1 c2 c3)
@[simp] theorem State.error_hlm (s : State) (p bit code c1 c2 c3 : Nat) : (s.error p bit code c1 c2 c3).hlm = s.hlm := SameBut.hlm (sameBut_error s p bit code c1 c2 c3)
@[simp] theorem State.error_erg (s : State) (p bit code c1 c2 c3 : Nat) : (s.error p bit code c1 c2 c3).erg = s.erg := SameBut.erg (sameBut_error s p bit code c1 c2 c3)
@[simp] theorem State.error_mgq (s : State) (p bit code c1 c2 c3 : Nat) : (s.error p bit code c1 c2 c3).mgq = s.mgq := SameBut.mgq (sameBut_error s p bit code c1 c2 c3)
@[simp] theorem State.error_mez (s : State) (p bit code c1 c2 c3 : Nat) : (s.error p bit code c1 c2 c3).mez = s.mez := SameBut.mez (sameBut_error s p bit code c1 c2 c3)
@[simp] theorem State.error_tap (s : State) (p bit code c1 c2 c3 : Nat) : (s.error p bit code c1 c2 c3).tap = s.tap := SameBut.tap (sameBut_error s p bit code c1 c2 c3)

@[simp] theorem State.devError_pending (s : State) (bit off req : Nat) : (s.devError bit off req).pending = s.pending := SameBut.pending (sameBut_devError s bit off req)
@[simp] theorem State.devError_clock (s : State) (bit off req : Nat) : (s.devError bit off req).clock = s.clock := SameBut.clock (sameBut_devError s bit off req)
@[simp] theorem State.devError_free (s : State) (bit off req : Nat) : (s.devError bit off req).free = s.free := SameBut.free (sameBut_devError s bit off req)
@[simp] theorem State.devError_out (s : State) (bit off req : Nat) : (s.devError bit off req).out = s.out := SameBut.out (sameBut_devError s bit off req)
@[simp] theorem State.devError_sets (s : State) (bit off req : Nat) : (s.devError bit off req).sets = s.sets := SameBut.sets (sameBut_devError s bit off req)
@[simp] theorem State.devError_smb (s : State) (bit off req : Nat) : (s.devError bit off req).smb = s.smb := SameBut.smb (sameBut_devError s bit off req)
@[simp] theorem State.devError_sys (s : State) (bit off req : Nat) : (s.devError bit off req).sys = s.sys := SameBut.sys (sameBut_devError s bit off req)
@[simp] theorem State.devError_lnd (s : State) (bit off req : Nat) : (s.devError bit off req).lnd = s.lnd := SameBut.lnd (sameBut_devError s bit off req)
@[simp] theorem State.devError_avs (s : State) (bit off req : Nat) : (s.devError bit off req).avs = s.avs := SameBut.avs (sameBut_devError s bit off req)
@[simp] theorem State.devError_vlt (s : State) (bit off req : Nat) : (s.devError bit off req).vlt = s.vlt := SameBut.vlt (sameBut_devError s bit off req)
@[simp] theorem State.devError_host (s : State) (bit off req : Nat) : (s.devError bit off req).host = s.host := SameBut.host (sameBut_devError s bit off req)
@[simp] theorem State.devError_links (s : State) (bit off req : Nat) : (s.devError bit off req).links = s.links := SameBut.links (sameBut_devError s bit off req)
@[simp] theorem State.devError_lards (s : State) (bit off req : Nat) : (s.devError bit off req).lards = s.lards := SameBut.lards (sameBut_devError s bit off req)
@[simp] theorem State.devError_ports (s : State) (bit off req : Nat) : (s.devError bit off req).ports = s.ports := SameBut.ports (sameBut_devError s bit off req)
@[simp] theorem State.devError_brg (s : State) (bit off req : Nat) : (s.devError bit off req).brg = s.brg := SameBut.brg (sameBut_devError s bit off req)
@[simp] theorem State.devError_gal (s : State) (bit off req : Nat) : (s.devError bit off req).gal = s.gal := SameBut.gal (sameBut_devError s bit off req)
@[simp] theorem State.devError_sch (s : State) (bit off req : Nat) : (s.devError bit off req).sch = s.sch := SameBut.sch (sameBut_devError s bit off req)
@[simp] theorem State.devError_cvn (s : State) (bit off req : Nat) : (s.devError bit off req).cvn = s.cvn := SameBut.cvn (sameBut_devError s bit off req)
@[simp] theorem State.devError_hlm (s : State) (bit off req : Nat) : (s.devError bit off req).hlm = s.hlm := SameBut.hlm (sameBut_devError s bit off req)
@[simp] theorem State.devError_erg (s : State) (bit off req : Nat) : (s.devError bit off req).erg = s.erg := SameBut.erg (sameBut_devError s bit off req)
@[simp] theorem State.devError_mgq (s : State) (bit off req : Nat) : (s.devError bit off req).mgq = s.mgq := SameBut.mgq (sameBut_devError s bit off req)
@[simp] theorem State.devError_mez (s : State) (bit off req : Nat) : (s.devError bit off req).mez = s.mez := SameBut.mez (sameBut_devError s bit off req)
@[simp] theorem State.devError_tap (s : State) (bit off req : Nat) : (s.devError bit off req).tap = s.tap := SameBut.tap (sameBut_devError s bit off req)

end Sys2Proof.Machine
end

