-- ==== Sys2Proof/Laws/ReportRegs.lean ====
section
/-!
SUPPORT. The registers and the table entries that a report may change; every other register and entry keeps its value.
-/

namespace Sys2Proof.Machine

/-- The registers that the firing of a source may change: the Oasis wake registers and Landing's count of hold-off waits. -/
def fireRegs : List Nat :=
  [raddr pgOAS 0x4C, raddr pgOAS 0x50, raddr pgOAS 0x54, raddr pgOAS 0x58, raddr pgLND LND.CNT_HOLDOFF_WAITS]

/-- Two states agree on every register outside a list. -/
def RegsBut (l : List Nat) (s t : State) : Prop := ∀ a, a ∉ l → t.reg a = s.reg a

theorem RegsBut.refl (l : List Nat) (s : State) : RegsBut l s s := fun _ _ => rfl
theorem RegsBut.trans {l : List Nat} {s t u : State} (h : RegsBut l s t) (k : RegsBut l t u) : RegsBut l s u :=
  fun a ha => (k a ha).trans (h a ha)
theorem RegsBut.mono {l m : List Nat} {s t : State} (h : RegsBut l s t) (hs : ∀ a, a ∈ l → a ∈ m) : RegsBut m s t :=
  fun a ha => h a (fun x => ha (hs a x))
theorem RegsBut.gf {l : List Nat} {s t : State} (h : RegsBut l s t) {p : Nat} {f : Fld} (hp : raddr p f.off ∉ l) : t.gf p f = s.gf p f := by
  unfold State.gf; rw [h _ hp]

theorem regsBut_ite {l : List Nat} {s a b : State} {c : Prop} [Decidable c] (h : RegsBut l s a) (k : RegsBut l s b) :
    RegsBut l s (if c then a else b) := by
  by_cases hc : c
  · rw [if_pos hc]; exact h
  · rw [if_neg hc]; exact k

theorem regsBut_setReg {l : List Nat} (s : State) {a : Nat} (v : Word) (h : a ∈ l) : RegsBut l s (s.setReg a v) :=
  fun _ hb => s.reg_setReg_of_ne v (fun e => hb (e ▸ h))
theorem regsBut_sf {l : List Nat} (s : State) {p : Nat} {f : Fld} (v : Nat) (h : raddr p f.off ∈ l) : RegsBut l s (s.sf p f v) :=
  regsBut_setReg s _ h
theorem regsBut_cnt {l : List Nat} (s : State) {p off : Nat} (n : Nat) (h : raddr p off ∈ l) : RegsBut l s (s.cnt p off n) :=
  regsBut_setReg s _ h
theorem regsBut_of_regs {l : List Nat} {s t : State} (h : t.regs = s.regs) : RegsBut l s t :=
  fun a _ => by unfold State.reg; rw [h]
theorem regsBut_st {l : List Nat} (s : State) (t : Tbl) (i : Nat) (f : TFld) (v : Nat) : RegsBut l s (s.st t i f v) :=
  regsBut_of_regs (s.st_regs t i f v)

theorem regsBut_becomePending (s : State) (x : Nat) : RegsBut fireRegs s (s.becomePending x) := by
  unfold State.becomePending
  extract_lets t
  exact regsBut_ite ((regsBut_st s _ _ _ _).trans (regsBut_cnt t _ (by decide))) (regsBut_st s _ _ _ _)

theorem regsBut_wakeHint (s : State) (f : Fld) (h : raddr pgOAS f.off ∈ fireRegs) : RegsBut fireRegs s (s.wakeHint f) := by
  unfold State.wakeHint
  exact regsBut_ite ((regsBut_of_regs rfl).trans (regsBut_sf _ _ h)) (RegsBut.refl _ s)

theorem regsBut_wakeBySource (s : State) (x : Nat) : RegsBut fireRegs s (s.wakeBySource x) := by
  unfold State.wakeBySource
  extract_lets t l
  exact regsBut_ite (regsBut_ite ((regsBut_of_regs rfl).trans (regsBut_sf _ _ (by decide))) (RegsBut.refl _ s))
    (regsBut_ite (regsBut_wakeHint s _ (by decide)) (RegsBut.refl _ s))

theorem regsBut_oasLatch (s : State) (slot x : Nat) : RegsBut fireRegs s (s.oasLatch slot x) := by
  unfold State.oasLatch
  refine regsBut_ite (RegsBut.refl _ s) ?_
  extract_lets t o u a
  have h1 : RegsBut fireRegs s t := regsBut_ite ((regsBut_sf s _ (by decide)).trans (regsBut_sf _ _ (by decide))) (RegsBut.refl _ s)
  have ha : a ∈ fireRegs := by
    unfold a
    by_cases hs : slot < 32
    · rw [if_pos hs]; decide
    · rw [if_neg hs]; decide
  exact ((h1.trans (regsBut_of_regs rfl)).trans (regsBut_setReg u _ ha)).trans (regsBut_sf _ _ (by decide))

theorem regsBut_oasWatch (s : State) (x : Nat) : RegsBut fireRegs s (s.oasWatch x) := by
  unfold State.oasWatch
  split
  · exact regsBut_ite (regsBut_oasLatch s _ _) (RegsBut.refl _ s)
  · exact RegsBut.refl _ s

theorem regsBut_fire (s : State) (x : Nat) : RegsBut fireRegs s (s.fire x) := by
  unfold State.fire
  refine regsBut_ite (regsBut_oasWatch s x) (regsBut_ite ?_ (RegsBut.refl _ s))
  extract_lets st t
  have h : RegsBut fireRegs s t :=
    regsBut_ite (regsBut_becomePending s x) (regsBut_ite (regsBut_st s _ _ _ _) (RegsBut.refl _ s))
  exact h.trans (regsBut_wakeBySource t x)

theorem regsBut_setLevel (s : State) (x : Nat) (l : Bool) : RegsBut fireRegs s (s.setLevel x l) := by
  unfold State.setLevel
  extract_lets was t
  exact regsBut_ite ((regsBut_st s _ _ _ _).trans (regsBut_fire t _)) (regsBut_st s _ _ _ _)

theorem regsBut_pageSource (s : State) (p : Nat) (w : Bool) : RegsBut fireRegs s (s.pageSource p w) := by
  unfold State.pageSource
  extract_lets l was t
  exact regsBut_ite ((regsBut_setLevel s _ _).trans (regsBut_fire t _)) (regsBut_setLevel s _ _)

/-- The registers an event of a page may change. -/
theorem regsBut_event (s : State) (p b : Nat) : RegsBut (raddr p 0x10 :: fireRegs) s (s.event p b) := by
  unfold State.event
  exact (regsBut_setReg s _ (by simp)).trans ((regsBut_pageSource _ p false).mono (fun _ h => List.mem_cons_of_mem _ h))

/-- An event sets its bit of EVT_RAW and no other. -/
theorem reg_event_raw (s : State) (p b : Nat) (h : raddr p 0x10 ∉ fireRegs) :
    (s.event p b).reg (raddr p 0x10) = (s.reg (raddr p 0x10) ||| BitVec.ofNat 32 (2 ^ b)) := by
  unfold State.event
  rw [regsBut_pageSource _ p false _ h, State.reg_setReg_self]

/-- The registers of a page's header that a capture may change. -/
def capRegs (p : Nat) : List Nat :=
  [raddr p 0x0C, raddr p 0x20, raddr p 0x24, raddr p 0x28, raddr p 0x2C, raddr p 0x30, raddr p 0x34]

/-- The registers that a capture of a page with its report may change: the page's, FLT's, and what a source that fires may. -/
def errRegs (p : Nat) : List Nat :=
  capRegs p ++ capRegs pgFLT ++ [raddr pgFLT FLT.FLT_STS_QUEUE.off, raddr pgFLT FLT.CNT_RECORDS, raddr pgFLT FLT.CNT_QUEUE_LOST, raddr pgFLT 0x10]
    ++ fireRegs

theorem regsBut_takeCapture (s : State) (p code c1 c2 c3 : Nat) : RegsBut (capRegs p) s (s.takeCapture p code c1 c2 c3) := by
  have m : ∀ off, off ∈ [0x0C, 0x20, 0x24, 0x28, 0x2C, 0x30, 0x34] → raddr p off ∈ capRegs p := by
    intro off h; simp only [List.mem_cons, List.not_mem_nil, or_false] at h
    rcases h with rfl | rfl | rfl | rfl | rfl | rfl | rfl <;> simp [capRegs]
  unfold State.takeCapture
  refine regsBut_ite ?_ ?_
  · exact (regsBut_sf s _ (m _ (by decide))).trans (regsBut_sf _ _ (m _ (by decide)))
  · exact (((((((regsBut_sf s _ (m _ (by decide))).trans (regsBut_sf _ _ (m _ (by decide)))).trans (regsBut_setReg _ _ (m _ (by decide)))).trans
      (regsBut_setReg _ _ (m _ (by decide)))).trans (regsBut_setReg _ _ (m _ (by decide)))).trans
      (regsBut_setReg _ _ (m _ (by decide)))).trans (regsBut_sf _ _ (m _ (by decide)))).trans (regsBut_sf _ _ (m _ (by decide)))

theorem errRegs_flt (p a : Nat) (h : a ∈ errRegs pgFLT) : a ∈ errRegs p := by
  unfold errRegs at *; simp only [List.mem_append] at *
  rcases h with ((h | h) | h) | h
  · exact Or.inl (Or.inl (Or.inr h))
  · exact Or.inl (Or.inl (Or.inr h))
  · exact Or.inl (Or.inr h)
  · exact Or.inr h

theorem errRegs_cap (p a : Nat) (h : a ∈ capRegs p) : a ∈ errRegs p := by
  unfold errRegs; simp only [List.mem_append]; exact Or.inl (Or.inl (Or.inl h))

theorem regsBut_pushRecord (s : State) (p : Nat) (r : BitVec 256) : RegsBut (errRegs p) s (s.pushRecord r) := by
  have m : ∀ a, a ∈ [raddr pgFLT FLT.FLT_STS_QUEUE.off, raddr pgFLT FLT.CNT_RECORDS, raddr pgFLT FLT.CNT_QUEUE_LOST] → a ∈ errRegs p := by
    
    intro a h; unfold errRegs; simp only [List.mem_append]
    refine Or.inl (Or.inr ?_)
    simp only [List.mem_cons, List.not_mem_nil, or_false] at h ⊢
    rcases h with h | h | h
    · exact Or.inl h
    · exact Or.inr (Or.inl h)
    · exact Or.inr (Or.inr (Or.inl h))
  unfold State.pushRecord
  extract_lets t u v
  have h : RegsBut (errRegs p) s t := regsBut_cnt s _ (m _ (by decide))
  have k : RegsBut (errRegs p) t v := regsBut_of_regs rfl
  exact regsBut_ite ((h.trans k).trans (regsBut_sf v _ (m _ (by decide)))) (h.trans (regsBut_cnt t _ (m _ (by decide))))

theorem regsBut_captureOnce (s : State) (p code c1 c2 c3 : Nat) : RegsBut (errRegs p) s (s.captureOnce p code c1 c2 c3) := by
  unfold State.captureOnce
  extract_lets f t
  have h : RegsBut (errRegs p) s t := (regsBut_takeCapture s p code c1 c2 c3).mono (errRegs_cap p)
  exact regsBut_ite (h.trans (regsBut_pushRecord t p _)) h

theorem regsBut_queueFull (s : State) (p q : Nat) : RegsBut (errRegs q) s (s.queueFull p) := by
  unfold State.queueFull
  extract_lets f t u
  have h : RegsBut (errRegs q) s t := (regsBut_captureOnce s pgFLT _ _ _ _).mono (errRegs_flt q)
  have k : RegsBut (errRegs q) t u :=
    regsBut_ite ((regsBut_takeCapture t pgFLT _ _ _ _).mono (fun a ha => errRegs_flt q a (errRegs_cap pgFLT a ha))) (RegsBut.refl _ t)
  refine (h.trans k).trans ((regsBut_event u pgFLT 2).mono ?_)
  intro a ha
  unfold errRegs; simp only [List.mem_append]
  rcases List.mem_cons.1 ha with rfl | ha
  · left; right; simp
  · right; exact ha

/-- The registers an error without an event of its own may change. -/
theorem regsBut_errorNoEvent (s : State) (p code c1 c2 c3 : Nat) : RegsBut (errRegs p) s (s.errorNoEvent p code c1 c2 c3) := by
  unfold State.errorNoEvent
  extract_lets f t
  exact regsBut_ite ((regsBut_captureOnce s p _ _ _ _).trans (regsBut_queueFull t p p)) (regsBut_captureOnce s p _ _ _ _)

/-- The registers an error may change. -/
theorem regsBut_error (s : State) (p bit code c1 c2 c3 : Nat) :
    RegsBut (raddr p 0x10 :: errRegs p) s (s.error p bit code c1 c2 c3) := by
  refine ((regsBut_errorNoEvent s p code c1 c2 c3).mono (fun _ h => List.mem_cons_of_mem _ h)).trans
    ((regsBut_event _ p bit).mono ?_)
  intro a ha
  rcases List.mem_cons.1 ha with rfl | ha
  · simp
  · refine List.mem_cons_of_mem _ ?_
    unfold errRegs; simp only [List.mem_append]; exact Or.inr ha

/-! ### Tables -/

/-- Two states agree on every table entry but Landing sources. -/
def EntsBut (s t : State) : Prop := ∀ k, k / 2 ^ 24 ≠ 0x800 → SMap.get tblReset t.tbls k = SMap.get tblReset s.tbls k

theorem EntsBut.refl (s : State) : EntsBut s s := fun _ _ => rfl
theorem EntsBut.trans {s t u : State} (h : EntsBut s t) (k : EntsBut t u) : EntsBut s u := fun a ha => (k a ha).trans (h a ha)
theorem EntsBut.tf {s t : State} (h : EntsBut s t) {u : Tbl} {j : Nat} {f : TFld} (hk : tkey u j / 2 ^ 24 ≠ 0x800) :
    t.tf u j f = s.tf u j f := by unfold State.tf State.ent; rw [h _ hk]

theorem entsBut_ite {s a b : State} {c : Prop} [Decidable c] (h : EntsBut s a) (k : EntsBut s b) : EntsBut s (if c then a else b) := by
  by_cases hc : c
  · rw [if_pos hc]; exact h
  · rw [if_neg hc]; exact k

theorem entsBut_of_tbls {s t : State} (h : t.tbls = s.tbls) : EntsBut s t := fun k _ => by rw [h]

theorem tkey_div (t : Tbl) {i : Nat} (h : i < 2 ^ 24) : tkey t i / 2 ^ 24 = t.info.page * 16 + t.info.num := by
  unfold tkey; omega

theorem tkey_src {x : Nat} (h : x < 2 ^ 24) : tkey .src x / 2 ^ 24 = 0x800 := tkey_div .src h

theorem entsBut_setReg (s : State) (a : Nat) (v : Word) : EntsBut s (s.setReg a v) := entsBut_of_tbls (s.setReg_tbls a v)
theorem entsBut_sf (s : State) (p : Nat) (f : Fld) (v : Nat) : EntsBut s (s.sf p f v) := entsBut_of_tbls (s.sf_tbls p f v)
theorem entsBut_cnt (s : State) (p off n : Nat) : EntsBut s (s.cnt p off n) := entsBut_of_tbls (s.cnt_tbls p off n)
theorem entsBut_src (s : State) {x : Nat} (f : TFld) (v : Nat) (h : x < 2 ^ 24) : EntsBut s (s.st .src x f v) :=
  fun _ hk => SMap.get_set_of_ne _ _ _ (fun e => hk (e ▸ tkey_src h))

theorem entsBut_becomePending (s : State) {x : Nat} (h : x < 2 ^ 24) : EntsBut s (s.becomePending x) := by
  unfold State.becomePending
  extract_lets t
  exact entsBut_ite ((entsBut_src s _ _ h).trans (entsBut_cnt t _ _ _)) (entsBut_src s _ _ h)

theorem entsBut_wakeHint (s : State) (f : Fld) : EntsBut s (s.wakeHint f) := by
  unfold State.wakeHint
  exact entsBut_ite ((entsBut_of_tbls rfl).trans (entsBut_sf _ _ _ _)) (EntsBut.refl s)

theorem entsBut_wakeBySource (s : State) (x : Nat) : EntsBut s (s.wakeBySource x) := by
  unfold State.wakeBySource
  extract_lets t l
  exact entsBut_ite (entsBut_ite ((entsBut_of_tbls rfl).trans (entsBut_sf _ _ _ _)) (EntsBut.refl s))
    (entsBut_ite (entsBut_wakeHint s _) (EntsBut.refl s))

theorem entsBut_oasLatch (s : State) (slot x : Nat) : EntsBut s (s.oasLatch slot x) := by
  unfold State.oasLatch
  refine entsBut_ite (EntsBut.refl s) ?_
  extract_lets t o u a
  have h1 : EntsBut s t := entsBut_ite ((entsBut_sf s _ _ _).trans (entsBut_sf _ _ _ _)) (EntsBut.refl s)
  exact ((h1.trans (entsBut_of_tbls rfl)).trans (entsBut_setReg u _ _)).trans (entsBut_sf _ _ _ _)

theorem entsBut_oasWatch (s : State) (x : Nat) : EntsBut s (s.oasWatch x) := by
  unfold State.oasWatch
  split
  · exact entsBut_ite (entsBut_oasLatch s _ _) (EntsBut.refl s)
  · exact EntsBut.refl s

/-- The firing of a source changes no table entry but Landing sources. -/
theorem entsBut_fire (s : State) {x : Nat} (h : x < 2 ^ 24) : EntsBut s (s.fire x) := by
  unfold State.fire
  refine entsBut_ite (entsBut_oasWatch s x) (entsBut_ite ?_ (EntsBut.refl s))
  extract_lets st t
  have h1 : EntsBut s t := entsBut_ite (entsBut_becomePending s h) (entsBut_ite (entsBut_src s _ _ h) (EntsBut.refl s))
  exact h1.trans (entsBut_wakeBySource t x)

theorem entsBut_setLevel (s : State) {x : Nat} (l : Bool) (h : x < 2 ^ 24) : EntsBut s (s.setLevel x l) := by
  unfold State.setLevel
  extract_lets was t
  exact entsBut_ite ((entsBut_src s _ _ h).trans (entsBut_fire t h)) (entsBut_src s _ _ h)

theorem entsBut_pageSource (s : State) {p : Nat} (w : Bool) (h : p < 2 ^ 24) : EntsBut s (s.pageSource p w) := by
  unfold State.pageSource
  extract_lets l was t
  exact entsBut_ite ((entsBut_setLevel s _ h).trans (entsBut_fire t h)) (entsBut_setLevel s _ h)

/-- An event changes no table entry but its page's source. -/
theorem entsBut_event (s : State) {p : Nat} (b : Nat) (h : p < 2 ^ 24) : EntsBut s (s.event p b) :=
  (entsBut_setReg s _ _).trans (entsBut_pageSource _ _ h)

theorem entsBut_takeCapture (s : State) (p code c1 c2 c3 : Nat) : EntsBut s (s.takeCapture p code c1 c2 c3) := by
  unfold State.takeCapture
  refine entsBut_ite ?_ ?_
  · exact (entsBut_sf s _ _ _).trans (entsBut_sf _ _ _ _)
  · exact (((((((entsBut_sf s _ _ _).trans (entsBut_sf _ _ _ _)).trans (entsBut_setReg _ _ _)).trans (entsBut_setReg _ _ _)).trans
      (entsBut_setReg _ _ _)).trans (entsBut_setReg _ _ _)).trans (entsBut_sf _ _ _ _)).trans (entsBut_sf _ _ _ _)

theorem entsBut_pushRecord (s : State) (r : BitVec 256) : EntsBut s (s.pushRecord r) := by
  unfold State.pushRecord
  extract_lets t u v
  have h : EntsBut s t := entsBut_cnt s _ _ _
  have k : EntsBut t v := entsBut_of_tbls rfl
  exact entsBut_ite ((h.trans k).trans (entsBut_sf v _ _ _)) (h.trans (entsBut_cnt t _ _ _))

theorem entsBut_captureOnce (s : State) (p code c1 c2 c3 : Nat) : EntsBut s (s.captureOnce p code c1 c2 c3) := by
  unfold State.captureOnce
  extract_lets f t
  exact entsBut_ite ((entsBut_takeCapture s _ _ _ _ _).trans (entsBut_pushRecord _ _)) (entsBut_takeCapture s _ _ _ _ _)

theorem entsBut_queueFull (s : State) (p : Nat) : EntsBut s (s.queueFull p) := by
  unfold State.queueFull
  extract_lets f t u
  have h : EntsBut s t := entsBut_captureOnce s _ _ _ _ _
  have k : EntsBut t u := entsBut_ite (entsBut_takeCapture t _ _ _ _ _) (EntsBut.refl t)
  exact (h.trans k).trans (entsBut_event u 2 (by decide))

theorem entsBut_errorNoEvent (s : State) (p code c1 c2 c3 : Nat) : EntsBut s (s.errorNoEvent p code c1 c2 c3) := by
  unfold State.errorNoEvent
  extract_lets f t
  exact entsBut_ite ((entsBut_captureOnce s _ _ _ _ _).trans (entsBut_queueFull _ _)) (entsBut_captureOnce s _ _ _ _ _)

/-- An error changes no table entry but Landing sources. -/
theorem entsBut_error (s : State) {p : Nat} (bit code c1 c2 c3 : Nat) (h : p < 2 ^ 24) : EntsBut s (s.error p bit code c1 c2 c3) :=
  (entsBut_errorNoEvent s p code c1 c2 c3).trans (entsBut_event _ bit h)

end Sys2Proof.Machine
end

