-- ==== Sys2Proof/Laws/Ends.lean ====
section
/-!
SUPPORT. How a command ends: what is brought up to date, and that nothing more happens in a device in which nothing waits.
-/

namespace Sys2Proof.Machine

theorem with_same_brg (s : State) (h : s.brg.accs = []) (f : Nat × Acc → Bool) :
    { s with brg := { s.brg with accs := s.brg.accs.filter f } } = s := by
  obtain ⟨b1, b2⟩ := s
  rename_i brg _ _ _ _ _ _ _ _
  cases brg
  simp only at h
  subst h
  rfl

theorem filter_none {α : Type} {l : List α} {p q : α → Bool} (h : l.all q = true) (hp : ∀ x, q x = true → p x = false) :
    l.filter p = [] := by
  rw [List.filter_eq_nil_iff]
  intro a ha
  rw [List.all_eq_true] at h
  simp [hp a (h a ha)]

/-- In a device in which nothing waits, nothing goes on by itself. -/
theorem settle_of_calm {s : State} (h : s.calm = true) : s.settle = s := by
  simp only [State.calm, Bool.and_eq_true, List.isEmpty_iff] at h
  obtain ⟨⟨⟨⟨⟨h1, h2⟩, h3⟩, h4⟩, -⟩, -⟩ := h
  have hr : s.reap = s := with_same_brg s h1 _
  have hi : s.identPump = s := by
    unfold State.identPump
    rw [filter_none h2 (by intro x hx; simpa using hx)]; rfl
  have hp : s.pump = s := by
    unfold State.pump
    simp only [hr, hi]
    have ha : s.allParts = [] := by unfold State.allParts; rw [h1]; rfl
    simp only [ha, List.filter_nil, State.each, List.foldl_nil, h1]
  unfold State.settle
  simp only [hp]
  rw [filter_none h3 (by intro x hx; cases hr : x.2.ring <;> simp_all)]
  simp only [State.each, List.foldl_nil]
  unfold State.dlAsk
  rw [filter_none h4 (by intro x hx; cases ho : x.old <;> simp_all)]
  rfl

/-- In a device in which nothing waits, no held request of the host is taken up. -/
theorem acceptHeld_of_calm {s : State} (h : s.calm = true) : s.acceptHeld = s := by
  simp only [State.calm, Bool.and_eq_true, List.isEmpty_iff] at h
  obtain ⟨⟨-, h⟩, -⟩ := h
  unfold State.acceptHeld
  split
  · rfl
  · obtain ⟨b1, b2⟩ := s
    rename_i brg _ _ _ _ _ _ _ _ _
    cases brg
    simp only at h
    subst h
    rfl

/-- In a device in which nothing waits, nothing goes on before the Mezzanine. -/
theorem mezTake_of_calm {s : State} (h : s.calm = true) : s.mezTake = s := by
  simp only [State.calm, Bool.and_eq_true] at h
  obtain ⟨-, h⟩ := h
  simp only [State.mezIdle, Bool.and_eq_true, List.isEmpty_iff] at h
  obtain ⟨h1, h2⟩ := h
  have e : ∀ l, l = [] → { s with mez := { s.mez with held := l } } = s := by
    intro l hl; subst hl; rw [← h1]
  unfold State.mezTake
  split
  · rfl
  · simp only [h1, State.each, List.foldl_nil, List.length_nil, List.drop_zero, e]
    split
    · rename_i run hr
      rw [hr] at h2
      split
      · rename_i src hs; simp [hs] at h2
      · rfl
    · rfl

/-- Whether nothing waits depends on six parts of the state only. -/
theorem calm_congr {s t : State} (h1 : t.brg = s.brg) (h2 : t.lards = s.lards) (h3 : t.cvn = s.cvn) (h4 : t.hlm = s.hlm)
    (h5 : t.mez = s.mez) (h6 : t.mgq = s.mgq) : t.calm = s.calm := by
  unfold State.calm State.mezIdle; rw [h1, h2, h3, h4, h5, h6]

theorem calm_sameBut {s t : State} (h : SameBut s t) : t.calm = s.calm := calm_congr h.brg h.lards h.cvn h.hlm h.mez h.mgq
@[simp] theorem calm_setReg (s : State) (a : Nat) (v : Word) : (s.setReg a v).calm = s.calm := calm_sameBut (sameBut_setReg s a v)
@[simp] theorem calm_sf (s : State) (p : Nat) (f : Fld) (v : Nat) : (s.sf p f v).calm = s.calm := calm_sameBut (sameBut_sf s p f v)
@[simp] theorem calm_cnt (s : State) (p off n : Nat) : (s.cnt p off n).calm = s.calm := calm_sameBut (sameBut_cnt s p off n)
@[simp] theorem calm_setEnt (s : State) (t : Tbl) (i : Nat) (e : Entry) : (s.setEnt t i e).calm = s.calm :=
  calm_sameBut (sameBut_setEnt s t i e)
@[simp] theorem calm_st (s : State) (t : Tbl) (i : Nat) (f : TFld) (v : Nat) : (s.st t i f v).calm = s.calm :=
  calm_sameBut (sameBut_st s t i f v)
@[simp] theorem calm_emit (s : State) (o : Out) : (s.emit o).calm = s.calm := calm_congr rfl rfl rfl rfl rfl rfl
@[simp] theorem calm_event (s : State) (p b : Nat) : (s.event p b).calm = s.calm := calm_sameBut (sameBut_event s p b)
@[simp] theorem calm_fire (s : State) (x : Nat) : (s.fire x).calm = s.calm := calm_sameBut (sameBut_fire s x)
@[simp] theorem calm_pageSource (s : State) (p : Nat) (w : Bool) : (s.pageSource p w).calm = s.calm := calm_sameBut (sameBut_pageSource s p w)
@[simp] theorem calm_error (s : State) (p bit code c1 c2 c3 : Nat) : (s.error p bit code c1 c2 c3).calm = s.calm :=
  calm_sameBut (sameBut_error s p bit code c1 c2 c3)
@[simp] theorem calm_errorNoEvent (s : State) (p code c1 c2 c3 : Nat) : (s.errorNoEvent p code c1 c2 c3).calm = s.calm :=
  calm_sameBut (sameBut_errorNoEvent s p code c1 c2 c3)

/-! ### What every command brings up to date -/

/-- The registers that every command brings up to date. -/
def shownRegs : List Nat :=
  [raddr pgHST HST.NP_CTL_NP_OUT.off, raddr pgFLT FLT.FLT_STS_QUEUE.off, raddr pgMEZ MEZ.MEZ_STS_COUNT.off]

theorem reg_shown_of_not_mem (s : State) {a : Nat} (h : a ∉ shownRegs) : s.shown.reg a = s.reg a := by
  simp only [shownRegs, List.mem_cons, List.not_mem_nil, or_false, not_or] at h
  have e : ∀ t : State, (if t.smb.alertLow == t.alertDue then t else t.emit (.pin "SMB_ALERT_N" (!t.alertDue))).reg a = t.reg a := by
    intro t; split <;> simp
  unfold State.shown
  extract_lets s1 s2 s3 low s4
  show s4.reg a = s.reg a
  rw [show s4.reg a = s3.reg a from e s3]
  unfold s3 s2 s1
  rw [State.reg_sf_of_ne _ _ h.2.2, State.reg_sf_of_ne _ _ h.2.1, State.reg_sf_of_ne _ _ h.1]

theorem gf_shown_of_not_mem (s : State) {p : Nat} {f : Fld} (h : raddr p f.off ∉ shownRegs) : s.shown.gf p f = s.gf p f := by
  unfold State.gf; rw [reg_shown_of_not_mem s h]

/-- All but the registers, the sent outputs and the SMBus port is as before. -/
theorem shown_keeps {α : Type} (f : State → α) (hr : ∀ s x, f { s with regs := x } = f s) (ho : ∀ s x, f { s with out := x } = f s)
    (hs : ∀ s x, f { s with smb := x } = f s) (s : State) : f s.shown = f s := by
  have h1 : ∀ (t : State) (p : Nat) (g : Fld) (v : Nat), f (t.sf p g v) = f t := fun t p g v => hr t _
  have h2 : ∀ (t : State) (o : Out), f (t.emit o) = f t := fun t o => ho t _
  unfold State.shown
  extract_lets s1 s2 s3 low s4
  rw [hs]
  have h4 : f s4 = f s3 := by
    unfold s4
    split
    · rfl
    · exact h2 _ _
  rw [h4]
  unfold s3 s2 s1
  rw [h1, h1, h1]

@[simp] theorem shown_pending (s : State) : s.shown.pending = s.pending := shown_keeps State.pending State.with_regs_pending State.with_out_pending State.with_smb_pending s
@[simp] theorem shown_clock (s : State) : s.shown.clock = s.clock := shown_keeps State.clock State.with_regs_clock State.with_out_clock State.with_smb_clock s
@[simp] theorem shown_free (s : State) : s.shown.free = s.free := shown_keeps State.free State.with_regs_free State.with_out_free State.with_smb_free s
@[simp] theorem shown_tbls (s : State) : s.shown.tbls = s.tbls := shown_keeps State.tbls State.with_regs_tbls State.with_out_tbls State.with_smb_tbls s
@[simp] theorem shown_sets (s : State) : s.shown.sets = s.sets := shown_keeps State.sets State.with_regs_sets State.with_out_sets State.with_smb_sets s
@[simp] theorem shown_sys (s : State) : s.shown.sys = s.sys := shown_keeps State.sys State.with_regs_sys State.with_out_sys State.with_smb_sys s
@[simp] theorem shown_lnd (s : State) : s.shown.lnd = s.lnd := shown_keeps State.lnd State.with_regs_lnd State.with_out_lnd State.with_smb_lnd s
@[simp] theorem shown_flt (s : State) : s.shown.flt = s.flt := shown_keeps State.flt State.with_regs_flt State.with_out_flt State.with_smb_flt s
@[simp] theorem shown_oas (s : State) : s.shown.oas = s.oas := shown_keeps State.oas State.with_regs_oas State.with_out_oas State.with_smb_oas s
@[simp] theorem shown_avs (s : State) : s.shown.avs = s.avs := shown_keeps State.avs State.with_regs_avs State.with_out_avs State.with_smb_avs s
@[simp] theorem shown_vlt (s : State) : s.shown.vlt = s.vlt := shown_keeps State.vlt State.with_regs_vlt State.with_out_vlt State.with_smb_vlt s
@[simp] theorem shown_host (s : State) : s.shown.host = s.host := shown_keeps State.host State.with_regs_host State.with_out_host State.with_smb_host s
@[simp] theorem shown_links (s : State) : s.shown.links = s.links := shown_keeps State.links State.with_regs_links State.with_out_links State.with_smb_links s
@[simp] theorem shown_lards (s : State) : s.shown.lards = s.lards := shown_keeps State.lards State.with_regs_lards State.with_out_lards State.with_smb_lards s
@[simp] theorem shown_ports (s : State) : s.shown.ports = s.ports := shown_keeps State.ports State.with_regs_ports State.with_out_ports State.with_smb_ports s
@[simp] theorem shown_brg (s : State) : s.shown.brg = s.brg := shown_keeps State.brg State.with_regs_brg State.with_out_brg State.with_smb_brg s
@[simp] theorem shown_gal (s : State) : s.shown.gal = s.gal := shown_keeps State.gal State.with_regs_gal State.with_out_gal State.with_smb_gal s
@[simp] theorem shown_sch (s : State) : s.shown.sch = s.sch := shown_keeps State.sch State.with_regs_sch State.with_out_sch State.with_smb_sch s
@[simp] theorem shown_cvn (s : State) : s.shown.cvn = s.cvn := shown_keeps State.cvn State.with_regs_cvn State.with_out_cvn State.with_smb_cvn s
@[simp] theorem shown_hlm (s : State) : s.shown.hlm = s.hlm := shown_keeps State.hlm State.with_regs_hlm State.with_out_hlm State.with_smb_hlm s
@[simp] theorem shown_erg (s : State) : s.shown.erg = s.erg := shown_keeps State.erg State.with_regs_erg State.with_out_erg State.with_smb_erg s
@[simp] theorem shown_mgq (s : State) : s.shown.mgq = s.mgq := shown_keeps State.mgq State.with_regs_mgq State.with_out_mgq State.with_smb_mgq s
@[simp] theorem shown_mez (s : State) : s.shown.mez = s.mez := shown_keeps State.mez State.with_regs_mez State.with_out_mez State.with_smb_mez s
@[simp] theorem shown_tap (s : State) : s.shown.tap = s.tap := shown_keeps State.tap State.with_regs_tap State.with_out_tap State.with_smb_tap s

@[simp] theorem shown_ent (s : State) (t : Tbl) (i : Nat) : s.shown.ent t i = s.ent t i := by unfold State.ent; rw [shown_tbls]
@[simp] theorem shown_tf (s : State) (t : Tbl) (i : Nat) (f : TFld) : s.shown.tf t i f = s.tf t i f := by
  unfold State.tf; rw [shown_ent]

/-- A cycle start changes the gate lists in force and reports. -/
theorem gateStart_cases (s : State) (n : Nat) : ∃ x, SameBut { s with sch := x } (s.gateStart n) := by
  unfold State.gateStart
  extract_lets due g rest
  repeat' split
  · exact ⟨s.sch, rfl⟩
  · exact ⟨_, SameBut.refl _⟩
  · exact ⟨_, sameBut_error _ _ _ _ _ _ _⟩
  · exact ⟨_, SameBut.refl _⟩

@[simp] theorem State.gateStart_sys (s : State) (n : Nat) : (s.gateStart n).sys = s.sys := by
  obtain ⟨x, h⟩ := gateStart_cases s n
  exact h.sys

/-- The gates of a link leave the time as the step made it. -/
@[simp] theorem State.gateStep_sys (s : State) (was n : Nat) : (s.gateStep was n).sys = s.sys := by
  unfold State.gateStep
  split
  · rfl
  · rw [State.gateStart_sys]
    dsimp only
    split
    · rfl
    · exact (sameBut_cnt _ _ _ _).sys

end Sys2Proof.Machine
end

