-- ==== Sys2Proof/Laws/Wire.lean ====
section
/-!
SUPPORT. What is scrambled is descrambled again (R149): the receiver's history follows the sender's, and the bits come back.
-/

namespace Sys2Proof.Machine

/-- The bits of a bit and what follows it. -/
theorem testBit_cons_zero (b x : Nat) (h : b < 2) : (b + 2 * x).testBit 0 = decide (b = 1) := by
  rw [Nat.testBit_zero]; rcases (by omega : b = 0 ∨ b = 1) with rfl | rfl <;> simp [Nat.add_mod]

theorem testBit_cons_succ (b x i : Nat) (h : b < 2) : (b + 2 * x).testBit (i + 1) = x.testBit i := by
  rw [Nat.testBit_succ]; congr 1; omega

/-- The 58 bits sent last, after one more. -/
def histNext (h p : Nat) : Nat := h / 2 + (p % 2 ^^^ h / 2 ^ 19 % 2 ^^^ h % 2) * 2 ^ 57

theorem scramBit_lt (h p : Nat) : (p % 2 ^^^ h / 2 ^ 19 % 2 ^^^ h % 2) < 2 :=
  Nat.xor_lt_two_pow (n := 1) (Nat.xor_lt_two_pow (n := 1) (by omega) (by omega)) (by omega)

theorem histNext_lt {h : Nat} (hh : h < 2 ^ 58) (p : Nat) : histNext h p < 2 ^ 58 := by
  have := scramBit_lt h p
  unfold histNext; omega

/-- One bit more is sent in front of the rest. -/
theorem scramble_succ (n h p : Nat) :
    scramble (n + 1) h p = ((p % 2 ^^^ h / 2 ^ 19 % 2 ^^^ h % 2) + 2 * (scramble n (histNext h p) (p / 2)).1,
      (scramble n (histNext h p) (p / 2)).2) := rfl

/-- The bits sent, above the 58 bits sent before them. -/
theorem scramble_stream (n h p : Nat) :
    h + (scramble (n + 1) h p).1 * 2 ^ 58
      = h % 2 + 2 * (histNext h p + (scramble n (histNext h p) (p / 2)).1 * 2 ^ 58) := by
  rw [scramble_succ]; unfold histNext; omega

theorem scramble_lt (n : Nat) : ∀ h p : Nat, (scramble n h p).1 < 2 ^ n := by
  induction n with
  | zero => intro h p; simp [scramble]
  | succ n ih =>
    intro h p
    have := ih (histNext h p) (p / 2)
    have := scramBit_lt h p
    rw [scramble_succ, show 2 ^ (n + 1) = 2 * 2 ^ n from Nat.pow_succ']; dsimp only; omega

/-- The history after n bits is what lies above the first n bits of the stream. -/
theorem scramble_hist (n : Nat) : ∀ h p : Nat, (scramble n h p).2 = (h + (scramble n h p).1 * 2 ^ 58) / 2 ^ n := by
  induction n with
  | zero => intro h p; simp [scramble]
  | succ n ih =>
    intro h p
    rw [scramble_stream, scramble_succ, show 2 ^ (n + 1) = 2 * 2 ^ n from Nat.pow_succ', ← Nat.div_div_eq_div_mul]
    refine (ih _ _).trans ?_
    congr 1; omega

/-- Every bit that was scrambled is the sum of three bits of the stream: itself as sent, and those sent 39 and 58 bits before. -/
theorem scramble_bit (n : Nat) : ∀ (h p i : Nat), h < 2 ^ 58 → i < n →
    let st := h + (scramble n h p).1 * 2 ^ 58
    p.testBit i = ((st.testBit (i + 58) ^^ st.testBit (i + 19)) ^^ st.testBit i) := by
  induction n with
  | zero => intro h p i _ hi; omega
  | succ n ih =>
    intro h p i hh hi
    have hb := scramBit_lt h p
    cases i with
    | succ i =>
      have := ih (histNext h p) (p / 2) i (histNext_lt hh p) (by omega)
      simp only [scramble_stream]
      rw [show i + 1 + 58 = (i + 58) + 1 from rfl, show i + 1 + 19 = (i + 19) + 1 from rfl,
        testBit_cons_succ _ _ _ (by omega), testBit_cons_succ _ _ _ (by omega), testBit_cons_succ _ _ _ (by omega), Nat.testBit_succ]
      exact this
    | zero =>
      simp only [scramble_succ, Nat.zero_add]
      generalize (scramble n (histNext h p) (p / 2)).1 = x
      have e58 : (h + ((p % 2 ^^^ h / 2 ^ 19 % 2 ^^^ h % 2) + 2 * x) * 2 ^ 58).testBit 58
          = decide ((p % 2 ^^^ h / 2 ^ 19 % 2 ^^^ h % 2) = 1) := by
        rw [Nat.testBit_eq_decide_div_mod_eq]; congr 1; apply propext; omega
      have e19 : (h + ((p % 2 ^^^ h / 2 ^ 19 % 2 ^^^ h % 2) + 2 * x) * 2 ^ 58).testBit 19 = decide (h / 2 ^ 19 % 2 = 1) := by
        rw [Nat.testBit_eq_decide_div_mod_eq]; congr 1; apply propext; omega
      have e0 : (h + ((p % 2 ^^^ h / 2 ^ 19 % 2 ^^^ h % 2) + 2 * x) * 2 ^ 58).testBit 0 = decide (h % 2 = 1) := by
        rw [Nat.testBit_eq_decide_div_mod_eq]; congr 1; apply propext; omega
      rw [e58, e19, e0, Nat.testBit_zero]
      rcases Nat.mod_two_eq_zero_or_one p with a | a <;> rcases Nat.mod_two_eq_zero_or_one (h / 2 ^ 19) with b | b <;>
        rcases Nat.mod_two_eq_zero_or_one h with c | c <;> (simp only [a, b, c]; decide)

/-- The three bits added give the payload back, and what lies above is the history. -/
theorem scramble_back (n h p : Nat) (hh : h < 2 ^ 58) :
    let st := h + (scramble n h p).1 * 2 ^ 58
    ((((st / 2 ^ 58) ^^^ (st / 2 ^ 19)) ^^^ st) % 2 ^ n, st / 2 ^ n) = (p % 2 ^ n, (scramble n h p).2) := by
  refine Prod.ext ?_ (scramble_hist n h p).symm
  apply Nat.eq_of_testBit_eq
  intro i
  simp only [Nat.testBit_mod_two_pow, Nat.testBit_xor, ← Nat.shiftRight_eq_div_pow, Nat.testBit_shiftRight]
  by_cases hi : i < n
  · have := scramble_bit n h p i hh hi
    simp only at this
    rw [this, Nat.add_comm 58 i, Nat.add_comm 19 i]
  · simp [hi]

/-- Descrambling what was scrambled gives it back, and the receiver's history is the sender's (R149). -/
theorem descramble_scramble (h p : Nat) (hh : h < 2 ^ 58) :
    descramble h (scramble 2048 h p).1 = (p % 2 ^ 2048, (scramble 2048 h p).2) := scramble_back 2048 h p hh

end Sys2Proof.Machine
end

