-- ==== Sys2Proof/Tests/Slice0.lean ====
section
/-!
SUPPORT. Checks of the model: ill-formed commands, steps against the manual's own examples, and for every statement with hypotheses
concrete states and operands that meet them.
-/

section

set_option Elab.async false

open Sys2Proof Sys2Proof.Machine

/-! ### Well-formed commands: one ill-formed term for each check, refused; and with every operand in its range, accepted -/

theorem test_wellFormed_refuses_1 :
    ([
      .regWrite (.slot 0 0 none) 0 0 0 [0], .regWrite (.pf0 65536) 0 0 0 [0], .regWrite (.pf0 0) 67108864 0 0 [0], .regWrite (.pf0 0) 0 0 0 [],
      .pageEnable 16384, .enableReady 16384, .pageDisable 16384, .disableGate 16384,
      .quiesceSet 16384, .quiesceClear 16384, .quiesced 16384, .pageLock 16384,
      .evtRawClear 16384 0 0, .evtEnWrite 16384 0, .evtForce 16384 0, .errCapRelease 16384,
      .cntClear 16384 false, .tblRead 16384 .host 0, .tblWrite 16384 .host 0, .tblOpInvalid 16384 .host 0,
      .tblOpDone 16384 .host, .smbRegWrite 67108864 0 false false, .smbRegRead 67108864, .mctpMgqCommand [] [],
      .hostLinkUp 7 16 false false 0, .hostLinkUp 1 3 false false 0, .speedLimitWrite 16 false, .hostRetrainLink 7 0,
      .configRequest 253 .vendorId none 0, .configRequest 0 .vendorId none 16384, .pmStateWrite 253 false, .flr 253,
      .flrDone 253, .hostWrite ⟨253, none, .clear, false, 0, 0, 0, 0, 0⟩ 0 0 0 [0], .hostWrite ⟨0, none, .clear, false, 0, 0, 0, 65536, 0⟩ 0 0 0 [0], .hostWrite ⟨0, none, .clear, false, 0, 0, 0, 0, 0⟩ (2 ^ 64) 0 0 [0] ] : List Instr).all (fun i => !i.wellFormed) = true := by decide +kernel

theorem test_wellFormed_refuses_2 :
    ([
      .hostWrite ⟨0, none, .clear, false, 0, 0, 0, 0, 0⟩ 0 0 0 [], .hostRead ⟨253, none, .clear, false, 0, 0, 0, 0, 0⟩ 0 0 1 0 0, .hostRead ⟨0, none, .clear, false, 0, 0, 0, 65536, 0⟩ 0 0 1 0 0, .hostRead ⟨0, none, .clear, false, 0, 0, 0, 0, 0⟩ 16384 0 1 0 0,
      .hostRead ⟨0, none, .clear, false, 0, 0, 0, 0, 0⟩ 0 (2 ^ 64) 1 0 0, .hostRead ⟨0, none, .clear, false, 0, 0, 0, 0, 0⟩ 0 0 1025 0 0, .hostAtomic ⟨253, none, .clear, false, 0, 0, 0, 0, 0⟩ 0 0 .swap 8 0 0, .hostAtomic ⟨0, none, .clear, false, 0, 0, 0, 65536, 0⟩ 0 0 .swap 8 0 0,
      .hostAtomic ⟨0, none, .clear, false, 0, 0, 0, 0, 0⟩ 16384 0 .swap 8 0 0, .hostAtomic ⟨0, none, .clear, false, 0, 0, 0, 0, 0⟩ 0 (2 ^ 64) .swap 8 0 0, .hostAtomic ⟨0, none, .clear, false, 0, 0, 0, 0, 0⟩ 0 0 .swap 3 0 0, .hostAtomic ⟨0, none, .clear, false, 0, 0, 0, 0, 0⟩ 0 0 .swap 8 (2 ^ 64) 0,
      .hostAtomic ⟨0, none, .clear, false, 0, 0, 0, 0, 0⟩ 0 0 .swap 8 0 (2 ^ 64), .hostZeroLengthRead ⟨253, none, .clear, false, 0, 0, 0, 0, 0⟩ 0 0, .hostZeroLengthRead ⟨0, none, .clear, false, 0, 0, 0, 65536, 0⟩ 0 0, .hostZeroLengthRead ⟨0, none, .clear, false, 0, 0, 0, 0, 0⟩ 16384 0,
      .hostZeroLengthRead ⟨0, none, .clear, false, 0, 0, 0, 0, 0⟩ 0 (2 ^ 64), .hostCompletion (253 * 16384) .sc [] 0 .clear false 0 0 0, .cplTimeout (253 * 16384), .msixTableWrite 253 0 0 0 0,
      .msixTableWrite 0 2048 0 0 0, .msixTableWrite 0 0 4 0 0, .atsInvalidationRequest 32 0 none 0 0, .atsInvalidationRequest 0 253 none 0 0,
      .atsInvalidationRequest 0 0 (some 1048576) 0 0, .atsInvalidationRequest 0 0 none (2 ^ 64) 0, .atsInvalidationComplete 32, .atsTranslationCompletion 4096 0 .faultPri,
      .atsTranslationCompletion 0 (2 ^ 52) .faultPri, .prgResponse 4096 0 .success, .prgResponse 0 512 .success, .ideKeyProg 0 2 0 (List.replicate 40 0),
      .ideKeyProg 0 0 3 (List.replicate 40 0), .ideKeyProg 0 0 0 [], .ideKmMessage 0 0 2 0, .ideKmMessage 0 0 0 3 ] : List Instr).all (fun i => !i.wellFormed) = true := by decide +kernel

theorem test_wellFormed_refuses_3 :
    ([
      .tdispLockInterface 0, .tdispStartInterface 0 0, .tdispStopInterface 0, .tdispMessage 0 0 [],
      .drHoldExpiry 64, .raHoldExpiry 512, .mirageOutWrite 1024 0 0, .mirageOutWrite 0 16 0,
      .mirageUpdateSend 1024, .sbPollTimer 1024, .trainingBlockRx 1024 0 0, .cableSweepDone 1024 0 0 false 0,
      .cableSweepDone 0 0 0 false 8, .echoPhaseEnd ⟨1024, 0⟩, .echoPhaseEnd ⟨0, 8⟩, .rateSwitchEnd 1024,
      .alignDone 1024 [], .trainTimeout 1024, .trainRetryWaitEnd 1024, .faultSweepTimer 1024,
      .blockLockGained 1024, .blockLockLost 1024, .polarityCorrect 1024, .amRx 1024 0 0,
      .markerLockGained 1024, .markerLockLost 1024, .lockLoss 1024 0, .retrainWrite 1024,
      .retrainTimeout 1024, .diagRun 1024 0 0 false, .cableChange 1024 [], .sleepReqWrite 1024,
      .sleepReqSend 1024, .linkIdleTimer 1024, .sleepReqRx 1024 0, .sleepAckRx 1024 0 ] : List Instr).all (fun i => !i.wellFormed) = true := by decide +kernel

theorem test_wellFormed_refuses_4 :
    ([
      .sleepNakRx 1024 0, .sleepAnswerTimeout 1024, .detectorArm 1024, .activityWake 1024,
      .bridgeWake 1024, .groupPllLocked 64, .wakeDetectDelay 1024, .wakeLockoutEnd 1024,
      .groupAutoSleep 64, .codewordRx 1024 0, .frameRx 1024 [0, 0] 0, .frameRx 0 (List.replicate 513 0) 0,
      .ackTimer 1024, .ackRx 1024 0, .nakRx 1024 0, .flowRx 1024 0,
      .flowSend 1024, .frameStart 1024, .replayTimer 1024, .creditAudit 1024,
      .windowStarveTimer 1024, .linkInitRx 1024 0 0, .initTimeout 1024, .linkEnable 1024,
      .linkDisable 1024, .linkResync 1024, .spareSwRx 1024 0, .spareSwitchDone 1024,
      .spareEchoTimeout 1024, .stationRsp 1024, .errRptRx 1024, .msgRx 1024,
      .stationEvent 1024, .mirageUpdateRx 1024, .sbPollAnswer 1024, .timeRoundStart 1024 ] : List Instr).all (fun i => !i.wellFormed) = true := by decide +kernel

theorem test_wellFormed_refuses_5 :
    ([
      .timeEchoRx 1024 0, .timeEchoFuRx 1024, .timeRoundTimeout 1024, .identRetry 1024,
      .tagLifetime 1024 0, .tagLifetime 0 1024, .admissionResume 40960, .egressSelect 1025 none,
      .spillReadback 40960, .mcDetach 40960, .sessionSweepDone 1024, .bankRetire 64,
      .bankRetireAuto 64 false 0, .bankRetireDone 64 [], .naLockoutEnd 64, .cascadeFrameRx 1024,
      .gateCycleStart 1024, .gateEntryChange 1024, .ringDoorbell (.slot 0 0 none) 0 0 0, .ringDoorbell (.pf0 65536) 0 0 0,
      .ringDoorbell (.pf0 0) 4096 0 0, .ringDoorbell (.pf0 0) 0 8 0, .ringDoorbell (.pf0 0) 0 0 65536, .descNop 128,
      .descCopy 128, .descFence 128, .descJump 128, .descReservedOp 128,
      .descFetchFail 128, .caravanReadData 128, .fenceDone 128, .enginePowerDown 128,
      .ringEnable 32768, .ringDisable 32768, .ringResume 32768, .tailClear 32768 ] : List Instr).all (fun i => !i.wellFormed) = true := by decide +kernel

theorem test_wellFormed_refuses_6 :
    ([
      .hallCreate 4096, .hallReset 4096, .hallRelease 4096, .hallResetDone 4096,
      .genWaitEnd 4096, .dlFlip 4096, .rxRecordWrite 40960, .rxConsWrite (.slot 0 0 none) 0 0,
      .rxConsWrite (.pf0 65536) 0 0, .rxConsWrite (.pf0 0) 4096 0, .sourceFire 65536 false, .evinChange 16 false,
      .msixDelivery 32768, .holdoffExpiry 1024, .sumClaim 64 .host, .sumComplete 64 0,
      .sumComplete 0 65536, .sumStackReset 64, .sourceClrPend 65536, .sourceReassign 65536,
      .mgqDoorbell 65536, .mezApply 65536, .ergTrainingDone 4 .ok, .ergFillDone 4,
      .ergScrubPass 4 0 [], .ergSparingStart 4 0 0 false, .ergSparingStart 0 18 0 false, .ergSparingDone 4,
      .ergChannelFail 4 .zq, .pwrReqStandby false 8, .pwrReqSleep false 8, .pwrReqDeepSleep false 8,
      .pwrReqOff false 8, .oasisListWake 64, .regRead (.slot 0 0 none) 0 1 0 0 0, .regRead (.pf0 65536) 0 1 0 0 0 ] : List Instr).all (fun i => !i.wellFormed) = true := by decide +kernel

theorem test_wellFormed_refuses_7 :
    ([
      .regRead (.pf0 0) 67108864 1 0 0 0, .regRead (.pf0 0) 0 1025 0 0 0, .regRead (.pf0 0) 0 1 0 0 16384, .hostRecovery 7 16,
      .hostRecovery 1 3, .timeSyncRx 1024 0, .timeFollowUpRx 1024 ] : List Instr).all (fun i => !i.wellFormed) = true := by decide +kernel

theorem test_wellFormed_accepts_1 :
    ([
      .regWrite (.pf0 0) 0 0 0 [0], .pageEnable 0, .enableReady 0, .pageDisable 0,
      .disableGate 0, .quiesceSet 0, .quiesceClear 0, .quiesced 0,
      .pageLock 0, .evtRawClear 0 0 0, .evtEnWrite 0 0, .evtForce 0 0,
      .errCapRelease 0, .cntClear 0 false, .tblRead 0 .host 0, .tblWrite 0 .host 0,
      .tblOpInvalid 0 .host 0, .tblOpDone 0 .host, .smbRegWrite 0 0 false false, .smbRegRead 0,
      .smbStatusRead, .smbAra, .mctpPacket [], .mctpSetEndpointId 0,
      .mctpGetEndpointId, .mctpGetEndpointUuid, .mctpGetVersionSupport 0, .mctpGetMessageTypeSupport,
      .mctpGetVendorMsgSupport 0, .mctpUnsupportedCmd 0, .mctpMgqCommand (List.replicate 48 0) [], .devtimeLoRead .host,
      .perstRelease [], .perstAssert, .hostLinkUp 1 16 false false 0, .hostLinkDown ] : List Instr).all (fun i => i.wellFormed) = true := by decide +kernel

theorem test_wellFormed_accepts_2 :
    ([
      .hostReset .dlDown, .speedLimitWrite 0 false, .speedAutoUp, .hostRetrainLink 1 0,
      .configRequest 0 .vendorId none 0, .pmStateWrite 0 false, .vfEnable, .vfDisable,
      .flr 0, .flrDone 0, .hostWrite ⟨0, none, .clear, false, 0, 0, 0, 0, 0⟩ 0 0 0 [0], .hostRead ⟨0, none, .clear, false, 0, 0, 0, 0, 0⟩ 0 0 1 0 0,
      .hostAtomic ⟨0, none, .clear, false, 0, 0, 0, 0, 0⟩ 0 0 .swap 8 0 0, .hostZeroLengthRead ⟨0, none, .clear, false, 0, 0, 0, 0, 0⟩ 0 0, .hostCompletion 0 .sc [] 0 .clear false 0 0 0, .cplTimeout 0,
      .msixTableWrite 0 0 0 0 0, .atsInvalidationRequest 0 0 none 0 0, .atsInvalidationComplete 0, .atsTranslationCompletion 0 0 .faultPri,
      .prgResponse 0 0 .success, .ptmReq, .ptmPeriod, .ptmDialogDone 0,
      .ptmDialogFail, .doeRequest 0 [], .doeAbort, .spdmRequest .host 0 0 0 0 [],
      .ideKeyProg 0 0 0 (List.replicate 40 0), .ideKmMessage 0 0 0 0, .tdispLockInterface 1, .tdispStartInterface 1 0,
      .tdispStopInterface 1, .tdispMessage 1 0 [], .readExpiry 0, .npwExpiry 0 ] : List Instr).all (fun i => i.wellFormed) = true := by decide +kernel

theorem test_wellFormed_accepts_3 :
    ([
      .drHoldExpiry 0, .drRelease 0, .pwlogRelease 0, .raHoldExpiry 0,
      .mirageOutWrite 0 0 0, .mirageUpdateSend 0, .sbPollTimer 0, .trainingBlockRx 0 0 0,
      .cableSweepDone 0 0 0 false 0, .echoPhaseEnd ⟨0, 0⟩, .rateSwitchEnd 0, .alignDone 0 [],
      .trainTimeout 0, .trainRetryWaitEnd 0, .faultSweepTimer 0, .blockLockGained 0,
      .blockLockLost 0, .polarityCorrect 0, .amRx 0 0 0, .markerLockGained 0,
      .markerLockLost 0, .lockLoss 0 0, .retrainWrite 0, .retrainTimeout 0,
      .diagRun 0 0 0 false, .cableChange 0 [], .sleepReqWrite 0, .sleepReqSend 0,
      .linkIdleTimer 0, .sleepReqRx 0 0, .sleepAckRx 0 0, .sleepNakRx 0 0,
      .sleepAnswerTimeout 0, .detectorArm 0, .activityWake 0, .bridgeWake 0 ] : List Instr).all (fun i => i.wellFormed) = true := by decide +kernel

theorem test_wellFormed_accepts_4 :
    ([
      .groupPllLocked 0, .wakeDetectDelay 0, .wakeLockoutEnd 0, .groupAutoSleep 0,
      .codewordRx 0 0, .frameRx 0 [0, 0] 0, .ackTimer 0, .ackRx 0 0,
      .nakRx 0 0, .flowRx 0 0, .flowSend 0, .frameStart 0,
      .replayTimer 0, .creditAudit 0, .windowStarveTimer 0, .linkInitRx 0 0 0,
      .initTimeout 0, .linkEnable 0, .linkDisable 0, .linkResync 0,
      .spareSwRx 0 0, .spareSwitchDone 0, .spareEchoTimeout 0, .stationRsp 0,
      .errRptRx 0, .msgRx 0, .stationEvent 0, .mirageUpdateRx 0,
      .sbPollAnswer 0, .timeRoundStart 0, .timeEchoRx 0 0, .timeEchoFuRx 0,
      .timeRoundTimeout 0, .identRetry 0, .tagLifetime 0 0, .admissionResume 0 ] : List Instr).all (fun i => i.wellFormed) = true := by decide +kernel

theorem test_wellFormed_accepts_5 :
    ([
      .egressSelect 0 none, .spillReadback 0, .spillReadbackDone 0 false, .mcDetach 0,
      .sessionSweepDone 0, .queueFlush 0, .bankRetire 0, .bankRetireAuto 0 false 0,
      .bankRetireDone 0 [], .naLockoutEnd 0, .cascadeFrameRx 0, .cascadeRequestDone 0,
      .gateCycleStart 0, .gateEntryChange 0, .ringDoorbell (.pf0 0) 0 0 0, .descNop 0,
      .descCopy 0, .descFence 0, .descJump 0, .descReservedOp 0,
      .descFetchFail 0, .caravanReadData 0, .fenceDone 0, .enginePowerDown 0,
      .ringEnable 0, .ringDisable 0, .ringResume 0, .tailClear 0,
      .hallCreate 0, .hallReset 0, .hallRelease 0, .hallResetDone 0,
      .genWaitEnd 0, .dlFlip 0, .rxRecordWrite 0, .rxConsWrite (.pf0 0) 0 0 ] : List Instr).all (fun i => i.wellFormed) = true := by decide +kernel

theorem test_wellFormed_accepts_6 :
    ([
      .sourceFire 0 false, .evinChange 0 false, .swSet 0, .msixDelivery 0,
      .holdoffExpiry 0, .sumClaim 0 .host, .sumComplete 0 0, .sumStackReset 0,
      .sourceClrPend 0, .sourceReassign 0, .mgqDoorbell 0, .ringStop false 0,
      .nop 0, .tblLoad 0 .failed, .tblDump 0, .commit 0,
      .abort 0, .wait 0, .auditGallery 0, .auditAllowance 0,
      .portTest 0 0 0 false, .vaultWriteData 0 .failed, .vaultCommit 0, .vaultErase 0,
      .stationIdent 0, .stationCfgRd 0, .stationCfgWr 0, .mgqReservedOp 0,
      .stageRegister 0, .mezApply 0, .ergTrainingDone 0 .ok, .ergFillDone 0,
      .ergAccessDone 0 false, .ergScrubPass 0 0 [], .ergSparingStart 0 0 0 false, .ergSparingDone 0 ] : List Instr).all (fun i => i.wellFormed) = true := by decide +kernel

theorem test_wellFormed_accepts_7 :
    ([
      .ergChannelFail 0 .zq, .pwrReqRun false, .pwrReqStandby false 0, .pwrReqSleep false 0,
      .pwrReqDeepSleep false 0, .pwrReqOff false 0, .stopTimeout 0, .oasisListWake 0,
      .thermalCoolWake 0, .wakeFlagClear 0, .tempSample 0 false, .avsConfirmPoll false 0,
      .powerOn 0 .blank, .supplyLoss .vaux, .reboot 0, .rebootEffect .blank,
      .debugUnlock 0, .supplyReturn 0 .blank, .regRead (.pf0 0) 0 1 0 0 0, .hostRecovery 1 16,
      .timeSyncRx 0 0, .timeFollowUpRx 0, .spdmHeartbeatTimeout .host, .boundaryScan false false false,
      .queueFlushDone, .auditSweep, .auditSweepDone, .epochFlip,
      .epochDrained, .engineAssign, .dlFlipDone, .sourceAssign,
      .mgqRingResume, .stationCmdTimeout, .mezCommit, .mezAbort ] : List Instr).all (fun i => i.wellFormed) = true := by decide +kernel

theorem test_wellFormed_accepts_8 :
    ([
      .ergPllLocked, .stopBlockStopped, .wakeInLow, .wakeTimer,
      .standbyReturn, .xo32Stopped, .vrunRecompute, .debugEraseDone,
      .historyRecordWrite, .historyScanDone, .vauxLoss, .pmeTurnOff,
      .smbBusTimeout ] : List Instr).all (fun i => i.wellFormed) = true := by decide +kernel

namespace Sys2Proof.Machine.Wit
/-- Blocks ACTIVE for tests. -/
def on (s : State) (ps : List Nat) : State := s.each ps (fun p s => s.sf p HDR.PAGE_CTL_EN 1 |>.sf p HDR.PAGE_STS_ACTIVE 1)
def r0 : State := State.reset
/-- A staged apply that holds page p. -/
def ap (s : State) (p : Nat) : State := { s with mez := { s.mez with staged := [.tbl p 0 0 0] } }.sf pgMEZ MEZ.MEZ_STS_STATE 2
end Sys2Proof.Machine.Wit
open Sys2Proof.Machine.Wit

/-! ### Small checks against the manual's own examples -/

namespace Sys2Proof.Machine.Checks

/-- The state after a command. -/
def after (c : Instr) (s : State) : State := match exec c s with | .next t => t | _ => s

/-- No row of the table has bits. -/
theorem test_no_word_spells_a_command : decodeTableWord 16 0x1234 = none := by decide

/-- R23's example: PRT[300] at 0x0052_C000 reads PAGE_ID 0x2012_C100, and its Landing source is 0x52C. -/
theorem test_port300_page : State.reset.reg 0x52C000 = 0x2012C100 ∧ pgPRT 300 = 0x52C := by decide +kernel

/-- R67's example: entry 5 of VF37 is Landing entry 4,357. -/
theorem test_vf37_entry :
    ((r0.sf pgHST HST.MSIX_CFG_PF_VECTORS 2048 |>.sf pgHST HST.MSIX_CFG_VF_VECTORS 64 |>.sf pgHST HST.FUNC_CFG_TOTAL_VFS 200).entryFunc 4357)
      = some 37 := by decide +kernel

/-- R93's example: SWAP 0b10 gives the station 55 66 77 88 11 22 33 44. -/
theorem test_swap : stationCells 0x880034568 2 ([0x88, 0x77, 0x66, 0x55, 0x44, 0x33, 0x22, 0x11].map some)
    = (0x880034568, [0x55, 0x66, 0x77, 0x88, 0x11, 0x22, 0x33, 0x44].map some) := by decide +kernel

/-- R240's example: the posted write through window 700 at 0x8_8003_4568. -/
def pw700 : Part := ⟨700, 0, 5, 0, 0, 64, 0, 64, 2, true, true, 0x880034568, 8, 0, 0, 0x880034568,
  (stationCells 0x880034568 2 ([0x88, 0x77, 0x66, 0x55, 0x44, 0x33, 0x22, 0x11].map some)).2, [], none, 0, .waiting, [], 0⟩
theorem test_posted_write_header : fld (pw700.frame .write).hdr 32 32 = 0x007FD781 ∧ fld (pw700.frame .write).hdr 64 64 = 0x880034568
    ∧ (pw700.frame .write).words = [0x4433221188776655] := by decide +kernel

/-- The Caravan's example (R369): 300 bytes from 0x8000_0105 on are cut at the 64-byte burst. -/
theorem test_cuts : cuts 64 300 0x80000105 300 0
    = [(0x80000105, 59, 0), (0x80000140, 64, 59), (0x80000180, 64, 123), (0x800001C0, 64, 187), (0x80000200, 49, 251)] := by decide +kernel

/-- R170's example: tap 120 at 2.5G with VF 70 and BOARD_PS 60 lies at 468 cm. -/
theorem test_dist_cm : distCm 120 (livePeriod 2) 70 60 = 468 := by decide +kernel

/-- R524's example: the refusal of port 518 captures VDDL 11 and VDD 4 units as 0x000B_0004, with block 0x20 and instance 518. -/
theorem test_refusal : (r0.refuse (pgPRT 518) 4 11).reg (raddr pgCIS 0x28) = 0x000B0004
    ∧ (r0.refuse (pgPRT 518) 4 11).reg (raddr pgCIS 0x24) = 0x00020620
    ∧ (r0.refuse (pgPRT 518) 4 11).gb (pgPRT 518) HDR.PAGE_STS_NOT_ADMITTED = true := by decide +kernel

/-- R526: the device throttles from 115 °C (0xB3) on. -/
theorem test_throttle : (after (.tempSample 0xB3 false) { r0 with sys := { r0.sys with hkOn := true } }).gb pgCIS CIS.TEMP_THROTTLING = true
    ∧ (after (.tempSample 0xB2 false) { r0 with sys := { r0.sys with hkOn := true } }).gb pgCIS CIS.TEMP_THROTTLING = false := by decide +kernel

/-- The Erg example (R487): user space of channel 2 starts at 0x11_1000_0000 of it; the byte before lies in the spill region. -/
theorem test_erg_regions :
    ((r0.sf (pgERGC 2) ERGC.CH_CTL_HIST_SIZE 4 |>.sf (pgERGC 2) ERGC.CH_CTL_SPILL_SIZE 64).ergRegion 2 0x110000000,
      (r0.sf (pgERGC 2) ERGC.CH_CTL_HIST_SIZE 4 |>.sf (pgERGC 2) ERGC.CH_CTL_SPILL_SIZE 64).ergRegion 2 0x10FFFFFFF) = (2, 1) := by decide +kernel

/-- The Landing example (R450): source 0x052C with PRIO 40 waits at summary target 0, and source 0xA003 with PRIO 200. -/
def claims : State :=
  let s := (on r0 [pgLND]).sf pgLND (sumF 0 SUM.SUM_CTL_EN) 1
  let put := fun (s : State) (x p : Nat) => s.st .src x T_SRC.EN 1 |>.st .src x T_SRC.PRIO p |>.st .src x T_SRC.STATE srcSUMMARY
    |>.st .src x T_SRC.TKIND 1 |>.st .src x T_SRC.TARGET 0
  put s 0x052C 40
def nested : State := (after (.sumClaim 0 .host) claims).st .src 0xA003 T_SRC.EN 1 |>.st .src 0xA003 T_SRC.PRIO 200
    |>.st .src 0xA003 T_SRC.STATE srcSUMMARY |>.st .src 0xA003 T_SRC.TKIND 1 |>.st .src 0xA003 T_SRC.TARGET 0

/-- Its steps 2 and 4: the claims read 0x0028_052C and 0x00C8_A003. -/
theorem test_claims : claims.claimWord 0 = 0x0028052C ∧ nested.claimWord 0 = 0x00C8A003 := by decide +kernel
/-- Completing the outer source first puts the target into FAULT with code 0x02. -/
theorem test_out_of_order : ((after (.sumComplete 0 0x052C) (after (.sumClaim 0 .host) nested)).gb pgLND (sumF 0 SUM.SUM_STS_FAULT),
    (after (.sumComplete 0 0x052C) (after (.sumClaim 0 .host) nested)).gf pgLND HDR.ERR_CAP0_CODE) = (true, 2) := by decide +kernel

/-- A doorbell beyond the ring is captured with code 0x02 (R458). -/
theorem test_doorbell : (after (.mgqDoorbell 17) r0).gf pgMGQ HDR.ERR_CAP0_CODE = 2 ∧ (after (.mgqDoorbell 17) r0).gf pgMGQ MGQ.DB_COUNT = 0 := by
  decide +kernel

/-- R30: a capture is released by the write of VALID, and the next one is taken. -/
theorem test_release : (after (.errCapRelease pgMGQ) (after (.mgqDoorbell 17) r0)).gb pgMGQ HDR.ERR_CAP0_VALID = false := by decide +kernel

/-- A step takes the front of the queue, and only it. -/
theorem test_queue : (match step { r0 with pending := [.mgqDoorbell 17, .xo32Stopped] } with | .next t => t.pending | _ => []) = [.xo32Stopped] := by
  decide +kernel

/-- R514: a cause is cleared by writing 1. -/
theorem test_wake_flag : (after (.wakeFlagClear 0x10) (r0.sf pgOAS OAS.WAKE_FLAG_TIMER 1)).gb pgOAS OAS.WAKE_FLAG_TIMER = false := by decide +kernel

/-- R189: the field's polynomial makes α^10 = α^3 + 1, and α has order 1,023. -/
theorem test_field : gfPow 2 10 = 9 ∧ gfPow 2 1023 = 1 := by decide +kernel

end Sys2Proof.Machine.Checks

/-- R145's table, and R148's headers. -/
theorem test_levels : lineLevels 3 [false, false, false, true, true, true, true, false] = [-3, -1, 1, 3]
    ∧ lineLevels 1 [true, false] = [1, -1] ∧ Block.bits66 ⟨false, 0⟩ 1 = 6 ∧ Block.bits66 ⟨true, 0⟩ 1 = 5 := by decide +kernel

/-- R151's frame lasts 795.1 ns at 1.25G, and R189's codeword 406.6 ns at 5G. -/
theorem test_line_times : frameTime 1 * 10 / 85 = 7951 ∧ 2160 * bitTime 3 * 10 / 85 = 4065 := by decide +kernel

/-- R189: the generator polynomial has the roots α^0 to α^5, so that a codeword's syndromes are 0. -/
theorem test_parity : rsSyndromes ([5, 700] ++ rsParity [5, 700]) = [0, 0, 0, 0, 0, 0] := by decide +kernel

/-! ### States of the statements, part 01 -/

namespace Sys2Proof.Machine.Wit01

def e1 : State := ((on r0 [pgLND]).setReg (raddr pgFLT 0x14) 2)

theorem witness_EventSetsItsBit :
    ((pgFLT < 8192) ∧ (1 < 32) ∧ (pgFLT ≠ pgOAS) ∧ (pgFLT ≠ pgLND) ∧ (e1.active pgLND = true) ∧ (e1.gf pgOAS OAS.PWR_STS_STATE < 2) ∧ (e1.tb Tbl.src pgFLT T_SRC.ASSERTED = false) ∧ ((e1.reg (raddr pgFLT (16 : ℕ)) ||| BitVec.ofNat (32 : ℕ) ((2 : ℕ) ^ (1 : ℕ))) &&& e1.reg (raddr pgFLT (20 : ℕ)) ≠ (0 : Word))) := by
  decide +kernel

theorem witness_FirstErrorIsCaptured :
    ((pgBRG < 8192) ∧ (pgBRG ≠ pgOAS) ∧ (pgBRG ≠ pgLND) ∧ (pgBRG ≠ pgFLT) ∧ (1 < 32) ∧ (5 < 256) ∧ (e1.flt.queue.length < 256) ∧ (e1.gb pgBRG HDR.ERR_CAP0_VALID = false)) := by
  decide +kernel


theorem witness_FirstErrorIsCaptured_again :
    (e1.error pgBRG 1 5 6 7 8).flt.queue.length < 256 ∧ (e1.error pgBRG 1 5 6 7 8).gb pgBRG HDR.ERR_CAP0_VALID = true := by decide +kernel

theorem witness_EventSetsItsBit_active :
    (e1.st .src pgFLT T_SRC.STATE srcACTIVE).active pgLND = true ∧ (e1.st .src pgFLT T_SRC.STATE srcACTIVE).tb .src pgFLT T_SRC.ASSERTED = false
      ∧ (e1.st .src pgFLT T_SRC.STATE srcACTIVE).tf .src pgFLT T_SRC.STATE = srcACTIVE := by decide +kernel

theorem witness_StepShowsTrue : ∃ t, step State.reset = .next t := ⟨_, rfl⟩

theorem witness_IdleStepIsOneNanosecond : State.reset.pending = [] ∧ (State.reset.pwr < 3 ∧ State.reset.sys.slew = 0)
    ∧ 3 ≤ (State.reset.sf pgOAS OAS.PWR_STS_STATE 3).pwr ∧ { State.reset.sys with slew := 5 }.slew ≠ 0 := by decide +kernel

theorem witness_ResetState : blkOf 0 = some (.dev, 0) ∧ blkOf (pgHAL 4095) = some (.hal, 4095) := by decide +kernel

theorem witness_ShownChangesNothingElse : State.reset.smb.alertLow = State.reset.alertDue
    ∧ { State.reset with smb := { Smb.reset with alertLow := true } }.smb.alertLow ≠ { State.reset with smb := { Smb.reset with alertLow := true } }.alertDue := by
  decide +kernel

theorem witness_CountersSaturate : (0x80 : Nat) ≤ 0x90 ∧ (0x84 - 0x80) % 4 = 0 ∧ 0x80 ≤ 0x84 ∧ 0x84 ≤ 0x90 := by decide

end Sys2Proof.Machine.Wit01

/-! ### States of the statements, part 02 -/

namespace Sys2Proof.Machine.Wit02

def a1 : State := r0.sf pgDEV DEV.FEAT_EN_ERG 1
def a2 : State := r0.sf 0x20 HDR.PAGE_CTL_EN 1 |>.sf 0x20 HDR.PAGE_STS_EN_PENDING 1
def a3 : State := on r0 [0x20, 0x60, 0x90, 0xFF, 0x10]
def a4 : State := a3.sf 0x20 HDR.PAGE_CTL_QUIESCE 1 |>.sf 0x10 HDR.PAGE_CTL_QUIESCE 1
def a5 : State := { (a4.sf 0x20 HDR.PAGE_CTL_EN 0).sf 0x20 HDR.PAGE_STS_EN_PENDING 1 with sys := { r0.sys with devQuiet := [0x20] } }
def a6 : State := (a4.sf 0x20 HDR.PAGE_CTL_EN 0).sf 0x20 HDR.PAGE_STS_EN_PENDING 1
def a3q : State := a3.sf (pgPRT 17) LNK.LINK_STS_STATE 3
def a7 : State := ((r0.sf pgLND HDR.PAGE_STS_ACTIVE 1).setReg (raddr pgFLT 0x14) 3).error pgFLT 1 0x02 7 8 9
def a8 : State := r0.setReg (raddr 0x50 0x40) 5 |>.setReg (raddr 0x50 0x44) 0x11223344
def a10 : State := a8.sf 0x50 (tcBUSY .host) 1 |>.sf 0x50 (tcAUTOINC .host) 1
def a11 : State := a10.putSet 0x50 .host ⟨0, 0, 0, 0, true⟩
def a8h : State := { a8 with flt := { a8.flt with hurt := [tkey .ste 5] } }
def a12 : State := (r0.sf (pgPRT 18) LNK.LINK_STS_ANCHOR 17).sf (pgPRT 16) PRT.GRP_STS_AWAKE 1
def a13 : State := { r0 with host := { r0.host with stalled := [.smbStatusRead] } }

theorem witness_PageEnableAndReady :
    ((blkOf 32 = some (Blk.mir, 0)) ∧ (Blk.mir.slow = true) ∧ (r0.applying 32 = false) ∧ (r0.gb 32 HDR.PAGE_STS_EN_PENDING = false) ∧ (r0.gb 32 HDR.PAGE_CTL_EN = false))
    ∧ ((a1.applying pgERG = false) ∧ (a1.gb pgERG HDR.PAGE_STS_EN_PENDING = false) ∧ (a1.gb pgERG HDR.PAGE_CTL_EN = false) ∧ (a1.gb pgDEV DEV.FEAT_EN_ERG = true) ∧ (a1.admissible 40 0 = true))
    ∧ ((blkOf 32 = some (Blk.mir, 0)) ∧ (a2.applying 32 = false) ∧ (a2.gb 32 HDR.PAGE_STS_EN_PENDING = true))
    ∧ ((blkOf 80 = some (Blk.wad, 0)) ∧ (Blk.wad.atOnce = true) ∧ (r0.featOn Blk.wad = true) ∧ (80 ≠ pgLND) ∧ (r0.applying 80 = false) ∧ (r0.gb 80 HDR.PAGE_STS_EN_PENDING = false) ∧ (r0.gb 80 HDR.PAGE_CTL_EN = false) ∧ (r0.awakePage 80 = true) ∧ (r0.calm = true))
    ∧ ((blkOf 32 = some (Blk.mir, 0)) ∧ (Blk.mir.slow = true) ∧ (32 ≠ pgPOL) ∧ (32 ≠ pgSWC) ∧ (32 ≠ pgBRG) ∧ (a2.gb 32 HDR.PAGE_CTL_EN = true) ∧ (a2.gb 32 HDR.PAGE_STS_EN_PENDING = true) ∧ (a2.active 32 = false) ∧ (a2.awakePage 32 = true) ∧ (a2.calm = true)) := by
  refine ⟨?_, ?_, ?_, ?_, ?_⟩ <;> decide +kernel

theorem witness_PageDisableAndGate :
    ((blkOf 32 = some (Blk.mir, 0)) ∧ (Blk.mir ∈ [Blk.mir, Blk.sch, Blk.cvn, Blk.wad, Blk.hlm]) ∧ (a3.applying 32 = false) ∧ (a3.gb 32 HDR.PAGE_STS_EN_PENDING = false) ∧ (a3.gb 32 HDR.PAGE_CTL_EN = true) ∧ (a3.active 32 = true) ∧ (a3.awakePage 32 = true) ∧ (a3.gb 32 HDR.PAGE_CTL_QUIESCE = false) ∧ (a3.calm = true))
    ∧ ((blkOf 32 = some (Blk.mir, 0)) ∧ (Blk.mir ∈ [Blk.mir, Blk.sch, Blk.cvn, Blk.wad, Blk.hlm]) ∧ (a4.applying 32 = false) ∧ (a4.gb 32 HDR.PAGE_STS_EN_PENDING = false) ∧ (a4.gb 32 HDR.PAGE_CTL_EN = true) ∧ (a4.active 32 = true) ∧ (a4.awakePage 32 = true) ∧ (a4.gb 32 HDR.PAGE_CTL_QUIESCE = true) ∧ (a4.calm = true))
    ∧ ((blkOf 32 = some (Blk.mir, 0)) ∧ (Blk.mir ∈ [Blk.mir, Blk.sch, Blk.cvn, Blk.wad, Blk.hlm]) ∧ (a5.gb 32 HDR.PAGE_STS_EN_PENDING = true) ∧ (a5.gb 32 HDR.PAGE_CTL_EN = false) ∧ (a5.active 32 = true) ∧ (a5.quiet Blk.mir 0 = true) ∧ (32 ∈ a5.sys.devQuiet) ∧ (a5.calm = true))
    ∧ ((blkOf 32 = some (Blk.mir, 0)) ∧ (Blk.mir ∈ [Blk.mir, Blk.sch, Blk.cvn, Blk.wad, Blk.hlm]) ∧ (a6.gb 32 HDR.PAGE_STS_EN_PENDING = true) ∧ (a6.gb 32 HDR.PAGE_CTL_EN = false) ∧ (a6.active 32 = true) ∧ (a6.quiet Blk.mir 0 = true) ∧ (32 ∉ a6.sys.devQuiet) ∧ (a6.calm = true)) := by
  refine ⟨?_, ?_, ?_, ?_⟩ <;> decide +kernel

theorem witness_QuiesceAndLock :
    ((blkOf 96 = some (Blk.sch, 0)) ∧ (Blk.sch ≠ Blk.prt ∨ a3.lk 0 = lkDISABLED) ∧ (a3.applying 96 = false) ∧ (96 ∉ a3.sys.devQuiet) ∧ (a3.gb 96 HDR.PAGE_CTL_QUIESCE = false) ∧ (a3.calm = true))
    ∧ ((17 < 1024) ∧ (a3q.lk 17 ≠ lkDISABLED) ∧ (a3q.applying (pgPRT 17) = false) ∧ (pgPRT 17 ∉ a3q.sys.devQuiet) ∧ (a3q.gb (pgPRT 17) HDR.PAGE_CTL_QUIESCE = false) ∧ (a3q.calm = true))
    ∧ ((blkOf 32 = some (Blk.mir, 0)) ∧ (Blk.mir ≠ Blk.prt ∨ a4.lk 0 = lkDISABLED) ∧ (32 ≠ pgBRG) ∧ (a4.applying 32 = false) ∧ (32 ∉ a4.sys.devQuiet) ∧ (a4.gb 32 HDR.PAGE_CTL_QUIESCE = true) ∧ (a4.calm = true))
    ∧ ((a4.applying pgBRG = false) ∧ (pgBRG ∉ a4.sys.devQuiet) ∧ (a4.gb pgBRG HDR.PAGE_CTL_QUIESCE = true))
    ∧ ((blkOf 32 = some (Blk.mir, 0)) ∧ (a4.gb 32 HDR.PAGE_CTL_QUIESCE = true) ∧ (a4.quiet Blk.mir 0 = true))
    ∧ ((blkOf 8191 = some (Blk.hal, 4095)) ∧ (r0.applying 8191 = false)) := by
  refine ⟨?_, ?_, ?_, ?_, ?_, ?_⟩ <;> decide +kernel

theorem witness_EventRegistersOfAPage :
    ((blkOf pgFLT = some (Blk.flt, 0)) ∧ (a7.applying pgFLT = false))
    ∧ ((blkOf pgFLT = some (Blk.flt, 0)) ∧ (a7.applying pgFLT = false))
    ∧ ((blkOf pgFLT = some (Blk.flt, 0)) ∧ (a7.applying pgFLT = false))
    ∧ ((blkOf pgFLT = some (Blk.flt, 0)) ∧ (a7.applying pgFLT = false) ∧ (a7.gb pgFLT HDR.ERR_CAP0_VALID = true) ∧ (a7.gf pgFLT HDR.ERR_CAP0_LOST_COUNT = 0))
    ∧ ((blkOf pgFLT = some (Blk.flt, 0)) ∧ (a7.applying pgFLT = false) ∧ (Blk.flt.counters = some (128, 148))) := by
  refine ⟨?_, ?_, ?_, ?_, ?_⟩ <;> decide +kernel

theorem witness_TableOperations :
    ((pageHasTbl 80 = true) ∧ (a8.applying 80 = false) ∧ (fld (1 : Word) (0 : ℕ) (2 : ℕ) = (1 : ℕ)) ∧ (a8.gb 80 (tcBUSY Path.host) = false) ∧ (a8.awakePage 80 = true) ∧ (tblAt 80 (a8.gf 80 (taTABLE Path.host)) = some Tbl.ste) ∧ (a8.gf 80 (taINDEX Path.host) < Tbl.ste.info.count) ∧ (a8.gf 80 (taWORD Path.host) = 0) ∧ (Tbl.ste.info.count ≤ 2 ^ 24) ∧ (Tbl.ste ≠ Tbl.vlt) ∧ (a8.hurt Tbl.ste (a8.gf 80 (taINDEX Path.host)) = false) ∧ (a8.calm = true))
    ∧ ((pageHasTbl 80 = true) ∧ (a8h.applying 80 = false) ∧ (fld (1 : Word) (0 : ℕ) (2 : ℕ) = (1 : ℕ)) ∧ (a8h.gb 80 (tcBUSY Path.host) = false) ∧ (a8h.awakePage 80 = true) ∧ (tblAt 80 (a8h.gf 80 (taTABLE Path.host)) = some Tbl.ste) ∧ (a8h.gf 80 (taINDEX Path.host) < Tbl.ste.info.count) ∧ (a8h.gf 80 (taWORD Path.host) = 0) ∧ (Tbl.ste ≠ Tbl.vlt) ∧ (a8h.hurt Tbl.ste (a8h.gf 80 (taINDEX Path.host)) = true))
    ∧ ((((a10.putSet (80 : ℕ) Path.host (TblSet.mk (0 : Entry) (0 : ℕ) (0 : Entry) (16 : ℕ) true)).tblSet (80 : ℕ) Path.host).result = tblUNDONE))
    ∧ ((pageHasTbl 16 = true) ∧ (r0.applying 16 = false) ∧ (fld (2 : Word) (0 : ℕ) (2 : ℕ) = (2 : ℕ)) ∧ (r0.gb 16 (tcBUSY Path.smb) = false) ∧ (r0.awakePage 16 = true) ∧ (tblAt 16 (r0.gf 16 (taTABLE Path.smb)) = some Tbl.win) ∧ (r0.gf 16 (taINDEX Path.smb) < Tbl.win.info.count) ∧ (r0.gf 16 (taWORD Path.smb) + 1 < Tbl.win.words) ∧ (Tbl.win.info.rw ≠ 0) ∧ (fld (2 : Word) (3 : ℕ) (1 : ℕ) = (0 : ℕ)) ∧ (r0.calm = true))
    ∧ ((pageHasTbl 80 = true) ∧ (a8.applying 80 = false) ∧ (fld (2 : Word) (0 : ℕ) (2 : ℕ) = (2 : ℕ)) ∧ (a8.gb 80 (tcBUSY Path.host) = false) ∧ (a8.awakePage 80 = true) ∧ (tblAt 80 (a8.gf 80 (taTABLE Path.host)) = some Tbl.ste) ∧ (a8.gf 80 (taINDEX Path.host) < Tbl.ste.info.count) ∧ (a8.gf 80 (taWORD Path.host) + 1 = Tbl.ste.words) ∧ (Tbl.ste.info.rw ≠ 0) ∧ (fld (2 : Word) (3 : ℕ) (1 : ℕ) = (0 : ℕ)))
    ∧ ((pageHasTbl 80 = true) ∧ (a8.applying 80 = false) ∧ (fld (3 : Word) (0 : ℕ) (2 : ℕ) = (3 : ℕ)) ∧ (a8.gb 80 (tcBUSY Path.host) = false) ∧ (a8.calm = true))
    ∧ ((pageHasTbl 80 = true) ∧ ((a10.sf 80 (tcAUTOINC Path.host) 0).gb 80 (tcBUSY Path.host) = true) ∧ ((a10.sf 80 (tcAUTOINC Path.host) 0).gb 80 (tcAUTOINC Path.host) = false) ∧ (((a10.sf 80 (tcAUTOINC Path.host) 0).tblSet 80 Path.host).result ≠ tblUNDONE))
    ∧ ((pageHasTbl 80 = true) ∧ (a11.gb 80 (tcBUSY Path.host) = true) ∧ (a11.gb 80 (tcAUTOINC Path.host) = true) ∧ ((a11.tblSet 80 Path.host).result = 0) ∧ ((a11.tblSet 80 Path.host).last = true))
    ∧ ((pageHasTbl 80 = true) ∧ (a10.gb 80 (tcBUSY Path.host) = true) ∧ (a10.gb 80 (tcAUTOINC Path.host) = true) ∧ ((a10.tblSet 80 Path.host).result = 0) ∧ ((a10.tblSet 80 Path.host).last = false)) := by
  refine ⟨?_, ?_, ?_, ?_, ?_, ?_, ?_, ?_, ?_⟩ <;> decide +kernel

theorem witness_HostRegisterAccess :
    ((r0.sys.hkOn = true) ∧ (r0.hostStall = false) ∧ (infoAt 28736 = some (Blk.flt, 0, RegInfo.mk "FLT_CTL" 64 127 0 0 0 32 false)) ∧ (28736 < 2 ^ 26) ∧ (64 ≤ 28736 % 4096) ∧ ((RegInfo.mk "FLT_CTL" 64 127 0 0 0 32 false).name ≠ "CNT_CLR") ∧ (r0.applying pgFLT = false) ∧ (r0.mezSt ≠ mzOPEN))
    ∧ ((r0.sys.hkOn = true) ∧ (r0.hostStall = false) ∧ (blkOf 8191 = some (Blk.hal, 4095)) ∧ (8191 ≠ 17) ∧ (8191 ≠ 49) ∧ (8191 < 16384) ∧ (r0.applying (headPage 8191) = false) ∧ (r0.mezSt ≠ mzOPEN))
    ∧ ((r0.sys.hkOn = true) ∧ (r0.hostStall = false) ∧ (67108860 < 2 ^ 26) ∧ (67108860 % 4 = 0) ∧ (r0.applying (headPage (67108860 / 4096)) = false) ∧ ((7 : BitVec (4 : ℕ)) ≠ (0 : BitVec (4 : ℕ))) ∧ ((7 : BitVec (4 : ℕ)) ≠ (15 : BitVec (4 : ℕ))))
    ∧ ((r0.sys.hkOn = true) ∧ (r0.hostStall = false) ∧ (67108860 < 2 ^ 26) ∧ (67108860 % 4 = 0) ∧ (r0.applying (headPage (67108860 / 4096)) = false) ∧ (infoAt 67108860 = none) ∧ (contPage (67108860 / 4096) = false))
    ∧ ((r0.sys.hkOn = true) ∧ (r0.hostStall = false) ∧ (67108863 < 2 ^ 26) ∧ (r0.applying (headPage (67108863 / 4096)) = false))
    ∧ ((r0.sys.hkOn = true) ∧ (r0.hostStall = false) ∧ (28736 < 2 ^ 26) ∧ (28736 % 4 = 0) ∧ (infoAt 28736 = some (Blk.flt, 0, RegInfo.mk "FLT_CTL" 64 127 0 0 0 32 false)) ∧ (r0.applying pgFLT = false))
    ∧ ((r0.sys.hkOn = true) ∧ (r0.hostStall = false) ∧ (16 % 4 = 0) ∧ (r0.applying pgHLM = false))
    ∧ ((18 < 1024) ∧ (a12.anchorOf 18 ≠ 18) ∧ (256 ≤ 256) ∧ (256 < 4096) ∧ (256 % 4 = 0) ∧ (256 ≠ 260) ∧ (a12.sys.hkOn = true) ∧ (a12.hostStall = false) ∧ (a12.applying (pgPRT 18) = false) ∧ (a12.awakePage (pgPRT 18) = true) ∧ ((infoAt (raddr (pgPRT 18) 256)).isSome = true))
    ∧ ((a13.sys.hkOn = true) ∧ (a13.hostStall = true)) := by
  refine ⟨?_, ?_, ?_, ?_, ?_, ?_, ?_, ?_, ?_⟩ <;> decide +kernel

theorem witness_DevtimeReadIsCoherent :
    ((r0.sys.hkOn = true))
    ∧ ((Path.smb ≠ Path.host))
    ∧ ((r0.sys.hkOn = true)) := by
  refine ⟨?_, ?_, ?_⟩ <;> decide +kernel

end Sys2Proof.Machine.Wit02

/-! ### States of the statements, part 03 -/

namespace Sys2Proof.Machine.Wit03

def b1 : State := (r0.sf pgDEV DEV.SMB_CTL_MCTP_EN 1).sf pgDEV DEV.SMB_CTL_PEC_REQ 1
def b2 : State := { b1 with smb := { b1.smb with alertLow := true, eid := 9 }, tap := ⟨4, none, [true, false], []⟩ }
def b3 : List Byte := [0xB0, 0x0F, 8, 0x21, 1, 9, 8, 0xC8, 0, 0x80, 2]
def b4 : List Byte := b3 ++ [BitVec.ofNat 8 (crc8 b3)]

theorem witness_SmbusRegisterCommands :
    ((b1.sys.hkOn = true) ∧ (infoAt 28736 = some (Blk.flt, 0, RegInfo.mk "FLT_CTL" 64 127 0 0 0 32 false)) ∧ (28736 < 2 ^ 26) ∧ (28736 % 4 = 0) ∧ (64 ≤ 28736 % 4096) ∧ ((RegInfo.mk "FLT_CTL" 64 127 0 0 0 32 false).name ≠ "CNT_CLR") ∧ (b1.applying pgFLT = false) ∧ (b1.mezSt ≠ mzOPEN))
    ∧ ((b1.sys.hkOn = true) ∧ ((if false = true then !true else b1.gb pgDEV DEV.SMB_CTL_PEC_REQ) = true))
    ∧ ((b1.sys.hkOn = true) ∧ (28738 % 4 ≠ 0 ∨ 2 ^ 26 ≤ 28738))
    ∧ ((b1.sys.hkOn = true) ∧ (infoAt 28736 = some (Blk.flt, 0, RegInfo.mk "FLT_CTL" 64 127 0 0 0 32 false)) ∧ (28736 < 2 ^ 26) ∧ (28736 % 4 = 0) ∧ (b1.applying pgFLT = false))
    ∧ ((b1.sys.hkOn = true) ∧ (67108864 % 4 ≠ 0 ∨ 2 ^ 26 ≤ 67108864))
    ∧ ((b1.sys.hkOn = true))
    ∧ ((b2.sys.hkOn = true) ∧ (b2.smb.alertLow = true))
    ∧ ((b1.smb.alertLow = false)) := by
  refine ⟨?_, ?_, ?_, ?_, ?_, ?_, ?_, ?_⟩ <;> decide +kernel

theorem witness_MctpEndpoint :
    ((b1.mctpOn = true) ∧ ((254 : Byte) ≠ (0 : Byte)) ∧ ((254 : Byte) ≠ (255 : Byte)))
    ∧ ((b1.mctpOn = true))
    ∧ ((b1.mctpOn = true) ∧ ((7 : Byte) = (0 : Byte) ∨ (6 : ℕ) < BitVec.toNat (7 : Byte)))
    ∧ ((b1.mctpOn = true))
    ∧ ((r0.gb pgDEV DEV.SMB_CTL_MCTP_EN = false))
    ∧ ((b2.mctpOn = true) ∧ (b2.mctpGood b4 = true) ∧ (BitVec.toNat (b4.getD (7 : ℕ) (0 : Byte)) / (8 : ℕ) = (25 : ℕ))) := by
  refine ⟨?_, ?_, ?_, ?_, ?_, ?_⟩ <;> decide +kernel

theorem witness_BoundaryScanPort :
    ((b2.tap.st = 4)) := by
  decide +kernel

end Sys2Proof.Machine.Wit03

/-! ### States of the statements, part 04 -/

namespace Sys2Proof.Machine.Wit04

def c1 : State := { r0 with sys := { r0.sys with perst := false } }
def c2 : State := { c1.sf pgOAS OAS.PWR_STS_ARMED 1 with oas := { r0.oas with cur := some ⟨3, 0, false⟩, pmeAck := true } }
def c3 : State := ((c1.sf pgHST HST.LINK_STS_DL_UP 1).sf pgDEV DEV.BOOT_STS_DONE 1).sf pgHST HST.LINK_STS_SPEED 3
def c4 : State := c1.sf pgDEV DEV.BOOT_STS_DONE 1
def c5 : State := { ((((((c3.sf pgHST HST.LINK_CFG_WIDTH_MAX 16).sf pgHST HST.LINK_STS_POL_INV 0xFFFF).sf pgHST HST.SPEED_CTL_ADMITTED 4).sf pgHST HST.SPEED_CTL_LIMIT 4).sf pgHST HST.LINK_CFG_SPEED_MAX 6).sf pgCIS CIS.BUDGET_VDD 20000) with host := { c3.host with offer := 3 } }
def c6 : State := c5.sf pgHST HST.SPEED_CTL_LIMIT 2
def c7 : State := (c3.sf pgDEV DEV.FEAT_EN_SRIOV 1).sf pgHST HST.FUNC_CFG_TOTAL_VFS 4
def c8 : State := (c7.setCfg 0 .vfEnable 1).setCfg 0 .numVfs 2
def c9 : State := c3.sf pgMEZ MEZ.MEZ_STS_STATE 2
def t0 : TlpInfo := ⟨0, none, .clear, false, 1, 2, 3, 0x100, 4⟩
def tp : TlpInfo := { t0 with poisoned := true }
def c10 : State := { ((((c3.setCfg 0 .memSpace 1).setCfg 0 (.bar 0) 0x8000000).setCfg 0 (.bar 2) 0x100000000).sf pgHST HST.FUNC_CFG_PF_APERT_LOG2 20) with sys := { c3.sys with noImage := false } }
def c11 : State := { c10 with host := { c10.host with flrs := [(0, 0)] } }
def c10s : State := { c10 with host := { c10.host with stalled := [.smbStatusRead] } }
def rq : HostReq := ⟨5, 0, 0x1000, 4, .fetch 3, none, 0, 0, false, []⟩
def rx : HostReq := ⟨5, 0, 0x2000, 8, .xlat 1 2, some 1, 0, 0, false, []⟩
def c12 : State := { c3 with clock := 50000, host := { c3.host with reqs := [rq] } }
def c13 : State := c3.sf pgHST HST.MSIX_CFG_PF_VECTORS 4
def c14 : State := { c3 with host := { c3.host with cache := [(1, 0x1000, 5), (2, 3, 4)], invals := [] } }
def iv : Inval := ⟨9, 0, none, 0x1000000, 4, []⟩
def c15 : State := { c14 with host := { c14.host with invals := [iv], prgs := [(1, 2, 3)] } }
def c14f : State := { c14 with host := { c14.host with invals := List.replicate 32 iv } }
def c16 : State := { (c3.st .hcx 1 T_HCX.STATE hlBOUND) with host := { c3.host with reqs := [rx] } }
def c17 : State := (((c3.sf pgDEV DEV.FEAT_EN_PTM 1).setCfg 0 .ptmEnable 1).sf pgHST HST.PTM_CTL_AUTO 1)
def c18 : State := { c17 with clock := 1000000000 }
def c19 : State := { c17 with host := { c17.host with ptmBusy := true, ptmFails := 2 }, sys := { c17.sys with devtime := 5000 } }
def c20 : State := { c19 with host := { c19.host with ptmFails := 1 } }
def c21 : State := { (((c3.sf pgDEV DEV.FEAT_EN_DOE_SPDM 1).sf pgDEV DEV.FEAT_EN_IDE 1).sf pgDEV DEV.FEAT_EN_TDISP 1) with clock := 1000000000000, host := { c8.host with spdmPci := { Spdm.reset with session := true, finished := true, heartbeat := 1 } } }
def c22 : State := c21.setIde 3 { Ide.reset with state := .secure, keys := [(0, [1])] }
def c23 : State := { (((c21.sf pgDEV DEV.FEAT_EN_SRIOV 1).sf pgHST HST.FUNC_CFG_TOTAL_VFS 4).setTdisp 1 1) with host := { c21.host with tdisp := [(1, 1)], nonces := [(1, 77)] } }
def c24 : State := c23.setTdisp 1 2
def c25 : State := c23.setTdisp 1 0
def cs : Spdm := { Spdm.reset with stage := 3, version := 0x12 }
def c22k : State := c21.setIde 3 { Ide.reset with keys := [(8, [1]), (9, [1]), (10, [1])] }

theorem witness_PerstAndConfiguration :
    ((r0.sys.perst = true) ∧ (r0.sys.hkOn = true) ∧ (r0.pwr < 3) ∧ (r0.oas.wakeLow = false))
    ∧ ((c1.sys.perst = false) ∧ (c1.sys.hkOn = true) ∧ (c1.defers = false) ∧ (c1.oas.cur = none))
    ∧ ((c2.sys.perst = false) ∧ (c2.sys.hkOn = true) ∧ (c2.defers = false) ∧ (c2.oas.cur = some (PwrReq.mk 3 0 false)) ∧ (3 ≤ (PwrReq.mk 3 0 false).target) ∧ (c2.gb pgOAS OAS.PWR_STS_ARMED = true) ∧ (c2.oas.pmeAck = true))
    ∧ ((r0.sys.perst = true))
    ∧ ((c3.gb pgHST HST.LINK_STS_DL_UP = true))
    ∧ ((c1.hostStall = false) ∧ (c1.sys.perst = false) ∧ (c1.sys.hkOn = true) ∧ (c1.gf pgOAS OAS.PWR_STS_STATE = 0) ∧ (c1.oas.cur = none) ∧ (c1.gb pgDEV DEV.BOOT_STS_DONE = false))
    ∧ ((c4.hostStall = false) ∧ (c4.sys.perst = false) ∧ (c4.sys.hkOn = true) ∧ (c4.gf pgOAS OAS.PWR_STS_STATE = 0) ∧ (c4.oas.cur = none) ∧ (c4.gb pgDEV DEV.BOOT_STS_DONE = true))
    ∧ ((CfgReg.busMaster ∈ [CfgReg.busMaster, CfgReg.memSpace, CfgReg.msixEnable, CfgReg.funcMask, CfgReg.atsEnable, CfgReg.priEnable]) ∧ (c4.hostStall = false) ∧ (c4.sys.perst = false) ∧ (c4.sys.hkOn = true) ∧ (c4.gf pgOAS OAS.PWR_STS_STATE = 0) ∧ (c4.oas.cur = none) ∧ (c4.gb pgDEV DEV.BOOT_STS_DONE = true) ∧ (c4.calm = true) ∧ (c4.cfgShown 0 CfgReg.busMaster = true))
    ∧ ((CfgReg.priEnable ∈ [CfgReg.busMaster, CfgReg.memSpace, CfgReg.msixEnable, CfgReg.funcMask, CfgReg.atsEnable, CfgReg.priEnable]) ∧ (c4.hostStall = false) ∧ (c4.sys.perst = false) ∧ (c4.sys.hkOn = true) ∧ (c4.gf pgOAS OAS.PWR_STS_STATE = 0) ∧ (c4.oas.cur = none) ∧ (c4.gb pgDEV DEV.BOOT_STS_DONE = true) ∧ (c4.calm = true) ∧ (c4.cfgShown 0 CfgReg.priEnable = false))
    ∧ ((c4.gb pgDEV DEV.BOOT_STS_DONE = true) ∧ (c4.gf pgOAS OAS.PWR_STS_STATE = 0) ∧ (c4.oas.cur = none))
    ∧ ((c4.gb pgDEV DEV.BOOT_STS_DONE = true) ∧ (c4.gf pgOAS OAS.PWR_STS_STATE = 0) ∧ (c4.oas.cur = none) ∧ (c4.calm = true)) := by
  refine ⟨?_, ?_, ?_, ?_, ?_, ?_, ?_, ?_, ?_, ?_, ?_⟩ <;> decide +kernel

theorem witness_HostLinkAndSpeed :
    (((c5.sf pgHST HST.LINK_STS_DL_UP 0).gb pgHST HST.LINK_STS_DL_UP = false) ∧ ((c5.sf pgHST HST.LINK_STS_DL_UP 0).sys.perst = false) ∧ ((c5.sf pgHST HST.LINK_STS_DL_UP 0).gb pgDEV DEV.BOOT_STS_DONE = true) ∧ ((c5.sf pgHST HST.LINK_STS_DL_UP 0).gf pgHST HST.SPEED_CTL_ADMITTED ≤ (c5.sf pgHST HST.LINK_STS_DL_UP 0).speedLimit))
    ∧ (((c5.sf pgHST HST.SPEED_CTL_AUTO_UP 1).gb pgHST HST.LINK_STS_DL_UP = true) ∧ ((c5.sf pgHST HST.SPEED_CTL_AUTO_UP 1).gf pgHST HST.SPEED_CTL_ADMITTED ≤ (c5.sf pgHST HST.SPEED_CTL_AUTO_UP 1).speedLimit) ∧ ((c5.sf pgHST HST.SPEED_CTL_AUTO_UP 1).gf pgHST HST.LINK_STS_SPEED ≠ min (if (c5.sf pgHST HST.SPEED_CTL_AUTO_UP 1).gb pgHST HST.SPEED_CTL_AUTO_UP = true then 4 else min 4 ((c5.sf pgHST HST.SPEED_CTL_AUTO_UP 1).gf pgHST HST.LINK_STS_SPEED)) (c5.sf pgHST HST.SPEED_CTL_AUTO_UP 1).speedOffer))
    ∧ (((c5.sf pgHST HST.LINK_STS_WIDTH 8).gb pgHST HST.LINK_STS_DL_UP = true) ∧ ((c5.sf pgHST HST.LINK_STS_WIDTH 8).gf pgHST HST.SPEED_CTL_ADMITTED ≤ (c5.sf pgHST HST.LINK_STS_WIDTH 8).speedLimit) ∧ ((c5.sf pgHST HST.LINK_STS_WIDTH 8).gf pgHST HST.LINK_STS_SPEED = min (if (c5.sf pgHST HST.LINK_STS_WIDTH 8).gb pgHST HST.SPEED_CTL_AUTO_UP = true then 4 else min 4 ((c5.sf pgHST HST.LINK_STS_WIDTH 8).gf pgHST HST.LINK_STS_SPEED)) (c5.sf pgHST HST.LINK_STS_WIDTH 8).speedOffer) ∧ ((c5.sf pgHST HST.LINK_STS_WIDTH 8).gf pgHST HST.LINK_STS_WIDTH = min 8 ((c5.sf pgHST HST.LINK_STS_WIDTH 8).gf pgHST HST.LINK_CFG_WIDTH_MAX)))
    ∧ ((5 < 16) ∧ (c5.gb pgHST HST.LINK_STS_DL_UP = true) ∧ (c5.gf pgHST HST.SPEED_CTL_ADMITTED ≤ c5.speedLimit) ∧ (c5.gf pgHST HST.LINK_STS_SPEED ≠ max 1 (min (min 5 5) (c5.gf pgHST HST.SPEED_CTL_ADMITTED))) ∧ (1 ≤ c5.gf pgHST HST.SPEED_CTL_ADMITTED))
    ∧ ((6 < 16) ∧ (c5.gf pgHST HST.SPEED_CTL_ADMITTED < min 6 (c5.gf pgHST HST.LINK_CFG_SPEED_MAX)) ∧ (c5.admissible (hostDraw (min 6 (c5.gf pgHST HST.LINK_CFG_SPEED_MAX)) - hostDraw (c5.gf pgHST HST.SPEED_CTL_ADMITTED)) 0 = true))
    ∧ ((c6.gb pgHST HST.LINK_STS_DL_UP = true) ∧ (c6.speedLimit < c6.gf pgHST HST.SPEED_CTL_ADMITTED) ∧ (c6.speedLimit < c6.gf pgHST HST.LINK_STS_SPEED))
    ∧ (((c5.sf pgHST HST.SPEED_CTL_AUTO_UP 1).gb pgHST HST.SPEED_CTL_AUTO_UP = true) ∧ ((c5.sf pgHST HST.SPEED_CTL_AUTO_UP 1).gb pgHST HST.LINK_STS_DL_UP = true) ∧ ((c5.sf pgHST HST.SPEED_CTL_AUTO_UP 1).gf pgHST HST.LINK_STS_SPEED < (c5.sf pgHST HST.SPEED_CTL_AUTO_UP 1).speedOffer))
    ∧ ((c5.gb pgHST HST.SPEED_CTL_AUTO_UP = false)) := by
  refine ⟨?_, ?_, ?_, ?_, ?_, ?_, ?_, ?_⟩ <;> decide +kernel

theorem witness_FunctionsAndHostResets :
    ((c7.sriov = true) ∧ (c7.cfgRaw 0 CfgReg.vfEnable = 0))
    ∧ ((c3.sriov = false))
    ∧ ((c8.cfgRaw 0 CfgReg.vfEnable = 1) ∧ (c8.defers = false))
    ∧ ((c8.funcExists 2 = true) ∧ (c8.defers = false) ∧ (2 ≠ 0 ∨ c8.cfgRaw 0 CfgReg.vfEnable = 0))
    ∧ ((c8.calm = true))
    ∧ ((c8.defers = false))
    ∧ ((c8.gb pgHST HST.LINK_STS_DL_UP = true) ∧ (c8.defers = false))
    ∧ ((c1.gb pgHST HST.LINK_STS_DL_UP = false))
    ∧ ((c9.defers = true)) := by
  refine ⟨?_, ?_, ?_, ?_, ?_, ?_, ?_, ?_, ?_⟩ <;> decide +kernel

theorem witness_HostMemoryRequests :
    ((c11.gb pgHST HST.LINK_STS_DL_UP = true) ∧ (c11.hostStall = false) ∧ (t0.ide = IdeCheck.clear) ∧ (c11.host.ide = []) ∧ (c11.gf pgOAS OAS.PWR_STS_STATE = 0) ∧ (c11.oas.cur = none) ∧ (c11.calm = true) ∧ (c11.inFlr t0.func = true))
    ∧ ((c10.gb pgHST HST.LINK_STS_DL_UP = true) ∧ (c10.hostStall = false) ∧ (tp.ide = IdeCheck.clear) ∧ (c10.host.ide = []) ∧ (c10.gf pgOAS OAS.PWR_STS_STATE = 0) ∧ (c10.oas.cur = none) ∧ (c10.calm = true) ∧ (c10.inFlr tp.func = false) ∧ (tp.poisoned = true))
    ∧ ((c10.gb pgHST HST.LINK_STS_DL_UP = true) ∧ (c10.hostStall = false) ∧ (t0.ide = IdeCheck.clear) ∧ (c10.host.ide = []) ∧ (c10.gf pgOAS OAS.PWR_STS_STATE = 0) ∧ (c10.oas.cur = none) ∧ (c10.calm = true) ∧ (c10.inFlr t0.func = false) ∧ (t0.poisoned = false) ∧ (c10.barHit t0.func 0 = none))
    ∧ ((c10.gb pgHST HST.LINK_STS_DL_UP = true) ∧ (c10.hostStall = false) ∧ (t0.ide = IdeCheck.clear) ∧ (c10.host.ide = []) ∧ (c10.gf pgOAS OAS.PWR_STS_STATE = 0) ∧ (c10.oas.cur = none) ∧ (c10.inFlr t0.func = false) ∧ (t0.poisoned = false) ∧ (c10.barHit t0.func (134217728 + 28736) = some (0, 28736)) ∧ (c10.burstHeld (barPath t0 (28736 : ℕ)) (28736 : ℕ) [(7 : Word)].length = false))
    ∧ ((c10.gb pgHST HST.LINK_STS_DL_UP = true) ∧ (c10.hostStall = false) ∧ (t0.ide = IdeCheck.clear) ∧ (c10.host.ide = []) ∧ (c10.gf pgOAS OAS.PWR_STS_STATE = 0) ∧ (c10.oas.cur = none) ∧ (c10.inFlr t0.func = false) ∧ (t0.poisoned = false) ∧ ([(7 : Word)].length = (1 : ℕ)) ∧ ((15 : BitVec (4 : ℕ)) = (15 : BitVec (4 : ℕ))) ∧ (c10.barHit t0.func 4294970044 = some (2, 2748)))
    ∧ ((c10.gb pgHST HST.LINK_STS_DL_UP = true) ∧ (c10.hostStall = false) ∧ (t0.ide = IdeCheck.clear) ∧ (c10.host.ide = []) ∧ (c10.gf pgOAS OAS.PWR_STS_STATE = 0) ∧ (c10.oas.cur = none) ∧ (c10.inFlr t0.func = false) ∧ (0 < 1) ∧ ((1 : ℕ) < (1 : ℕ) ∨ (15 : BitVec (4 : ℕ)) ≠ (0 : BitVec (4 : ℕ))) ∧ (c10.barHit t0.func (134217728 + 28736) = some (0, 28736)) ∧ (c10.burstHeld (barPath t0 28736) 28736 1 = false))
    ∧ ((c10.gb pgHST HST.LINK_STS_DL_UP = true) ∧ (c10.hostStall = false) ∧ (t0.ide = IdeCheck.clear) ∧ (c10.host.ide = []) ∧ (c10.gf pgOAS OAS.PWR_STS_STATE = 0) ∧ (c10.oas.cur = none) ∧ (c10.inFlr t0.func = false) ∧ (0 < 1) ∧ ((1 : ℕ) < (1 : ℕ) ∨ (15 : BitVec (4 : ℕ)) ≠ (0 : BitVec (4 : ℕ))) ∧ (c10.barHit t0.func 4294970044 = some (2, 2748)) ∧ (1 = 1) ∧ ((15 : BitVec (4 : ℕ)) = (15 : BitVec (4 : ℕ))))
    ∧ ((c10.gb pgHST HST.LINK_STS_DL_UP = true) ∧ (c10.hostStall = false) ∧ (t0.ide = IdeCheck.clear) ∧ (c10.host.ide = []) ∧ (c10.gf pgOAS OAS.PWR_STS_STATE = 0) ∧ (c10.oas.cur = none) ∧ (c10.inFlr t0.func = false) ∧ (0 < 1) ∧ ((1 : ℕ) < (1 : ℕ) ∨ (15 : BitVec (4 : ℕ)) ≠ (0 : BitVec (4 : ℕ))) ∧ (c10.barHit t0.func 0 = none) ∧ (c10.calm = true))
    ∧ ((c11.gb pgHST HST.LINK_STS_DL_UP = true) ∧ (c11.hostStall = false) ∧ (t0.ide = IdeCheck.clear) ∧ (c11.host.ide = []) ∧ (c11.gf pgOAS OAS.PWR_STS_STATE = 0) ∧ (c11.oas.cur = none) ∧ (c11.inFlr t0.func = true) ∧ (1 < 2) ∧ (c11.calm = true))
    ∧ ((c10.gb pgHST HST.LINK_STS_DL_UP = true) ∧ (c10.hostStall = false) ∧ (t0.ide = IdeCheck.clear) ∧ (c10.host.ide = []) ∧ (c10.gf pgOAS OAS.PWR_STS_STATE = 0) ∧ (c10.oas.cur = none) ∧ (c10.inFlr t0.func = false) ∧ (t0.poisoned = false) ∧ (4294970044 % 4 = 0) ∧ (c10.barHit t0.func 4294970044 = some (2, 2748)))
    ∧ ((c10.gb pgHST HST.LINK_STS_DL_UP = true) ∧ (c10.hostStall = false) ∧ (t0.ide = IdeCheck.clear) ∧ (c10.host.ide = []) ∧ (c10.gf pgOAS OAS.PWR_STS_STATE = 0) ∧ (c10.oas.cur = none) ∧ (c10.inFlr t0.func = false) ∧ (t0.poisoned = false) ∧ (134217728 % 4 = 0) ∧ (c10.barHit t0.func 134217728 = some (0, 0)) ∧ (c10.calm = true))
    ∧ ((c10.gb pgHST HST.LINK_STS_DL_UP = true) ∧ (c10.hostStall = false) ∧ (t0.ide = IdeCheck.clear) ∧ (c10.host.ide = []) ∧ (c10.gf pgOAS OAS.PWR_STS_STATE = 0) ∧ (c10.oas.cur = none) ∧ (c10.inFlr t0.func = false) ∧ (c10.barHit t0.func 4294970044 = some (2, 2748)))
    ∧ ((c10.gb pgHST HST.LINK_STS_DL_UP = true) ∧ (c10.hostStall = false) ∧ (t0.ide = IdeCheck.clear) ∧ (c10.host.ide = []) ∧ (c10.gf pgOAS OAS.PWR_STS_STATE = 0) ∧ (c10.oas.cur = none) ∧ (c10.inFlr t0.func = false) ∧ (c10.barHit t0.func 134217728 = some (0, 0)) ∧ (c10.calm = true))
    ∧ ((c10s.gb pgHST HST.LINK_STS_DL_UP = true) ∧ (c10s.hostStall = true) ∧ (0 < 1)) := by
  refine ⟨?_, ?_, ?_, ?_, ?_, ?_, ?_, ?_, ?_, ?_, ?_, ?_, ?_, ?_⟩ <;> decide +kernel

theorem witness_CompletionsAndTranslations :
    ((c12.gf pgOAS OAS.PWR_STS_STATE = 0) ∧ (c12.oas.cur = none) ∧ (c12.host.ide = []) ∧ (List.find? (fun x => x.txn == rq.txn) c12.host.reqs = some rq) ∧ (c12.oldCompletion rq = false) ∧ (rq.got = []) ∧ ([(1 : Byte), (2 : Byte), (3 : Byte), (4 : Byte)].length = rq.len))
    ∧ ((c3.gf pgOAS OAS.PWR_STS_STATE = 0) ∧ (c3.oas.cur = none) ∧ (c3.host.ide = []) ∧ (List.find? (fun x => x.txn == 5) c3.host.reqs = none) ∧ (c3.calm = true))
    ∧ ((List.find? (fun x => x.txn == rq.txn) c12.host.reqs = some rq) ∧ (c12.cfgRaw rq.func CfgReg.cplTimeoutDis = 0) ∧ (c12.due (rq.issued + c12.cplTimeout rq.func) = true))
    ∧ (((c13.host.flrs.any fun x => x.1 == 0) = false) ∧ (c13.vecEntry 0 3 = some 3))
    ∧ ((c14.hostStall = false) ∧ (c14.host.invals = []) ∧ (c14.host.invalQ = []) ∧ (c14.host.reqs = []))
    ∧ ((c15.host.invals = [iv]) ∧ (c15.host.invalQ = []) ∧ (iv.tags = []))
    ∧ ((c14f.hostStall = false) ∧ (32 ≤ c14f.host.invals.length) ∧ (c14f.host.invalQ = []))
    ∧ ((c16.host.reqs = [rx]) ∧ (rx.owner = Owner.xlat 1 2) ∧ (c16.oldCompletion rx = false) ∧ (c16.host.invals = []) ∧ (c16.host.cache = []) ∧ (c16.calm = true))
    ∧ ((c15.host.prgs = [(1, 2, 3)])) := by
  refine ⟨?_, ?_, ?_, ?_, ?_, ?_, ?_, ?_, ?_⟩ <;> decide +kernel

theorem witness_PtmDialogs :
    ((c17.ptmOn = true) ∧ (c17.host.ptmBusy = false) ∧ (c17.quiesce pgHST = false))
    ∧ ((c19.ptmOn = false ∨ c19.host.ptmBusy = true ∨ c19.quiesce pgHST = true))
    ∧ ((c18.gb pgHST HST.PTM_CTL_AUTO = true) ∧ (c18.ptmOn = true) ∧ (c18.host.ptmBusy = false) ∧ (c18.quiesce pgHST = false) ∧ (c18.ptmOverdue = false) ∧ (c18.due (c18.host.ptmStart + c18.ptmPeriodNs) = true))
    ∧ ((c3.gb pgHST HST.PTM_CTL_AUTO = false) ∧ (c3.ptmOverdue = false))
    ∧ (((let __src := c3.sf pgHST HST.PTM_STS_VALID 1; State.mk __src.pending 1000000000 __src.free __src.out __src.regs __src.tbls __src.sets __src.smb __src.sys __src.lnd __src.flt __src.oas __src.avs __src.vlt __src.host __src.links __src.lards __src.ports __src.brg __src.gal __src.sch __src.cvn __src.hlm __src.erg __src.mgq __src.mez __src.tap).gb pgHST HST.PTM_CTL_AUTO = false) ∧ ((let __src := c3.sf pgHST HST.PTM_STS_VALID 1; State.mk __src.pending 1000000000 __src.free __src.out __src.regs __src.tbls __src.sets __src.smb __src.sys __src.lnd __src.flt __src.oas __src.avs __src.vlt __src.host __src.links __src.lards __src.ports __src.brg __src.gal __src.sch __src.cvn __src.hlm __src.erg __src.mgq __src.mez __src.tap).ptmOverdue = true))
    ∧ ((c19.host.ptmBusy = true) ∧ (c19.sys.devtime + 1000 < 6001))
    ∧ ((c19.host.ptmBusy = true) ∧ (c19.host.ptmFails = 2))
    ∧ ((c20.host.ptmBusy = true) ∧ (c20.host.ptmFails < 2) ∧ (c20.ptmOverdue = false)) := by
  refine ⟨?_, ?_, ?_, ?_, ?_, ?_, ?_, ?_⟩ <;> decide +kernel

theorem witness_SecurityServices :
    ((c21.gb pgDEV DEV.FEAT_EN_DOE_SPDM = true) ∧ (c21.host.doeErr = false) ∧ ([(2 : Word), (3 : Word)].length ≤ (4094 : ℕ)))
    ∧ ((c21.gb pgDEV DEV.FEAT_EN_DOE_SPDM = true) ∧ (c21.host.doeErr = false) ∧ ([(2 : Word), (3 : Word)].length ≤ (4094 : ℕ)))
    ∧ ((c21.gb pgDEV DEV.FEAT_EN_DOE_SPDM = true) ∧ (c21.host.doeErr = false) ∧ ((4094 : ℕ) < (List.replicate (4095 : ℕ) (0 : Word)).length))
    ∧ ((c21.spdmOn Path.host = true))
    ∧ ((cs.stage = 3) ∧ (cs.version = 18) ∧ (18 = 17 ∨ 18 = 18) ∧ (229 ∈ [229, 232, 233, 236]))
    ∧ (((c21.spdm Path.host).session = true) ∧ ((c21.spdm Path.host).heartbeat ≠ 0) ∧ (c21.due ((c21.spdm Path.host).lastMsg + 2 * ms (1000 * (c21.spdm Path.host).heartbeat)) = true))
    ∧ ((((let __src := c21; State.mk __src.pending 5 __src.free __src.out __src.regs __src.tbls __src.sets __src.smb __src.sys __src.lnd __src.flt __src.oas __src.avs __src.vlt __src.host __src.links __src.lards __src.ports __src.brg __src.gal __src.sch __src.cvn __src.hlm __src.erg __src.mgq __src.mez __src.tap).spdm Path.host).session = true) ∧ (((let __src := c21; State.mk __src.pending 5 __src.free __src.out __src.regs __src.tbls __src.sets __src.smb __src.sys __src.lnd __src.flt __src.oas __src.avs __src.vlt __src.host __src.links __src.lards __src.ports __src.brg __src.gal __src.sch __src.cvn __src.hlm __src.erg __src.mgq __src.mez __src.tap).spdm Path.host).heartbeat ≠ 0) ∧ ((let __src := c21; State.mk __src.pending 5 __src.free __src.out __src.regs __src.tbls __src.sets __src.smb __src.sys __src.lnd __src.flt __src.oas __src.avs __src.vlt __src.host __src.links __src.lards __src.ports __src.brg __src.gal __src.sch __src.cvn __src.hlm __src.erg __src.mgq __src.mez __src.tap).due (((let __src := c21; State.mk __src.pending 5 __src.free __src.out __src.regs __src.tbls __src.sets __src.smb __src.sys __src.lnd __src.flt __src.oas __src.avs __src.vlt __src.host __src.links __src.lards __src.ports __src.brg __src.gal __src.sch __src.cvn __src.hlm __src.erg __src.mgq __src.mez __src.tap).spdm Path.host).lastMsg + 2 * ms (1000 * ((let __src := c21; State.mk __src.pending 5 __src.free __src.out __src.regs __src.tbls __src.sets __src.smb __src.sys __src.lnd __src.flt __src.oas __src.avs __src.vlt __src.host __src.links __src.lards __src.ports __src.brg __src.gal __src.sch __src.cvn __src.hlm __src.erg __src.mgq __src.mez __src.tap).spdm Path.host).heartbeat)) = false))
    ∧ ((c21.gb pgDEV DEV.FEAT_EN_IDE = true) ∧ (c21.secured = true) ∧ (1 < 2) ∧ (2 < 3) ∧ ((List.replicate (40 : ℕ) (7 : Byte)).length = (40 : ℕ)) ∧ (c21.ideRoom 255 = true) ∧ ((c21.ideOf 255).state ≠ IdeState.secure) ∧ (∀ e ∈ c21.vlt.keyTimes, e.1 ≠ 255 * 16 + 1 * 8 + 2))
    ∧ ((c22.gb pgDEV DEV.FEAT_EN_IDE = true) ∧ (c22.secured = true) ∧ (1 < 2) ∧ (0 < 3) ∧ ((List.replicate (40 : ℕ) (7 : Byte)).length = (40 : ℕ)) ∧ (c22.ideRoom 3 = true) ∧ ((c22.ideOf 3).state = IdeState.secure))
    ∧ ((c22.gb pgDEV DEV.FEAT_EN_IDE = true) ∧ (c22.secured = true))
    ∧ ((c22k.gb pgDEV DEV.FEAT_EN_IDE = true) ∧ (c22k.secured = true) ∧ (∀ u < 3, ((c22k.ideOf 3).keys.any fun e => e.1 == 1 * 8 + u) = true))
    ∧ ((c25.tdispOn = true) ∧ (c25.tdispHas 1 = true) ∧ (c25.tdispOf 1 = 0))
    ∧ ((c23.tdispOn = true) ∧ (c23.tdispHas 1 = true) ∧ (c23.tdispOf 1 ≠ 0))
    ∧ ((c23.tdispOn = true) ∧ (c23.tdispHas 1 = true) ∧ (c23.tdispOf 1 = 1) ∧ (c23.host.nonces.contains (1, 77) = true))
    ∧ ((c23.tdispOn = true) ∧ (c23.tdispHas 1 = true) ∧ (c23.tdispOf 1 = 1) ∧ (c23.host.nonces.contains (1, 78) = false))
    ∧ ((c24.tdispOn = true) ∧ (c24.tdispHas 1 = true) ∧ (c24.tdispOf 1 = 2 ∨ c24.tdispOf 1 = 3))
    ∧ ((c25.tdispOn = true) ∧ (c25.tdispHas 1 = true) ∧ (c25.tdispOf 1 = 0 ∨ c25.tdispOf 1 = 1))
    ∧ ((c24.tdispOn = true) ∧ (c24.tdispHas 1 = true)) := by
  refine ⟨?_, ?_, ?_, ?_, ?_, ?_, ?_, ?_, ?_, ?_, ?_, ?_, ?_, ?_, ?_, ?_, ?_, ?_⟩ <;> decide +kernel

end Sys2Proof.Machine.Wit04

/-! ### States of the statements, part 05 -/

namespace Sys2Proof.Machine.Wit05

def pt0 : Part := ⟨3, 0, 2, 0, 1, 16, 0, 16, 0, false, true, 0x1000, 8, 0, 0, 0x1000, List.replicate 8 (some 7), [], some 5, 1, .sent, [], 0⟩
def ac0 : Acc := ⟨.read, .host 9, 0, 0x4000, 0, 8, 0, false, [pt0]⟩
def ac1 : Acc := { ac0 with op := .write }
def d1 : State := { (on r0 [0x10, 0x20, 0x30, 0x80]) with clock := 100000000, brg := { r0.brg with accs := [(4, ac0), (5, ac1)], next := 6 }, sys := { r0.sys with devtime := 90000000 } }
def d2 : State := { d1 with clock := 1 }
def ac2 : Acc := { ac0 with parts := [] }
def rq2 : Req := ⟨.read, .host 9, 0, none, none, 0x4000, 0x4000, [some 0], [], 0x100, 0⟩
def d1h : State := { d1 with brg := { d1.brg with accs := [(4, ac2)], held := [(4, rq2)] } }
def winM : Entry := put (put (put (0 : Entry) T_WIN.VALID.lo 1 1) T_WIN.TYPE.lo 3 2) T_WIN.LIMIT.lo T_WIN.LIMIT.w 0x100
def rq3 : Req := { rq2 with off := 0 }
def d3 : State := (d1.setEnt .drd 40 1).drMap 40 true
def d4 : State := (d1.pwLog 5 (pt0.entry ac1 0)).pwLog 2 (pt0.entry ac1 1)
def sl0 : RaSlot := ⟨4, 2, 3, 16, 0, [(1, 2)], 0, 0⟩
def d5 : State := { d1 with brg := { d1.brg with slots := [(7, sl0)] } }
def d6 : State := { d5 with clock := 5 }
def idn : Ident := ⟨[BitVec.ofNat 64 (3 * 2 ^ 40 + 2 * 2 ^ 44 + 0x7F * 2 ^ 48), 0, BitVec.ofNat 64 (0x100 + 4 * 2 ^ 16), 0], true⟩
def d7 : State := ((d1.sf (pgPRT 16) LNK.LINK_STS_STATE 3).setLard 16 { Lard.reset with ident := some idn, changed := 5 }).sf pgMIR MIR.MIR_CTL_OUT_EN 1
def rx (s : State) (a : Nat) (f : Frame) : State := s.setLink a { s.link a with rxBuf := (s.link a).rxBuf ++ [f] }
def fm : Frame := (mkMirage 4 [0x1122334455667788]).withLink 0 1
def d8 : State := rx d7 16 fm
def d9 : State := (rx d7 16 fm).setLard 16 Lard.reset
def d10 : State := d7.sf pgMIR MIR.MIR_CTL_POLL_US 100
def d11 : State := d10.setLard 16 { d7.lard 16 with pollAt := some 0, pollTag := some 3, tags := [⟨3, .poll, 0⟩] }
def fp : Frame := (mkRsp 3 0 [0xF]).withLink 0 1
def d12 : State := rx d11 16 fp
def fe : Frame := (mkEvent 3).withLink 0 1
def d13 : State := rx d7 16 fe
def d14 : State := d13.setLard 16 Lard.reset
def fr : Frame := (mkRsp 5 0 [7]).withLink 0 1
def d15 : State := (rx d7 16 fr).setLard 16 { d7.lard 16 with tags := [⟨5, .access 4 0, 0⟩] }
def fi : Frame := (mkRsp 5 0 idn.words).withLink 0 1
def d16 : State := (rx d7 16 fi).setLard 16 { Lard.reset with tags := [⟨5, .ident, 0⟩] }
def d17 : State := d16.setLink 16 { d16.link 16 with upTotal := 1000000000 }
def fx : Frame := mkFrame (opERR + 3 * 2 ^ 5 + 1 * 2 ^ 15 + 0x200 * 2 ^ 35) [0x2008]
def d18 : State := rx d7 16 fx
def d19 : State := rx d9 16 fx
def d20 : State := d7.setLard 16 { d7.lard 16 with roundAt := some 99999999 }
def f2 : Frame := (mkTime 2 7 [1000]).withLink 0 1
def f3 : Frame := (mkTime 3 7 [1500, 0]).withLink 0 1
def rd : Round := ⟨7, 100, false, 0, none, 0⟩
def rd2 : Round := ⟨7, 100, false, 0, some 1000, 2000⟩
def d21 : State := (rx d7 16 f2).setLard 16 { d7.lard 16 with round := some rd }
def d22 : State := (rx d7 16 f3).setLard 16 { d7.lard 16 with round := some rd2 }
def f0 : Frame := (mkTime 0 7 []).withLink 0 1
def f1 : Frame := (mkTime 1 7 [5000, 20, 1, 0]).withLink 0 1
def fol (s : State) (n : Nat) : State := s.setPort n { s.port n with cfg := { (s.port n).cfg with follower := true } }
def d23 : State := (fol (rx d7 16 f0) 16).sf (pgPRT 16) LNK.LINK_CTL_CASCADE 1 |>.sf (pgPRT 16) PRT.PHY_CTL_ROLE 1 |>.sf (pgPRT 16) LNK.LINK_STS_ANCHOR 16
def ec : Echo := ⟨7, 3000, 0, false, true⟩
def d24 : State := ((fol (rx d7 16 f1) 16).sf (pgPRT 16) LNK.LINK_CTL_CASCADE 1 |>.sf (pgPRT 16) PRT.PHY_CTL_ROLE 1 |>.sf (pgPRT 16) LNK.LINK_STS_ANCHOR 16).setLard 16 { d7.lard 16 with echo := some ec }

theorem witness_BridgeExpiryAndStores :
    ((d1.acc? 4 = some ac0) ∧ (ac0.ended = false) ∧ (ac0.op = AccOp.read) ∧ (ac0.isRelay = false) ∧ (List.filter (fun e => e.1 == 4) d1.brg.held = []) ∧ (d1.due (ac0.start + us (d1.gf1 pgBRG BRG.EXPIRY_READ_US)) = true) ∧ (List.find? (fun p => !(p.st == PartSt.finished && p.got.length == p.len)) ac0.parts = some pt0))
    ∧ ((d2.acc? 4 = some ac0) ∧ (d2.due (ac0.start + us (d2.gf1 pgBRG BRG.EXPIRY_READ_US)) = false))
    ∧ ((d1.acc? 5 = some ac1) ∧ (ac1.ended = false) ∧ (ac1.op = AccOp.write) ∧ (ac1.isRelay = false) ∧ (d1.due (ac1.start + us (d1.gf1 pgBRG BRG.EXPIRY_READ_US)) = true) ∧ (List.filter (fun p => isNpw ac1 p && p.st != PartSt.finished && p.st != PartSt.stored) ac1.parts = [pt0]))
    ∧ ((d1h.acc? 4 = some ac2) ∧ (ac2.ended = false) ∧ (ac2.op = AccOp.read) ∧ (ac2.isRelay = false) ∧ (ac2.parts = []) ∧ (List.filter (fun e => e.1 == 4) d1h.brg.held = [(4, rq2)]) ∧ (d1h.due (ac2.start + us (d1h.gf1 pgBRG BRG.EXPIRY_READ_US)) = true) ∧ (d1h.heldMirage rq2 = false))
    ∧ ((((let __src := d1h; State.mk __src.pending __src.clock __src.free __src.out __src.regs __src.tbls __src.sets __src.smb __src.sys __src.lnd __src.flt __src.oas __src.avs __src.vlt __src.host __src.links __src.lards __src.ports (let __src := d1h.brg; Bridge.mk __src.accs __src.next __src.rsv __src.slots [(4, rq3)]) __src.gal __src.sch __src.cvn __src.hlm __src.erg __src.mgq __src.mez __src.tap).setEnt Tbl.win 0 winM).acc? 4 = some ac2) ∧ (ac2.ended = false) ∧ (ac2.op = AccOp.read) ∧ (ac2.isRelay = false) ∧ (ac2.parts = []) ∧ (List.filter (fun e => e.1 == 4) ((let __src := d1h; State.mk __src.pending __src.clock __src.free __src.out __src.regs __src.tbls __src.sets __src.smb __src.sys __src.lnd __src.flt __src.oas __src.avs __src.vlt __src.host __src.links __src.lards __src.ports (let __src := d1h.brg; Bridge.mk __src.accs __src.next __src.rsv __src.slots [(4, rq3)]) __src.gal __src.sch __src.cvn __src.hlm __src.erg __src.mgq __src.mez __src.tap).setEnt Tbl.win 0 winM).brg.held = [(4, rq3)]) ∧ (((let __src := d1h; State.mk __src.pending __src.clock __src.free __src.out __src.regs __src.tbls __src.sets __src.smb __src.sys __src.lnd __src.flt __src.oas __src.avs __src.vlt __src.host __src.links __src.lards __src.ports (let __src := d1h.brg; Bridge.mk __src.accs __src.next __src.rsv __src.slots [(4, rq3)]) __src.gal __src.sch __src.cvn __src.hlm __src.erg __src.mgq __src.mez __src.tap).setEnt Tbl.win 0 winM).due (ac2.start + us (((let __src := d1h; State.mk __src.pending __src.clock __src.free __src.out __src.regs __src.tbls __src.sets __src.smb __src.sys __src.lnd __src.flt __src.oas __src.avs __src.vlt __src.host __src.links __src.lards __src.ports (let __src := d1h.brg; Bridge.mk __src.accs __src.next __src.rsv __src.slots [(4, rq3)]) __src.gal __src.sch __src.cvn __src.hlm __src.erg __src.mgq __src.mez __src.tap).setEnt Tbl.win 0 winM).gf1 pgBRG BRG.EXPIRY_READ_US)) = true) ∧ (((let __src := d1h; State.mk __src.pending __src.clock __src.free __src.out __src.regs __src.tbls __src.sets __src.smb __src.sys __src.lnd __src.flt __src.oas __src.avs __src.vlt __src.host __src.links __src.lards __src.ports (let __src := d1h.brg; Bridge.mk __src.accs __src.next __src.rsv __src.slots [(4, rq3)]) __src.gal __src.sch __src.cvn __src.hlm __src.erg __src.mgq __src.mez __src.tap).setEnt Tbl.win 0 winM).heldMirage rq3 = true))
    ∧ ((40 < 64) ∧ (d3.tb Tbl.drd 40 T_DRD.VALID = true) ∧ (us (d3.gf1 pgBRG BRG.DR_CTL_HOLD_US) ≤ subMod d3.stamp (d3.tf Tbl.drd 40 T_DRD.STAMP) 48))
    ∧ ((subMod r0.stamp (r0.tf Tbl.drd 40 T_DRD.STAMP) 48 < us (r0.gf1 pgBRG BRG.DR_CTL_HOLD_US)))
    ∧ ((d3.applying pgBRG = false) ∧ (bitAt (BitVec.toNat (296 : Word)) (8 : ℕ) = true) ∧ (d3.tb Tbl.drd (fld (296 : Word) (0 : ℕ) (6 : ℕ)) T_DRD.VALID = true))
    ∧ ((d3.applying pgBRG = false) ∧ (bitAt (BitVec.toNat (40 : Word)) (8 : ℕ) = false))
    ∧ ((d4.applying pgBRG = false))
    ∧ (((ap r0 pgBRG).applying pgBRG = true))
    ∧ ((d5.brg.slots = [(7, sl0)]) ∧ (sl0.bytes ≠ []) ∧ (d5.due (sl0.filled + us (d5.gf1 pgBRG BRG.RA_CTL_HOLD_US)) = true))
    ∧ ((d6.brg.slots = [(7, sl0)]) ∧ (d6.due (sl0.filled + us (d6.gf1 pgBRG BRG.RA_CTL_HOLD_US)) = false)) := by
  refine ⟨?_, ?_, ?_, ?_, ?_, ?_, ?_, ?_, ?_, ?_, ?_, ?_, ?_⟩ <;> decide +kernel

theorem witness_MirageAndSideBand :
    ((16 < 1024) ∧ (1 < 16) ∧ (bitAt (d7.lard 16).changed 1 = false))
    ∧ ((16 < 1024) ∧ (0 < 16) ∧ (bitAt (d7.lard 16).changed 0 = true))
    ∧ ((1024 ≤ 1024))
    ∧ ((d7.mirOn = true) ∧ (d7.gb pgMIR MIR.MIR_CTL_OUT_EN = true) ∧ (d7.flows 16 = true) ∧ (d7.quiesce (pgPRT 16) = false) ∧ (d7.stationCan 16 50 = true) ∧ ((d7.lard 16).changed ≠ 0) ∧ ((((d7.link 16).txq ++ List.map (fun x => x.2) (d7.link 16).held).any fun c => c.frame.op == opMIRAGE) = false))
    ∧ ((d8.cascadeLink 16 = false) ∧ (d8.quiesce pgMIR = false) ∧ (d8.active pgMIR = true) ∧ (d8.rxHead 16 opMIRAGE = some fm) ∧ (d8.stationCan 16 50 = true) ∧ (2 < 15) ∧ (fm.mask = 2 ^ 2))
    ∧ ((d9.cascadeLink 16 = false) ∧ (d9.quiesce pgMIR = false) ∧ (d9.rxHead 16 opMIRAGE = some fm) ∧ (d9.stationCan 16 50 = false))
    ∧ ((d10.mirOn = true) ∧ (d10.gf pgMIR MIR.MIR_CTL_POLL_US ≠ 0) ∧ (d10.flows 16 = true) ∧ (d10.quiesce (pgPRT 16) = false) ∧ (d10.stationCan 16 51 = true) ∧ ((d10.lard 16).pollAt = none) ∧ ((d10.lard 16).pollTag = none) ∧ (d10.freeTag 16 = some 0))
    ∧ ((d11.mirOn = true) ∧ (d11.gf pgMIR MIR.MIR_CTL_POLL_US ≠ 0) ∧ (d11.flows 16 = true) ∧ (d11.quiesce (pgPRT 16) = false) ∧ (d11.stationCan 16 51 = true) ∧ ((d11.lard 16).pollAt = some 0) ∧ (d11.due (0 + us (d11.gf pgMIR MIR.MIR_CTL_POLL_US)) = true) ∧ ((d11.lard 16).pollTag = some 3) ∧ (d11.freeTag 16 = some 0))
    ∧ ((d12.cascadeLink 16 = false) ∧ (d12.rxHead 16 opRSP = some fp) ∧ (fp.code = 0) ∧ (fp.words = [(15 : Word64)]) ∧ (List.find? (fun t => t.tag == fp.tag) (d12.lard 16).tags = some (TagRec.mk fp.tag TagUse.poll 0)) ∧ (((d12.rxTake 16 fp).dropTag 16 fp.tag).lard 16 = have __src := d12.lard 16; Lard.mk __src.ident [] __src.nextTag __src.identDue __src.round __src.roundId __src.roundAt __src.changed __src.pollAt __src.pollTag __src.spare __src.sleepReq __src.sleepSent __src.idleAuto __src.echo) ∧ ((d12.lard 16).pollTag = some fp.tag))
    ∧ ((d13.cascadeLink 16 = false) ∧ (d13.rxHead 16 opEVENT = some fe) ∧ ((d13.rxTake 16 fe).stationCan 16 53 = true))
    ∧ ((d14.cascadeLink 16 = false) ∧ (d14.rxHead 16 opEVENT = some fe) ∧ ((d14.rxTake 16 fe).stationCan 16 53 = false)) := by
  refine ⟨?_, ?_, ?_, ?_, ?_, ?_, ?_, ?_, ?_, ?_, ?_⟩ <;> decide +kernel

theorem witness_ResponsesAndTags :
    (((rx d7 16 fp).cascadeLink 16 = false) ∧ ((rx d7 16 fp).rxHead 16 opRSP = some fp) ∧ (List.find? (fun t => t.tag == fp.tag) ((rx d7 16 fp).lard 16).tags = none))
    ∧ ((d15.cascadeLink 16 = false) ∧ (d15.rxHead 16 opRSP = some fr) ∧ (List.find? (fun t => t.tag == fr.tag) (d15.lard 16).tags = some (TagRec.mk fr.tag (TagUse.access 4 0) 0)) ∧ (d15.active pgSWC = true) ∧ (d15.quiesce pgSWC = false) ∧ (d15.behindMsg 16 fr = false))
    ∧ ((d16.cascadeLink 16 = false) ∧ (d16.rxHead 16 opRSP = some fi) ∧ (List.find? (fun t => t.tag == fi.tag) (d16.lard 16).tags = some (TagRec.mk fi.tag TagUse.ident 0)) ∧ (fi.code = 0) ∧ (fi.words.length = 4) ∧ (recordValid fi.words = true) ∧ ((((d16.rxTake 16 fi).dropTag 16 fi.tag).lard 16).ident = none))
    ∧ ((d9.flows 16 = true) ∧ (d9.cascadeLink 16 = false) ∧ ((d9.lard 16).ident = none) ∧ ((d9.lard 16).identDue = false) ∧ ((d9.lard 16).tags = []) ∧ ((d9.link 16).txq = []))
    ∧ (((d7.lard 16).ident = some idn))
    ∧ ((List.find? (fun t => t.tag == 5) (d17.lard 16).tags = some (TagRec.mk 5 TagUse.ident 0)) ∧ ((d17.link 16).txq = []) ∧ (0 + ms 1000 ≤ d17.upTime 16))
    ∧ ((List.find? (fun t => t.tag == 5) (d16.lard 16).tags = some (TagRec.mk 5 TagUse.ident 0)) ∧ (d16.upTime 16 < (TagRec.mk 5 TagUse.ident 0).sent + ms 1000))
    ∧ ((d18.cascadeLink 16 = false) ∧ (d18.rxHead 16 opERR = some fx) ∧ (d18.stationCan 16 54 = true) ∧ (d18.isMember = false))
    ∧ ((d19.cascadeLink 16 = false) ∧ (d19.rxHead 16 opERR = some fx) ∧ (d19.stationCan 16 54 = false)) := by
  refine ⟨?_, ?_, ?_, ?_, ?_, ?_, ?_, ?_, ?_⟩ <;> decide +kernel

theorem witness_TimeRounds :
    ((d7.flows 16 = true) ∧ (d7.quiesce (pgPRT 16) = false) ∧ (d7.timeLeads 16 = true) ∧ ((d7.lard 16).roundAt = none))
    ∧ (((d20.lard 16).roundAt = some 99999999) ∧ (d20.due (99999999 + 1000000) = false))
    ∧ ((d21.rxTime 16 2 = some f2) ∧ (((d21.rxTake 16 f2).lard 16).round = some rd) ∧ (rd.s2 = none) ∧ (f2.roundId = rd.id))
    ∧ ((d22.rxTime 16 3 = some f3) ∧ (((d22.rxTake 16 f3).lard 16).round = some rd2) ∧ (rd2.s2 = some 1000) ∧ (f3.roundId = rd2.id))
    ∧ (((d21.lard 16).round = some rd) ∧ (rd.s2 = none) ∧ (d21.due (rd.start + 500000) = true))
    ∧ ((d23.rxTime 16 0 = some f0) ∧ ((d23.rxTake 16 f0).cascadeLink 16 = true) ∧ ((d23.rxTake 16 f0).isLeader 16 = false))
    ∧ ((d24.rxTime 16 1 = some f1) ∧ (((d24.rxTake 16 f1).lard 16).echo = some ec) ∧ ((d24.rxTake 16 f1).cascadeLink 16 = true) ∧ ((d24.rxTake 16 f1).isLeader 16 = false) ∧ (f1.roundId = ec.id) ∧ (fld (f1.words.getD (2 : ℕ) (0 : Word64)) (0 : ℕ) (1 : ℕ) = (1 : ℕ)))
    ∧ ((1000 < 1001))
    ∧ ((-5000 ≤ 1000)) := by
  refine ⟨?_, ?_, ?_, ?_, ?_, ?_, ?_, ?_, ?_⟩ <;> decide +kernel

end Sys2Proof.Machine.Wit05

/-! ### States of the statements, part 06 -/

namespace Sys2Proof.Machine.Wit06

def pst (s : State) (n st : Nat) : State := s.sf (pgPRT n) PRT.PHY_STS_STATE st
def tic : State := { r0 with clock := 1000000000 }
def own (s : State) (n : Nat) : State := s.sf (pgPRT n) LNK.LINK_STS_ANCHOR n
def e1 : State := own (pst tic 17 2) 17
def fol (s : State) (n : Nat) : State := s.setPort n { s.port n with cfg := { (s.port n).cfg with follower := true } }
def e2 : State := pst e1 17 3
def f1 : State := pst e1 17 10
def f2 : State := f1.sf (pgPRT 17) PRT.DIAG_STS_FAULT 1
def e2c : State := e2.setPort 17 { Port.reset with cd := 0, rate := 1 }
def e2d : State := e2.setPort 17 { Port.reset with cd := 0, rate := 2, reach := 3 }
def e3 : State := fol e2 17
def e4 : State := pst e1 17 4
def e4s : State := e4.setPort 17 { Port.reset with seen0 := true, rate := 1 }
def e3s : State := fol (e2.setPort 17 { Port.reset with seen0 := true }) 17
def e5 : State := pst e1 17 6
def e5b : State := { e5 with clock := 10 }
def e11 : State := pst e1 17 1
def e6 : State := (pst e1 17 5).setPort 17 { Port.reset with rate := 1, acks := 16, ackSent := 8 }
def tbD : Word64 := (e6.mkTb 17 true 0) ^^^ 0x2000
def tbE : Word64 := BitVec.ofNat 64 (fld tbD 0 56 + crc8 (bytesOf 7 (fld tbD 0 56)) * 2 ^ 56)
def e6n : State := (pst e1 17 5).setPort 17 { Port.reset with rate := 1, acks := 16, ackSent := 7 }
def e6r : State := e6.sf (pgPRT 17) PRT.PEER_CAP_RATES 7
def e7 : State := (pst e1 17 7).setPort 17 { Port.reset with rate := 1, cd := 0 }
def e7r : State := (pst e1 17 9).setPort 17 { Port.reset with rate := 1, cd := 0, exDone := true }
def e3t : State := fol (e2.setPort 17 { Port.reset with rate := 1 }) 17
def e8 : State := { e4 with clock := 49999 }
def e9 : State := (e1.setPort 17 { Port.reset with waiting := true }).sf (pgPRT 17) PRT.PHY_STS_ATTEMPTS 8
def e10 : State := pst e1 17 10
def e12 : State := e7
def e13 : State := e7.setPort 17 { Port.reset with cfg := { PhyCfg.reset with polAuto := false } }
def al : Port := { Port.reset with cfg := { PhyCfg.reset with align := true } }
def e14 : State := (e7.setPort 17 al).sf (pgPRT 17) PRT.PEER_CAP_RX_ID 0x1234
def am0 : Word64 := BitVec.ofNat 64 (0xC2 + 0x1234 * 2 ^ 24 + 9 * 2 ^ 40)
def am1 : Word64 := BitVec.ofNat 64 (am0.toNat + crc8 (bytesOf 7 am0.toNat) * 2 ^ 56)
def e14b : State := e14.setPort 17 { al with goodAm := 1, lastAm := 65535 }
def e15 : State := pst e14 17 8
def e15b : State := e15.setPort 17 { al with badCw := 8, goodAm := 2 }
def e15c : State := (e15.sf (pgPRT 17) LNK.LINK_STS_ANCHOR 16).sf (pgPRT 16) LNK.LINK_STS_STATE 3
def e16 : State := pst e14 17 9
def e16b : State := { e16 with clock := 149999 }
def e16f : State := pst e14 17 10
def e17 : State := (e15.sf (pgPRT 17) PRT.PHY_CTL_DIAG_LIVE 1).setPort 17 { Port.reset with taps := [10, 300, -20], rate := 1 }
def e18 : State := e15.sf (pgPRT 17) PRT.PHY_CTL_SLEEP_EN 1 |>.sf (pgPRT 17) LNK.LINK_STS_STATE 3
def e19 : State := e18.setLard 17 { Lard.reset with sleepReq := true }
def e20 : State := e15.sf (pgPRT 17) LNK.LINK_STS_STATE 3 |>.sf (pgPRT 17) PRT.PHY_CTL_SLEEP_EN 0
def e21 : State := e18.setLard 17 { Lard.reset with sleepSent := some 5 }
def e21b : State := { e21 with clock := 8004 }
def e22 : State := e18.setPort 17 { Port.reset with toSleep := some 5 }
def e22b : State := { e22 with clock := 1004 }
def e23 : State := ((own (pst (on tic [0x3,0x4]) 17 1) 17).sf (pgPRT 17) LNK.LINK_STS_STATE 5).setPort 17 { Port.reset with armed := true }
def e24 : State := e23.sf (pgPRT 16) PRT.GRP_STS_AWAKE 1
def e25 : State := e24.sf pgCIS CIS.TEMP_THROTTLING 1
def e26 : State := e24.sf pgOAS OAS.PWR_STS_STATE 2
def cg0 : Cargo := ⟨mkMirage 1 [5], none, 0, none, none⟩
def e27 : State := e24.setLink 17 { Link.reset with txq := [cg0] }
def e28 : State := e25.setLink 17 { Link.reset with txq := [cg0] }
def e29 : State := (pst e24 17 11).sf (pgPRT 16) PRT.GRP_CTL_LREF_OE 0
def e30 : State := e29.setPort 17 { Port.reset with wakeAt := some 7, lockout := some 9 }
def e30b : State := { e30 with clock := 5 }
def e31 : State := r0.sf (pgPRT 16) PRT.GRP_STS_AWAKE 1 |>.sf (pgPRT 16) PRT.GRP_CTL_AUTO_SLEEP 1
def e32 : State := { e31 with clock := 5000000000 }
def e33 : State := pst e32 18 1
def e34 : State := pst e32 18 2

theorem witness_PortTraining :
    ((17 < 1024) ∧ (e1.ph 17 = phDETECT) ∧ (e1.isLeader 17 = true) ∧ ((e1.port 17).waiting = false) ∧ (0 = 0 ∨ 0 = 7) ∧ (((e1.setDiag 17 0 33 false 75294).setPort 17 (have __src := e1.port 17; Port.mk __src.since __src.waiting __src.locked __src.acks __src.goodAm __src.badAm __src.lastAm 3 __src.bad 1 __src.lockout __src.armed __src.trained __src.badCw __src.lfsr __src.wakeAt __src.toSleep __src.taps __src.cfg __src.heard __src.gotAck __src.seen0 __src.ackSent __src.exDone __src.cd __src.frames __src.gap __src.txAt __src.hist __src.amNo __src.rxCws)).offered 17 ≠ 0))
    ∧ ((e1.ph 17 = phDETECT) ∧ (e1.isLeader 17 = true) ∧ ((e1.port 17).waiting = false) ∧ (1 = 1 ∨ 1 = 2 ∨ 1 = 3))
    ∧ ((f1.ph 17 = phFAULT) ∧ (f1.isLeader 17 = true) ∧ (1 = 1 ∨ 1 = 2 ∨ 1 = 3) ∧ (f1.gf (pgPRT 17) PRT.DIAG_STS_FAULT ≠ 1))
    ∧ ((f2.ph 17 = phFAULT) ∧ (f2.isLeader 17 = true) ∧ (1 = 1 ∨ 1 = 2 ∨ 1 = 3) ∧ (f2.gf (pgPRT 17) PRT.DIAG_STS_FAULT = 1))
    ∧ ((e2.ph 17 ≠ phDETECT ∧ e2.ph 17 ≠ phFAULT ∨ e2.isLeader 17 = false))
    ∧ ((e2c.ph 17 = phECHOLEAD) ∧ (e2c.echoOver 17 = true) ∧ (e2c.isLeader 17 = true ∨ (e2c.port 17).locked = true) ∧ ((if (e2c.port 17).rate = 1 then e2c.setPort 17 (have __src := e2c.port 17; Port.mk __src.since __src.waiting __src.locked __src.acks __src.goodAm __src.badAm __src.lastAm ((e2c.port 17).reach &&& 7) __src.bad __src.rate __src.lockout __src.armed __src.trained __src.badCw __src.lfsr __src.wakeAt __src.toSleep __src.taps __src.cfg __src.heard __src.gotAck __src.seen0 __src.ackSent __src.exDone __src.cd __src.frames __src.gap __src.txAt __src.hist __src.amNo __src.rxCws) else e2c).offered 17 ≠ 0))
    ∧ ((e2c.ph 17 = phECHOLEAD) ∧ (e2c.echoOver 17 = true) ∧ (e2c.isLeader 17 = true ∨ (e2c.port 17).locked = true) ∧ ((if (e2c.port 17).rate = 1 then e2c.setPort 17 (have __src := e2c.port 17; Port.mk __src.since __src.waiting __src.locked __src.acks __src.goodAm __src.badAm __src.lastAm ((e2c.port 17).reach &&& 0) __src.bad __src.rate __src.lockout __src.armed __src.trained __src.badCw __src.lfsr __src.wakeAt __src.toSleep __src.taps __src.cfg __src.heard __src.gotAck __src.seen0 __src.ackSent __src.exDone __src.cd __src.frames __src.gap __src.txAt __src.hist __src.amNo __src.rxCws) else e2c).offered 17 = 0))
    ∧ ((e4s.ph 17 = phECHOFOLLOW) ∧ (e4s.echoOver 17 = true) ∧ ((if (e4s.port 17).rate = 1 then e4s.setPort 17 (have __src := e4s.port 17; Port.mk __src.since __src.waiting __src.locked __src.acks __src.goodAm __src.badAm __src.lastAm ((e4s.port 17).reach &&& 7) __src.bad __src.rate __src.lockout __src.armed __src.trained __src.badCw __src.lfsr __src.wakeAt __src.toSleep __src.taps __src.cfg __src.heard __src.gotAck __src.seen0 __src.ackSent __src.exDone __src.cd __src.frames __src.gap __src.txAt __src.hist __src.amNo __src.rxCws) else e4s).offered 17 ≠ 0))
    ∧ ((e4s.ph 17 = phECHOFOLLOW) ∧ (e4s.echoOver 17 = true) ∧ ((if (e4s.port 17).rate = 1 then e4s.setPort 17 (have __src := e4s.port 17; Port.mk __src.since __src.waiting __src.locked __src.acks __src.goodAm __src.badAm __src.lastAm ((e4s.port 17).reach &&& 0) __src.bad __src.rate __src.lockout __src.armed __src.trained __src.badCw __src.lfsr __src.wakeAt __src.toSleep __src.taps __src.cfg __src.heard __src.gotAck __src.seen0 __src.ackSent __src.exDone __src.cd __src.frames __src.gap __src.txAt __src.hist __src.amNo __src.rxCws) else e4s).offered 17 = 0))
    ∧ ((e3s.ph 17 = phECHOLEAD) ∧ (e3s.echoOver 17 = true) ∧ (e3s.isLeader 17 = false) ∧ ((e3s.port 17).locked = false))
    ∧ ((e4.echoOver 17 = false))
    ∧ ((e5.ph 17 = phSWITCH) ∧ (e5.due ((e5.port 17).since + us 4) = true))
    ∧ ((e5b.ph 17 = phSWITCH) ∧ (e5b.due ((e5b.port 17).since + us 4) = false))
    ∧ ((blkType (193 : Word64) ≠ (193 : ℕ) ∨ blkGood (193 : Word64) = false) ∧ (e4.ph 17 ≠ phDISABLED ∧ e4.ph 17 ≠ phSLEEP ∧ e4.ph 17 ≠ phWAKING))
    ∧ ((blkType (193 : Word64) ≠ (193 : ℕ) ∨ blkGood (193 : Word64) = false) ∧ (e11.ph 17 = phDISABLED ∨ e11.ph 17 = phSLEEP ∨ e11.ph 17 = phWAKING))
    ∧ ((blkType tbE = 193) ∧ (blkGood tbE = true) ∧ (fld tbE 8 4 = phDUPLEX) ∧ (e6.ph 17 = phDUPLEX) ∧ ((e6.port 17).toSleep = none) ∧ ((e6.port 17).waiting = false) ∧ (Int.natAbs 0 ≤ 20) ∧ (e6.isLeader 17 = true) ∧ (fld tbE 13 1 = 0) ∧ ((fld tbE 24 4, fld tbE 28 3, fld tbE 31 1 == 1) = e6.expectLane 17) ∧ ((e6.peerCap 17 tbE).gb (pgPRT 17) PRT.PHY_CTL_PEER_CHK = false) ∧ (fld tbE 20 2 = (e6.port 17).rate) ∧ ((e6.peerCap 17 tbE).isLeader 17 = true) ∧ ((e6.peerCap 17 tbE).port 17 = e6.port 17))
    ∧ ((e6.exchanging 17 = true) ∧ ((e6.setPort 17 (Port.mk (e6.port 17).since (e6.port 17).waiting (e6.port 17).locked ((e6.port 17).acks + 1) (e6.port 17).goodAm (e6.port 17).badAm (e6.port 17).lastAm (e6.port 17).reach (e6.port 17).bad (e6.port 17).rate (e6.port 17).lockout (e6.port 17).armed (e6.port 17).trained (e6.port 17).badCw (e6.port 17).lfsr (e6.port 17).wakeAt (e6.port 17).toSleep (e6.port 17).taps (e6.port 17).cfg (e6.port 17).heard ((e6.port 17).gotAck || fld tbE 12 1 == 1) (e6.port 17).seen0 (e6.port 17).ackSent (e6.port 17).exDone (e6.port 17).cd (e6.port 17).frames (e6.port 17).gap (e6.port 17).txAt (e6.port 17).hist (e6.port 17).amNo (e6.port 17).rxCws)).exchanging 17 = true) ∧ ((e6.setPort 17 (Port.mk (e6.port 17).since (e6.port 17).waiting (e6.port 17).locked ((e6.port 17).acks + 1) (e6.port 17).goodAm (e6.port 17).badAm (e6.port 17).lastAm (e6.port 17).reach (e6.port 17).bad (e6.port 17).rate (e6.port 17).lockout (e6.port 17).armed (e6.port 17).trained (e6.port 17).badCw (e6.port 17).lfsr (e6.port 17).wakeAt (e6.port 17).toSleep (e6.port 17).taps (e6.port 17).cfg (e6.port 17).heard ((e6.port 17).gotAck || fld tbE 12 1 == 1) (e6.port 17).seen0 (e6.port 17).ackSent (e6.port 17).exDone (e6.port 17).cd (e6.port 17).frames (e6.port 17).gap (e6.port 17).txAt (e6.port 17).hist (e6.port 17).amNo (e6.port 17).rxCws)).exchanged 17 = true))
    ∧ ((e6n.exchanging 17 = true) ∧ ((e6n.setPort 17 (Port.mk (e6n.port 17).since (e6n.port 17).waiting (e6n.port 17).locked ((e6n.port 17).acks + 1) (e6n.port 17).goodAm (e6n.port 17).badAm (e6n.port 17).lastAm (e6n.port 17).reach (e6n.port 17).bad (e6n.port 17).rate (e6n.port 17).lockout (e6n.port 17).armed (e6n.port 17).trained (e6n.port 17).badCw (e6n.port 17).lfsr (e6n.port 17).wakeAt (e6n.port 17).toSleep (e6n.port 17).taps (e6n.port 17).cfg (e6n.port 17).heard ((e6n.port 17).gotAck || fld tbE 12 1 == 1) (e6n.port 17).seen0 (e6n.port 17).ackSent (e6n.port 17).exDone (e6n.port 17).cd (e6n.port 17).frames (e6n.port 17).gap (e6n.port 17).txAt (e6n.port 17).hist (e6n.port 17).amNo (e6n.port 17).rxCws)).exchanged 17 = false))
    ∧ ((e6r.ph 17 = phDUPLEX) ∧ ((e6r.port 17).rate = 1 ∧ 1 < topRate (e6r.offered 17 &&& e6r.gf (pgPRT 17) PRT.PEER_CAP_RATES)))
    ∧ ((e6.ph 17 = phDUPLEX) ∧ ((e6.port 17).rate ≠ 1 ∨ topRate (e6.offered 17 &&& e6.gf (pgPRT 17) PRT.PEER_CAP_RATES) ≤ 1))
    ∧ ((e7.aligning 17 = true) ∧ (e7.linkReady_ 17 = true) ∧ ((e7.port 17).cd = 0) ∧ (e7.frameOver 17 = true))
    ∧ ((e6.aligning 17 = false ∨ e6.linkReady_ 17 = false ∨ (e6.port 17).cd ≠ 0))
    ∧ ((e6.trainLimit 17 = some 500000) ∧ (e6.due 500000 = true) ∧ (e6.ph 17 = phDUPLEX ∨ e6.ph 17 = phALIGN))
    ∧ ((e3t.trainLimit 17 = some 101774) ∧ (e3t.due 101774 = true) ∧ (e3t.ph 17 = phECHOLEAD))
    ∧ ((e4.trainLimit 17 = some 50000) ∧ (e4.due 50000 = true) ∧ (e4.ph 17 = phECHOFOLLOW))
    ∧ ((e8.trainLimit 17 = some 50000) ∧ (e8.due 50000 = false))
    ∧ ((e9.ph 17 = phDETECT) ∧ ((e9.port 17).waiting = true) ∧ (e9.isLeader 17 = true) ∧ (e9.due ((e9.port 17).since + if e9.gf (pgPRT 17) PRT.PHY_STS_ATTEMPTS < 8 then ms 1 else ms 100) = true))
    ∧ ((e10.ph 17 = phFAULT) ∧ (e10.isLeader 17 = true) ∧ (e10.due ((e10.port 17).since + ms 10) = true))
    ∧ (((fol e10 17).isLeader 17 = false)) := by
  refine ⟨?_, ?_, ?_, ?_, ?_, ?_, ?_, ?_, ?_, ?_, ?_, ?_, ?_, ?_, ?_, ?_, ?_, ?_, ?_, ?_, ?_, ?_, ?_, ?_, ?_, ?_, ?_, ?_, ?_⟩ <;> decide +kernel

theorem witness_LockMarkersAndRetrain :
    ((e1.ph 17 ≠ phDISABLED) ∧ (e1.ph 17 ≠ phSLEEP))
    ∧ ((e11.ph 17 = phDISABLED ∨ e11.ph 17 = phSLEEP))
    ∧ ((phDETECT ≤ e12.ph 17) ∧ (e12.ph 17 ≤ phRETRAIN) ∧ (e12.ph 17 ≠ phACTIVE) ∧ ((e12.port 17).cfg.polAuto = true))
    ∧ ((phDETECT ≤ e13.ph 17) ∧ (e13.ph 17 ≤ phRETRAIN) ∧ (e13.ph 17 ≠ phACTIVE) ∧ ((e13.port 17).cfg.polAuto = false))
    ∧ ((blkType (194 : Word64) ≠ (194 : ℕ) ∨ e7.marksPort (17 : ℕ) = false))
    ∧ ((blkType am1 = 194) ∧ (e14.ph 17 = phALIGN) ∧ (e14.marksPort 17 = true) ∧ (blkGood am1 = true ∧ e14.amGood 17 am1 = true ∧ 60 ≤ 60))
    ∧ ((blkType am1 = 194) ∧ (e14.ph 17 = phALIGN) ∧ (e14.marksPort 17 = true) ∧ (blkGood am1 = true ∧ (e14.amGood 17 am1 = false ∨ 60 < 61)))
    ∧ ((blkType (194 : Word64) = (194 : ℕ)) ∧ (e14.ph 17 = phALIGN) ∧ (e14.marksPort 17 = true) ∧ (blkGood (194 : Word64) = false))
    ∧ (((e14.port 17).goodAm = 0 ∨ 9 = ((e14.port 17).lastAm + 1) % 65536))
    ∧ (((e14.port 17).badAm + 2 < 3))
    ∧ ((3 ≤ (e14.port 17).badAm + 3))
    ∧ ((e15.marksPort 17 = true) ∧ (e15.ph 17 = phACTIVE))
    ∧ ((e14.marksPort 17 = true))
    ∧ ((e7.marksPort 17 = false))
    ∧ (((e15.port 17).badCw < 8))
    ∧ ((e15.marksPort 17 = true ∧ (e15.port 17).goodAm < 2))
    ∧ ((e15.ph 17 = phACTIVE))
    ∧ ((8 ≤ (e15b.port 17).badCw))
    ∧ ((e15b.marksPort 17 = false ∨ 2 ≤ (e15b.port 17).goodAm))
    ∧ ((e14.ph 17 ≠ phACTIVE))
    ∧ ((e15.gb (pgPRT 16) PRT.GRP_CTL_LREF_SRC = false) ∧ ((e15.sf (pgPRT 16) PRT.GRP_STS_PLL_LOCK 0).gb (pgPRT 16) PRT.GRP_CTL_LREF_SRC = false))
    ∧ ((e14.ph 17 ≠ phACTIVE))
    ∧ ((e15.ph 17 = phACTIVE) ∧ (e15.apart 17 = false) ∧ (((e15.cnt (pgPRT 17) PRT.CNT_LOCK_LOSSES).errorNoEvent (pgPRT 17) 6 (1 % 4) 0 0).apart 17 = false) ∧ (((e15.cnt (pgPRT 17) PRT.CNT_LOCK_LOSSES).errorNoEvent (pgPRT 17) 6 (1 % 4) 0 0).lk (e15.anchorOf 17) = lkDISABLED ∨ ((e15.cnt (pgPRT 17) PRT.CNT_LOCK_LOSSES).errorNoEvent (pgPRT 17) 6 (1 % 4) 0 0).width (e15.anchorOf 17) = 1))
    ∧ ((e15.ph 17 = phACTIVE) ∧ (e15.apart 17 = false))
    ∧ ((e15c.ph 17 = phACTIVE) ∧ (e15c.apart 17 = true))
    ∧ ((e14.ph 17 ≠ phACTIVE))
    ∧ ((e16.ph 17 = phRETRAIN) ∧ (e16.due ((e16.port 17).since + us 150) = true))
    ∧ ((e16b.ph 17 = phRETRAIN) ∧ (e16b.due ((e16b.port 17).since + us 150) = false)) := by
  refine ⟨?_, ?_, ?_, ?_, ?_, ?_, ?_, ?_, ?_, ?_, ?_, ?_, ?_, ?_, ?_, ?_, ?_, ?_, ?_, ?_, ?_, ?_, ?_, ?_, ?_, ?_, ?_, ?_⟩ <;> decide +kernel

theorem witness_DiagnosticsAndSleep :
    ((e15.ph 17 = phACTIVE) ∧ (e15.mgq.cur = none))
    ∧ ((e6.ph 17 = phDUPLEX) ∧ (e6.mgq.cur = none) ∧ (0 = 0 ∨ 3 < 0) ∧ ((e6.failLink 17 none).mgq = e6.mgq))
    ∧ ((e16f.ph 17 = phFAULT) ∧ (e16f.mgq.cur = none) ∧ (2 = 1 ∨ 2 = 2 ∨ 2 = 3) ∧ ((e16f.sweepFault 17 2 22 false).mgq = e16f.mgq))
    ∧ ((e11.ph 17 = phDISABLED ∨ e11.ph 17 = phSLEEP ∨ e11.ph 17 = phWAKING) ∧ (e11.mgq.cur = none))
    ∧ ((e17.ph 17 = phACTIVE) ∧ (e17.gb (pgPRT 17) PRT.PHY_CTL_DIAG_LIVE = true) ∧ (e17.gf1 (pgPRT 17) PRT.DIAG_CTL_CHG_THR * List.foldl max 0 (List.map Int.natAbs (e17.port 17).taps) < (largestChange (e17.port 17).taps [10, 300, 200]).2 * 256))
    ∧ ((e17.ph 17 = phACTIVE) ∧ (e17.gb (pgPRT 17) PRT.PHY_CTL_DIAG_LIVE = true) ∧ ((largestChange (e17.port 17).taps [10, 300, -20]).2 * 256 ≤ e17.gf1 (pgPRT 17) PRT.DIAG_CTL_CHG_THR * List.foldl max 0 (List.map Int.natAbs (e17.port 17).taps)))
    ∧ ((e18.ph 17 = phACTIVE ∧ e18.gb (pgPRT 17) PRT.PHY_CTL_SLEEP_EN = true))
    ∧ ((e1.ph 17 ≠ phACTIVE ∨ e1.gb (pgPRT 17) PRT.PHY_CTL_SLEEP_EN = false))
    ∧ ((e19.sleepOn 17 = true) ∧ ((e19.link 17).held = []) ∧ ((e19.link 17).ackSince = none) ∧ ((e19.link 17).credits = 0) ∧ (e19.queuedFor 17 = false) ∧ (e19.due ((e19.link 17).lastUse + e19.gf1 (pgPRT 17) LNK.LINK_CTL_IDLE * us 10) = true))
    ∧ ((e19.sleepOn 17 = true) ∧ ((e19.link 17).held = []) ∧ ((e19.link 17).ackSince = none) ∧ ((e19.link 17).credits = 0) ∧ (e19.queuedFor 17 = false) ∧ ((e19.lard 17).sleepSent = none ∧ (e19.lard 17).sleepReq = true))
    ∧ ((e19.sleepOn 17 = true) ∧ ((e19.link 17).held = []) ∧ ((e19.link 17).ackSince = none) ∧ ((e19.link 17).credits = 0) ∧ (e19.queuedFor 17 = false) ∧ (blkType (mkBlk 195 0) = 195 ∧ blkGood (mkBlk 195 0) = true ∧ (e19.lard 17).sleepSent = none))
    ∧ ((e20.lk 17 = lkUP) ∧ (e20.sleepOn 17 = false) ∧ ((e20.lard 17).sleepSent = none) ∧ (blkType (mkBlk 195 0) = 195 ∧ blkGood (mkBlk 195 0) = true))
    ∧ ((e20.lk 17 = lkUP) ∧ (e20.sleepOn 17 = false) ∧ ((e20.lard 17).sleepSent = none) ∧ (blkType (195 : Word64) ≠ (195 : ℕ) ∨ blkGood (195 : Word64) = false))
    ∧ ((e21.lk 17 = lkUP) ∧ ((e21.lard 17).sleepSent = some 5) ∧ (blkGood (mkBlk 196 0) = true) ∧ (blkType (mkBlk 196 0) = 196))
    ∧ ((e21.lk 17 = lkUP) ∧ ((e21.lard 17).sleepSent = some 5) ∧ (blkGood (mkBlk 196 0) = true) ∧ (e21.due (5 + us 8) = true ∧ (e21.port 17).toSleep = none))
    ∧ ((e21b.lk 17 = lkUP) ∧ ((e21b.lard 17).sleepSent = some 5) ∧ (blkGood (mkBlk 197 0) = true) ∧ (blkType (mkBlk 197 0) = 197))
    ∧ ((e21b.lk 17 = lkUP) ∧ ((e21b.lard 17).sleepSent = some 5) ∧ (blkGood (mkBlk 197 0) = true) ∧ (e21b.due (5 + us 8) = false))
    ∧ ((e21b.lk 17 = lkUP) ∧ ((e21b.lard 17).sleepSent = some 5) ∧ (blkGood (mkBlk 195 0) = true) ∧ (blkType (mkBlk 195 0) = 195))
    ∧ (((e22.port 17).toSleep = some 5) ∧ (e22.due (5 + us 1) = true))
    ∧ (((e22b.port 17).toSleep = some 5) ∧ (e22b.due (5 + us 1) = false)) := by
  refine ⟨?_, ?_, ?_, ?_, ?_, ?_, ?_, ?_, ?_, ?_, ?_, ?_, ?_, ?_, ?_, ?_, ?_, ?_, ?_, ?_⟩ <;> decide +kernel

theorem witness_PortAndGroupWake :
    ((e24.ph 17 = phSLEEP) ∧ ((e24.port 17).armed = true) ∧ (e24.sys.hkOn = true) ∧ (e24.pwr = 0) ∧ ((e24.wakePort 17).2 = true))
    ∧ ((e25.ph 17 = phSLEEP) ∧ ((e25.port 17).armed = true) ∧ (e25.sys.hkOn = true) ∧ (e25.pwr = 0) ∧ ((e25.wakePort 17).2 = false))
    ∧ ((e26.ph 17 = phSLEEP) ∧ ((e26.port 17).armed = true) ∧ (e26.sys.hkOn = true) ∧ (e26.pwr ≠ 0))
    ∧ ((e22.ph 17 ≠ phSLEEP ∨ (e22.port 17).armed = false))
    ∧ ((((e25.cnt (pgPRT 17) PRT.CNT_WAKES).askCistern (pgPRT 17) (e25.wakeReqs (List.filter (fun m => e25.ph m == phSLEEP) (17 :: e25.crew (e25.anchorOf 17)).dedup))).2 = false) ∧ (((e25.cnt (pgPRT 17) PRT.CNT_WAKES).askCistern (pgPRT 17) (e25.wakeReqs (List.filter (fun m => e25.ph m == phSLEEP) (17 :: e25.crew (e25.anchorOf 17)).dedup))).1.groupAwake 17 = true) ∧ (((((e25.cnt (pgPRT 17) PRT.CNT_WAKES).askCistern (pgPRT 17) (e25.wakeReqs (List.filter (fun m => e25.ph m == phSLEEP) (17 :: e25.crew (e25.anchorOf 17)).dedup))).1.cnt (pgPRT 17) PRT.CNT_WAKE_REFUSED).error (pgPRT 17) 6 7 17 (totalDraw (e25.wakeReqs (List.filter (fun m => e25.ph m == phSLEEP) (17 :: e25.crew (e25.anchorOf 17)).dedup))).2 (totalDraw (e25.wakeReqs (List.filter (fun m => e25.ph m == phSLEEP) (17 :: e25.crew (e25.anchorOf 17)).dedup))).1).groupAwake 17 = true))
    ∧ ((e27.lk 17 = lkSLEEP) ∧ (e27.queuedFor 17 = true) ∧ (e27.naLocked 17 = false) ∧ ((e27.wakePort 17).2 = true))
    ∧ ((e28.lk 17 = lkSLEEP) ∧ (e28.queuedFor 17 = true) ∧ (e28.naLocked 17 = false) ∧ ((e28.wakePort 17).2 = false))
    ∧ ((e22.lk 17 ≠ lkSLEEP))
    ∧ ((1 < 64) ∧ (e29.gb (pgPRT (16 * 1)) PRT.GRP_STS_AWAKE = true) ∧ (e29.gb (pgPRT (16 * 1)) PRT.GRP_STS_PLL_LOCK = false) ∧ (e29.gb (pgPRT (16 * 1)) PRT.GRP_CTL_LREF_OE = false) ∧ (e29.gb (pgPRT (16 * 1)) PRT.GRP_CTL_LREF_SRC = false) ∧ ((e29.sf (pgPRT (16 * 1)) PRT.GRP_STS_PLL_LOCK 1).gb (pgPRT (16 * 1)) PRT.GRP_CTL_LREF_SRC = false) ∧ ((e29.sf (pgPRT (16 * 1)) PRT.GRP_STS_PLL_LOCK 1).gb (pgPRT (16 * 1)) PRT.GRP_CTL_LREF_OE = false))
    ∧ (((e30.port 17).wakeAt = some 7) ∧ (e30.ph 17 = phWAKING) ∧ (e30.due 7 = true))
    ∧ (((e30b.port 17).wakeAt = some 7) ∧ (e30b.ph 17 = phWAKING) ∧ (e30b.due 7 = false))
    ∧ (((e30.port 17).lockout = some 9) ∧ (e30.due 9 = true))
    ∧ (((e30b.port 17).lockout = some 9) ∧ (e30b.due 9 = false))
    ∧ ((1 < 64) ∧ (e32.gb (pgPRT (16 * 1)) PRT.GRP_CTL_AUTO_SLEEP = true) ∧ (e32.gb (pgPRT (16 * 1)) PRT.GRP_STS_AWAKE = true) ∧ (e32.groupPorts (16 * 1) = []) ∧ (∀ i < 16, e32.due ((e32.port (16 * 1 + i)).since + e32.gf1 (pgPRT (16 * 1)) PRT.GRP_CTL_IDLE * us 100) = true))
    ∧ ((1 < 64) ∧ (e33.gb (pgPRT (16 * 1)) PRT.GRP_CTL_AUTO_SLEEP = true) ∧ (e33.gb (pgPRT (16 * 1)) PRT.GRP_STS_AWAKE = true) ∧ (e33.groupPorts (16 * 1) ≠ []) ∧ (∀ m ∈ e33.groupPorts (16 * 1), e33.ph m = phSLEEP ∧ e33.due ((e33.port m).since + e33.gf1 (pgPRT (16 * 1)) PRT.GRP_CTL_IDLE * us 100) = true))
    ∧ ((18 ∈ e34.groupPorts (16 * 1)) ∧ (e34.ph 18 ≠ phSLEEP))
    ∧ ((r0.gb (pgPRT (16 * 1)) PRT.GRP_CTL_AUTO_SLEEP = false ∨ r0.gb (pgPRT (16 * 1)) PRT.GRP_STS_AWAKE = false)) := by
  refine ⟨?_, ?_, ?_, ?_, ?_, ?_, ?_, ?_, ?_, ?_, ?_, ?_, ?_, ?_, ?_, ?_, ?_⟩ <;> decide +kernel

end Sys2Proof.Machine.Wit06

/-! ### States of the statements, part 07 -/

namespace Sys2Proof.Machine.Wit07

def up (s : State) (a : Nat) : State := (s.sf (pgPRT a) LNK.LINK_STS_ANCHOR a).sf (pgPRT a) LNK.LINK_STS_STATE 3 |>.sf (pgPRT a) PRT.PHY_STS_STATE 8 |>.setPort a { Port.reset with rate := 3 }
def g0 : State := { up r0 17 with clock := 1000000000 }
def cwB : BitVec 2160 := BitVec.ofNat 2160 (2 ^ 2120 + 7 * 2 ^ 2130 + 14 * 2 ^ 2140 + 8 * 2 ^ 2150)
def rs0 : List Nat := List.replicate 216 0
def g07 : State := g0.setPort 17 { Port.reset with rate := 3, badCw := 7 }
def hw (f : Frame) (k : Nat) : Word64 := BitVec.ofNat 64 (fld f.hdr (64 * k) 64)
def blks (f : Frame) : List Word64 := hw f 0 :: hw f 1 :: f.words
def eofOf (f : Frame) : Word64 := mkBlk btEOF (crc32 ((blks f).flatMap (fun w => bytesOf 8 w.toNat)))
def fq : Frame := (mkEvent 3).withLink 0 1
def vx : State := g0.sf (pgPRT 17) (LNK.VC_CFG_SHARE 0) 64 |>.sf (pgPRT 17) (LNK.VC_CFG_SHARE 1) 64
def vfull : State := vx.setLink 17 { vx.link 17 with rxBuf := List.replicate 170 ((mkEvent 1).withLink 0 1) }
def fq9 : Frame := (mkEvent 3).withLink 0 7
def fq4 : Frame := (mkEvent 3).withLink 2048 1
def fq5 : Frame := (mkEvent 3).withLink 2049 1
def g1 : State := g0.setLink 17 { g0.link 17 with ackSince := some 5, ackUnits := 1, credits := 2, credSince := some 5 }
def cg : Cargo := ⟨mkEvent 1, none, 0, none, none⟩
def g2 : State := g0.setLink 17 { g0.link 17 with txq := [cg], win := 10 }
def g3 : State := g2.sf (pgPRT 17) LNK.RX_STS_XOFF_RCVD 0xFF
def g2s : State := g0.setLink 17 { g0.link 17 with txq := [cg], win := 0 }
def g4 : State := (g0.setLink 17 { g0.link 17 with held := [(4095, cg), (0, cg)], win := 8 }).sf (pgPRT 17) LNK.SEQ_STS_TX_NEXT 1 |>.sf (pgPRT 17) LNK.WIN_STS_WIN_INIT 16
def g5 : State := (g4.setLink 17 { g4.link 17 with inRow := 4, rowFrom := 4095 }).sf (pgPRT 17) LNK.ACK_CTL_REPLAY_MAX 4
def g6 : State := (g0.setLink 17 { g0.link 17 with emptyAt := some 4, win := 8 }).sf (pgPRT 17) LNK.WIN_STS_WIN_INIT 16 |>.sf (pgPRT 17) LNK.AUDIT_CTL_LEAK_TH 9
def g7 : State := g6.sf (pgPRT 17) LNK.AUDIT_CTL_LEAK_TH 8
def g8 : State := g0.setLink 17 { g0.link 17 with starve := some 4, txq := [cg], win := 0 }
def h1 : State := g0.sf (pgPRT 17) LNK.LINK_STS_STATE 2
def ib : Word64 := mkInit 0x1234 0 false true false 128 3
def h1b : State := h1.setLink 17 { h1.link 17 with init := { InitX.reset with lastInit := some ib, param := some (mkParam 0), gotAck := true } }
def h2 : State := (h1.setLink 17 { h1.link 17 with held := [(3, cg)], hasState := true, txq := [cg] }).sf (pgPRT 17) LNK.EPOCH_STATION 7
def h3 : State := on r0 [pgPRT 17]
def h4 : State := h3.sf (pgPRT 17) LNK.BOND_CTL_WIDTH 7
def h18 : State := g0.sf (pgPRT 18) LNK.LINK_STS_ANCHOR 17
def sp5 : Spare := ⟨3, 5, 9, none, false⟩
def h5 : State := g0.setLard 17 { Lard.reset with spare := some sp5 }
def h5b : State := g0.setLard 17 { Lard.reset with spare := some { sp5 with peer := some 4 } }
def hs : State := { (r0.sf (pgPRT 16) LNK.BOND_CTL_WIDTH 3 |>.sf (pgPRT 16) LNK.BOND_CTL_SPARE_EN 1 |>.sf (pgPRT 16) LNK.BOND_CTL_SPARE_PORT 24 |>.sf (pgPRT 16) LNK.LINK_STS_STATE 3) with clock := 1000000 }
def hsa : State := hs.sf (pgPRT 24) PRT.PHY_STS_STATE 8
def h6 : State := hs.sf (pgPRT 16) LNK.LINK_STS_STATE 4
def h7 : State := (h6.setLard 16 { Lard.reset with spare := some { sp5 with peer := some 4 } }).setLink 16 { Link.reset with cw := 10 }
def h8 : State := h6.setLard 16 { Lard.reset with spare := some sp5 }

theorem witness_CodewordsAndReceivedFrames :
    ((r0.ph 17 ≠ phACTIVE))
    ∧ ((r0.lk (r0.anchorOf 17) ≠ lkINIT) ∧ (r0.flows (r0.anchorOf 17) = false))
    ∧ ((g0.lk (g0.anchorOf 17) = lkINIT ∨ g0.flows (g0.anchorOf 17) = true) ∧ (g0.isStandby 17 = false) ∧ (17 ∈ g0.members (g0.anchorOf 17)))
    ∧ ((g0.flows 17 = true))
    ∧ ((blkType (mkBlk btEOF 0) = btEOF))
    ∧ ((r0.flows 17 = false))
    ∧ ((g0.flows 17 = true) ∧ ((g0.link 17).data = []) ∧ ((g0.link 17).corrupt = false))
    ∧ ((g0.flows 17 = true) ∧ (blkType (0 : Word64) ≠ btEOF ∨ blkGood (0 : Word64) = false))
    ∧ ((vx.flows 17 = true) ∧ (blkType (eofOf fq) = btEOF) ∧ (blkGood (eofOf fq) = true) ∧ ((vx.link 17).corrupt = false) ∧ ((vx.link 17).data = []) ∧ (([] : List Word64).length < 257) ∧ ((Frame.mk (BitVec.ofNat 128 (BitVec.toNat (hw fq 0) + BitVec.toNat (hw fq 1) * 2 ^ 64)) []).len8 = ([] : List Word64).length) ∧ (crc32 (List.flatMap (fun w => bytesOf 8 (BitVec.toNat w)) [hw fq 0, hw fq 1]) = fld (eofOf fq) 8 32) ∧ ((Frame.mk (BitVec.ofNat 128 (BitVec.toNat (hw fq 0) + BitVec.toNat (hw fq 1) * 2 ^ 64)) []).seq = vx.gf (pgPRT 17) LNK.RX_STS_RX_NEXT ∧ (Frame.mk (BitVec.ofNat 128 (BitVec.toNat (hw fq 0) + BitVec.toNat (hw fq 1) * 2 ^ 64)) []).vc < ((vx.setLink 17 (have __src := vx.link 17; Link.mk __src.held __src.win __src.inRow __src.rowFrom __src.timer __src.emptyAt __src.rxBuf __src.ackUnits __src.ackSince __src.credits __src.credSince false [] __src.peerPay __src.flowDue __src.init __src.hasState __src.localEp __src.upTotal __src.upSince vx.clock __src.starve __src.session __src.sweeping __src.stopped __src.txq __src.downAt __src.bond __src.toSend __src.sending __src.outAt __src.cw __src.cwAt __src.cwGap)).creditFrame 17 (([] : List Word64).length + 2)).vcs 17 ∧ (Frame.mk (BitVec.ofNat 128 (BitVec.toNat (hw fq 0) + BitVec.toNat (hw fq 1) * 2 ^ 64)) []).payload ≤ maxPayBytes (((vx.setLink 17 (have __src := vx.link 17; Link.mk __src.held __src.win __src.inRow __src.rowFrom __src.timer __src.emptyAt __src.rxBuf __src.ackUnits __src.ackSince __src.credits __src.credSince false [] __src.peerPay __src.flowDue __src.init __src.hasState __src.localEp __src.upTotal __src.upSince vx.clock __src.starve __src.session __src.sweeping __src.stopped __src.txq __src.downAt __src.bond __src.toSend __src.sending __src.outAt __src.cw __src.cwAt __src.cwGap)).creditFrame 17 (([] : List Word64).length + 2)).gf (pgPRT 17) (LNK.VC_CFG_MAXPAY (Frame.mk (BitVec.ofNat 128 (BitVec.toNat (hw fq 0) + BitVec.toNat (hw fq 1) * 2 ^ 64)) []).vc)) ∧ ↑((Frame.mk (BitVec.ofNat 128 (BitVec.toNat (hw fq 0) + BitVec.toNat (hw fq 1) * 2 ^ 64)) []).payload + 24) ≤ ((vx.setLink 17 (have __src := vx.link 17; Link.mk __src.held __src.win __src.inRow __src.rowFrom __src.timer __src.emptyAt __src.rxBuf __src.ackUnits __src.ackSince __src.credits __src.credSince false [] __src.peerPay __src.flowDue __src.init __src.hasState __src.localEp __src.upTotal __src.upSince vx.clock __src.starve __src.session __src.sweeping __src.stopped __src.txq __src.downAt __src.bond __src.toSend __src.sending __src.outAt __src.cw __src.cwAt __src.cwGap)).creditFrame 17 (([] : List Word64).length + 2)).rxFree 17 (Frame.mk (BitVec.ofNat 128 (BitVec.toNat (hw fq 0) + BitVec.toNat (hw fq 1) * 2 ^ 64)) []).vc))
    ∧ ((vfull.flows 17 = true) ∧ (blkType (eofOf fq) = btEOF) ∧ (blkGood (eofOf fq) = true) ∧ ((vfull.link 17).corrupt = false) ∧ ((vfull.link 17).data = []) ∧ (([] : List Word64).length < 257) ∧ ((Frame.mk (BitVec.ofNat 128 (BitVec.toNat (hw fq 0) + BitVec.toNat (hw fq 1) * 2 ^ 64)) []).len8 = ([] : List Word64).length) ∧ (crc32 (List.flatMap (fun w => bytesOf 8 (BitVec.toNat w)) [hw fq 0, hw fq 1]) = fld (eofOf fq) 8 32) ∧ ((Frame.mk (BitVec.ofNat 128 (BitVec.toNat (hw fq 0) + BitVec.toNat (hw fq 1) * 2 ^ 64)) []).seq = vfull.gf (pgPRT 17) LNK.RX_STS_RX_NEXT ∧ (Frame.mk (BitVec.ofNat 128 (BitVec.toNat (hw fq 0) + BitVec.toNat (hw fq 1) * 2 ^ 64)) []).vc < ((vfull.setLink 17 (have __src := vfull.link 17; Link.mk __src.held __src.win __src.inRow __src.rowFrom __src.timer __src.emptyAt __src.rxBuf __src.ackUnits __src.ackSince __src.credits __src.credSince false [] __src.peerPay __src.flowDue __src.init __src.hasState __src.localEp __src.upTotal __src.upSince vfull.clock __src.starve __src.session __src.sweeping __src.stopped __src.txq __src.downAt __src.bond __src.toSend __src.sending __src.outAt __src.cw __src.cwAt __src.cwGap)).creditFrame 17 (([] : List Word64).length + 2)).vcs 17 ∧ (Frame.mk (BitVec.ofNat 128 (BitVec.toNat (hw fq 0) + BitVec.toNat (hw fq 1) * 2 ^ 64)) []).payload ≤ maxPayBytes (((vfull.setLink 17 (have __src := vfull.link 17; Link.mk __src.held __src.win __src.inRow __src.rowFrom __src.timer __src.emptyAt __src.rxBuf __src.ackUnits __src.ackSince __src.credits __src.credSince false [] __src.peerPay __src.flowDue __src.init __src.hasState __src.localEp __src.upTotal __src.upSince vfull.clock __src.starve __src.session __src.sweeping __src.stopped __src.txq __src.downAt __src.bond __src.toSend __src.sending __src.outAt __src.cw __src.cwAt __src.cwGap)).creditFrame 17 (([] : List Word64).length + 2)).gf (pgPRT 17) (LNK.VC_CFG_MAXPAY (Frame.mk (BitVec.ofNat 128 (BitVec.toNat (hw fq 0) + BitVec.toNat (hw fq 1) * 2 ^ 64)) []).vc)) ∧ ((vfull.setLink 17 (have __src := vfull.link 17; Link.mk __src.held __src.win __src.inRow __src.rowFrom __src.timer __src.emptyAt __src.rxBuf __src.ackUnits __src.ackSince __src.credits __src.credSince false [] __src.peerPay __src.flowDue __src.init __src.hasState __src.localEp __src.upTotal __src.upSince vfull.clock __src.starve __src.session __src.sweeping __src.stopped __src.txq __src.downAt __src.bond __src.toSend __src.sending __src.outAt __src.cw __src.cwAt __src.cwGap)).creditFrame 17 (([] : List Word64).length + 2)).rxFree 17 (Frame.mk (BitVec.ofNat 128 (BitVec.toNat (hw fq 0) + BitVec.toNat (hw fq 1) * 2 ^ 64)) []).vc < ↑((Frame.mk (BitVec.ofNat 128 (BitVec.toNat (hw fq 0) + BitVec.toNat (hw fq 1) * 2 ^ 64)) []).payload + 24)))
    ∧ ((vx.flows 17 = true) ∧ (blkType (eofOf fq9) = btEOF) ∧ (blkGood (eofOf fq9) = true) ∧ ((vx.link 17).corrupt = false) ∧ ((vx.link 17).data = []) ∧ (([] : List Word64).length < 257) ∧ ((Frame.mk (BitVec.ofNat 128 (BitVec.toNat (hw fq9 0) + BitVec.toNat (hw fq9 1) * 2 ^ 64)) []).len8 = ([] : List Word64).length) ∧ (crc32 (List.flatMap (fun w => bytesOf 8 (BitVec.toNat w)) [hw fq9 0, hw fq9 1]) = fld (eofOf fq9) 8 32) ∧ ((Frame.mk (BitVec.ofNat 128 (BitVec.toNat (hw fq9 0) + BitVec.toNat (hw fq9 1) * 2 ^ 64)) []).seq = vx.gf (pgPRT 17) LNK.RX_STS_RX_NEXT ∧ ((vx.setLink 17 (have __src := vx.link 17; Link.mk __src.held __src.win __src.inRow __src.rowFrom __src.timer __src.emptyAt __src.rxBuf __src.ackUnits __src.ackSince __src.credits __src.credSince false [] __src.peerPay __src.flowDue __src.init __src.hasState __src.localEp __src.upTotal __src.upSince vx.clock __src.starve __src.session __src.sweeping __src.stopped __src.txq __src.downAt __src.bond __src.toSend __src.sending __src.outAt __src.cw __src.cwAt __src.cwGap)).creditFrame 17 (([] : List Word64).length + 2)).vcs 17 ≤ (Frame.mk (BitVec.ofNat 128 (BitVec.toNat (hw fq9 0) + BitVec.toNat (hw fq9 1) * 2 ^ 64)) []).vc))
    ∧ ((vx.flows 17 = true) ∧ (blkType (mkBlk btEOF 5) = btEOF) ∧ (blkGood (mkBlk btEOF 5) = true) ∧ (vx.gb (pgPRT 17) LNK.RX_STS_NAK_STATE = false) ∧ ((vx.link 17).data = []) ∧ (([] : List Word64).length < 257) ∧ ((crc32 (List.flatMap (fun w => bytesOf 8 (BitVec.toNat w)) [hw fq9 0, hw fq9 1]) == fld (mkBlk btEOF 5) 8 32 && (Frame.mk (BitVec.ofNat 128 (BitVec.toNat (hw fq9 0) + BitVec.toNat (hw fq9 1) * 2 ^ 64)) []).len8 == ([] : List Word64).length && !(vx.link 17).corrupt) = false ∧ (((vx.setLink 17 (have __src := vx.link 17; Link.mk __src.held __src.win __src.inRow __src.rowFrom __src.timer __src.emptyAt __src.rxBuf __src.ackUnits __src.ackSince __src.credits __src.credSince false [] __src.peerPay __src.flowDue __src.init __src.hasState __src.localEp __src.upTotal __src.upSince vx.clock __src.starve __src.session __src.sweeping __src.stopped __src.txq __src.downAt __src.bond __src.toSend __src.sending __src.outAt __src.cw __src.cwAt __src.cwGap)).creditFrame 17 (([] : List Word64).length + 2)).cnt (pgPRT 17) LNK.CNT_CRC_ERRORS).gb (pgPRT 17) LNK.RX_STS_NAK_STATE = false))
    ∧ ((vx.flows 17 = true) ∧ (blkType (eofOf fq4) = btEOF) ∧ (blkGood (eofOf fq4) = true) ∧ (vx.gb (pgPRT 17) LNK.RX_STS_NAK_STATE = false) ∧ ((vx.link 17).data = []) ∧ (([] : List Word64).length < 257) ∧ ((crc32 (List.flatMap (fun w => bytesOf 8 (BitVec.toNat w)) [hw fq4 0, hw fq4 1]) == fld (eofOf fq4) 8 32 && (Frame.mk (BitVec.ofNat 128 (BitVec.toNat (hw fq4 0) + BitVec.toNat (hw fq4 1) * 2 ^ 64)) []).len8 == ([] : List Word64).length && !(vx.link 17).corrupt) = true ∧ (Frame.mk (BitVec.ofNat 128 (BitVec.toNat (hw fq4 0) + BitVec.toNat (hw fq4 1) * 2 ^ 64)) []).seq ≠ vx.gf (pgPRT 17) LNK.RX_STS_RX_NEXT ∧ subMod (Frame.mk (BitVec.ofNat 128 (BitVec.toNat (hw fq4 0) + BitVec.toNat (hw fq4 1) * 2 ^ 64)) []).seq (vx.gf (pgPRT 17) LNK.RX_STS_RX_NEXT) 12 ≤ 2048))
    ∧ ((vx.flows 17 = true) ∧ (blkType (eofOf fq5) = btEOF) ∧ (blkGood (eofOf fq5) = true) ∧ (vx.gb (pgPRT 17) LNK.RX_STS_NAK_STATE = false) ∧ ((vx.link 17).data = []) ∧ (([] : List Word64).length < 257) ∧ ((crc32 (List.flatMap (fun w => bytesOf 8 (BitVec.toNat w)) [hw fq5 0, hw fq5 1]) == fld (eofOf fq5) 8 32 && (Frame.mk (BitVec.ofNat 128 (BitVec.toNat (hw fq5 0) + BitVec.toNat (hw fq5 1) * 2 ^ 64)) []).len8 == ([] : List Word64).length && !(vx.link 17).corrupt) = true ∧ (Frame.mk (BitVec.ofNat 128 (BitVec.toNat (hw fq5 0) + BitVec.toNat (hw fq5 1) * 2 ^ 64)) []).seq ≠ vx.gf (pgPRT 17) LNK.RX_STS_RX_NEXT ∧ 2048 < subMod (Frame.mk (BitVec.ofNat 128 (BitVec.toNat (hw fq5 0) + BitVec.toNat (hw fq5 1) * 2 ^ 64)) []).seq (vx.gf (pgPRT 17) LNK.RX_STS_RX_NEXT) 12))
    ∧ ((g1.flows 17 = true) ∧ ((g1.link 17).ackSince = some 5) ∧ (g1.due (5 + g1.gf1 (pgPRT 17) LNK.ACK_CTL_ACK_T * 10) = true))
    ∧ (((g0.link 17).ackSince = none) ∧ ((g0.link 17).credSince = none))
    ∧ ((g0.flows 17 = true) ∧ (blkType (mkFlow 129) = btFLOW ∧ blkGood (mkFlow 129) = true))
    ∧ ((g0.flows 17 = true) ∧ (blkType (0 : Word64) ≠ btFLOW ∨ blkGood (0 : Word64) = false))
    ∧ ((g0.flows 17 = true))
    ∧ ((r0.flows 17 = false)) := by
  refine ⟨?_, ?_, ?_, ?_, ?_, ?_, ?_, ?_, ?_, ?_, ?_, ?_, ?_, ?_, ?_, ?_, ?_, ?_, ?_, ?_⟩ <;> decide +kernel

theorem witness_SendingAndReplay :
    (((g2.link 17).txq = [cg]) ∧ (g2.startView 17 cg.frame = StartView.ready))
    ∧ ((g2.startView 17 cg.frame = StartView.ready) ∧ ((g2.link 17).txq = [cg]))
    ∧ (((g3.link 17).txq = [cg]) ∧ (g3.startView 17 cg.frame = StartView.off ∨ g3.startView 17 cg.frame = StartView.down))
    ∧ (((g2s.link 17).txq = [cg]) ∧ (g2s.startView 17 cg.frame = StartView.stalled))
    ∧ (((g0.link 17).txq = []))
    ∧ ((g4.flows 17 = true) ∧ (blkType (mkAck false 4095 3 0) = btACK) ∧ (blkGood (mkAck false 4095 3 0) = true) ∧ (g4.releasable 17 (mkAck false 4095 3 0) false = some 1) ∧ (0 < 1))
    ∧ ((g4.flows 17 = true) ∧ (blkType (mkAck false 1 3 0) = btACK) ∧ (blkGood (mkAck false 1 3 0) = true) ∧ (g4.releasable 17 (mkAck false 1 3 0) false = none))
    ∧ ((g4.flows 17 = true) ∧ (blkType (mkAck true 0 0 0) = btNAK) ∧ (blkGood (mkAck true 0 0 0) = true) ∧ ((g4.cnt (pgPRT 17) LNK.CNT_NAKS_RX).releasable 17 (mkAck true 0 0 0) true = some 1) ∧ ((((((g4.cnt (pgPRT 17) LNK.CNT_NAKS_RX).release 17 1).takeCredit 17 (mkAck true 0 0 0)).link 17).held.any fun e => e.1 == ackSeq (mkAck true 0 0 0)) = true ∧ (((g4.cnt (pgPRT 17) LNK.CNT_NAKS_RX).release 17 1).takeCredit 17 (mkAck true 0 0 0)).replayPast 17 (ackSeq (mkAck true 0 0 0)) = false))
    ∧ ((g4.flows 17 = true) ∧ (blkType (mkAck true 1 0 0) = btNAK) ∧ (blkGood (mkAck true 1 0 0) = true) ∧ ((g4.cnt (pgPRT 17) LNK.CNT_NAKS_RX).releasable 17 (mkAck true 1 0 0) true = some 2) ∧ ((((((g4.cnt (pgPRT 17) LNK.CNT_NAKS_RX).release 17 2).takeCredit 17 (mkAck true 1 0 0)).link 17).held.any fun e => e.1 == ackSeq (mkAck true 1 0 0)) = false ∨ (((g4.cnt (pgPRT 17) LNK.CNT_NAKS_RX).release 17 2).takeCredit 17 (mkAck true 1 0 0)).replayPast 17 (ackSeq (mkAck true 1 0 0)) = true))
    ∧ (((g4.link 17).held = [(4095, cg), (0, cg)]) ∧ (g4.flows 17 = true) ∧ (g4.due ((g4.link 17).timer + us (g4.gf1 (pgPRT 17) LNK.ACK_CTL_REPLAY_US)) = true) ∧ ((g4.link 17).inRow < g4.gf1 (pgPRT 17) LNK.ACK_CTL_REPLAY_MAX ∨ (g4.link 17).rowFrom ≠ 4095))
    ∧ (((g5.link 17).held = [(4095, cg), (0, cg)]) ∧ (g5.flows 17 = true) ∧ (g5.due ((g5.link 17).timer + us (g5.gf1 (pgPRT 17) LNK.ACK_CTL_REPLAY_US)) = true) ∧ (g5.gf1 (pgPRT 17) LNK.ACK_CTL_REPLAY_MAX ≤ (g5.link 17).inRow ∧ (g5.link 17).rowFrom = 4095))
    ∧ (((g0.link 17).held = []))
    ∧ (((g6.link 17).emptyAt = some 4) ∧ (g6.flows 17 = true) ∧ ((g6.link 17).held = []) ∧ (g6.due (4 + 2 * g6.gf1 (pgPRT 17) LNK.ACK_CTL_ACK_T * 10) = true) ∧ (g6.gf (pgPRT 17) LNK.AUDIT_CTL_LEAK_TH = 0 ∨ min 4095 (↑(g6.gf (pgPRT 17) LNK.WIN_STS_WIN_INIT) - (g6.link 17).win).toNat < g6.gf (pgPRT 17) LNK.AUDIT_CTL_LEAK_TH))
    ∧ (((g7.link 17).emptyAt = some 4) ∧ (g7.flows 17 = true) ∧ ((g7.link 17).held = []) ∧ (g7.due (4 + 2 * g7.gf1 (pgPRT 17) LNK.ACK_CTL_ACK_T * 10) = true) ∧ (g7.gf (pgPRT 17) LNK.AUDIT_CTL_LEAK_TH ≠ 0 ∧ g7.gf (pgPRT 17) LNK.AUDIT_CTL_LEAK_TH ≤ min 4095 (↑(g7.gf (pgPRT 17) LNK.WIN_STS_WIN_INIT) - (g7.link 17).win).toNat))
    ∧ (((g0.link 17).emptyAt = none))
    ∧ (((g8.link 17).starve = some 4) ∧ (g8.flows 17 = true) ∧ (g8.starved 17 = true) ∧ (g8.due (4 + us (g8.gf1 (pgPRT 17) LNK.ACK_CTL_REPLAY_US)) = true))
    ∧ (((g0.link 17).starve = none ∨ g0.starved 17 = false))
    ∧ ((g0.lk 17 = lkUP))
    ∧ ((r0.lk 17 ≠ lkUP)) := by
  refine ⟨?_, ?_, ?_, ?_, ?_, ?_, ?_, ?_, ?_, ?_, ?_, ?_, ?_, ?_, ?_, ?_, ?_, ?_, ?_⟩ <;> decide +kernel

theorem witness_BringingALinkUpAndDown :
    ((blkType ib = btINIT) ∧ (blkGood ib = true) ∧ (blkType (mkParam 0) = btPARAM) ∧ (blkGood (mkParam 0) = true) ∧ (h1.lk 17 = lkINIT) ∧ (initCascade ib = h1.cascadeLink 17))
    ∧ (((h1b.link 17).init.lastInit = some ib) ∧ ((h1b.link 17).init.param = some (mkParam 0)) ∧ (h1b.lk 17 = lkINIT))
    ∧ ((blkType (0 : Word64) ≠ btINIT ∨ blkGood (0 : Word64) = false) ∧ (blkType (0 : Word64) ≠ btPARAM ∨ blkGood (0 : Word64) = false))
    ∧ ((blkType (mkInit 1 0 false false true 128 0) = btINIT) ∧ (blkGood (mkInit 1 0 false false true 128 0) = true) ∧ (h1.lk 17 = lkINIT) ∧ (initCascade (mkInit 1 0 false false true 128 0) ≠ h1.cascadeLink 17))
    ∧ ((17 < 1024))
    ∧ ((h1.lk 17 = lkINIT) ∧ (h1.due ((h1.link 17).init.start + us 100) = true))
    ∧ ((g0.lk 17 ≠ lkINIT))
    ∧ ((h3.lk 17 = lkDISABLED) ∧ (h3.anchorOf 17 = 17) ∧ (h3.gb (pgPRT 17) LNK.LINK_CTL_LINK_EN = false) ∧ ((h3.sf (pgPRT 17) LNK.LINK_CTL_LINK_EN 1).cfgError 17 = none) ∧ (h3.gb (pgPRT 17) LNK.BOND_CTL_SPARE_EN = false) ∧ ((((((h3.sf (pgPRT 17) LNK.LINK_CTL_LINK_EN 1).sf (pgPRT 17) LNK.LINK_STS_CFG_ERR 0).sf (pgPRT 17) LNK.LINK_STS_SPARE_IN_USE 0).setLk 17 lkDOWN).each (((((h3.sf (pgPRT 17) LNK.LINK_CTL_LINK_EN 1).sf (pgPRT 17) LNK.LINK_STS_CFG_ERR 0).sf (pgPRT 17) LNK.LINK_STS_SPARE_IN_USE 0).setLk 17 lkDOWN).members 17) fun n s => (s.sf (pgPRT n) LNK.LINK_STS_ANCHOR 17).sf (pgPRT n) LNK.LINK_STS_MEMBER 1).spareOf 17 = none) ∧ (((((h3.sf (pgPRT 17) LNK.LINK_CTL_LINK_EN 1).sf (pgPRT 17) LNK.LINK_STS_CFG_ERR 0).sf (pgPRT 17) LNK.LINK_STS_SPARE_IN_USE 0).setLk 17 lkDOWN).spareOf 17 = none))
    ∧ ((h4.lk 17 = lkDISABLED) ∧ (h4.anchorOf 17 = 17) ∧ (h4.gb (pgPRT 17) LNK.LINK_CTL_LINK_EN = false) ∧ ((h4.sf (pgPRT 17) LNK.LINK_CTL_LINK_EN 1).cfgError 17 = some (2, 0)))
    ∧ ((g0.lk 17 ≠ lkDISABLED ∨ g0.anchorOf 17 ≠ 17 ∨ g0.gb (pgPRT 17) LNK.LINK_CTL_LINK_EN = true))
    ∧ ((h18.anchorOf 18 ≠ 18))
    ∧ ((g4.lk 17 ≠ lkDISABLED) ∧ (g4.anchorOf 17 = 17))
    ∧ ((h4.lk 17 = lkDISABLED) ∧ (h4.anchorOf 17 = 17))
    ∧ ((h5.flows 17 = true) ∧ (blkType (mkSpare 3 true 9 0) = btSPARE) ∧ (blkGood (mkSpare 3 true 9 0) = true) ∧ (fld (mkSpare 3 true 9 0) 24 16 = h5.gf (pgPRT ((h5.members 17).headD 17)) PRT.PEER_CAP_RX_ID) ∧ ((h5.lard 17).spare = some sp5) ∧ (sp5.lane = spareLane (mkSpare 3 true 9 0) ∧ sp5.peer = none))
    ∧ ((h5.flows 17 = true) ∧ (blkType (mkSpare 2 true 9 0) = btSPARE) ∧ (blkGood (mkSpare 2 true 9 0) = true) ∧ (fld (mkSpare 2 true 9 0) 24 16 = h5.gf (pgPRT ((h5.members 17).headD 17)) PRT.PEER_CAP_RX_ID) ∧ ((h5.lard 17).spare = some sp5) ∧ (sp5.lane ≠ spareLane (mkSpare 2 true 9 0)))
    ∧ ((h5b.flows 17 = true) ∧ (blkType (mkSpare 3 true 9 0) = btSPARE) ∧ (blkGood (mkSpare 3 true 9 0) = true) ∧ (fld (mkSpare 3 true 9 0) 24 16 = h5b.gf (pgPRT ((h5b.members 17).headD 17)) PRT.PEER_CAP_RX_ID) ∧ ((h5b.lard 17).spare = some (let __src := sp5; Spare.mk __src.lane __src.start __src.own (some 4) __src.answer)) ∧ ((let __src := sp5; Spare.mk __src.lane __src.start __src.own (some 4) __src.answer).lane = spareLane (mkSpare 3 true 9 0) ∧ (let __src := sp5; Spare.mk __src.lane __src.start __src.own (some 4) __src.answer).peer ≠ none))
    ∧ ((g0.lk 17 = lkUP) ∧ (blkType (mkSpare 2 false 9 0) = btSPARE) ∧ (blkGood (mkSpare 2 false 9 0) = true) ∧ (fld (mkSpare 2 false 9 0) 24 16 = g0.gf (pgPRT ((g0.members 17).headD 17)) PRT.PEER_CAP_RX_ID) ∧ ((g0.lard 17).spare = none) ∧ (g0.gb (pgPRT 17) LNK.LINK_STS_SPARE_IN_USE = false) ∧ (spareEcho (mkSpare 2 false 9 0) = false) ∧ (g0.spareOf 17 = none))
    ∧ ((hs.lk 16 = lkUP) ∧ (blkType (mkSpare 2 false 9 0) = btSPARE) ∧ (blkGood (mkSpare 2 false 9 0) = true) ∧ (fld (mkSpare 2 false 9 0) 24 16 = hs.gf (pgPRT ((hs.members 16).headD 16)) PRT.PEER_CAP_RX_ID) ∧ ((hs.lard 16).spare = none) ∧ (hs.gb (pgPRT 16) LNK.LINK_STS_SPARE_IN_USE = false) ∧ (spareEcho (mkSpare 2 false 9 0) = false) ∧ (hs.spareOf 16 = some 24) ∧ (hs.ph 24 ≠ phACTIVE))
    ∧ ((hsa.lk 16 = lkUP) ∧ (blkType (mkSpare 2 false 9 0) = btSPARE) ∧ (blkGood (mkSpare 2 false 9 0) = true) ∧ (fld (mkSpare 2 false 9 0) 24 16 = hsa.gf (pgPRT ((hsa.members 16).headD 16)) PRT.PEER_CAP_RX_ID) ∧ ((hsa.lard 16).spare = none) ∧ (hsa.gb (pgPRT 16) LNK.LINK_STS_SPARE_IN_USE = false) ∧ (spareEcho (mkSpare 2 false 9 0) = false) ∧ (hsa.spareOf 16 = some 24) ∧ (hsa.ph 24 = phACTIVE))
    ∧ ((g0.flows 17 = true) ∧ (blkType (mkSpare 2 false 9 1) = btSPARE) ∧ (blkGood (mkSpare 2 false 9 1) = true) ∧ (fld (mkSpare 2 false 9 1) 24 16 ≠ g0.gf (pgPRT ((g0.members 17).headD 17)) PRT.PEER_CAP_RX_ID))
    ∧ (((h7.lard 16).spare = some (let __src := sp5; Spare.mk __src.lane __src.start __src.own (some 4) __src.answer)) ∧ (h7.spareOf 16 = some 24) ∧ (h7.lk 16 = lkSPARING) ∧ ((let __src := sp5; Spare.mk __src.lane __src.start __src.own (some 4) __src.answer).peer ≠ none) ∧ (h7.switched 16 (let __src := sp5; Spare.mk __src.lane __src.start __src.own (some 4) __src.answer) = true))
    ∧ (((h8.lard 16).spare = some sp5) ∧ (h8.lk 16 = lkSPARING) ∧ (sp5.peer = none) ∧ (h8.due (sp5.start + us 100) = true))
    ∧ (((g0.lard 17).spare = none)) := by
  refine ⟨?_, ?_, ?_, ?_, ?_, ?_, ?_, ?_, ?_, ?_, ?_, ?_, ?_, ?_, ?_, ?_, ?_, ?_, ?_, ?_, ?_, ?_, ?_⟩ <;> decide +kernel

theorem decode_zero : rsDecode 0 = some (List.replicate 216 0, false) := by
  have h : rsSymbols 0 = List.replicate 216 0 ++ [] := by decide +kernel
  have hs : rsSyndromes (rsSymbols 0) = [0, 0, 0, 0, 0, 0] := by rw [h, rsSyndromes_zeros]; decide +kernel
  unfold rsDecode
  simp only [hs, List.all_cons, List.all_nil, beq_self_eq_true, Bool.and_self, if_true]
  rw [h, List.append_nil]
theorem decode_none : rsDecode cwB = none := by
  have h : rsSymbols cwB = List.replicate 212 0 ++ [1, 7, 14, 8] := by decide +kernel
  have hs : rsSyndromes (rsSymbols cwB) = rsSyndromes [1, 7, 14, 8] := by rw [h, rsSyndromes_zeros]
  have h1 : (rsSyndromes [1, 7, 14, 8]).all (· == 0) = false := by decide +kernel
  have h2 : rsLocator (rsSyndromes [1, 7, 14, 8]) 1 = none := by decide +kernel
  have h3 : rsLocator (rsSyndromes [1, 7, 14, 8]) 2 = none := by decide +kernel
  have h4 : rsLocator (rsSyndromes [1, 7, 14, 8]) 3 = none := by decide +kernel
  unfold rsDecode
  simp only [hs, h1, rsTry, h2, h3, h4]
  rfl

theorem witness_CodewordsAndReceivedFrames_codewords :
    (g0.ph 17 = phACTIVE ∧ rsDecode cwB = none) ∧ (g0.ph 17 = phACTIVE ∧ rsDecode 0 = some (rs0, false)) :=
  ⟨⟨by decide +kernel, decode_none⟩, by decide +kernel, decode_zero⟩

end Sys2Proof.Machine.Wit07

/-! ### States of the statements, part 08 -/

namespace Sys2Proof.Machine.Wit08

def up (s : State) (a : Nat) : State := (s.sf (pgPRT a) LNK.LINK_STS_ANCHOR a).sf (pgPRT a) LNK.LINK_STS_STATE 3 |>.sf (pgPRT a) PRT.PHY_STS_STATE 8 |>.setPort a { Port.reset with rate := 3 }
def rx (s : State) (a : Nat) (f : Frame) : State := s.setLink a { s.link a with rxBuf := (s.link a).rxBuf ++ [f] }
def fm : Frame := mkFrame (opMSG + 2 * 2 ^ 5 + 0x123 * 2 ^ 8) [1, 2]
def k0 : State := rx { up (up r0 17) 33 with clock := 1000000000 } 17 fm
def k1 : State := on k0 [pgWAD, pgSWC]
def k2 : State := k1.st .ste 0x123 T_STE.TYPE 1 |>.st .ste 0x123 T_STE.PORT 40
def k3 : State := (k2.st .ste 0x123 T_STE.PORT 33).st .acc (portQueue 17 2) T_ACC.MIN 4
def k4 : State := k1.sf pgWAD HDR.PAGE_CTL_QUIESCE 1
def frsp : Frame := { mkFrame (opRSP + 5 * 2 ^ 5 + 0x123 * 2 ^ 8) [1] with hdr := (mkFrame (opRSP + 5 * 2 ^ 5) [1]).hdr ||| BitVec.ofNat 128 (2 ^ 12) }
def k4r : State := let s := rx (rx { up (up r0 17) 33 with clock := 1000000000 } 17 frsp) 17 fm; s.setLard 17 { s.lard 17 with tags := [⟨frsp.tag, .access 4 0, 0⟩] }
def gm : GFrame := msgFrame fm (portQueue 17 2) 17 false (some false)
def k5 : State := k3.st .que 9 T_QUE.WRED_EN 1 |>.st .que 9 T_QUE.AVG 100 |>.st .que 9 T_QUE.DEPTH 100
def k6 : State := k5.st .wrp 0 T_WRP.G_MAX_TH 200 |>.st .wrp 0 T_WRP.G_MIN_TH 101
def gw : GWait := ⟨gm, [(portQueue 33 2, none)], false⟩
def k7 : State := { k3 with gal := { k3.gal with waiting := [gw] } }
def k8 : State := { k3 with host := { k3.host with stalled := [.configRequest 0 .memSpace none 1, .configRequest 0 .memSpace none 2] } }
def k9 : State := { k8 with gal := { k8.gal with waiting := [⟨gm, [(portQueue 33 2, none)], true⟩] } }
def m0 : State := (k3.tryStore gm [(portQueue 33 2, none)]).1
def rf : Ref := ⟨0, 0, 0, none⟩
def gs : GFrame := { gm with cells := [0], refs := 1 }
def m1 : State := (m0.setLink 33 { Link.reset with win := 100 }).sf (pgPRT 33) LNK.VC_CTL_VCS_USED 3
def gq : GFrame := { gs with load := .request 4 0 }
def m1q : State := m1.putFrame 0 gq
def hm0 : State := ((k3.st .hcx 5 T_HCX.STATE hlBOUND).st .hcx 5 T_HCX.RX_EN 1 |>.sf pgHST HST.LINK_STS_DL_UP 1).setCfg 0 .busMaster 1
def gh : GFrame := { gs with load := .rsp 9 0, src := 99 }
def m2 : State := (hm0.tryStore { gm with load := .rsp 9 0, src := 99 } [(hostQueue 5 2, none)]).1
def m2b : State := (hm0.tryStore gm [(hostQueue 5 2, none)]).1
def gsp : GFrame := { gs with cells := [], spill := some 1 }
def m3 : State := m0.putFrame 0 gsp
def gspo : GFrame := { gsp with hall := some 3, gen := 7 }
def m4 : State := m0.putFrame 0 gspo
def m5 : State := m3.sf pgSWC SWC.RSV_CTL_RSV_CELLS 0xFFFF |>.sf pgSWC SWC.GAL_STS_RETIRED_N 63
def gb1 : GFrame := { gsp with back := 1 }
def m6 : State := m0.putFrame 0 gb1
def m7 : State := m0.sf pgSWC SWC.QFLUSH_BUSY 1
def m8 : State := (m0.putFrame 0 { gs with mc := true }).sf pgSWC SWC.MC_CTL_DETACH_MS 1 |>.sf (pgPRT 33) LNK.LINK_STS_STATE 1
def m9 : State := m0.sf pgSWC SWC.GAL_STS_RETIRED_N 4
def m10 : State := m0.sf pgSWC SWC.SWC_CTL_AUTO_RETIRE 1
def m11 : State := { k3 with gal := { k3.gal with retiring := [(3, true)] } }
def m12 : State := m0.sf pgSWC SWC.AUD_CTL_EN 1
def m13 : State := { m0 with gal := { m0.gal with audit := some 5 } }
def m14 : State := { m0 with gal := { m0.gal with audit := some 5, taken := [9, 0], unowned := [9] } }

theorem witness_FromMessageToGallery :
    ((k0.cascadeLink 17 = false) ∧ (k0.holdsOff pgSWC = false) ∧ (k0.active pgPOL = false) ∧ (k0.active pgWAD = false) ∧ (k0.rxHead 17 opMSG = some fm) ∧ (k0.behindRsp 17 fm = false) ∧ ((k0.rxTake 17 fm).active pgPOL = false) ∧ ((k0.rxTake 17 fm).active pgWAD = false))
    ∧ ((k1.cascadeLink 17 = false) ∧ (k1.holdsOff pgSWC = false) ∧ (k1.holdsOff pgWAD = false) ∧ (k1.active pgPOL = false) ∧ (k1.rxHead 17 opMSG = some fm) ∧ (k1.behindRsp 17 fm = false) ∧ ((k1.rxTake 17 fm).active pgPOL = false) ∧ ((k1.rxTake 17 fm).active pgWAD = true) ∧ ((k1.rxTake 17 fm).gb pgWAD HDR.PAGE_CTL_EN = true) ∧ (((k1.rxTake 17 fm).cnt pgWAD WAD.CNT_LOOKUPS).active pgPOL = false) ∧ (((k1.rxTake 17 fm).cnt pgWAD WAD.CNT_LOOKUPS).tb Tbl.ste (fm.fromPort 17 k1.device).dtag T_STE.CLASS_SET = false) ∧ (((k1.rxTake 17 fm).cnt pgWAD WAD.CNT_LOOKUPS).tf Tbl.ste (fm.fromPort 17 k1.device).dtag T_STE.TYPE = 0 ∨ 4 < ((k1.rxTake 17 fm).cnt pgWAD WAD.CNT_LOOKUPS).tf Tbl.ste (fm.fromPort 17 k1.device).dtag T_STE.TYPE))
    ∧ ((k2.cascadeLink 17 = false) ∧ (k2.holdsOff pgSWC = false) ∧ (k2.holdsOff pgWAD = false) ∧ (k2.active pgPOL = false) ∧ (k2.rxHead 17 opMSG = some fm) ∧ (k2.behindRsp 17 fm = false) ∧ ((k2.rxTake 17 fm).active pgPOL = false) ∧ ((k2.rxTake 17 fm).active pgWAD = true) ∧ ((k2.rxTake 17 fm).gb pgWAD HDR.PAGE_CTL_EN = true) ∧ (((k2.rxTake 17 fm).cnt pgWAD WAD.CNT_LOOKUPS).active pgPOL = false) ∧ (((k2.rxTake 17 fm).cnt pgWAD WAD.CNT_LOOKUPS).tb Tbl.ste (fm.fromPort 17 k2.device).dtag T_STE.CLASS_SET = false) ∧ (((k2.rxTake 17 fm).cnt pgWAD WAD.CNT_LOOKUPS).tf Tbl.ste (fm.fromPort 17 k2.device).dtag T_STE.TYPE = 1 ∧ ((k2.rxTake 17 fm).cnt pgWAD WAD.CNT_LOOKUPS).linkEnabled (((k2.rxTake 17 fm).cnt pgWAD WAD.CNT_LOOKUPS).tf Tbl.ste (fm.fromPort 17 k2.device).dtag T_STE.PORT) = false))
    ∧ ((k3.cascadeLink 17 = false) ∧ (k3.holdsOff pgSWC = false) ∧ (k3.holdsOff pgWAD = false) ∧ (k3.active pgPOL = false) ∧ (k3.rxHead 17 opMSG = some fm) ∧ (k3.behindRsp 17 fm = false) ∧ ((k3.rxTake 17 fm).active pgPOL = false) ∧ ((k3.rxTake 17 fm).active pgWAD = true) ∧ ((k3.rxTake 17 fm).gb pgWAD HDR.PAGE_CTL_EN = true) ∧ (((k3.rxTake 17 fm).cnt pgWAD WAD.CNT_LOOKUPS).active pgPOL = false) ∧ (((k3.rxTake 17 fm).cnt pgWAD WAD.CNT_LOOKUPS).tb Tbl.ste (fm.fromPort 17 k3.device).dtag T_STE.CLASS_SET = false) ∧ (((k3.rxTake 17 fm).cnt pgWAD WAD.CNT_LOOKUPS).tf Tbl.ste (fm.fromPort 17 k3.device).dtag T_STE.TYPE = 1 ∧ ((k3.rxTake 17 fm).cnt pgWAD WAD.CNT_LOOKUPS).linkEnabled (((k3.rxTake 17 fm).cnt pgWAD WAD.CNT_LOOKUPS).tf Tbl.ste (fm.fromPort 17 k3.device).dtag T_STE.PORT) = true ∧ ((k3.rxTake 17 fm).cnt pgWAD WAD.CNT_LOOKUPS).lockedOut (portQueue (((k3.rxTake 17 fm).cnt pgWAD WAD.CNT_LOOKUPS).tf Tbl.ste (fm.fromPort 17 k3.device).dtag T_STE.PORT) (fm.fromPort 17 k3.device).cls) = false ∧ ((k3.rxTake 17 fm).cnt pgWAD WAD.CNT_LOOKUPS).tb Tbl.que (portQueue (((k3.rxTake 17 fm).cnt pgWAD WAD.CNT_LOOKUPS).tf Tbl.ste (fm.fromPort 17 k3.device).dtag T_STE.PORT) (fm.fromPort 17 k3.device).cls) T_QUE.WRED_EN = false))
    ∧ ((k4.holdsOff pgWAD = true ∨ k4.rxHead 17 opMSG = none))
    ∧ ((k4r.rxHead 17 opMSG = some fm) ∧ (k4r.behindRsp 17 fm = true))
    ∧ ((gm.acct = some (portQueue 17 2)) ∧ (k3.active pgSWC = true) ∧ (k3.quiesce pgSWC = false) ∧ (k3.wantsSpill gm [(portQueue 33 2, none)] = false) ∧ (k3.admits (portQueue 17 2) gm.size = true ∧ k3.hasCells gm.size = true))
    ∧ ((k3.tf Tbl.acc (portQueue 17 2) T_ACC.USED + 4 ≤ k3.tf Tbl.acc (portQueue 17 2) T_ACC.MIN))
    ∧ ((k5.tb Tbl.que 9 T_QUE.WRED_EN = true) ∧ (((k5.st Tbl.que 9 T_QUE.AVG (wredAvg (k5.tf Tbl.que 9 T_QUE.AVG) (k5.tf Tbl.que 9 T_QUE.DEPTH) (k5.tf Tbl.que 9 T_QUE.WRED_W))).wredCurve ((k5.st Tbl.que 9 T_QUE.AVG (wredAvg (k5.tf Tbl.que 9 T_QUE.AVG) (k5.tf Tbl.que 9 T_QUE.DEPTH) (k5.tf Tbl.que 9 T_QUE.WRED_W))).tf Tbl.que 9 T_QUE.WRED_PROF) 0).2.1 ≤ wredAvg (k5.tf Tbl.que 9 T_QUE.AVG) (k5.tf Tbl.que 9 T_QUE.DEPTH) (k5.tf Tbl.que 9 T_QUE.WRED_W)))
    ∧ ((k6.tb Tbl.que 9 T_QUE.WRED_EN = true) ∧ (wredAvg (k6.tf Tbl.que 9 T_QUE.AVG) (k6.tf Tbl.que 9 T_QUE.DEPTH) (k6.tf Tbl.que 9 T_QUE.WRED_W) < ((k6.st Tbl.que 9 T_QUE.AVG (wredAvg (k6.tf Tbl.que 9 T_QUE.AVG) (k6.tf Tbl.que 9 T_QUE.DEPTH) (k6.tf Tbl.que 9 T_QUE.WRED_W))).wredCurve ((k6.st Tbl.que 9 T_QUE.AVG (wredAvg (k6.tf Tbl.que 9 T_QUE.AVG) (k6.tf Tbl.que 9 T_QUE.DEPTH) (k6.tf Tbl.que 9 T_QUE.WRED_W))).tf Tbl.que 9 T_QUE.WRED_PROF) 0).2.1 ∧ wredAvg (k6.tf Tbl.que 9 T_QUE.AVG) (k6.tf Tbl.que 9 T_QUE.DEPTH) (k6.tf Tbl.que 9 T_QUE.WRED_W) < ((k6.st Tbl.que 9 T_QUE.AVG (wredAvg (k6.tf Tbl.que 9 T_QUE.AVG) (k6.tf Tbl.que 9 T_QUE.DEPTH) (k6.tf Tbl.que 9 T_QUE.WRED_W))).wredCurve ((k6.st Tbl.que 9 T_QUE.AVG (wredAvg (k6.tf Tbl.que 9 T_QUE.AVG) (k6.tf Tbl.que 9 T_QUE.DEPTH) (k6.tf Tbl.que 9 T_QUE.WRED_W))).tf Tbl.que 9 T_QUE.WRED_PROF) 0).1))
    ∧ ((k7.nextWait (portQueue 17 2) = some gw) ∧ ((k7.tryStore gw.frame gw.queues).2 = true))
    ∧ ((k3.nextWait (portQueue 17 2) = none))
    ∧ ((k3.host.stalled = []))
    ∧ ((k8.host.stalled = [Instr.configRequest 0 CfgReg.memSpace none 1, Instr.configRequest 0 CfgReg.memSpace none 2]) ∧ ((k8.gal.waiting.any fun x => x.host) = false))
    ∧ ((k9.host.stalled = [Instr.configRequest 0 CfgReg.memSpace none 1, Instr.configRequest 0 CfgReg.memSpace none 2]) ∧ ((k9.gal.waiting.any fun x => x.host) = true)) := by
  refine ⟨?_, ?_, ?_, ?_, ?_, ?_, ?_, ?_, ?_, ?_, ?_, ?_, ?_, ?_, ?_⟩ <;> decide +kernel

theorem witness_WhatLeavesTheGallery :
    ((33 < 1024) ∧ (2 < 8) ∧ (m1.active pgSWC = true) ∧ (m1.active pgSCH = false) ∧ (m1.lnd.events = []) ∧ (m1.queue (portQueue 33 2) = [rf]) ∧ (∀ d < 8, d ≠ 2 → m1.queue (portQueue 33 d) = []) ∧ (m1.galFrame rf.frame = some gs) ∧ (m1.refOld (portQueue 33 2) rf = false) ∧ (gs.bad = false) ∧ (gs.present = true) ∧ (m1.flows 33 = true) ∧ ((m1.link 33).stopped = false) ∧ ((m1.link 33).sweeping = false) ∧ (m1.quiesce (pgPRT 33) = false) ∧ (m1.unnamed 33 gs = false) ∧ (m1.startView 33 (rf.sends gs) = StartView.ready))
    ∧ ((33 < 1024) ∧ (2 < 8) ∧ (m1q.active pgSWC = true) ∧ (m1q.active pgSCH = false) ∧ (m1q.lnd.events = []) ∧ (m1q.queue (portQueue 33 2) = [rf]) ∧ (∀ d < 8, d ≠ 2 → m1q.queue (portQueue 33 d) = []) ∧ (m1q.galFrame rf.frame = some gq) ∧ (m1q.refOld (portQueue 33 2) rf = false) ∧ (gq.bad = false) ∧ (m1q.flows 33 = true) ∧ ((m1q.link 33).stopped = false) ∧ ((m1q.link 33).sweeping = false) ∧ (m1q.unnamed 33 gq = true))
    ∧ ((8192 ≤ hostQueue 5 2) ∧ (m2.active pgSWC = true) ∧ (m2.active pgSCH = false) ∧ (m2.hostQueues = [hostQueue 5 2]) ∧ (m2.queue (hostQueue 5 2) = [rf]) ∧ (m2.galFrame rf.frame = some gh) ∧ (m2.refOld (hostQueue 5 2) rf = false) ∧ (gh.bad = false) ∧ (m2.hallSt ((hostQueue 5 2 - 8192) / 8) = hlBOUND) ∧ (m2.tb Tbl.hcx ((hostQueue 5 2 - 8192) / 8) T_HCX.RX_EN = true) ∧ (m2.hostHead ((hostQueue 5 2 - 8192) / 8) rf gh = m2) ∧ (m2.hostReady (hostQueue 5 2) rf gh = true))
    ∧ ((8192 ≤ hostQueue 5 2) ∧ (m2b.active pgSWC = true) ∧ (m2b.active pgSCH = false) ∧ (m2b.hostQueues = [hostQueue 5 2]) ∧ (m2b.queue (hostQueue 5 2) = [rf]) ∧ (m2b.galFrame rf.frame = some gs) ∧ (m2b.refOld (hostQueue 5 2) rf = false) ∧ (gs.bad = false) ∧ (m2b.hallSt ((hostQueue 5 2 - 8192) / 8) = hlBOUND) ∧ (m2b.tb Tbl.hcx ((hostQueue 5 2 - 8192) / 8) T_HCX.RX_EN = true) ∧ (m2b.hostHead ((hostQueue 5 2 - 8192) / 8) rf gs = m2b) ∧ (m2b.hostReady (hostQueue 5 2) rf gs = true) ∧ (gs.load = Load.msg))
    ∧ ((r0.active pgSWC = false) ∧ (r0.lnd.events = []) ∧ (33 ≤ 1024) ∧ (r0.calm = true))
    ∧ ((m3.readbackNext (portQueue 33 2) = some (rf, gsp)) ∧ (m3.refOld (portQueue 33 2) rf = false ∧ (List.filter (fun e => e.2.back != 0) m3.gal.frames).length < 4096 ∧ m3.hasCells gsp.size = true))
    ∧ ((m4.readbackNext (portQueue 33 2) = some (rf, gspo)) ∧ (m4.refOld (portQueue 33 2) rf = true))
    ∧ ((m0.readbackNext (portQueue 33 2) = none))
    ∧ ((m6.galFrame 0 = some gb1) ∧ (gb1.back = 1) ∧ (gb1.spill = some 1)) := by
  refine ⟨?_, ?_, ?_, ?_, ?_, ?_, ?_, ?_, ?_⟩ <;> decide +kernel

theorem witness_GalleryHousekeeping :
    ((m0.applying pgSWC = false) ∧ (m0.gb pgSWC SWC.QFLUSH_BUSY = false) ∧ (bitAt (BitVec.toNat (65802 : Word)) (16 : ℕ) = true ∧ fld (65802 : Word) (0 : ℕ) (16 : ℕ) < (40960 : ℕ)))
    ∧ ((m0.applying pgSWC = false) ∧ (m0.gb pgSWC SWC.QFLUSH_BUSY = false) ∧ (bitAt (BitVec.toNat (266 : Word)) (16 : ℕ) = false ∨ (40960 : ℕ) ≤ fld (266 : Word) (0 : ℕ) (16 : ℕ)))
    ∧ ((m7.applying pgSWC = false) ∧ (m7.gb pgSWC SWC.QFLUSH_BUSY = true))
    ∧ ((m7.gb pgSWC SWC.QFLUSH_BUSY = true))
    ∧ ((portQueue 33 2 < 8192) ∧ (m8.detaches (portQueue 33 2 / 8) = true))
    ∧ ((8192 ≤ portQueue 33 2 ∨ m0.detaches (portQueue 33 2 / 8) = false))
    ∧ ((m0.applying pgSWC = false) ∧ (63 < 64) ∧ (m0.active pgSWC = true) ∧ ((m0.sf pgSWC SWC.BANK_CTL_BANK 63).bankOut 63 = false) ∧ ((m0.sf pgSWC SWC.BANK_CTL_BANK 63).gf pgSWC SWC.GAL_STS_RETIRED_N + (m0.sf pgSWC SWC.BANK_CTL_BANK 63).gal.retiring.length < 4))
    ∧ ((m9.applying pgSWC = false) ∧ (63 < 64) ∧ (m9.active pgSWC = true) ∧ ((m9.sf pgSWC SWC.BANK_CTL_BANK 63).bankOut 63 = false) ∧ (4 ≤ (m9.sf pgSWC SWC.BANK_CTL_BANK 63).gf pgSWC SWC.GAL_STS_RETIRED_N + (m9.sf pgSWC SWC.BANK_CTL_BANK 63).gal.retiring.length))
    ∧ ((r0.applying pgSWC = false) ∧ (r0.active pgSWC = false))
    ∧ ((3 < 64) ∧ (m10.active pgSWC = true) ∧ (m10.gb pgSWC SWC.SWC_CTL_AUTO_RETIRE = true) ∧ (m10.bankOut 3 = false) ∧ (m10.gf pgSWC SWC.GAL_STS_RETIRED_N + m10.gal.retiring.length < 4) ∧ (true = true ∨ m10.gf1 pgSWC SWC.SWC_CTL_ECC_TH < 0))
    ∧ ((3 < 64) ∧ (m10.active pgSWC = true) ∧ (m10.gb pgSWC SWC.SWC_CTL_AUTO_RETIRE = true) ∧ (m10.bankOut 3 = false) ∧ (m10.gf pgSWC SWC.GAL_STS_RETIRED_N + m10.gal.retiring.length < 4) ∧ (false = false ∧ 0 ≤ m10.gf1 pgSWC SWC.SWC_CTL_ECC_TH))
    ∧ ((3 < 32) ∧ (m11.gal.retiring = [(3, true)]) ∧ (m11.gal.frames = []))
    ∧ ((m0.gal.retiring = []))
    ∧ ((m12.active pgSWC = true) ∧ (m12.gb pgSWC SWC.AUD_CTL_EN = true) ∧ (m12.gal.audit = none) ∧ (m12.due (m12.gal.auditAt + ms (m12.gf1 pgSWC SWC.AUD_CTL_INTERVAL_MS)) = true))
    ∧ ((m13.gal.audit = some 5) ∧ (m13.due (5 + 4 * (262144 + m13.gf pgSWC SWC.SPILL_STS_SPILL_CELLS)) = true) ∧ (List.filter (fun c => m13.gal.unowned.contains c) (List.filter (fun c => !m13.gal.frames.any fun e => e.2.cells.contains c) m13.gal.taken) = []))
    ∧ ((m14.gal.audit = some 5) ∧ (m14.due (5 + 4 * (262144 + m14.gf pgSWC SWC.SPILL_STS_SPILL_CELLS)) = true) ∧ (List.filter (fun c => m14.gal.unowned.contains c) (List.filter (fun c => !m14.gal.frames.any fun e => e.2.cells.contains c) m14.gal.taken) ≠ []))
    ∧ ((m0.gal.audit = none))
    ∧ (((ap m0 pgSWC).applying pgSWC = true)) := by
  refine ⟨?_, ?_, ?_, ?_, ?_, ?_, ?_, ?_, ?_, ?_, ?_, ?_, ?_, ?_, ?_, ?_, ?_, ?_⟩ <;> decide +kernel

theorem witness_WredDecision :
    ((k5.tb Tbl.que 9 T_QUE.WRED_EN = true) ∧ (0 < 3) ∧ ((k5.st Tbl.que 9 T_QUE.AVG (wredAvg (k5.tf Tbl.que 9 T_QUE.AVG) (k5.tf Tbl.que 9 T_QUE.DEPTH) (k5.tf Tbl.que 9 T_QUE.WRED_W))).tf Tbl.wrp ((k5.st Tbl.que 9 T_QUE.AVG (wredAvg (k5.tf Tbl.que 9 T_QUE.AVG) (k5.tf Tbl.que 9 T_QUE.DEPTH) (k5.tf Tbl.que 9 T_QUE.WRED_W))).tf Tbl.que 9 T_QUE.WRED_PROF) (match 0 with | 0 => T_WRP.G_MAX_TH | 1 => T_WRP.Y_MAX_TH | x => T_WRP.R_MAX_TH) ≤ wredAvg (k5.tf Tbl.que 9 T_QUE.AVG) (k5.tf Tbl.que 9 T_QUE.DEPTH) (k5.tf Tbl.que 9 T_QUE.WRED_W))) := by
  decide +kernel

end Sys2Proof.Machine.Wit08

/-! ### States of the statements, part 09 -/

namespace Sys2Proof.Machine.Wit09

def up (s : State) (a : Nat) : State := (s.sf (pgPRT a) LNK.LINK_STS_ANCHOR a).sf (pgPRT a) LNK.LINK_STS_STATE 3 |>.sf (pgPRT a) PRT.PHY_STS_STATE 8 |>.setPort a { Port.reset with rate := 3 }
def rx (s : State) (a : Nat) (f : Frame) : State := s.setLink a { s.link a with rxBuf := (s.link a).rxBuf ++ [f] }
def fm : Frame := mkFrame (opMSG + 2 * 2 ^ 5 + 0x123 * 2 ^ 8) [1, 2]
def k0 : State := on (up r0 33) [pgWAD, pgSWC, pgSCH]
def gmo : GFrame := msgFrame fm (portQueue 17 2) 17 false (some false)
def k1 : State := (k0.st .acc 138 T_ACC.MIN 4).storeIn gmo [(portQueue 33 2, none)] none
def k2 : State := k1.sf pgWAD WAD.EPOCH_STS_CUR 1 |>.sf pgWAD WAD.EPOCH_STS_DRAINED 0
def k2d : State := k0.sf pgWAD WAD.EPOCH_STS_DRAINED 1
def k2e : State := k1.sf pgWAD WAD.EPOCH_STS_DRAINED 1
def k2f : State := k0.sf pgWAD WAD.EPOCH_STS_DRAINED 0
def k3 : State := k0.st .gct 33 T_GCT.EN 1 |>.st .gct 33 T_GCT.LEN 2 |>.st .gct 33 T_GCT.CYCLE 2000
def k4 : State := k3.st .gen (64 * 33) T_GEN.OPEN 5 |>.st .gen (64 * 33) T_GEN.DURATION 500
def gt : Gate := k4.gateTables 33
def k5 : State := { k4 with sch := { k4.sch with gates := [(33, gt)] } }
def k6 : State := k4.sf pgSCH HDR.PAGE_STS_ACTIVE 0
def c0 : State := k0.sf (pgPRT 33) LNK.LINK_CTL_CASCADE 1
def fa : Frame := fm.prefixed 7
def ca : State := rx c0 33 fa
def wp : Word64 := mkWord cwPORT 2 0 33 0 1 4 0
def fp : Frame := fm.prefixed wp
def cp : State := rx (c0.st .acc (portQueue 33 2) T_ACC.MIN 4) 33 fp
def wh : Word64 := mkWord cwHOST 2 0 0 9 1 4 0
def fh : Frame := fm.prefixed wh
def ch : State := rx c0 33 fh
def wd : Word64 := mkWord cwPORT 2 5 33 0 1 4 0
def fd : Frame := fm.prefixed wd
def cd : State := rx c0 33 fd
def we : Word64 := mkWord cwEVENT 0 0 0 0 1 4 0
def fe : Frame := (mkFrame opEVENT [0x123456, 77]).prefixed we
def ce : State := ((rx c0 33 fe).sf pgHST HST.LINK_STS_DL_UP 1).setCfg 0 .busMaster 1
def wq : Word64 := mkWord cwREQUEST 2 0 40 0 1 4 0
def fpw : Frame := mkFrame opPW [5]
def frd : Frame := mkFrame (opRD + 3 * 2 ^ 5) [1]
def pa : Part := ⟨3, 0, 2, 0, 0, 16, 0, 16, 0, false, true, 0x1000, 8, 0, 0, 0x1000, List.replicate 8 (some 0), [], none, 0, .finished, [1, 2, 3, 4, 5, 6, 7, 8], 0⟩
def aa : Acc := ⟨.read, .relay 33 9 2, 0, 0x1000, 0, 8, 0, false, [pa]⟩
def cr : State := { c0.st .rte 0 T_RTE.VALID 1 |>.st .rte 0 T_RTE.ANCHOR 33 with brg := { c0.brg with accs := [(4, aa)], next := 5 } }
def ab : Acc := { aa with parts := [{ pa with st := .sent }] }
def cs : State := { c0 with brg := { c0.brg with accs := [(4, ab)], next := 5 } }

theorem witness_EpochsAndGates :
    ((k2d.applying pgWAD = false) ∧ (k2d.gb pgWAD WAD.EPOCH_STS_DRAINED = true) ∧ (((k2d.sf pgWAD WAD.EPOCH_STS_CUR (b2n !k2d.epochCur)).sf pgWAD HDR.PAGE_GEN_GEN (b2n !k2d.epochCur)).oldFrames = 0))
    ∧ ((k2e.applying pgWAD = false) ∧ (k2e.gb pgWAD WAD.EPOCH_STS_DRAINED = true) ∧ (((k2e.sf pgWAD WAD.EPOCH_STS_CUR (b2n !k2e.epochCur)).sf pgWAD HDR.PAGE_GEN_GEN (b2n !k2e.epochCur)).oldFrames ≠ 0))
    ∧ ((k2.applying pgWAD = false) ∧ (k2.gb pgWAD WAD.EPOCH_STS_DRAINED = false))
    ∧ ((k2.gb pgWAD WAD.EPOCH_STS_DRAINED = false) ∧ (k2.oldFrames ≠ 0))
    ∧ ((k2f.gb pgWAD WAD.EPOCH_STS_DRAINED = false) ∧ (k2f.oldFrames = 0))
    ∧ ((33 < 1024) ∧ (k0.active pgSCH = true) ∧ (k0.gate 33 = none) ∧ (k0.tb Tbl.gct 33 T_GCT.EN = false ∨ (k0.gateTables 33).entries = []))
    ∧ ((33 < 1024) ∧ (k3.active pgSCH = true) ∧ (k3.gate 33 = none) ∧ (k3.tb Tbl.gct 33 T_GCT.EN = true ∧ (k3.gateTables 33).entries ≠ [] ∧ (k3.gateTables 33).used = []))
    ∧ ((33 < 1024) ∧ (k4.active pgSCH = true) ∧ (k4.gate 33 = none) ∧ (k4.tb Tbl.gct 33 T_GCT.EN = true ∧ (k4.gateTables 33).used ≠ []))
    ∧ ((k5.active pgSCH = true) ∧ (k5.gate 33 = some gt) ∧ (gt.lap k5.sys.devtime = gt.lap gt.from_) ∧ (33 < 1024))
    ∧ ((33 < 1024) ∧ (k4.active pgSCH = true ∧ k4.gate 33 = none))
    ∧ ((33 < 1024) ∧ (k6.active pgSCH = false))
    ∧ ((9 < 1048576) ∧ (10 ≠ 9) ∧ (10 < 1048576))
    ∧ (((ap k2 pgWAD).applying pgWAD = true)) := by
  refine ⟨?_, ?_, ?_, ?_, ?_, ?_, ?_, ?_, ?_, ?_, ?_, ?_, ?_⟩ <;> decide +kernel

theorem witness_CascadeFrames :
    ((ca.cascadeLink 33 = true) ∧ ((ca.link 33).rxBuf = [fa]) ∧ (fa.op ≠ opTIME) ∧ (fa.words = [] ∨ cwValid (fa.words.getD (0 : ℕ) (0 : Word64)) fa.stripped.op = false))
    ∧ ((cp.cascadeLink 33 = true) ∧ ((cp.link 33).rxBuf = [fp]) ∧ (fp.words = [wp, (1 : Word64), (2 : Word64)]) ∧ (cwValid wp fp.stripped.op = true) ∧ (fp.stripped.op = opMSG) ∧ (cp.holdsOff pgWAD = false) ∧ (cp.holdsOff pgPOL = false) ∧ (cp.holdsOff pgSWC = false) ∧ (cp.active pgPOL = false) ∧ ((cp.rxTake 33 fp).active pgPOL = false) ∧ (cwDestDev wp = (cp.rxTake 33 fp).device ∧ cwKind wp = cwPORT ∧ (cp.rxTake 33 fp).linkEnabled (cwDestPort wp) = true) ∧ ((((cp.rxTake 33 fp).cascMsgTo 33 fp.stripped (portQueue 33 fp.stripped.cls) 0 [(portQueue (cwDestPort wp) (cwClass wp), none)]).link 33).rxBuf = []))
    ∧ ((ch.cascadeLink 33 = true) ∧ ((ch.link 33).rxBuf = [fh]) ∧ (fh.words = [wh, (1 : Word64), (2 : Word64)]) ∧ (cwValid wh fh.stripped.op = true) ∧ (fh.stripped.op = opMSG) ∧ (ch.holdsOff pgWAD = false) ∧ (ch.holdsOff pgPOL = false) ∧ (ch.holdsOff pgSWC = false) ∧ (ch.active pgPOL = false) ∧ ((ch.rxTake 33 fh).active pgPOL = false) ∧ (cwDestDev wh = (ch.rxTake 33 fh).device ∧ cwKind wh = cwHOST ∧ (ch.rxTake 33 fh).hallExists (cwHall wh) = false))
    ∧ ((cd.cascadeLink 33 = true) ∧ ((cd.link 33).rxBuf = [fd]) ∧ (fd.words = [wd, (1 : Word64), (2 : Word64)]) ∧ (cwValid wd fd.stripped.op = true) ∧ (fd.stripped.op = opMSG) ∧ (cd.holdsOff pgWAD = false) ∧ (cd.holdsOff pgPOL = false) ∧ (cd.holdsOff pgSWC = false) ∧ (cd.active pgPOL = false) ∧ ((cd.rxTake 33 fd).active pgPOL = false) ∧ (cwDestDev wd ≠ (cd.rxTake 33 fd).device ∧ (cd.rxTake 33 fd).routeOf (cwDestDev wd) = none))
    ∧ ((ce.cascadeLink 33 = true) ∧ ((ce.link 33).rxBuf = [fe]) ∧ (fe.words = [we, (1193046 : Word64), (77 : Word64)]) ∧ (cwValid we opEVENT = true) ∧ (fe.stripped.op = opEVENT) ∧ (ce.cwMine we = true) ∧ (ce.hostBefore 33 fe = false) ∧ (ce.mayMaster 0 = true))
    ∧ ((k0.cascadeLink 33 = false))
    ∧ ((c0.stationAt (cwDestPort wq) = false) ∧ (c0.isMember = false) ∧ (fpw.op = opPW))
    ∧ ((c0.stationAt (cwDestPort wq) = false) ∧ (c0.isMember = false) ∧ (frd.op ≠ opPW ∧ c0.canReserve (frameCells (mkRsp frd.tag 1 [])) = true))
    ∧ ((cr.acc? 4 = some aa) ∧ (aa.who = Who.relay 33 9 2) ∧ (aa.op ≠ AccOp.write) ∧ (aa.ended = false) ∧ ((aa.parts.all fun p => p.st == PartSt.finished && p.gen != unanswered) = true))
    ∧ ((cs.acc? 4 = some ab) ∧ ((ab.parts.any fun p => p.st != PartSt.finished) = true)) := by
  refine ⟨?_, ?_, ?_, ?_, ?_, ?_, ?_, ?_, ?_, ?_⟩ <;> decide +kernel

end Sys2Proof.Machine.Wit09

/-! ### States of the statements, part 10 -/

namespace Sys2Proof.Machine.Wit10

def b0 : State := { on r0 [pgCVN, pgHLM, pgSWC, pgCVE 3] with clock := 1000000000 }
def b1 : State := ((b0.st .hcx 5 T_HCX.STATE hlBOUND).st .rng 41 T_RNG.EN 1).setRing 41 rgIDLE |>.st .rng 41 T_RNG.BASE 0x1000
def b2 : State := b1.setRing 41 rgPENDING
def b3 : State := b1.setRing 41 rgRUNNING
def b4 : State := (b1.setRing 41 rgSTOPPED).st .rng 41 T_RNG.PCOUNT 3
def b5 : State := ((b1.st .rng 41 T_RNG.PCOUNT 3).ringPending 41).sf (pgCVE 3) CVE.ENG_STS_POWERED 1
def b6 : State := (b5.sf (pgCVE 3) CVE.ENG_STS_POWERED 0).sf pgCIS CIS.TEMP_THROTTLING 1
def b7 : State := { b5 with clock := 9999 }
def dsc (op len dst : Nat) : BitVec 256 := BitVec.ofNat 256 (0x5000 + dst * 2 ^ 64 + len * 2 ^ 128 + op * 2 ^ 152)
def en (op len dst : Nat) : Engine := { Engine.reset with ring := some 41, desc := some (dsc op len dst), addr := 0x40000 }
def bd (op len dst : Nat) : State := ((b3.setEng 3 (en op len dst)).setEngSt 3 enFETCH).sf (pgCVE 3) CVE.ENG_STS_RING 41 |>.st .enl 5 T_ENL.ENG_NOW 1 |>.st .rng 41 T_RNG.PCOUNT 3
def x0 : State := bd 0 0 0
def x1 : State := bd 1 100 0x6000
def x1z : State := bd 1 0 0x6000
def x2 : State := bd 2 0 0x7000
def x2z : State := bd 2 0 0x7001
def x3 : State := bd 3 0 0x8000
def x3z : State := bd 3 0 0x8008
def x4 : State := bd 4 0 0
def dph : BitVec 256 := dsc 0 0 0 ||| BitVec.ofNat 256 (2 ^ 157)
def x5 : State := x0.setEng 3 { en 0 0 0 with desc := some dph }
def x6 : State := (x0.setEng 3 { en 0 0 0 with chain := true, hop := 15 }).sf pgCVN CVN.CVN_CTL_HOP_LIMIT 15
def x7 : State := x0.setEng 3 { en 0 0 0 with desc := none, failed := true }
def x7t : State := x0.setEng 3 { en 0 0 0 with desc := none, code := 9 }
def x7c : State := x0.setEng 3 { en 0 0 0 with desc := none, code := 9, chain := true, hop := 2 }
def sr (c : Nat) : SrcRead := ⟨1, 0x5000, 2, some (c, [7, 8])⟩
def x8 (c : Nat) : State := (x1.setEng 3 { en 1 100 0x6000 with reads := [sr c], asked := 100 }).setEngSt 3 enMOVE
def x8a : State := x8 0
def x8b : State := x8 0x11
def x9 (f : Option Bool) : State := (x2.setEng 3 { en 2 0 0x7000 with fence := some f }).setEngSt 3 enFENCE
def x9a : State := x9 (some true)
def x9b : State := x9 (some false)
def x9c : State := x9 none
def y0 : State := b0.sf pgDEV DEV.FEAT_EN_HALLS 1
def y1 : State := b1.sf pgHLM HLM.HALL_CMD_BUSY 1
def y2 (r : Bool) : State := { y1.st .hcx 5 T_HCX.STATE hlRESETTING with hlm := { y1.hlm with resets := [⟨5, r, true, true, true⟩] } }
def y2a : State := y2 true
def y2b : State := y2 false
def y3 : State := b1.st .hcx 5 T_HCX.STATE hlWAITING
def y4 : State := b1.st .hcx 5 T_HCX.DL_EN 1 |>.st .hcx 5 T_HCX.DL_BASE0 0x100 |>.st .hcx 5 T_HCX.DL_PAGES 1024
def y5 : State := { y4 with hlm := { y4.hlm with words := [⟨5, 0x100008, 3, some 8⟩] } }
def y6 : State := b1.sf pgHLM HLM.DL_CMD_BUSY 1
def y7 : State := { y6 with hlm := { y6.hlm with flip := some 5 } }
def y8 : State := b1.sf (pgHAL 5) HAL.RX_PROD_PROD 0x1000

theorem witness_RingsAndEngines :
    ((5 < 4096) ∧ (1 < 8) ∧ (16 < 65536) ∧ (b1.sys.coreOn = true) ∧ (b1.ringServed (8 * 5 + 1) = true) ∧ (subMod 16 (b1.tf Tbl.rng (8 * 5 + 1) T_RNG.CCOUNT) 16 ≤ 2 ^ b1.ringSize (8 * 5 + 1)) ∧ ((b1.st Tbl.rng (8 * 5 + 1) T_RNG.PCOUNT 16).active pgCVN = true ∧ (b1.st Tbl.rng (8 * 5 + 1) T_RNG.PCOUNT 16).ringSt (8 * 5 + 1) = rgIDLE ∧ 16 ≠ b1.tf Tbl.rng (8 * 5 + 1) T_RNG.CCOUNT))
    ∧ ((5 < 4096) ∧ (1 < 8) ∧ (16 < 65536) ∧ (b2.sys.coreOn = true) ∧ (b2.ringServed (8 * 5 + 1) = true) ∧ (subMod 16 (b2.tf Tbl.rng (8 * 5 + 1) T_RNG.CCOUNT) 16 ≤ 2 ^ b2.ringSize (8 * 5 + 1)) ∧ ((b2.st Tbl.rng (8 * 5 + 1) T_RNG.PCOUNT 16).active pgCVN = false ∨ (b2.st Tbl.rng (8 * 5 + 1) T_RNG.PCOUNT 16).ringSt (8 * 5 + 1) = rgPENDING ∨ (b2.st Tbl.rng (8 * 5 + 1) T_RNG.PCOUNT 16).ringSt (8 * 5 + 1) = rgRUNNING))
    ∧ ((5 < 4096) ∧ (1 < 8) ∧ (17 < 65536) ∧ (b2.sys.coreOn = true) ∧ (2 ^ b2.ringSize (8 * 5 + 1) < subMod 17 (b2.tf Tbl.rng (8 * 5 + 1) T_RNG.CCOUNT) 16))
    ∧ ((b1.applying pgCVN = false) ∧ (42 < 32768) ∧ (b1.tb Tbl.rng 42 T_RNG.EN = false))
    ∧ ((b1.applying pgCVN = false) ∧ (41 < 32768) ∧ (b1.tb Tbl.rng 41 T_RNG.EN = true) ∧ ((b1.st Tbl.rng 41 T_RNG.EN 0).ringSt 41 ≠ rgRUNNING))
    ∧ ((b3.applying pgCVN = false) ∧ (41 < 32768) ∧ (b3.tb Tbl.rng 41 T_RNG.EN = true) ∧ ((b3.st Tbl.rng 41 T_RNG.EN 0).ringSt 41 = rgRUNNING))
    ∧ ((b4.applying pgCVN = false) ∧ (b4.ringSt 41 = rgSTOPPED))
    ∧ ((b1.applying pgCVN = false) ∧ (b1.ringSt 41 ≠ rgSTOPPED))
    ∧ ((b1.applying pgCVN = false) ∧ (41 < 32768))
    ∧ ((b5.active pgCVN = true) ∧ (b5.quiesce pgCVN = false) ∧ (List.find? b5.ringReady b5.cvn.pending = some 41) ∧ (List.find? b5.engReady (List.range 128) = some 3) ∧ (b5.gb (pgCVE 3) CVE.ENG_STS_POWERED = true) ∧ (b5.cvn.stopDue = []))
    ∧ ((b6.active pgCVN = true) ∧ (b6.quiesce pgCVN = false) ∧ (List.find? b6.ringReady b6.cvn.pending = some 41) ∧ (List.find? b6.engReady (List.range 128) = some 3) ∧ (b6.gb (pgCVE 3) CVE.ENG_STS_POWERED = false) ∧ ((b6.askCistern (pgCVE 3) [(pgCVE 3, 12, 0)]).2 = false))
    ∧ ((b1.active pgCVN = false ∨ b1.cvn.pending = []))
    ∧ ((3 < 128) ∧ (b5.gb (pgCVE 3) CVE.ENG_STS_POWERED = true) ∧ ((b5.eng 3).ring = none) ∧ (b5.due ((b5.eng 3).idleAt + us 10) = true))
    ∧ ((3 < 128) ∧ (b7.gb (pgCVE 3) CVE.ENG_STS_POWERED = true) ∧ ((b7.eng 3).ring = none) ∧ (b7.due ((b7.eng 3).idleAt + us 10) = false))
    ∧ (((ap b1 pgCVN).applying pgCVN = true))
    ∧ (((ap b1 pgHLM).applying pgHLM = true) ∧ ((ap b1 pgHLM).sys.coreOn = true)) := by
  refine ⟨?_, ?_, ?_, ?_, ?_, ?_, ?_, ?_, ?_, ?_, ?_, ?_, ?_, ?_, ?_, ?_⟩ <;> decide +kernel

theorem witness_Descriptors :
    (((x0.eng 3).ring = some 41) ∧ ((x0.eng 3).desc = some (dsc 0 0 0)) ∧ (x0.engSt 3 = enFETCH) ∧ (x0.engStalled 3 = false) ∧ ((x0.eng 3).chain = false) ∧ (dPhase (dsc 0 0 0) = bitAt (x0.engCount 3) (x0.ringSize 41)) ∧ (dOp (dsc 0 0 0) = 0))
    ∧ (((x1.eng 3).ring = some 41) ∧ ((x1.eng 3).desc = some (dsc 1 100 24576)) ∧ (x1.engSt 3 = enFETCH) ∧ (x1.engStalled 3 = false) ∧ ((x1.eng 3).chain = false) ∧ (dPhase (dsc 1 100 24576) = bitAt (x1.engCount 3) (x1.ringSize 41)) ∧ (dOp (dsc 1 100 24576) = 1 ∧ dLen (dsc 1 100 24576) ≠ 0))
    ∧ (((x1z.eng 3).ring = some 41) ∧ ((x1z.eng 3).desc = some (dsc 1 0 24576)) ∧ (x1z.engSt 3 = enFETCH) ∧ (x1z.engStalled 3 = false) ∧ ((x1z.eng 3).chain = false) ∧ (dPhase (dsc 1 0 24576) = bitAt (x1z.engCount 3) (x1z.ringSize 41)) ∧ (dOp (dsc 1 0 24576) = 1 ∧ dLen (dsc 1 0 24576) = 0))
    ∧ (((x2.eng 3).ring = some 41) ∧ ((x2.eng 3).desc = some (dsc 2 0 28672)) ∧ (x2.engSt 3 = enFETCH) ∧ (x2.engStalled 3 = false) ∧ ((x2.eng 3).chain = false) ∧ (dPhase (dsc 2 0 28672) = bitAt (x2.engCount 3) (x2.ringSize 41)) ∧ (dOp (dsc 2 0 28672) = 2 ∧ dDst (dsc 2 0 28672) % 4 = 0 ∧ dDstSp (dsc 2 0 28672) = false))
    ∧ (((x2z.eng 3).ring = some 41) ∧ ((x2z.eng 3).desc = some (dsc 2 0 28673)) ∧ (x2z.engSt 3 = enFETCH) ∧ (x2z.engStalled 3 = false) ∧ ((x2z.eng 3).chain = false) ∧ (dPhase (dsc 2 0 28673) = bitAt (x2z.engCount 3) (x2z.ringSize 41)) ∧ (dOp (dsc 2 0 28673) = 2 ∧ dDst (dsc 2 0 28673) % 4 ≠ 0))
    ∧ (((x3.eng 3).ring = some 41) ∧ ((x3.eng 3).desc = some (dsc 3 0 32768)) ∧ (x3.engSt 3 = enFETCH) ∧ (x3.engStalled 3 = false) ∧ ((x3.eng 3).chain = false) ∧ (dPhase (dsc 3 0 32768) = bitAt (x3.engCount 3) (x3.ringSize 41)) ∧ (dOp (dsc 3 0 32768) = 3 ∧ dDst (dsc 3 0 32768) % 32 = 0))
    ∧ (((x3z.eng 3).ring = some 41) ∧ ((x3z.eng 3).desc = some (dsc 3 0 32776)) ∧ (x3z.engSt 3 = enFETCH) ∧ (x3z.engStalled 3 = false) ∧ ((x3z.eng 3).chain = false) ∧ (dPhase (dsc 3 0 32776) = bitAt (x3z.engCount 3) (x3z.ringSize 41)) ∧ (dOp (dsc 3 0 32776) = 3 ∧ dDst (dsc 3 0 32776) % 32 ≠ 0))
    ∧ (((x4.eng 3).ring = some 41) ∧ ((x4.eng 3).desc = some (dsc 4 0 0)) ∧ (x4.engSt 3 = enFETCH) ∧ (x4.engStalled 3 = false) ∧ ((x4.eng 3).chain = false) ∧ (dPhase (dsc 4 0 0) = bitAt (x4.engCount 3) (x4.ringSize 41)) ∧ (4 ≤ dOp (dsc 4 0 0)))
    ∧ (((x5.eng 3).ring = some 41) ∧ ((x5.eng 3).desc = some dph) ∧ (x5.engSt 3 = enFETCH) ∧ (x5.engStalled 3 = false) ∧ ((x5.eng 3).chain = false) ∧ (dPhase dph ≠ bitAt (x5.engCount 3) (x5.ringSize 41)) ∧ (dOp dph = 0))
    ∧ (((b1.eng 3).ring = none))
    ∧ (((x0.eng 3).ring = some 41) ∧ ((x0.eng 3).desc = some (dsc 0 0 0)) ∧ ((x0.eng 3).chain = false))
    ∧ ((x6.gf1 pgCVN CVN.CVN_CTL_HOP_LIMIT < (x6.eng 3).hop + 1))
    ∧ (((x7.eng 3).failed = true) ∧ (x7.engSt 3 = enFETCH))
    ∧ (((x7t.eng 3).ring = some 41) ∧ (x7t.engSt 3 = enFETCH) ∧ ((x7t.eng 3).desc = none) ∧ ((x7t.eng 3).failed = false) ∧ (x7t.engStalled 3 = false) ∧ (x7t.host.reqs = []) ∧ ((x7t.eng 3).code ≠ 0) ∧ ((x7t.eng 3).chain = false))
    ∧ (((x7c.eng 3).ring = some 41) ∧ (x7c.engSt 3 = enFETCH) ∧ ((x7c.eng 3).desc = none) ∧ ((x7c.eng 3).failed = false) ∧ (x7c.engStalled 3 = false) ∧ (x7c.host.reqs = []) ∧ ((x7c.eng 3).code ≠ 0) ∧ ((x7c.eng 3).chain = true))
    ∧ (((x0.eng 3).failed = false))
    ∧ ((x8a.engSt 3 = enMOVE) ∧ (x8a.engStalled 3 = false) ∧ ((x8a.eng 3).hold.length < 128) ∧ ((x8a.eng (3 : ℕ)).reads = [SrcRead.mk (1 : ℕ) (20480 : ℕ) (2 : ℕ) (some ((0 : ℕ), [(7 : Byte), (8 : Byte)]))]) ∧ (0 = 0))
    ∧ ((x8b.engSt 3 = enMOVE) ∧ (x8b.engStalled 3 = false) ∧ ((x8b.eng 3).hold.length < 128) ∧ ((x8b.eng (3 : ℕ)).reads = [SrcRead.mk (1 : ℕ) (20480 : ℕ) (2 : ℕ) (some ((17 : ℕ), [(7 : Byte), (8 : Byte)]))]) ∧ (17 ≠ 0))
    ∧ (((x0.eng 3).reads = []))
    ∧ ((x9a.engSt 3 = enFENCE) ∧ ((x9a.eng 3).fence = some (some true)))
    ∧ ((x9b.engSt 3 = enFENCE) ∧ ((x9b.eng 3).fence = some (some false)))
    ∧ ((x9c.engSt 3 = enFENCE) ∧ ((x9c.eng 3).fence = some none)) := by
  refine ⟨?_, ?_, ?_, ?_, ?_, ?_, ?_, ?_, ?_, ?_, ?_, ?_, ?_, ?_, ?_, ?_, ?_, ?_, ?_, ?_, ?_, ?_⟩ <;> decide +kernel

theorem witness_HallCommands :
    ((7 < 4096) ∧ (y0.active pgHLM = true) ∧ (y0.gb pgHLM HLM.HALL_CMD_BUSY = false) ∧ (((y0.sf pgHLM HLM.HALL_CMD_HALL 7).sf pgHLM HLM.HALL_CMD_OP 1).gb pgHLM HLM.HALL_CMD_BUSY = false) ∧ (((y0.sf pgHLM HLM.HALL_CMD_HALL 7).sf pgHLM HLM.HALL_CMD_OP 1).active pgHLM = true) ∧ (((y0.sf pgHLM HLM.HALL_CMD_HALL 7).sf pgHLM HLM.HALL_CMD_OP 1).defers = false) ∧ ((((y0.sf pgHLM HLM.HALL_CMD_HALL 7).sf pgHLM HLM.HALL_CMD_OP 1).sf pgHLM HLM.HALL_CMD_BUSY 1).createCheck 7 = 0))
    ∧ ((5 < 4096) ∧ (b1.active pgHLM = true) ∧ (b1.gb pgHLM HLM.HALL_CMD_BUSY = false) ∧ (((b1.sf pgHLM HLM.HALL_CMD_HALL 5).sf pgHLM HLM.HALL_CMD_OP 1).gb pgHLM HLM.HALL_CMD_BUSY = false) ∧ (((b1.sf pgHLM HLM.HALL_CMD_HALL 5).sf pgHLM HLM.HALL_CMD_OP 1).active pgHLM = true) ∧ (((b1.sf pgHLM HLM.HALL_CMD_HALL 5).sf pgHLM HLM.HALL_CMD_OP 1).defers = false) ∧ ((((b1.sf pgHLM HLM.HALL_CMD_HALL 5).sf pgHLM HLM.HALL_CMD_OP 1).sf pgHLM HLM.HALL_CMD_BUSY 1).createCheck 5 ≠ 0))
    ∧ ((7 < 4096) ∧ (b1.gb pgHLM HLM.HALL_CMD_BUSY = false) ∧ (b1.hlm.resets = []) ∧ (((b1.sf pgHLM HLM.HALL_CMD_HALL 7).sf pgHLM HLM.HALL_CMD_OP (if true = true then 3 else 2)).gb pgHLM HLM.HALL_CMD_BUSY = false) ∧ (((b1.sf pgHLM HLM.HALL_CMD_HALL 7).sf pgHLM HLM.HALL_CMD_OP (if true = true then 3 else 2)).active pgHLM = true) ∧ (((b1.sf pgHLM HLM.HALL_CMD_HALL 7).sf pgHLM HLM.HALL_CMD_OP (if true = true then 3 else 2)).defers = false) ∧ ((((b1.sf pgHLM HLM.HALL_CMD_HALL 7).sf pgHLM HLM.HALL_CMD_OP (if true = true then 3 else 2)).sf pgHLM HLM.HALL_CMD_BUSY 1).hallSt 7 = hlFREE))
    ∧ ((5 < 4096) ∧ (b1.gb pgHLM HLM.HALL_CMD_BUSY = false) ∧ (b1.hlm.resets = []) ∧ (((b1.sf pgHLM HLM.HALL_CMD_HALL 5).sf pgHLM HLM.HALL_CMD_OP (if true = true then 3 else 2)).gb pgHLM HLM.HALL_CMD_BUSY = false) ∧ (((b1.sf pgHLM HLM.HALL_CMD_HALL 5).sf pgHLM HLM.HALL_CMD_OP (if true = true then 3 else 2)).active pgHLM = true) ∧ (((b1.sf pgHLM HLM.HALL_CMD_HALL 5).sf pgHLM HLM.HALL_CMD_OP (if true = true then 3 else 2)).defers = false) ∧ ((((b1.sf pgHLM HLM.HALL_CMD_HALL 5).sf pgHLM HLM.HALL_CMD_OP (if true = true then 3 else 2)).sf pgHLM HLM.HALL_CMD_BUSY 1).hallSt 5 = hlBOUND ∧ (((b1.sf pgHLM HLM.HALL_CMD_HALL 5).sf pgHLM HLM.HALL_CMD_OP (if true = true then 3 else 2)).sf pgHLM HLM.HALL_CMD_BUSY 1).hallFunc 5 = 0 ∧ (((b1.sf pgHLM HLM.HALL_CMD_HALL 5).sf pgHLM HLM.HALL_CMD_OP (if true = true then 3 else 2)).sf pgHLM HLM.HALL_CMD_BUSY 1).oldItems 5 = 0))
    ∧ ((((y1.sf pgHLM HLM.HALL_CMD_HALL 5).sf pgHLM HLM.HALL_CMD_OP 1).gb pgHLM HLM.HALL_CMD_BUSY = true) ∧ (((y1.sf pgHLM HLM.HALL_CMD_HALL 5).sf pgHLM HLM.HALL_CMD_OP 1).defers = false) ∧ (1 = 1))
    ∧ ((((y1.sf pgHLM HLM.HALL_CMD_HALL 5).sf pgHLM HLM.HALL_CMD_OP 2).gb pgHLM HLM.HALL_CMD_BUSY = true) ∧ (((y1.sf pgHLM HLM.HALL_CMD_HALL 5).sf pgHLM HLM.HALL_CMD_OP 2).defers = false) ∧ (2 = 2))
    ∧ ((((y1.sf pgHLM HLM.HALL_CMD_HALL 5).sf pgHLM HLM.HALL_CMD_OP 3).gb pgHLM HLM.HALL_CMD_BUSY = true) ∧ (((y1.sf pgHLM HLM.HALL_CMD_HALL 5).sf pgHLM HLM.HALL_CMD_OP 3).defers = false) ∧ (3 = 3))
    ∧ ((y2a.hlm.resets = [HallReset.mk 5 true true true true]) ∧ (y2a.hallSt 5 = hlRESETTING))
    ∧ ((b1.hlm.resets = []))
    ∧ ((y3.hallSt 5 = hlWAITING) ∧ (y3.oldItems 5 = 0))
    ∧ ((b1.hallSt 5 ≠ hlWAITING ∨ b1.oldItems 5 ≠ 0))
    ∧ ((y5.applying pgHLM = false) ∧ (5 < 4096) ∧ ((y5.sf pgHLM HLM.DL_CMD_HALL 5).gb pgHLM HLM.DL_CMD_BUSY = false) ∧ ((y5.sf pgHLM HLM.DL_CMD_HALL 5).active pgHLM = true ∧ (y5.sf pgHLM HLM.DL_CMD_HALL 5).tb Tbl.hcx 5 T_HCX.DL_EN = true))
    ∧ ((b1.applying pgHLM = false) ∧ (5 < 4096) ∧ ((b1.sf pgHLM HLM.DL_CMD_HALL 5).gb pgHLM HLM.DL_CMD_BUSY = false) ∧ ((b1.sf pgHLM HLM.DL_CMD_HALL 5).active pgHLM = false ∨ (b1.sf pgHLM HLM.DL_CMD_HALL 5).tb Tbl.hcx 5 T_HCX.DL_EN = false))
    ∧ ((y6.applying pgHLM = false) ∧ (5 < 4096) ∧ ((y6.sf pgHLM HLM.DL_CMD_HALL 5).gb pgHLM HLM.DL_CMD_BUSY = true))
    ∧ ((y7.hlm.flip = some 5) ∧ (y7.hlm.words = []))
    ∧ ((b1.hlm.flip = none))
    ∧ ((subMod (y8.rxProd (5 : ℕ)) (BitVec.toNat (0 : Word)) (32 : ℕ) ≤ y8.rxSize (5 : ℕ)))
    ∧ ((y8.rxSize (5 : ℕ) < subMod (y8.rxProd (5 : ℕ)) (BitVec.toNat (4294967232 : Word)) (32 : ℕ)))
    ∧ (((ap b1 pgHLM).applying pgHLM = true)) := by
  refine ⟨?_, ?_, ?_, ?_, ?_, ?_, ?_, ?_, ?_, ?_, ?_, ?_, ?_, ?_, ?_, ?_, ?_, ?_, ?_⟩ <;> decide +kernel

end Sys2Proof.Machine.Wit10

/-! ### States of the statements, part 11 -/

namespace Sys2Proof.Machine.Wit11

def l0 : State := on { r0 with clock := 1000000000 } [pgLND]
def sst (s : State) (x st : Nat) : State := s.st .src x T_SRC.STATE st
def X : Nat := 0xB000
def l1 : State := sst l0 X srcACTIVE
def l2 : State := sst l0 X srcHELD
def l3 : State := l0.st .src 0x50 T_SRC.ASSERTED 1
def lm (m lv : Nat) : State := l0.sf pgLND (LND.EVIN_CFG_MODE 15) m |>.sf pgLND LND.EVIN_STS_LEVEL (lv * 2 ^ 15)
def lm0 : State := lm 0 0
def lm1 : State := lm 1 1
def lm2 : State := lm 2 0
def lm3 : State := lm 3 1
def lm4 : State := lm 4 1
def lt : State := (sst l0 X srcPENDING).st .src X T_SRC.EN 1 |>.st .src X T_SRC.PRIO 9 |>.st .src X T_SRC.TSET 2 |>.st .tse 2 T_TSE.FIRST 4 |>.st .tse 2 T_TSE.COUNT 2
def ls : State := lt.st .tgt 5 T_TGT.EN 1 |>.st .tgt 5 T_TGT.KIND 1 |>.st .tgt 5 T_TGT.INDEX 3 |>.sf pgLND (sumF 3 SUM.SUM_CTL_EN) 1
def lv : State := lt.st .tgt 5 T_TGT.EN 1 |>.st .tgt 5 T_TGT.INDEX 7
def lw : State := ((lv.st .vec 7 T_VEC.MASK 0).setCfg 0 .msixEnable 1).setCfg 0 .busMaster 1 |>.sf pgHST HST.LINK_STS_DL_UP 1 |>.sf pgHST HST.MSIX_CFG_PF_VECTORS 32
def ly : State := { (sst lw X srcACTIVE).st .src X T_SRC.TARGET 7 with lnd := { lw.lnd with order := [X] } }
def lz : State := (sst lw X srcHELD).st .src X T_SRC.TARGET 7
def su : State := (sst (l0.sf pgLND (sumF 63 SUM.SUM_CTL_EN) 1) X srcSUMMARY).st .src X T_SRC.TKIND 1 |>.st .src X T_SRC.TARGET 63 |>.st .src X T_SRC.PRIO 9
def su2 : State := (su.setStack 63 [(4, 8)])
def su3 : State := su.setStack 63 [(X, 9), (4, 8)]
def su4 : State := su3.sf pgLND (sumF 63 SUM.SUM_STS_FAULT) 1

theorem witness_FromSourceToMessage :
    ((l0.gf pgOAS OAS.PWR_STS_STATE < 2) ∧ (l0.active pgLND = true) ∧ (l0.tf Tbl.src X T_SRC.STATE = srcIDLE))
    ∧ ((l1.gf pgOAS OAS.PWR_STS_STATE < 2) ∧ (l1.active pgLND = true) ∧ (l1.tf Tbl.src X T_SRC.STATE = srcACTIVE))
    ∧ ((l2.gf pgOAS OAS.PWR_STS_STATE < 2) ∧ (l2.active pgLND = true) ∧ (l2.tf Tbl.src X T_SRC.STATE = srcPENDING ∨ l2.tf Tbl.src X T_SRC.STATE = srcSUMMARY ∨ l2.tf Tbl.src X T_SRC.STATE = srcHELD))
    ∧ ((r0.gf pgOAS OAS.PWR_STS_STATE < 2) ∧ (r0.active pgLND = false))
    ∧ ((8192 ≤ 8192) ∧ (8192 < 24576))
    ∧ ((24576 ≤ 24576 ∧ 24576 < 40960 ∨ 40976 ≤ 24576 ∧ 24576 < 65536))
    ∧ ((80 < 8192) ∧ (blkOf 80 = some (Blk.wad, 0)) ∧ (l3.tb Tbl.src 80 T_SRC.ASSERTED = true))
    ∧ ((80 < 8192) ∧ (blkOf 80 = some (Blk.wad, 0)) ∧ (l0.tb Tbl.src 80 T_SRC.ASSERTED = false))
    ∧ ((15 < 16) ∧ ((lm0.sf pgLND LND.EVIN_STS_LEVEL (putBits (lm0.gf pgLND LND.EVIN_STS_LEVEL) 15 1 (b2n true))).gf pgLND (LND.EVIN_CFG_MODE 15) = 0))
    ∧ ((15 < 16) ∧ ((lm1.sf pgLND LND.EVIN_STS_LEVEL (putBits (lm1.gf pgLND LND.EVIN_STS_LEVEL) 15 1 (b2n false))).gf pgLND (LND.EVIN_CFG_MODE 15) = 1))
    ∧ ((15 < 16) ∧ ((lm2.sf pgLND LND.EVIN_STS_LEVEL (putBits (lm2.gf pgLND LND.EVIN_STS_LEVEL) 15 1 (b2n true))).gf pgLND (LND.EVIN_CFG_MODE 15) = 2 ∧ bitAt (lm2.gf pgLND LND.EVIN_STS_LEVEL) 15 = false ∧ true = true))
    ∧ ((15 < 16) ∧ ((lm3.sf pgLND LND.EVIN_STS_LEVEL (putBits (lm3.gf pgLND LND.EVIN_STS_LEVEL) 15 1 (b2n false))).gf pgLND (LND.EVIN_CFG_MODE 15) = 3 ∧ bitAt (lm3.gf pgLND LND.EVIN_STS_LEVEL) 15 = true ∧ false = false))
    ∧ ((15 < 16) ∧ ((lm4.sf pgLND LND.EVIN_STS_LEVEL (putBits (lm4.gf pgLND LND.EVIN_STS_LEVEL) 15 1 (b2n true))).gf pgLND (LND.EVIN_CFG_MODE 15) = 4 ∧ bitAt (lm4.gf pgLND LND.EVIN_STS_LEVEL) 15 = true))
    ∧ ((l0.applying pgLND = false) ∧ ((40976 : ℕ) ≤ fld (40976 : Word) (0 : ℕ) (16 : ℕ)))
    ∧ ((l0.applying pgLND = false) ∧ (fld (40975 : Word) (0 : ℕ) (16 : ℕ) < (40976 : ℕ)))
    ∧ ((ls.active pgLND = true) ∧ (ls.quiesce pgLND = false) ∧ (bestSource (List.filter (fun e => (chosen (ls.search e.1)).isSome || !ls.lnd.waited.contains e.1) ls.eligible) = some (X, 9)) ∧ (((ls.search X).any fun e => e.2 == TargetView.denied) = false) ∧ (chosen (ls.search X) = some (1, TargetView.ready)))
    ∧ ((lt.active pgLND = true) ∧ (lt.quiesce pgLND = false) ∧ (bestSource (List.filter (fun e => (chosen (lt.search e.1)).isSome || !lt.lnd.waited.contains e.1) lt.eligible) = some (X, 9)) ∧ (((lt.search X).any fun e => e.2 == TargetView.denied) = false) ∧ (chosen (lt.search X) = none))
    ∧ ((l0.active pgLND = false ∨ l0.eligible = []))
    ∧ ((X < 65536) ∧ (1 < 64) ∧ (lw.tb Tbl.tgt (lw.tf Tbl.tse (lw.tf Tbl.src X T_SRC.TSET) T_TSE.FIRST + 1) T_TGT.KIND = false) ∧ (lw.entryMasked (lw.tf Tbl.tgt (lw.tf Tbl.tse (lw.tf Tbl.src X T_SRC.TSET) T_TSE.FIRST + 1) T_TGT.INDEX) = false))
    ∧ ((ly.active pgLND = true) ∧ (ly.quiesce pgLND = false) ∧ (ly.entryAsleep 7 = false) ∧ (ly.entryMasked 7 = false) ∧ (ly.isMember = false) ∧ (ly.quiesce pgHST = false) ∧ (ly.lnd.events = []) ∧ (ly.srcsAt srcHELD 0 7 = []) ∧ (ly.lnd.order = [X]) ∧ (ly.tf Tbl.src X T_SRC.TARGET = 7))
    ∧ ((lv.lnd.events = []) ∧ (lv.active pgLND = false ∨ lv.entryAsleep 7 = true ∨ lv.quiesce pgHST = true ∧ lv.isMember = false))
    ∧ ((lz.active pgLND = true) ∧ (lz.quiesce pgLND = false) ∧ (lz.entryAsleep 7 = false) ∧ (lz.entryMasked 7 = false) ∧ (lz.isMember = false) ∧ (lz.quiesce pgHST = false) ∧ (lz.lnd.events = []) ∧ (lz.srcsAt srcHELD 0 7 = [(X, 9)]) ∧ (((lz.sendMsix 7).delivered X).lnd.events = []))
    ∧ (((ap l0 pgLND).applying pgLND = true)) := by
  refine ⟨?_, ?_, ?_, ?_, ?_, ?_, ?_, ?_, ?_, ?_, ?_, ?_, ?_, ?_, ?_, ?_, ?_, ?_, ?_, ?_, ?_, ?_, ?_⟩ <;> decide +kernel

theorem witness_LandingStacks :
    ((su.applying pgLND = false) ∧ (63 < 64) ∧ (su.claimable 63 = some (X, 9)))
    ∧ ((l0.applying pgLND = false) ∧ (63 < 64) ∧ (l0.claimable 63 = none))
    ∧ ((su2.claimable 63 = some (X, 9)) ∧ ((X, 9) ∈ su2.srcsAt srcSUMMARY 1 63) ∧ (su2.gf pgLND (sumF 63 SUM.SUM_CTL_THRESH) ≤ 9))
    ∧ ((su3.applying pgLND = false) ∧ (63 < 64) ∧ (su3.gb pgLND (sumF 63 SUM.SUM_STS_FAULT) = false) ∧ (su3.stack 63 = [(X, 9), (4, 8)]) ∧ (X < 65536))
    ∧ ((su3.applying pgLND = false) ∧ (63 < 64) ∧ (su3.gb pgLND (sumF 63 SUM.SUM_STS_FAULT) = false) ∧ (su3.stack 63 = [(X, 9), (4, 8)]) ∧ (4 < 65536) ∧ (4 ≠ X))
    ∧ ((su4.applying pgLND = false) ∧ (63 < 64) ∧ (su4.gb pgLND (sumF 63 SUM.SUM_STS_FAULT) = true))
    ∧ ((su4.applying pgLND = false) ∧ (63 < 64))
    ∧ ((lt.applying pgLND = false) ∧ (X < 65536) ∧ (lt.tf Tbl.src X T_SRC.STATE = srcPENDING))
    ∧ ((su.applying pgLND = false) ∧ (X < 65536) ∧ (su.tf Tbl.src X T_SRC.STATE = srcSUMMARY ∨ su.tf Tbl.src X T_SRC.STATE = srcHELD))
    ∧ ((l1.applying pgLND = false) ∧ (X < 65536) ∧ (l1.tf Tbl.src X T_SRC.STATE = srcIDLE ∨ l1.tf Tbl.src X T_SRC.STATE = srcACTIVE ∨ l1.tf Tbl.src X T_SRC.STATE = srcACTPEND))
    ∧ ((64 ≤ 64))
    ∧ (((ap l0 pgLND).applying pgLND = true) ∧ (63 < 64) ∧ (X < 65536)) := by
  refine ⟨?_, ?_, ?_, ?_, ?_, ?_, ?_, ?_, ?_, ?_, ?_, ?_⟩ <;> decide +kernel

end Sys2Proof.Machine.Wit11

/-! ### States of the statements, part 12 -/

namespace Sys2Proof.Machine.Wit12

def m0 : State := ({ on r0 [pgMGQ, pgMEZ, pgSWC] with clock := 1000000000 }.sf pgHST HST.LINK_STS_DL_UP 1).setCfg 0 .busMaster 1
def m1 : State := m0.sf pgMGQ MGQ.RING_STS_STATE mqIDLE
def m2 : State := (m0.sf pgMGQ MGQ.RING_STS_STATE mqRUNNING).sf pgMGQ MGQ.DB_COUNT 3
def m3 : State := m0.sf pgMGQ MGQ.RING_STS_STATE mqSTOPPED
def m4 : State := m3.sf pgMGQ MGQ.DB_COUNT 3
def cmd (op a0 a1 a2 : Nat) : BitVec 512 := BitVec.ofNat 512 (op + a0 * 2 ^ 32 + 0x9000 * 2 ^ 64 + a1 * 2 ^ 128 + a2 * 2 ^ 160)
def sw : Staged := .reg (raddr pgSWC 0x80) 5
def m5 : State := { (m2.sf pgMEZ MEZ.MEZ_STS_STATE mzOPEN).sf pgSWC HDR.PAGE_STS_STAGED 1 |>.sf pgDEV DEV.FEAT_EN_MEZ 1 with mez := { Mez.reset with staged := [sw] } }
def m6 : State := m5.sf pgMEZ MEZ.MEZ_STS_OVERFLOW 1
def rn : MgqRun := ⟨cmd 9 17 0 0, false, 0, .station 17 3 5⟩
def m7 : State := { m2 with mgq := ⟨some rn, none, []⟩ }
def m7b : State := { m7 with clock := 10000004 }
def cq (op i n : Nat) : BitVec 512 := cmd op (0x0A + 1 * 2 ^ 20) i n
def b32 : List Byte := (List.range 32).map (fun i => BitVec.ofNat 8 (i + 1))
def m8 : State := m2.sf (pgPRT 17) PRT.PHY_STS_STATE 8
def b8 : List Byte := b32.take 8
def idn : Ident := ⟨[BitVec.ofNat 64 (3 * 2 ^ 40 + 2 * 2 ^ 44 + 0x7F * 2 ^ 48), 0, BitVec.ofNat 64 (0x100 + 4 * 2 ^ 16), 0], true⟩
def m9 : State := (((m2.sf (pgPRT 16) LNK.LINK_STS_STATE 3).sf (pgPRT 16) LNK.LINK_STS_ANCHOR 16).setLard 16 { Lard.reset with ident := some idn })
def m10 : State := { m5 with mez := { Mez.reset with staged := List.replicate 16384 sw } }
def m11 : State := (m0.sf pgDEV DEV.FEAT_EN_MEZ 1).sf pgMEZ MEZ.STAGE_ADDR_OFFSET ((raddr pgSWC 0x80) / 4)
def m12 : State := (m0.sf pgDEV DEV.FEAT_EN_MEZ 1).sf pgMEZ MEZ.STAGE_ADDR_OFFSET ((raddr pgSWC 0x20) / 4)
def m14 : State := m11.sf pgMEZ HDR.PAGE_CTL_QUIESCE 1
def m13 : State := m5.sf pgMEZ MEZ.MEZ_STS_STATE mzAPPLYING

theorem witness_ManagementRing :
    ((16 < 65536) ∧ (subMod 16 (m1.gf pgMGQ MGQ.RING_STS_CCOUNT) 16 ≤ 2 ^ m1.mqSize ∧ (m1.sf pgMGQ MGQ.DB_COUNT 16).gf pgMGQ MGQ.RING_STS_STATE = mqIDLE ∧ 16 ≠ m1.gf pgMGQ MGQ.RING_STS_CCOUNT))
    ∧ ((16 < 65536) ∧ (subMod 16 (m2.gf pgMGQ MGQ.RING_STS_CCOUNT) 16 ≤ 2 ^ m2.mqSize ∧ (m2.sf pgMGQ MGQ.DB_COUNT 16).gf pgMGQ MGQ.RING_STS_STATE ≠ mqIDLE))
    ∧ ((17 < 65536) ∧ (2 ^ m1.mqSize < subMod 17 (m1.gf pgMGQ MGQ.RING_STS_CCOUNT) 16))
    ∧ ((m3.gf pgMGQ MGQ.RING_STS_STATE = mqSTOPPED ∧ m3.gf pgMGQ MGQ.DB_COUNT = m3.gf pgMGQ MGQ.RING_STS_CCOUNT))
    ∧ ((m4.gf pgMGQ MGQ.RING_STS_STATE = mqSTOPPED ∧ m4.gf pgMGQ MGQ.DB_COUNT ≠ m4.gf pgMGQ MGQ.RING_STS_CCOUNT))
    ∧ ((m1.gf pgMGQ MGQ.RING_STS_STATE ≠ mqSTOPPED))
    ∧ ((m2.mqMayFetch = true) ∧ (mqPhase (cmd (0 : ℕ) (0 : ℕ) (0 : ℕ) (0 : ℕ) ||| (256 : BitVec (512 : ℕ))) ≠ m2.mqLap (m2.gf pgMGQ MGQ.RING_STS_CCOUNT)))
    ∧ ((m2.mqMayFetch = true) ∧ (mqPhase (cmd 0 0 0 0) = m2.mqLap (m2.gf pgMGQ MGQ.RING_STS_CCOUNT)))
    ∧ ((m2.mqMayFetch = true) ∧ (mqPhase (cmd 0 0 0 0) = m2.mqLap (m2.gf pgMGQ MGQ.RING_STS_CCOUNT)) ∧ (mqOp (cmd 0 0 0 0) = 0))
    ∧ ((m2.mqMayFetch = true) ∧ (mqPhase (cmd 10 0 0 0) = m2.mqLap (m2.gf pgMGQ MGQ.RING_STS_CCOUNT)) ∧ (10 ≤ mqOp (cmd 10 0 0 0)))
    ∧ ((m2.mqMayFetch = true) ∧ (mqPhase (cmd 3 0 0 0) = m2.mqLap (m2.gf pgMGQ MGQ.RING_STS_CCOUNT)) ∧ (mqOp (cmd 3 0 0 0) = 3 ∧ ((m2.sf pgMGQ MGQ.RING_STS_CCOUNT ((m2.gf pgMGQ MGQ.RING_STS_CCOUNT + 1) % 65536)).mqBegin (MgqRun.mk (mqFields (cmd 3 0 0 0)) false (m2.gf pgMGQ MGQ.RING_STS_CCOUNT) MgqWait.commit)).mezCommit.2 = some 0))
    ∧ ((m5.mqMayFetch = true) ∧ (mqPhase (cmd 3 0 0 0) = m5.mqLap (m5.gf pgMGQ MGQ.RING_STS_CCOUNT)) ∧ (mqOp (cmd 3 0 0 0) = 3 ∧ ((m5.sf pgMGQ MGQ.RING_STS_CCOUNT ((m5.gf pgMGQ MGQ.RING_STS_CCOUNT + 1) % 65536)).mqBegin (MgqRun.mk (mqFields (cmd 3 0 0 0)) false (m5.gf pgMGQ MGQ.RING_STS_CCOUNT) MgqWait.commit)).mezCommit.2 = none))
    ∧ ((m6.mqMayFetch = true) ∧ (mqPhase (cmd 3 0 0 0) = m6.mqLap (m6.gf pgMGQ MGQ.RING_STS_CCOUNT)) ∧ (mqOp (cmd 3 0 0 0) = 3 ∧ ((m6.sf pgMGQ MGQ.RING_STS_CCOUNT ((m6.gf pgMGQ MGQ.RING_STS_CCOUNT + 1) % 65536)).mqBegin (MgqRun.mk (mqFields (cmd 3 0 0 0)) false (m6.gf pgMGQ MGQ.RING_STS_CCOUNT) MgqWait.commit)).mezCommit.2 = some 11))
    ∧ ((m5.mqMayFetch = true) ∧ (mqPhase (cmd 4 0 0 0) = m5.mqLap (m5.gf pgMGQ MGQ.RING_STS_CCOUNT)) ∧ (mqOp (cmd 4 0 0 0) = 4))
    ∧ ((m2.mqMayFetch = true) ∧ (mqPhase (cmd 5 0 0 0) = m2.mqLap (m2.gf pgMGQ MGQ.RING_STS_CCOUNT)) ∧ (mqOp (cmd 5 0 0 0) = 5))
    ∧ ((m1.mqMayFetch = false))
    ∧ ((m7.mgq.cur = some rn) ∧ (rn.wait = MgqWait.station 17 3 5) ∧ (m7.due (5 + ms 10) = true))
    ∧ ((m7b.mgq.cur = some rn) ∧ (rn.wait = MgqWait.station 17 3 5) ∧ (m7b.due (5 + ms 10) = false))
    ∧ ((m2.mgq.cur = none)) := by
  refine ⟨?_, ?_, ?_, ?_, ?_, ?_, ?_, ?_, ?_, ?_, ?_, ?_, ?_, ?_, ?_, ?_, ?_, ?_, ?_⟩ <;> decide +kernel

theorem witness_ManagementCommands :
    ((m2.mqMayFetch = true) ∧ (mqPhase (cq 1 9 2) = m2.mqLap (m2.gf pgMGQ MGQ.RING_STS_CCOUNT)) ∧ (mqOp (cq 1 9 2) = 1 ∧ ((m2.sf pgMGQ MGQ.RING_STS_CCOUNT ((m2.gf pgMGQ MGQ.RING_STS_CCOUNT + 1) % 65536)).mqBegin (MgqRun.mk (mqFields (cq 1 9 2)) false (m2.gf pgMGQ MGQ.RING_STS_CCOUNT) MgqWait.commit)).mqTransfer (MgqRun.mk (mqFields (cq 1 9 2)) false (m2.gf pgMGQ MGQ.RING_STS_CCOUNT) MgqWait.commit) = (some Tbl.que, 0) ∧ mqStage (mqFields (cq 1 9 2)) = false ∧ b32.length = mqArg2 (mqFields (cq 1 9 2)) % 2 ^ 21 * Tbl.que.bytes))
    ∧ ((m2.mqMayFetch = true) ∧ (mqPhase (cq 2 9 2) = m2.mqLap (m2.gf pgMGQ MGQ.RING_STS_CCOUNT)) ∧ (mqOp (cq 2 9 2) = 2 ∧ ((m2.sf pgMGQ MGQ.RING_STS_CCOUNT ((m2.gf pgMGQ MGQ.RING_STS_CCOUNT + 1) % 65536)).mqBegin (MgqRun.mk (mqFields (cq 2 9 2)) false (m2.gf pgMGQ MGQ.RING_STS_CCOUNT) MgqWait.commit)).mqTransfer (MgqRun.mk (mqFields (cq 2 9 2)) false (m2.gf pgMGQ MGQ.RING_STS_CCOUNT) MgqWait.commit) = (some Tbl.que, 0)))
    ∧ ((m2.mqMayFetch = true) ∧ (mqPhase (cmd 1 255 0 0) = m2.mqLap (m2.gf pgMGQ MGQ.RING_STS_CCOUNT)) ∧ (mqOp (cmd 1 255 0 0) = 1 ∧ mqTable (mqArg0 (mqFields (cmd 1 255 0 0))) = none ∧ fld (mqFields (cmd 1 255 0 0)) 64 4 = 0))
    ∧ ((m2.mqMayFetch = true) ∧ (mqPhase (cmd 2 255 0 0) = m2.mqLap (m2.gf pgMGQ MGQ.RING_STS_CCOUNT)) ∧ (mqOp (cmd 2 255 0 0) = 2 ∧ mqTable (mqArg0 (mqFields (cmd 2 255 0 0))) = none ∧ fld (mqFields (cmd 2 255 0 0)) 64 4 = 0))
    ∧ ((m2.mqMayFetch = true) ∧ (mqPhase (cq 2 40959 2) = m2.mqLap (m2.gf pgMGQ MGQ.RING_STS_CCOUNT)) ∧ (mqOp (cq 2 40959 2) = 2 ∧ fld (mqFields (cq 2 40959 2)) 64 4 = 0 ∧ mqTable (mqArg0 (mqFields (cq 2 40959 2))) = some Tbl.que ∧ Tbl.que.info.count < mqArg1 (mqFields (cq 2 40959 2)) % 2 ^ 24 + mqArg2 (mqFields (cq 2 40959 2)) % 2 ^ 21))
    ∧ ((m2.mqMayFetch = true) ∧ (mqPhase (cmd 6 0 0 0) = m2.mqLap (m2.gf pgMGQ MGQ.RING_STS_CCOUNT)) ∧ (mqOp (cmd 6 0 0 0) = 6 ∧ mqArg0 (cmd 6 0 0 0) % 2 = 0 ∧ mqArg0 (mqFields (cmd 6 0 0 0)) % 2 = 0))
    ∧ ((m2.mqMayFetch = true) ∧ (mqPhase (cmd 6 1 0 0) = m2.mqLap (m2.gf pgMGQ MGQ.RING_STS_CCOUNT)) ∧ (mqOp (cmd 6 1 0 0) = 6 ∧ mqArg0 (cmd 6 1 0 0) % 2 = 1 ∧ mqArg0 (mqFields (cmd 6 1 0 0)) % 2 = 1))
    ∧ ((m2.mqMayFetch = true) ∧ (mqPhase (cmd 7 17 0 0) = m2.mqLap (m2.gf pgMGQ MGQ.RING_STS_CCOUNT)) ∧ (mqOp (cmd 7 17 0 0) = 7 ∧ (((m2.sf pgMGQ MGQ.RING_STS_CCOUNT ((m2.gf pgMGQ MGQ.RING_STS_CCOUNT + 1) % 65536)).mqBegin (MgqRun.mk (mqFields (cmd 7 17 0 0)) false (m2.gf pgMGQ MGQ.RING_STS_CCOUNT) MgqWait.commit)).ph (mqArg0 (mqFields (cmd 7 17 0 0)) % 1024) = phDISABLED ∨ ((m2.sf pgMGQ MGQ.RING_STS_CCOUNT ((m2.gf pgMGQ MGQ.RING_STS_CCOUNT + 1) % 65536)).mqBegin (MgqRun.mk (mqFields (cmd 7 17 0 0)) false (m2.gf pgMGQ MGQ.RING_STS_CCOUNT) MgqWait.commit)).ph (mqArg0 (mqFields (cmd 7 17 0 0)) % 1024) = phSLEEP ∨ ((m2.sf pgMGQ MGQ.RING_STS_CCOUNT ((m2.gf pgMGQ MGQ.RING_STS_CCOUNT + 1) % 65536)).mqBegin (MgqRun.mk (mqFields (cmd 7 17 0 0)) false (m2.gf pgMGQ MGQ.RING_STS_CCOUNT) MgqWait.commit)).ph (mqArg0 (mqFields (cmd 7 17 0 0)) % 1024) = phWAKING)))
    ∧ ((m8.mqMayFetch = true) ∧ (mqPhase (cmd 7 17 0 0) = m8.mqLap (m8.gf pgMGQ MGQ.RING_STS_CCOUNT)) ∧ (mqOp (cmd 7 17 0 0) = 7 ∧ (((m8.sf pgMGQ MGQ.RING_STS_CCOUNT ((m8.gf pgMGQ MGQ.RING_STS_CCOUNT + 1) % 65536)).mqBegin (MgqRun.mk (mqFields (cmd 7 17 0 0)) false (m8.gf pgMGQ MGQ.RING_STS_CCOUNT) MgqWait.commit)).ph (mqArg0 (mqFields (cmd 7 17 0 0)) % 1024) = phACTIVE ∨ ((m8.sf pgMGQ MGQ.RING_STS_CCOUNT ((m8.gf pgMGQ MGQ.RING_STS_CCOUNT + 1) % 65536)).mqBegin (MgqRun.mk (mqFields (cmd 7 17 0 0)) false (m8.gf pgMGQ MGQ.RING_STS_CCOUNT) MgqWait.commit)).ph (mqArg0 (mqFields (cmd 7 17 0 0)) % 1024) = phFAULT ∨ ((m8.sf pgMGQ MGQ.RING_STS_CCOUNT ((m8.gf pgMGQ MGQ.RING_STS_CCOUNT + 1) % 65536)).mqBegin (MgqRun.mk (mqFields (cmd 7 17 0 0)) false (m8.gf pgMGQ MGQ.RING_STS_CCOUNT) MgqWait.commit)).ph (mqArg0 (mqFields (cmd 7 17 0 0)) % 1024) = phDETECT)))
    ∧ ((m2.mqMayFetch = true) ∧ (mqPhase (cmd 8 3 0 8) = m2.mqLap (m2.gf pgMGQ MGQ.RING_STS_CCOUNT)) ∧ (mqOp (cmd 8 3 0 8) = 8) ∧ (mqArg0 (cmd 8 3 0 8) = mqArg0 (mqFields (cmd 8 3 0 8))) ∧ (((m2.sf pgMGQ MGQ.RING_STS_CCOUNT ((m2.gf pgMGQ MGQ.RING_STS_CCOUNT + 1) % 65536)).mqBegin (MgqRun.mk (mqFields (cmd 8 3 0 8)) false (m2.gf pgMGQ MGQ.RING_STS_CCOUNT) MgqWait.commit)).vaultRefuses (mqArg0 (mqFields (cmd 8 3 0 8))) (mqArg1 (mqFields (cmd 8 3 0 8))) (mqArg2 (mqFields (cmd 8 3 0 8))) = false) ∧ (fld (mqFields (cmd 8 3 0 8)) 64 4 = 0) ∧ (bits (mqArg0 (mqFields (cmd 8 3 0 8))) 4 2 = 0 ∧ b8.length = mqArg2 (mqFields (cmd 8 3 0 8))))
    ∧ ((m2.mqMayFetch = true) ∧ (mqPhase (cmd 8 3 0 8) = m2.mqLap (m2.gf pgMGQ MGQ.RING_STS_CCOUNT)) ∧ (mqOp (cmd 8 3 0 8) = 8) ∧ (mqArg0 (cmd 8 3 0 8) = mqArg0 (mqFields (cmd 8 3 0 8))) ∧ (((m2.sf pgMGQ MGQ.RING_STS_CCOUNT ((m2.gf pgMGQ MGQ.RING_STS_CCOUNT + 1) % 65536)).mqBegin (MgqRun.mk (mqFields (cmd 8 3 0 8)) false (m2.gf pgMGQ MGQ.RING_STS_CCOUNT) MgqWait.commit)).vaultRefuses (mqArg0 (mqFields (cmd 8 3 0 8))) (mqArg1 (mqFields (cmd 8 3 0 8))) (mqArg2 (mqFields (cmd 8 3 0 8))) = false) ∧ (fld (mqFields (cmd 8 3 0 8)) 64 4 = 0) ∧ (bits (mqArg0 (mqFields (cmd 8 3 0 8))) 4 2 = 0 ∧ 0 < mqArg2 (mqFields (cmd 8 3 0 8))))
    ∧ ((m2.mqMayFetch = true) ∧ (mqPhase (cmd 8 (3 + 2 * 16) 0 0) = m2.mqLap (m2.gf pgMGQ MGQ.RING_STS_CCOUNT)) ∧ (mqOp (cmd 8 (3 + 2 * 16) 0 0) = 8) ∧ (mqArg0 (cmd 8 (3 + 2 * 16) 0 0) = mqArg0 (mqFields (cmd 8 (3 + 2 * 16) 0 0))) ∧ (((m2.sf pgMGQ MGQ.RING_STS_CCOUNT ((m2.gf pgMGQ MGQ.RING_STS_CCOUNT + 1) % 65536)).mqBegin (MgqRun.mk (mqFields (cmd 8 (3 + 2 * 16) 0 0)) false (m2.gf pgMGQ MGQ.RING_STS_CCOUNT) MgqWait.commit)).vaultRefuses (mqArg0 (mqFields (cmd 8 (3 + 2 * 16) 0 0))) (mqArg1 (mqFields (cmd 8 (3 + 2 * 16) 0 0))) (mqArg2 (mqFields (cmd 8 (3 + 2 * 16) 0 0))) = false) ∧ (fld (mqFields (cmd 8 (3 + 2 * 16) 0 0)) 64 4 = 0) ∧ (bits (mqArg0 (mqFields (cmd 8 (3 + 2 * 16) 0 0))) 4 2 = 2))
    ∧ ((m2.mqMayFetch = true) ∧ (mqPhase (cmd 8 (1 + 1 * 16) 0 0) = m2.mqLap (m2.gf pgMGQ MGQ.RING_STS_CCOUNT)) ∧ (mqOp (cmd 8 (1 + 1 * 16) 0 0) = 8) ∧ (mqArg0 (cmd 8 (1 + 1 * 16) 0 0) = mqArg0 (mqFields (cmd 8 (1 + 1 * 16) 0 0))) ∧ (((m2.sf pgMGQ MGQ.RING_STS_CCOUNT ((m2.gf pgMGQ MGQ.RING_STS_CCOUNT + 1) % 65536)).mqBegin (MgqRun.mk (mqFields (cmd 8 (1 + 1 * 16) 0 0)) false (m2.gf pgMGQ MGQ.RING_STS_CCOUNT) MgqWait.commit)).vaultRefuses (mqArg0 (mqFields (cmd 8 (1 + 1 * 16) 0 0))) (mqArg1 (mqFields (cmd 8 (1 + 1 * 16) 0 0))) (mqArg2 (mqFields (cmd 8 (1 + 1 * 16) 0 0))) = false) ∧ (fld (mqFields (cmd 8 (1 + 1 * 16) 0 0)) 64 4 = 0) ∧ (bits (mqArg0 (mqFields (cmd 8 (1 + 1 * 16) 0 0))) 4 2 = 1))
    ∧ ((m2.mqMayFetch = true) ∧ (mqPhase (cmd 8 (3 + 1 * 16) 0 0) = m2.mqLap (m2.gf pgMGQ MGQ.RING_STS_CCOUNT)) ∧ (mqOp (cmd 8 (3 + 1 * 16) 0 0) = 8) ∧ (mqArg0 (cmd 8 (3 + 1 * 16) 0 0) = mqArg0 (mqFields (cmd 8 (3 + 1 * 16) 0 0))) ∧ (bits (mqArg0 (mqFields (cmd 8 (3 + 1 * 16) 0 0))) 4 2 = 1) ∧ (((m2.sf pgMGQ MGQ.RING_STS_CCOUNT ((m2.gf pgMGQ MGQ.RING_STS_CCOUNT + 1) % 65536)).mqBegin (MgqRun.mk (mqFields (cmd 8 (3 + 1 * 16) 0 0)) false (m2.gf pgMGQ MGQ.RING_STS_CCOUNT) MgqWait.commit)).vaultRefuses (mqArg0 (mqFields (cmd 8 (3 + 1 * 16) 0 0))) (mqArg1 (mqFields (cmd 8 (3 + 1 * 16) 0 0))) (mqArg2 (mqFields (cmd 8 (3 + 1 * 16) 0 0))) = true))
    ∧ ((m9.mqMayFetch = true) ∧ (mqPhase (cmd 9 16 0 0) = m9.mqLap (m9.gf pgMGQ MGQ.RING_STS_CCOUNT)) ∧ (mqOp (cmd 9 16 0 0) = 9) ∧ (((m9.sf pgMGQ MGQ.RING_STS_CCOUNT ((m9.gf pgMGQ MGQ.RING_STS_CCOUNT + 1) % 65536)).mqBegin (MgqRun.mk (mqFields (cmd 9 16 0 0)) false (m9.gf pgMGQ MGQ.RING_STS_CCOUNT) MgqWait.commit)).quiesce (pgPRT (mqArg0 (cmd 9 16 0 0) % 1024)) = false) ∧ (mqArg0 (mqFields (cmd 9 16 0 0)) = mqArg0 (cmd 9 16 0 0)) ∧ (mqOp (mqFields (cmd 9 16 0 0)) = 9) ∧ (fld (mqFields (cmd 9 16 0 0)) 48 2 = bits (mqArg0 (cmd 9 16 0 0)) 16 2) ∧ (fld (mqFields (cmd 9 16 0 0)) 64 4 = 0) ∧ (bits (mqArg0 (cmd 9 16 0 0)) 16 2 = 0 ∧ ((m9.sf pgMGQ MGQ.RING_STS_CCOUNT ((m9.gf pgMGQ MGQ.RING_STS_CCOUNT + 1) % 65536)).mqBegin (MgqRun.mk (mqFields (cmd 9 16 0 0)) false (m9.gf pgMGQ MGQ.RING_STS_CCOUNT) MgqWait.commit)).stationUp (mqArg0 (cmd 9 16 0 0) % 1024) = true ∧ (((m9.sf pgMGQ MGQ.RING_STS_CCOUNT ((m9.gf pgMGQ MGQ.RING_STS_CCOUNT + 1) % 65536)).mqBegin (MgqRun.mk (mqFields (cmd 9 16 0 0)) false (m9.gf pgMGQ MGQ.RING_STS_CCOUNT) MgqWait.commit)).lard (mqArg0 (cmd 9 16 0 0) % 1024)).ident = some idn))
    ∧ ((m9.mqMayFetch = true) ∧ (mqPhase (cmd 9 (16 + 1 * 2 ^ 16) 16 0) = m9.mqLap (m9.gf pgMGQ MGQ.RING_STS_CCOUNT)) ∧ (mqOp (cmd 9 (16 + 1 * 2 ^ 16) 16 0) = 9) ∧ (((m9.sf pgMGQ MGQ.RING_STS_CCOUNT ((m9.gf pgMGQ MGQ.RING_STS_CCOUNT + 1) % 65536)).mqBegin (MgqRun.mk (mqFields (cmd 9 (16 + 1 * 2 ^ 16) 16 0)) false (m9.gf pgMGQ MGQ.RING_STS_CCOUNT) MgqWait.commit)).quiesce (pgPRT (mqArg0 (cmd 9 (16 + 1 * 2 ^ 16) 16 0) % 1024)) = false) ∧ (mqArg0 (mqFields (cmd 9 (16 + 1 * 2 ^ 16) 16 0)) = mqArg0 (cmd 9 (16 + 1 * 2 ^ 16) 16 0)) ∧ (mqOp (mqFields (cmd 9 (16 + 1 * 2 ^ 16) 16 0)) = 9) ∧ (fld (mqFields (cmd 9 (16 + 1 * 2 ^ 16) 16 0)) 48 2 = bits (mqArg0 (cmd 9 (16 + 1 * 2 ^ 16) 16 0)) 16 2) ∧ (fld (mqFields (cmd 9 (16 + 1 * 2 ^ 16) 16 0)) 64 4 = 0) ∧ (bits (mqArg0 (cmd 9 (16 + 1 * 2 ^ 16) 16 0)) 16 2 = 1 ∧ ((m9.sf pgMGQ MGQ.RING_STS_CCOUNT ((m9.gf pgMGQ MGQ.RING_STS_CCOUNT + 1) % 65536)).mqBegin (MgqRun.mk (mqFields (cmd 9 (16 + 1 * 2 ^ 16) 16 0)) false (m9.gf pgMGQ MGQ.RING_STS_CCOUNT) MgqWait.commit)).stationUp (mqArg0 (cmd 9 (16 + 1 * 2 ^ 16) 16 0) % 1024) = true ∧ ((m9.sf pgMGQ MGQ.RING_STS_CCOUNT ((m9.gf pgMGQ MGQ.RING_STS_CCOUNT + 1) % 65536)).mqBegin (MgqRun.mk (mqFields (cmd 9 (16 + 1 * 2 ^ 16) 16 0)) false (m9.gf pgMGQ MGQ.RING_STS_CCOUNT) MgqWait.commit)).freeTag (mqArg0 (cmd 9 (16 + 1 * 2 ^ 16) 16 0) % 1024) = some 0))
    ∧ ((m9.mqMayFetch = true) ∧ (mqPhase (cmd 9 (16 + 2 * 2 ^ 16) 16 7) = m9.mqLap (m9.gf pgMGQ MGQ.RING_STS_CCOUNT)) ∧ (mqOp (cmd 9 (16 + 2 * 2 ^ 16) 16 7) = 9) ∧ (((m9.sf pgMGQ MGQ.RING_STS_CCOUNT ((m9.gf pgMGQ MGQ.RING_STS_CCOUNT + 1) % 65536)).mqBegin (MgqRun.mk (mqFields (cmd 9 (16 + 2 * 2 ^ 16) 16 7)) false (m9.gf pgMGQ MGQ.RING_STS_CCOUNT) MgqWait.commit)).quiesce (pgPRT (mqArg0 (cmd 9 (16 + 2 * 2 ^ 16) 16 7) % 1024)) = false) ∧ (mqArg0 (mqFields (cmd 9 (16 + 2 * 2 ^ 16) 16 7)) = mqArg0 (cmd 9 (16 + 2 * 2 ^ 16) 16 7)) ∧ (mqOp (mqFields (cmd 9 (16 + 2 * 2 ^ 16) 16 7)) = 9) ∧ (fld (mqFields (cmd 9 (16 + 2 * 2 ^ 16) 16 7)) 48 2 = bits (mqArg0 (cmd 9 (16 + 2 * 2 ^ 16) 16 7)) 16 2) ∧ (fld (mqFields (cmd 9 (16 + 2 * 2 ^ 16) 16 7)) 64 4 = 0) ∧ (bits (mqArg0 (cmd 9 (16 + 2 * 2 ^ 16) 16 7)) 16 2 = 2 ∧ ((m9.sf pgMGQ MGQ.RING_STS_CCOUNT ((m9.gf pgMGQ MGQ.RING_STS_CCOUNT + 1) % 65536)).mqBegin (MgqRun.mk (mqFields (cmd 9 (16 + 2 * 2 ^ 16) 16 7)) false (m9.gf pgMGQ MGQ.RING_STS_CCOUNT) MgqWait.commit)).stationUp (mqArg0 (cmd 9 (16 + 2 * 2 ^ 16) 16 7) % 1024) = true ∧ ((m9.sf pgMGQ MGQ.RING_STS_CCOUNT ((m9.gf pgMGQ MGQ.RING_STS_CCOUNT + 1) % 65536)).mqBegin (MgqRun.mk (mqFields (cmd 9 (16 + 2 * 2 ^ 16) 16 7)) false (m9.gf pgMGQ MGQ.RING_STS_CCOUNT) MgqWait.commit)).freeTag (mqArg0 (cmd 9 (16 + 2 * 2 ^ 16) 16 7) % 1024) = some 0))
    ∧ ((m9.mqMayFetch = true) ∧ (mqPhase (cmd 9 (17 + 1 * 2 ^ 16) 16 0) = m9.mqLap (m9.gf pgMGQ MGQ.RING_STS_CCOUNT)) ∧ (mqOp (cmd 9 (17 + 1 * 2 ^ 16) 16 0) = 9) ∧ (((m9.sf pgMGQ MGQ.RING_STS_CCOUNT ((m9.gf pgMGQ MGQ.RING_STS_CCOUNT + 1) % 65536)).mqBegin (MgqRun.mk (mqFields (cmd 9 (17 + 1 * 2 ^ 16) 16 0)) false (m9.gf pgMGQ MGQ.RING_STS_CCOUNT) MgqWait.commit)).quiesce (pgPRT (mqArg0 (cmd 9 (17 + 1 * 2 ^ 16) 16 0) % 1024)) = false) ∧ (mqArg0 (mqFields (cmd 9 (17 + 1 * 2 ^ 16) 16 0)) = mqArg0 (cmd 9 (17 + 1 * 2 ^ 16) 16 0)) ∧ (mqOp (mqFields (cmd 9 (17 + 1 * 2 ^ 16) 16 0)) = 9) ∧ (fld (mqFields (cmd 9 (17 + 1 * 2 ^ 16) 16 0)) 48 2 = bits (mqArg0 (cmd 9 (17 + 1 * 2 ^ 16) 16 0)) 16 2) ∧ (fld (mqFields (cmd 9 (17 + 1 * 2 ^ 16) 16 0)) 64 4 = 0) ∧ (bits (mqArg0 (cmd 9 (17 + 1 * 2 ^ 16) 16 0)) 16 2 = 1 ∧ ((m9.sf pgMGQ MGQ.RING_STS_CCOUNT ((m9.gf pgMGQ MGQ.RING_STS_CCOUNT + 1) % 65536)).mqBegin (MgqRun.mk (mqFields (cmd 9 (17 + 1 * 2 ^ 16) 16 0)) false (m9.gf pgMGQ MGQ.RING_STS_CCOUNT) MgqWait.commit)).stationUp (mqArg0 (cmd 9 (17 + 1 * 2 ^ 16) 16 0) % 1024) = false))
    ∧ ((m9.mqMayFetch = true) ∧ (mqPhase (cmd 9 (17 + 3 * 2 ^ 16) 16 0) = m9.mqLap (m9.gf pgMGQ MGQ.RING_STS_CCOUNT)) ∧ (mqOp (cmd 9 (17 + 3 * 2 ^ 16) 16 0) = 9) ∧ (((m9.sf pgMGQ MGQ.RING_STS_CCOUNT ((m9.gf pgMGQ MGQ.RING_STS_CCOUNT + 1) % 65536)).mqBegin (MgqRun.mk (mqFields (cmd 9 (17 + 3 * 2 ^ 16) 16 0)) false (m9.gf pgMGQ MGQ.RING_STS_CCOUNT) MgqWait.commit)).quiesce (pgPRT (mqArg0 (cmd 9 (17 + 3 * 2 ^ 16) 16 0) % 1024)) = false) ∧ (mqArg0 (mqFields (cmd 9 (17 + 3 * 2 ^ 16) 16 0)) = mqArg0 (cmd 9 (17 + 3 * 2 ^ 16) 16 0)) ∧ (mqOp (mqFields (cmd 9 (17 + 3 * 2 ^ 16) 16 0)) = 9) ∧ (fld (mqFields (cmd 9 (17 + 3 * 2 ^ 16) 16 0)) 48 2 = bits (mqArg0 (cmd 9 (17 + 3 * 2 ^ 16) 16 0)) 16 2) ∧ (fld (mqFields (cmd 9 (17 + 3 * 2 ^ 16) 16 0)) 64 4 = 0) ∧ (bits (mqArg0 (cmd 9 (17 + 3 * 2 ^ 16) 16 0)) 16 2 = 3)) := by
  refine ⟨?_, ?_, ?_, ?_, ?_, ?_, ?_, ?_, ?_, ?_, ?_, ?_, ?_, ?_, ?_, ?_, ?_, ?_, ?_⟩ <;> decide +kernel

theorem witness_FullTransactionOverflows :
    ((m10.mezSt = mzOPEN) ∧ (m10.gb pgDEV DEV.FEAT_EN_MEZ = true) ∧ (m10.active pgMEZ = true) ∧ (m10.gb pgMEZ HDR.PAGE_CTL_QUIESCE = false) ∧ (16384 ≤ m10.mez.staged.length))
    ∧ ((m6.mezSt = mzOPEN) ∧ (m6.mez.staged ≠ []) ∧ (m6.gb pgMEZ MEZ.MEZ_STS_OVERFLOW = true) ∧ (tkey Tbl.que 9 / 2 ^ 24 ≠ tkey Tbl.src 0 / 2 ^ 24))
    ∧ ((m6.mezSt = mzOPEN) ∧ (m6.mez.staged ≠ []) ∧ (m6.gb pgMEZ MEZ.MEZ_STS_OVERFLOW = true) ∧ (stageTarget (raddr pgSWC 128) = true) ∧ (raddr pgSWC 128 ≠ raddr pgLND LND.CNT_HOLDOFF_WAITS)) := by
  refine ⟨?_, ?_, ?_⟩ <;> decide +kernel

theorem witness_MezzanineTransactions :
    ((m11.mezSt ≠ mzAPPLYING) ∧ (m11.gb pgDEV DEV.FEAT_EN_MEZ = true) ∧ (m11.active pgMEZ = true) ∧ (m11.gb pgMEZ HDR.PAGE_CTL_QUIESCE = false) ∧ (stageTarget (m11.gf pgMEZ MEZ.STAGE_ADDR_OFFSET * 4) = true ∧ m11.mez.staged.length < 16384))
    ∧ ((m12.mezSt ≠ mzAPPLYING) ∧ (m12.gb pgDEV DEV.FEAT_EN_MEZ = true) ∧ (m12.active pgMEZ = true) ∧ (m12.gb pgMEZ HDR.PAGE_CTL_QUIESCE = false) ∧ (stageTarget (m12.gf pgMEZ MEZ.STAGE_ADDR_OFFSET * 4) = false))
    ∧ ((r0.mezSt ≠ mzAPPLYING) ∧ (r0.active pgMEZ = false))
    ∧ ((m14.mezHolds = true) ∧ (stageTarget (m14.gf pgMEZ MEZ.STAGE_ADDR_OFFSET * 4) = true))
    ∧ ((m0.mezSt ≠ mzAPPLYING) ∧ (m0.mez.staged = []))
    ∧ ((m5.mezSt ≠ mzAPPLYING) ∧ (m5.mez.staged ≠ [] ∧ m5.commitReason = none))
    ∧ ((m5.mezSt ≠ mzAPPLYING) ∧ (m5.mez.staged ≠ []))
    ∧ ((m6.mezSt ≠ mzAPPLYING) ∧ (m6.mez.staged ≠ []) ∧ (m6.commitReason = some (none, 4)))
    ∧ ((m13.mezSt = mzAPPLYING))
    ∧ ((sw ∈ m13.mez.staged))
    ∧ ((m13.mezSt = mzAPPLYING) ∧ (m13.mgq = Mgq.reset) ∧ (((((((m13.each m13.mez.staged fun w s => s.applyOne w).mezRelease.sf pgMEZ MEZ.APPLY_NS_NS 2500).sf pgMEZ MEZ.MEZ_STS_LAST_STATUS 0).cnt pgMEZ MEZ.CNT_COMMITS).cnt pgMEZ MEZ.CNT_WRITES_APPLIED m13.mez.staged.length).event pgMEZ 0).mgq = Mgq.reset) ∧ (((((((m13.each m13.mez.staged fun w s => s.applyOne w).mezRelease.sf pgMEZ MEZ.APPLY_NS_NS 2500).sf pgMEZ MEZ.MEZ_STS_LAST_STATUS 0).cnt pgMEZ MEZ.CNT_COMMITS).cnt pgMEZ MEZ.CNT_WRITES_APPLIED m13.mez.staged.length).event pgMEZ 0).mez.deferred = []) ∧ (((((((m13.each m13.mez.staged fun w s => s.applyOne w).mezRelease.sf pgMEZ MEZ.APPLY_NS_NS 2500).sf pgMEZ MEZ.MEZ_STS_LAST_STATUS 0).cnt pgMEZ MEZ.CNT_COMMITS).cnt pgMEZ MEZ.CNT_WRITES_APPLIED m13.mez.staged.length).event pgMEZ 0).mez.held = []))
    ∧ ((m5.mezSt ≠ mzAPPLYING)) := by
  refine ⟨?_, ?_, ?_, ?_, ?_, ?_, ?_, ?_, ?_, ?_, ?_, ?_⟩ <;> decide +kernel

end Sys2Proof.Machine.Wit12

/-! ### States of the statements, part 13 -/

namespace Sys2Proof.Machine.Wit13

def e0 : State := { on r0 [pgERG] with clock := 1000000 }
def e0a : State := (r0.sf pgERG HDR.PAGE_CTL_EN 1).sf pgERG HDR.PAGE_STS_EN_PENDING 1
def e1 : State := (e0.sf pgERG ERG.ERG_CFG_CH_PRESENT 15).setErgSt 2 erINIT
def e2 : State := { e1 with erg := { e1.erg with retained := [2] } }
def e3 : State := { e1 with clock := 5 }
def e4 : State := { e0 with erg := { e0.erg with mem := [(2 * 2 ^ 36 + 5, 7), (3 * 2 ^ 36, 9)] } }
def e5 : State := (e1.setErgSt 2 erACTIVE).sf pgERG ERG.SCRUB_CTL_EN 1
def e6 : State := (e5.sf pgERG ERG.ERG_CFG_SPARE_EN 1).sf pgERG ERG.ERG_CFG_RANKS 1
def pt (base : Nat) (cs : List (Option Byte)) : Part := ⟨0, 3, 5, 0, 0, 0, 0, 0, 0, true, true, 0x1000, cs.length, 0, 0, base, cs, [], none, 0, .erg, [], 0⟩
def ac (op : AccOp) (base : Nat) (cs : List (Option Byte)) : Acc := ⟨op, .host 3, 0, 0x1000, 0, cs.length, 0, false, [pt base cs]⟩
def w8 : List (Option Byte) := [none, some 1, some 2, some 3, some 4, none, none, some 9]
def s8 : List (Option Byte) := [none, none, none, none, some 4, some 5, some 6, some 7]
def usr : Nat := 2 * 2 ^ 36 + 0x11000000 + 16
def e7 : State := ((e5.sf pgERG ERG.ERG_CFG_RANKS 0).sf (pgERGC 2) ERGC.CH_CTL_HIST_SIZE 4).sf (pgERGC 2) ERGC.CH_CTL_SPILL_SIZE 0
def acs (s : State) (a : Acc) : State := { s with brg := { s.brg with accs := [(4, a)], next := 5 }, erg := { s.erg with mem := [(usr, 7), (usr + 4, 200)] } }
def e8 : State := e7.sf (pgERGC 2) ERGC.CH_CTL_SPILL_SIZE 8

theorem witness_ErgChannels :
    ((e0a.gb pgERG HDR.PAGE_STS_EN_PENDING = true) ∧ (e0a.gb pgERG HDR.PAGE_CTL_EN = true) ∧ (e0a.active pgERG = false))
    ∧ ((e0.gb pgERG HDR.PAGE_STS_EN_PENDING = false))
    ∧ ((2 < 4) ∧ (e1.ergSt 2 = erINIT) ∧ (e1.due (SMap.get (fun x => 0) e1.erg.since 2 + us (if e1.erg.retained.contains 2 = true then 200 else 700)) = true ∧ e1.erg.retained.contains 2 = false))
    ∧ ((2 < 4) ∧ (e1.ergSt 2 = erINIT) ∧ (e1.due (SMap.get (fun x => 0) e1.erg.since 2 + us (if e1.erg.retained.contains 2 = true then 200 else 700)) = true))
    ∧ ((2 < 4) ∧ (e2.ergSt 2 = erINIT) ∧ (e2.due (SMap.get (fun x => 0) e2.erg.since 2 + us (if e2.erg.retained.contains 2 = true then 200 else 700)) = true ∧ e2.erg.retained.contains 2 = true))
    ∧ ((2 < 4) ∧ (e3.ergSt 2 = erINIT) ∧ (e3.due (SMap.get (fun x => 0) e3.erg.since 2 + us (if e3.erg.retained.contains 2 = true then 200 else 700)) = false))
    ∧ ((2 < 4) ∧ (e0.ergSt 2 ≠ erINIT))
    ∧ ((2 * 2 ^ 36 ≤ 2 * 2 ^ 36 + 5) ∧ (2 * 2 ^ 36 + 5 < 2 * 2 ^ 36 + 2 ^ 36))
    ∧ ((3 * 2 ^ 36 < 2 * 2 ^ 36 ∨ 2 * 2 ^ 36 + 2 ^ 36 ≤ 3 * 2 ^ 36))
    ∧ ((2 < 4) ∧ ((e0.setErgSt 2 erFILL).ergSt 2 = erFILL))
    ∧ ((2 < 4) ∧ (e0.ergSt 2 ≠ erFILL))
    ∧ ((2 < 4))
    ∧ ((2 < 4) ∧ (e5.gb pgERG ERG.SCRUB_CTL_EN = true ∧ e5.ergSt 2 = erACTIVE))
    ∧ ((2 < 4) ∧ (e1.gb pgERG ERG.SCRUB_CTL_EN = false ∨ e1.ergSt 2 ≠ erACTIVE))
    ∧ ((2 < 4) ∧ ((e6.ergSpares = true ∧ e6.ergSt 2 = erACTIVE ∧ e6.gb (pgERGC 2) ERGC.CH_STS_SPARED = false) ∧ (false = true ∨ max 1 (e6.gf pgERG ERG.ERG_CFG_CE_TH) < 30000)))
    ∧ ((2 < 4) ∧ (e6.ergSpares = false ∨ e6.ergSt 2 ≠ erACTIVE ∨ e6.gb (pgERGC 2) ERGC.CH_STS_SPARED = true ∨ false = false ∧ 1 ≤ max 1 (e6.gf pgERG ERG.ERG_CFG_CE_TH)))
    ∧ ((2 < 4) ∧ ((e6.setErgSt 2 erSPARING).ergSt 2 = erSPARING))
    ∧ ((2 < 4) ∧ (e6.ergSt 2 ≠ erSPARING))
    ∧ ((2 < 4) ∧ (e6.ergSt 2 = erACTIVE ∨ e6.ergSt 2 = erSPARING))
    ∧ ((2 < 4) ∧ (e1.ergSt 2 ≠ erACTIVE ∧ e1.ergSt 2 ≠ erSPARING)) := by
  refine ⟨?_, ?_, ?_, ?_, ?_, ?_, ?_, ?_, ?_, ?_, ?_, ?_, ?_, ?_, ?_, ?_, ?_, ?_, ?_, ?_⟩ <;> decide +kernel

theorem witness_ErgAccesses :
    (((acs e7 (ac AccOp.write usr w8)).ergNext 4 = some (4, ac AccOp.write usr w8, 0, pt usr w8)) ∧ ((acs e7 (ac AccOp.write usr w8)).ergCode (ac AccOp.write usr w8) (pt usr w8) = 0))
    ∧ (((acs e7 (ac AccOp.write usr w8)).ergNext 4 = some (4, ac AccOp.write usr w8, 0, pt usr w8)) ∧ ((acs e7 (ac AccOp.write usr w8)).ergCode (ac AccOp.write usr w8) (pt usr w8) = 0 ∧ (ac AccOp.write usr w8).op = AccOp.write))
    ∧ (((acs e7 (ac AccOp.read usr w8)).ergNext 4 = some (4, ac AccOp.read usr w8, 0, pt usr w8)) ∧ ((acs e7 (ac AccOp.read usr w8)).ergCode (ac AccOp.read usr w8) (pt usr w8) = 0 ∧ (ac AccOp.read usr w8).op ≠ AccOp.write ∧ (((acs e7 (ac AccOp.read usr w8)).cnt (pgERGC (ergChan (pt usr w8))) ERGC.CNT_USER_ACCESSES).ergUncorr (ergChan (pt usr w8)) ((pt usr w8).base % 2 ^ 36) (((acs e7 (ac AccOp.read usr w8)).cnt (pgERGC (ergChan (pt usr w8))) ERGC.CNT_USER_ACCESSES).ergRankOf (ergChan (pt usr w8)) ((pt usr w8).base % 2 ^ 36)) false).ergRegion (ergChan (pt usr w8)) ((pt usr w8).base % 2 ^ 36) = 2))
    ∧ (((acs e1 (ac AccOp.read usr w8)).ergNext 4 = some (4, ac AccOp.read usr w8, 0, pt usr w8)) ∧ ((acs e1 (ac AccOp.read usr w8)).ergCode (ac AccOp.read usr w8) (pt usr w8) ≠ 0))
    ∧ ((e7.ergNext 4 = none))
    ∧ ((¬bitAt (e0.gf pgERG ERG.ERG_CFG_CH_PRESENT) (ergChan (pt usr w8)) = true))
    ∧ ((bitAt (e1.gf pgERG ERG.ERG_CFG_CH_PRESENT) (ergChan (pt usr w8)) = true ∧ ¬(e1.ergSt (ergChan (pt usr w8)) = erACTIVE ∨ e1.ergSt (ergChan (pt usr w8)) = erSPARING)))
    ∧ ((bitAt (e7.gf pgERG ERG.ERG_CFG_CH_PRESENT) (ergChan (pt (2 * 2 ^ 36 + 256 * 2 ^ 26) w8)) = true ∧ (e7.ergSt (ergChan (pt (2 * 2 ^ 36 + 256 * 2 ^ 26) w8)) = erACTIVE ∨ e7.ergSt (ergChan (pt (2 * 2 ^ 36 + 256 * 2 ^ 26) w8)) = erSPARING) ∧ ¬(pt (2 * 2 ^ 36 + 256 * 2 ^ 26) w8).base % 2 ^ 36 / 2 ^ 26 < e7.ergUsable))
    ∧ ((bitAt (e8.gf pgERG ERG.ERG_CFG_CH_PRESENT) (ergChan (pt (2 * 2 ^ 36 + 4 * 2 ^ 26) w8)) = true ∧ (e8.ergSt (ergChan (pt (2 * 2 ^ 36 + 4 * 2 ^ 26) w8)) = erACTIVE ∨ e8.ergSt (ergChan (pt (2 * 2 ^ 36 + 4 * 2 ^ 26) w8)) = erSPARING) ∧ (pt (2 * 2 ^ 36 + 4 * 2 ^ 26) w8).base % 2 ^ 36 / 2 ^ 26 < e8.ergUsable ∧ e8.histSize (ergChan (pt (2 * 2 ^ 36 + 4 * 2 ^ 26) w8)) ≤ (pt (2 * 2 ^ 36 + 4 * 2 ^ 26) w8).base % 2 ^ 36 / 2 ^ 26 ∧ (pt (2 * 2 ^ 36 + 4 * 2 ^ 26) w8).base % 2 ^ 36 / 2 ^ 26 < e8.histSize (ergChan (pt (2 * 2 ^ 36 + 4 * 2 ^ 26) w8)) + e8.spillSize (ergChan (pt (2 * 2 ^ 36 + 4 * 2 ^ 26) w8))))
    ∧ ((bitAt (e8.gf pgERG ERG.ERG_CFG_CH_PRESENT) (ergChan (pt (2 * 2 ^ 36 + 4 * 2 ^ 26 - 8) w8)) = true ∧ (e8.ergSt (ergChan (pt (2 * 2 ^ 36 + 4 * 2 ^ 26 - 8) w8)) = erACTIVE ∨ e8.ergSt (ergChan (pt (2 * 2 ^ 36 + 4 * 2 ^ 26 - 8) w8)) = erSPARING) ∧ (pt (2 * 2 ^ 36 + 4 * 2 ^ 26 - 8) w8).base % 2 ^ 36 / 2 ^ 26 < e8.ergUsable ∧ (pt (2 * 2 ^ 36 + 4 * 2 ^ 26 - 8) w8).base % 2 ^ 36 / 2 ^ 26 < e8.histSize (ergChan (pt (2 * 2 ^ 36 + 4 * 2 ^ 26 - 8) w8)) ∧ (ac AccOp.write usr w8).op ≠ AccOp.read))
    ∧ ((bitAt (e8.gf pgERG ERG.ERG_CFG_CH_PRESENT) (ergChan (pt (2 * 2 ^ 36 + 4 * 2 ^ 26 - 8) w8)) = true ∧ (e8.ergSt (ergChan (pt (2 * 2 ^ 36 + 4 * 2 ^ 26 - 8) w8)) = erACTIVE ∨ e8.ergSt (ergChan (pt (2 * 2 ^ 36 + 4 * 2 ^ 26 - 8) w8)) = erSPARING) ∧ (pt (2 * 2 ^ 36 + 4 * 2 ^ 26 - 8) w8).base % 2 ^ 36 / 2 ^ 26 < e8.ergUsable ∧ (pt (2 * 2 ^ 36 + 4 * 2 ^ 26 - 8) w8).base % 2 ^ 36 / 2 ^ 26 < e8.histSize (ergChan (pt (2 * 2 ^ 36 + 4 * 2 ^ 26 - 8) w8)) ∧ (ac AccOp.read usr w8).op = AccOp.read))
    ∧ ((bitAt (e8.gf pgERG ERG.ERG_CFG_CH_PRESENT) (ergChan (pt (2 * 2 ^ 36 + 12 * 2 ^ 26) w8)) = true ∧ (e8.ergSt (ergChan (pt (2 * 2 ^ 36 + 12 * 2 ^ 26) w8)) = erACTIVE ∨ e8.ergSt (ergChan (pt (2 * 2 ^ 36 + 12 * 2 ^ 26) w8)) = erSPARING) ∧ (pt (2 * 2 ^ 36 + 12 * 2 ^ 26) w8).base % 2 ^ 36 / 2 ^ 26 < e8.ergUsable ∧ e8.histSize (ergChan (pt (2 * 2 ^ 36 + 12 * 2 ^ 26) w8)) + e8.spillSize (ergChan (pt (2 * 2 ^ 36 + 12 * 2 ^ 26) w8)) ≤ (pt (2 * 2 ^ 36 + 12 * 2 ^ 26) w8).base % 2 ^ 36 / 2 ^ 26))
    ∧ (((ac AccOp.write usr w8).op = AccOp.write) ∧ (usr + 8 < (pt usr w8).base ∨ (pt usr w8).base + (pt usr w8).cells.length ≤ usr + 8))
    ∧ (((ac AccOp.write usr w8).op = AccOp.write) ∧ ((pt usr w8).cells[(7 : ℕ)]? = some (some (9 : Byte))))
    ∧ (((ac AccOp.write usr w8).op = AccOp.write) ∧ ((pt usr w8).cells[0]? = some none))
    ∧ (((ac (AccOp.atomic AtomicOp.swap) usr s8).op = AccOp.atomic AtomicOp.swap) ∧ (usr + 3 < (pt usr s8).first ∨ (pt usr s8).first + (List.filterMap id (pt usr s8).cells).length ≤ usr + 3))
    ∧ (((ac (AccOp.atomic AtomicOp.swap) usr s8).op = AccOp.atomic AtomicOp.swap))
    ∧ (((ac AccOp.read usr s8).op = AccOp.read))
    ∧ (([(1 : Byte), (255 : Byte)] ≠ [(1 : Byte), (2 : Byte)])) := by
  refine ⟨?_, ?_, ?_, ?_, ?_, ?_, ?_, ?_, ?_, ?_, ?_, ?_, ?_, ?_, ?_, ?_, ?_, ?_, ?_⟩ <;> decide +kernel

end Sys2Proof.Machine.Wit13

/-! ### States of the statements, part 14 -/

namespace Sys2Proof.Machine.Wit14

def p0 : State := { on r0 [pgOAS, pgCIS, pgSWC, pgBRG, pgMIR, pgLND] with clock := 1000000000, sys := { r0.sys with hkOn := true, coreOn := true } }
def poff : State := { p0 with sys := { p0.sys with hkOn := false } }
def st (s : State) (n : Nat) : State := s.sf pgOAS OAS.PWR_STS_STATE n
def p1 : State := { st p0 1 with oas := { p0.oas with waking := true } }
def pc (t : Nat) (i : Nat) : State := { p0.sf pgOAS OAS.PWR_STS_BUSY 1 with oas := { p0.oas with cur := some ⟨t, 0, false⟩, stopAt := i, deadline := 2000000000 } }
def armed (s : State) : State := s.sf pgOAS OAS.PWR_STS_ARMED 1
def ph : State := { pc 2 3 with oas := { (pc 2 3).oas with held := some ⟨3, 1, false⟩ } }
def pe : State := on p0 [pgCVE 127]
def pf : State := (pc 2 4).setErgSt 3 erFILL
def pt (base : Nat) (cs : List (Option Byte)) : Part := ⟨0, 3, 5, 0, 0, 0, 0, 0, 0, true, true, 0x1000, cs.length, 0, 0, base, cs, [], none, 0, .erg, [], 0⟩
def ac1 : Acc := ⟨.read, .host 3, 0, 0x1000, 0, 8, 0, false, [pt 0 [some 1]]⟩
def bz (s : State) : State := { s with brg := { s.brg with accs := [(4, ac1)], next := 5 } }
def dueNow (s : State) : State := { s with clock := 2000000000 }
def lkup : State := ((pc 2 4).sf (pgPRT 16) LNK.LINK_STS_STATE lkUP).sf (pgPRT 16) PRT.PHY_STS_STATE 8
def w (n m : Nat) : State := { st p0 n with oas := { p0.oas with modes := m, wakeList := [(7, 0xA003), (8, 0x0040)] } }
def wt (n : Nat) : State := { w n 0 with oas := { (w n 0).oas with tripTemp := some 200, tripAt := 194 } }
def wk (n : Nat) : State := { w n 0 with oas := { (w n 0).oas with waking := true } }
def wa : State := { wk 1 with avs := { Avs.reset with asked := true } }
def wb : State := { wk 1 with avs := { Avs.reset with asked := true, target := some 700 } }
def wl : State := { (w 4 0).sf pgOAS OAS.WAKE_FLAG_TIMER 1 |>.sf pgOAS OAS.WAKE_FLAG_ANY 1 with oas := { (w 4 0).oas with wakeLow := true } }
def q0 : State := p0.sf pgCIS CIS.BUDGET_VDD 20000
def av (n : Nat) (l : Bool) : State := { q0.sf pgCIS CIS.AVS_CTL_EN 1 |>.sf pgCIS CIS.AVS_STS_CONFIRMED_MV 650 with avs := ⟨some 700, 1000000020, n, l, false, 0, false⟩ }
def avd : State := { av 1 false with clock := 1000000020 }
def th : State := q0.sf pgCIS CIS.TEMP_THROTTLING 1

theorem witness_PowerRequests :
    ((p0.sys.hkOn = true))
    ∧ ((poff.sys.hkOn = false))
    ∧ ((5 ≤ (PwrReq.mk 6 0 false).target ∨ (PwrReq.mk 6 0 false).target ≠ 0 ∧ 2 ≤ p0.gf pgOAS OAS.PWR_STS_STATE))
    ∧ ((p0.oas.cur = none ∧ (PwrReq.mk 0 0 false).target = 0 ∧ p0.gf pgOAS OAS.PWR_STS_STATE = 0))
    ∧ (((st p0 1).oas.cur = none ∧ (st p0 1).oas.waking = false ∧ (st p0 1).gf pgOAS OAS.PWR_STS_STATE < 2 ∧ (PwrReq.mk 1 0 false).target < 5 ∧ (PwrReq.mk 1 0 false).target ≠ 0 ∧ (PwrReq.mk 1 0 false).target = (st p0 1).gf pgOAS OAS.PWR_STS_STATE))
    ∧ ((p0.oas.cur = none ∧ p0.oas.waking = false ∧ p0.gf pgOAS OAS.PWR_STS_STATE < 2 ∧ (PwrReq.mk 2 0 false).target < 5 ∧ (PwrReq.mk 2 0 false).target ≠ 0 ∧ (PwrReq.mk 2 0 false).target ≠ p0.gf pgOAS OAS.PWR_STS_STATE))
    ∧ ((p1.oas.cur = none ∧ p1.oas.waking = true ∧ p1.gf pgOAS OAS.PWR_STS_STATE < 2 ∧ (PwrReq.mk 2 0 false).target < 5 ∧ (PwrReq.mk 2 0 false).target ≠ 0))
    ∧ (((armed (pc 2 10)).gf pgOAS OAS.PWR_STS_STATE < 2) ∧ ((PwrReq.mk 2 0 false).target < 5) ∧ ((armed (pc 2 10)).oas.cur = some (PwrReq.mk 2 0 false)) ∧ ((PwrReq.mk 2 0 false).target = (PwrReq.mk 2 0 false).target ∧ (armed (pc 2 10)).gb pgOAS OAS.PWR_STS_ARMED = true))
    ∧ (((pc 2 3).gf pgOAS OAS.PWR_STS_STATE < 2) ∧ ((PwrReq.mk 2 0 false).target < 5) ∧ ((pc 2 3).oas.cur = some (PwrReq.mk 2 0 false)) ∧ ((PwrReq.mk 2 0 false).target = (PwrReq.mk 2 0 false).target ∧ (pc 2 3).gb pgOAS OAS.PWR_STS_ARMED = false))
    ∧ (((pc 2 3).gf pgOAS OAS.PWR_STS_STATE < 2) ∧ ((PwrReq.mk 0 0 false).target < 5) ∧ ((pc 2 3).oas.cur = some (PwrReq.mk 2 0 false)) ∧ ((PwrReq.mk 2 0 false).target ≠ (PwrReq.mk 0 0 false).target ∧ (PwrReq.mk 0 0 false).target = 0))
    ∧ (((pc 2 3).gf pgOAS OAS.PWR_STS_STATE < 2) ∧ ((PwrReq.mk 3 0 false).target < 5) ∧ ((pc 2 3).oas.cur = some (PwrReq.mk 2 0 false)) ∧ ((PwrReq.mk 2 0 false).target ≠ (PwrReq.mk 3 0 false).target ∧ (PwrReq.mk 3 0 false).target ≠ 0 ∧ (pc 2 3).gb pgOAS OAS.PWR_STS_ARMED = false))
    ∧ ((p0.oas.held = none))
    ∧ ((ph.oas.held = some (PwrReq.mk 3 1 false)))
    ∧ ((1 ≠ 3))
    ∧ ((3 = 3))
    ∧ (((PwrReq.mk 7 0 false).target < 8))
    ∧ ((127 < 128) ∧ (pe.oas.stopped = []) ∧ (pe.active (pgCVE 127) = true))
    ∧ (((armed (pc 2 10)).oas.waking = false) ∧ ((armed (pc 2 10)).oas.cur = some (PwrReq.mk 2 0 false)) ∧ ((PwrReq.mk 2 0 false).target ≠ 0) ∧ ((armed (pc 2 10)).wakeAny.gb pgOAS OAS.PWR_STS_ARMED = true ∨ (armed (pc 2 10)).wakeAny.stopOk (armed (pc 2 10)).oas.stopAt (PwrReq.mk 2 0 false).target = false))
    ∧ (((pc 1 8).oas.waking = false) ∧ ((pc 1 8).oas.cur = some (PwrReq.mk 1 0 false)) ∧ ((PwrReq.mk 1 0 false).target ≠ 0) ∧ (((pc 1 8).wakeAny.gb pgOAS OAS.PWR_STS_ARMED = false ∧ (pc 1 8).wakeAny.stopOk (pc 1 8).oas.stopAt (PwrReq.mk 1 0 false).target = true) ∧ (pc 1 8).oas.stopAt ≠ 4 ∧ (pc 1 8).oas.stopAt ≠ 5 ∧ (pc 1 8).oas.stopAt + 1 = lastStop (PwrReq.mk 1 0 false).target ∧ (PwrReq.mk 1 0 false).target = 1))
    ∧ (((pc 3 11).oas.waking = false) ∧ ((pc 3 11).oas.cur = some (PwrReq.mk 3 0 false)) ∧ ((PwrReq.mk 3 0 false).target ≠ 0) ∧ (((pc 3 11).wakeAny.gb pgOAS OAS.PWR_STS_ARMED = false ∧ (pc 3 11).wakeAny.stopOk (pc 3 11).oas.stopAt (PwrReq.mk 3 0 false).target = true) ∧ (pc 3 11).oas.stopAt ≠ 4 ∧ (pc 3 11).oas.stopAt ≠ 5 ∧ (pc 3 11).oas.stopAt + 1 = lastStop (PwrReq.mk 3 0 false).target ∧ (PwrReq.mk 3 0 false).target ≠ 1))
    ∧ (((pc 2 2).oas.waking = false) ∧ ((pc 2 2).oas.cur = some (PwrReq.mk 2 0 false)) ∧ ((PwrReq.mk 2 0 false).target ≠ 0) ∧ (((pc 2 2).wakeAny.gb pgOAS OAS.PWR_STS_ARMED = false ∧ (pc 2 2).wakeAny.stopOk (pc 2 2).oas.stopAt (PwrReq.mk 2 0 false).target = true) ∧ (pc 2 2).oas.stopAt ≠ 4 ∧ (pc 2 2).oas.stopAt ≠ 5 ∧ (pc 2 2).oas.stopAt + 1 ≠ lastStop (PwrReq.mk 2 0 false).target ∧ ((pc 2 2).wakeAny.seqTurn ((pc 2 2).oas.stopAt + 1)).refusesNow ((pc 2 2).oas.stopAt + 1) (PwrReq.mk 2 0 false).target = none))
    ∧ (((pc 2 4).oas.waking = false) ∧ ((pc 2 4).oas.cur = some (PwrReq.mk 2 0 false)) ∧ ((PwrReq.mk 2 0 false).target ≠ 0) ∧ (((pc 2 4).wakeAny.gb pgOAS OAS.PWR_STS_ARMED = false ∧ (pc 2 4).wakeAny.stopOk (pc 2 4).oas.stopAt (PwrReq.mk 2 0 false).target = true) ∧ (pc 2 4).oas.stopAt = 4 ∧ ((pc 2 4).wakeAny.stopGroups.seqTurn 5).refusesNow 5 (PwrReq.mk 2 0 false).target = none))
    ∧ (((pc 2 5).oas.waking = false) ∧ ((pc 2 5).oas.cur = some (PwrReq.mk 2 0 false)) ∧ ((PwrReq.mk 2 0 false).target ≠ 0) ∧ (((pc 2 5).wakeAny.gb pgOAS OAS.PWR_STS_ARMED = false ∧ (pc 2 5).wakeAny.stopOk (pc 2 5).oas.stopAt (PwrReq.mk 2 0 false).target = true) ∧ (pc 2 5).oas.stopAt = 5 ∧ ((pc 2 5).wakeAny.stopErg.seqTurn 6).refusesNow 6 (PwrReq.mk 2 0 false).target = none))
    ∧ ((pf.oas.waking = false) ∧ (pf.oas.cur = some (PwrReq.mk 2 0 false)) ∧ ((PwrReq.mk 2 0 false).target ≠ 0) ∧ (pf.oas.stopAt = 4) ∧ (pf.wakeAny.gb pgOAS OAS.PWR_STS_ARMED = false ∧ pf.wakeAny.stopOk 4 (PwrReq.mk 2 0 false).target = true ∧ (pf.wakeAny.stopGroups.seqTurn 5).refusesNow 5 (PwrReq.mk 2 0 false).target = some 3))
    ∧ (((dueNow (bz (pc 2 2))).oas.waking = false) ∧ ((dueNow (bz (pc 2 2))).oas.cur = some (PwrReq.mk 2 0 false)) ∧ ((PwrReq.mk 2 0 false).target ≠ 0) ∧ (blkOf (stopPage (dueNow (bz (pc 2 2))).oas.stopAt 0) = some (Blk.brg, 0)) ∧ (((dueNow (bz (pc 2 2))).wakeAny.gb pgOAS OAS.PWR_STS_ARMED = false ∧ stopReason (dueNow (bz (pc 2 2))).oas.stopAt ≠ 0 ∧ (dueNow (bz (pc 2 2))).wakeAny.stopOk (dueNow (bz (pc 2 2))).oas.stopAt (PwrReq.mk 2 0 false).target = false) ∧ ((dueNow (bz (pc 2 2))).wakeAny.due (dueNow (bz (pc 2 2))).wakeAny.oas.deadline = true ∨ (dueNow (bz (pc 2 2))).wakeAny.refusesSeen (dueNow (bz (pc 2 2))).oas.stopAt 0 = true) ∧ (dueNow (bz (pc 2 2))).wakeAny.oas.stopAt = (dueNow (bz (pc 2 2))).oas.stopAt))
    ∧ (((bz (pc 2 2)).oas.waking = false) ∧ ((bz (pc 2 2)).oas.cur = some (PwrReq.mk 2 0 false)) ∧ ((PwrReq.mk 2 0 false).target ≠ 0) ∧ (blkOf (stopPage (bz (pc 2 2)).oas.stopAt 0) = some (Blk.brg, 0)) ∧ (((bz (pc 2 2)).wakeAny.gb pgOAS OAS.PWR_STS_ARMED = false ∧ stopReason (bz (pc 2 2)).oas.stopAt ≠ 0 ∧ (bz (pc 2 2)).wakeAny.stopOk (bz (pc 2 2)).oas.stopAt (PwrReq.mk 2 0 false).target = false) ∧ (bz (pc 2 2)).wakeAny.due (bz (pc 2 2)).wakeAny.oas.deadline = false ∧ (bz (pc 2 2)).wakeAny.refusesSeen (bz (pc 2 2)).oas.stopAt 0 = false))
    ∧ ((p0.oas.waking = false) ∧ (p0.oas.cur = none)) := by
  refine ⟨?_, ?_, ?_, ?_, ?_, ?_, ?_, ?_, ?_, ?_, ?_, ?_, ?_, ?_, ?_, ?_, ?_, ?_, ?_, ?_, ?_, ?_, ?_, ?_, ?_, ?_, ?_⟩ <;> decide +kernel

theorem witness_Wakes :
    (((1 ≤ (w 3 4).gf pgOAS OAS.PWR_STS_STATE ∧ ((w 3 4).sys.hkOn = true ∨ 3 ≤ (w 3 4).gf pgOAS OAS.PWR_STS_STATE)) ∧ bitAt (w 3 4).oas.modes 2 = true))
    ∧ ((¬(1 ≤ (w 3 4).gf pgOAS OAS.PWR_STS_STATE ∧ ((w 3 4).sys.hkOn = true ∨ 3 ≤ (w 3 4).gf pgOAS OAS.PWR_STS_STATE)) ∨ bitAt (w 3 4).oas.modes 1 = false ∨ (w 3 4).due ((w 3 4).oas.entered + ceilDiv ((w 3 4).gf1 pgOAS OAS.WAKE_TIMER_TICKS * 1000000000) 32768) = false))
    ∧ ((¬(1 ≤ (w 2 2).gf pgOAS OAS.PWR_STS_STATE ∧ ((w 2 2).sys.hkOn = true ∨ 3 ≤ (w 2 2).gf pgOAS OAS.PWR_STS_STATE)) ∨ bitAt (w 2 2).oas.modes 2 = false))
    ∧ (((1 ≤ (w 2 2).gf pgOAS OAS.PWR_STS_STATE ∧ ((w 2 2).sys.hkOn = true ∨ 3 ≤ (w 2 2).gf pgOAS OAS.PWR_STS_STATE)) ∧ bitAt (w 2 2).oas.modes 1 = true ∧ (w 2 2).due ((w 2 2).oas.entered + ceilDiv ((w 2 2).gf1 pgOAS OAS.WAKE_TIMER_TICKS * 1000000000) 32768) = true))
    ∧ ((List.find? (fun e => e.1 == 7) (w 3 0).oas.wakeList = some (7, 40963)) ∧ (((w 3 0).gf pgOAS OAS.PWR_STS_STATE = 2 ∧ (w 3 0).sys.hkOn = true ∨ 3 ≤ (w 3 0).gf pgOAS OAS.PWR_STS_STATE) ∧ srcAlive ((w 3 0).gf pgOAS OAS.PWR_STS_STATE) 40963 = true))
    ∧ ((List.find? (fun e => e.1 == 8) (w 3 0).oas.wakeList = some (8, 64)) ∧ (¬((w 3 0).gf pgOAS OAS.PWR_STS_STATE = 2 ∧ (w 3 0).sys.hkOn = true ∨ 3 ≤ (w 3 0).gf pgOAS OAS.PWR_STS_STATE) ∨ srcAlive ((w 3 0).gf pgOAS OAS.PWR_STS_STATE) 64 = false))
    ∧ ((List.find? (fun e => e.1 == 9) (w 3 0).oas.wakeList = none))
    ∧ (((wt 3).oas.tripTemp = some 200) ∧ ((wt 3).gf pgOAS OAS.PWR_STS_STATE = 3 ∧ 173 + 20 < (wt 3).oas.tripAt))
    ∧ (((wt 3).oas.tripTemp = some 200) ∧ ((wt 3).gf pgOAS OAS.PWR_STS_STATE ≠ 3 ∨ (wt 3).oas.tripAt ≤ 174 + 20))
    ∧ (((w 3 0).oas.tripTemp = none))
    ∧ (((have __src := (w 3 0).sf pgOAS OAS.WAKE_FLAG_TIMER 1; State.mk __src.pending __src.clock __src.free __src.out __src.regs __src.tbls __src.sets __src.smb __src.sys __src.lnd __src.flt (have __src := ((w 3 0).sf pgOAS OAS.WAKE_FLAG_TIMER 1).oas; Oasis.mk __src.cur __src.joined __src.stopAt __src.stopped __src.deadline __src.held __src.modes __src.entered __src.wakeList __src.latched __src.tripTemp __src.pmeAck true __src.ergWas __src.portWake __src.base __src.wakeLow __src.tripAt) __src.avs __src.vlt __src.host __src.links __src.lards __src.ports __src.brg __src.gal __src.sch __src.cvn __src.hlm __src.erg __src.mgq __src.mez __src.tap).gf pgOAS OAS.PWR_STS_STATE = 3))
    ∧ (((have __src := (w 4 0).sf pgOAS OAS.WAKE_FLAG_TIMER 1; State.mk __src.pending __src.clock __src.free __src.out __src.regs __src.tbls __src.sets __src.smb __src.sys __src.lnd __src.flt (have __src := ((w 4 0).sf pgOAS OAS.WAKE_FLAG_TIMER 1).oas; Oasis.mk __src.cur __src.joined __src.stopAt __src.stopped __src.deadline __src.held __src.modes __src.entered __src.wakeList __src.latched __src.tripTemp __src.pmeAck true __src.ergWas __src.portWake __src.base __src.wakeLow __src.tripAt) __src.avs __src.vlt __src.host __src.links __src.lards __src.ports __src.brg __src.gal __src.sch __src.cvn __src.hlm __src.erg __src.mgq __src.mez __src.tap).gf pgOAS OAS.PWR_STS_STATE = 4))
    ∧ (((have __src := (w 1 0).sf pgOAS OAS.WAKE_FLAG_TIMER 1; State.mk __src.pending __src.clock __src.free __src.out __src.regs __src.tbls __src.sets __src.smb __src.sys __src.lnd __src.flt (have __src := ((w 1 0).sf pgOAS OAS.WAKE_FLAG_TIMER 1).oas; Oasis.mk __src.cur __src.joined __src.stopAt __src.stopped __src.deadline __src.held __src.modes __src.entered __src.wakeList __src.latched __src.tripTemp __src.pmeAck true __src.ergWas __src.portWake __src.base __src.wakeLow __src.tripAt) __src.avs __src.vlt __src.host __src.links __src.lards __src.ports __src.brg __src.gal __src.sch __src.cvn __src.hlm __src.erg __src.mgq __src.mez __src.tap).gf pgOAS OAS.PWR_STS_STATE < 3))
    ∧ (((wk 1).oas.waking = true) ∧ ((wk 1).oas.cur = none) ∧ ((wk 1).wakeAny.gf pgOAS OAS.PWR_STS_STATE = 1 ∧ (wk 1).wakeAny.avs.asked = false))
    ∧ (((wk 2).oas.waking = true) ∧ ((wk 2).oas.cur = none) ∧ ((wk 2).wakeAny.gf pgOAS OAS.PWR_STS_STATE = 2 ∧ (wk 2).wakeAny.cfgRaw 0 CfgReg.pmeEnable ≠ 1))
    ∧ ((((wk 2).setCfg 0 CfgReg.pmeEnable 1).oas.waking = true) ∧ (((wk 2).setCfg 0 CfgReg.pmeEnable 1).oas.cur = none) ∧ (((wk 2).setCfg 0 CfgReg.pmeEnable 1).wakeAny.gf pgOAS OAS.PWR_STS_STATE = 2 ∧ ((wk 2).setCfg 0 CfgReg.pmeEnable 1).wakeAny.cfgRaw 0 CfgReg.pmeEnable = 1))
    ∧ ((wa.oas.cur = none) ∧ (wa.oas.waking = true) ∧ (wa.gf pgOAS OAS.PWR_STS_STATE = 1) ∧ (wa.avs.asked = true) ∧ (wa.avs.target = none))
    ∧ ((wb.oas.cur = none) ∧ (wb.oas.waking = true) ∧ (wb.gf pgOAS OAS.PWR_STS_STATE = 1) ∧ (wb.avs.asked = true) ∧ (wb.avs.target ≠ none))
    ∧ ((wa.oas.cur = none) ∧ (wa.oas.held = none) ∧ (wa.oas.portWake = []) ∧ (wa.oas.ergWas = []) ∧ (wa.oas.stopped = []))
    ∧ (((wl.setReg (raddr pgOAS (76 : ℕ)) (wl.reg (raddr pgOAS (76 : ℕ)) &&& ~~~((63 : Word) &&& (63 : Word)))).wakeAny.gb pgOAS OAS.WAKE_FLAG_ANY = false ∧ (wl.setReg (raddr pgOAS (76 : ℕ)) (wl.reg (raddr pgOAS (76 : ℕ)) &&& ~~~((63 : Word) &&& (63 : Word)))).wakeAny.oas.wakeLow = true))
    ∧ (((wl.setReg (raddr pgOAS (76 : ℕ)) (wl.reg (raddr pgOAS (76 : ℕ)) &&& ~~~((1 : Word) &&& (63 : Word)))).wakeAny.gb pgOAS OAS.WAKE_FLAG_ANY = true ∨ (wl.setReg (raddr pgOAS (76 : ℕ)) (wl.reg (raddr pgOAS (76 : ℕ)) &&& ~~~((1 : Word) &&& (63 : Word)))).wakeAny.oas.wakeLow = false))
    ∧ ((p0.gb pgOAS OAS.OAS_CTL_RC_ACTIVE = false))
    ∧ (((p0.sf pgOAS OAS.OAS_CTL_RC_ACTIVE 1).gb pgOAS OAS.OAS_CTL_RC_ACTIVE = true)) := by
  refine ⟨?_, ?_, ?_, ?_, ?_, ?_, ?_, ?_, ?_, ?_, ?_, ?_, ?_, ?_, ?_, ?_, ?_, ?_, ?_, ?_, ?_, ?_, ?_⟩ <;> decide +kernel

theorem witness_CisternAndSupplies :
    ((blkOf (pgCVE 7) = some (Blk.cve, 7)) ∧ (q0.admissible 12 0 = true))
    ∧ ((blkOf (pgCVE 7) = some (Blk.cve, 7)) ∧ (q0.admissible 65000 0 = false))
    ∧ ((q0.gf pgCIS CIS.GRANTED_VDD + 50000 < 65536) ∧ (q0.gf (pgCVE 7) HDR.PAGE_DRAW_VDD + 50000 < 65536))
    ∧ (((av 1 false).avs.target = some 700) ∧ (700 ≤ 690 + 10 ∧ 690 ≤ 700 + 25))
    ∧ (((av 1 false).avs.target = some 700) ∧ (¬(700 ≤ 689 + 10 ∧ 689 ≤ 700 + 25) ∧ (av 1 false).due (av 1 false).avs.deadline = false))
    ∧ ((avd.avs.target = some 700) ∧ (¬(700 ≤ 726 + 10 ∧ 726 ≤ 700 + 25) ∧ avd.due avd.avs.deadline = true))
    ∧ ((q0.avs.target = none))
    ∧ (((av 1 false).avs.last = false ∧ (av 1 false).gf pgCIS CIS.AVS_STS_CONFIRMED_MV < 700 ∧ (av 1 false).avs.failed < 2))
    ∧ (((av 2 false).avs.last = false ∧ (av 2 false).gf pgCIS CIS.AVS_STS_CONFIRMED_MV < 700 ∧ 2 ≤ (av 2 false).avs.failed))
    ∧ (((av 2 true).avs.last = true))
    ∧ (((av 2 false).gb pgCIS CIS.AVS_CTL_EN = true ∧ (av 2 false).gb pgCIS CIS.AVS_STS_FAILED = false))
    ∧ ((q0.gb pgCIS CIS.AVS_CTL_EN = false ∨ q0.gb pgCIS CIS.AVS_STS_FAILED = true))
    ∧ (((av 2 false).sys.hkOn = true) ∧ ((av 2 false).due ((av 2 false).avs.vrunAt + ms 10) = true) ∧ ((av 2 false).avs.target ≠ none))
    ∧ ((q0.sys.hkOn = true) ∧ (q0.due (q0.avs.vrunAt + ms 10) = true) ∧ (q0.avs.target = none ∧ q0.gf pgOAS OAS.PWR_STS_STATE = 0))
    ∧ (((st q0 1).sys.hkOn = true) ∧ ((st q0 1).due ((st q0 1).avs.vrunAt + ms 10) = true) ∧ ((st q0 1).avs.target = none ∧ (st q0 1).gf pgOAS OAS.PWR_STS_STATE = 1 ∧ (st q0 1).oas.waking = false))
    ∧ ((r0.sys.hkOn = false ∨ r0.due (r0.avs.vrunAt + ms 10) = false))
    ∧ ((178 < 256) ∧ (q0.sys.hkOn = true) ∧ (false = if q0.gb pgCIS CIS.TEMP_THROTTLING = true then !decide (178 + q0.gf1 pgCIS CIS.THERM_CTL_HYST < q0.gf pgCIS CIS.THERM_CTL_THROT) else decide (q0.gf pgCIS CIS.THERM_CTL_THROT ≤ 178)) ∧ ((false = false ∨ q0.gb pgCIS CIS.TEMP_THROTTLING = true) ∧ 178 < ((((State.mk q0.pending q0.clock q0.free q0.out q0.regs q0.tbls q0.sets q0.smb q0.sys q0.lnd q0.flt q0.oas (have __src := q0.avs; Avs.mk __src.target __src.deadline __src.failed __src.last true __src.vrunAt __src.asked) q0.vlt q0.host q0.links q0.lards q0.ports q0.brg q0.gal q0.sch q0.cvn q0.hlm q0.erg q0.mgq q0.mez q0.tap).sf pgCIS CIS.TEMP_NOW 178).sf pgCIS CIS.TEMP_MAX (max 178 (q0.gf pgCIS CIS.TEMP_MAX))).sf pgCIS CIS.TEMP_THROTTLING (b2n false)).tripPoint))
    ∧ ((179 < 256) ∧ (q0.sys.hkOn = true) ∧ (true = if q0.gb pgCIS CIS.TEMP_THROTTLING = true then !decide (179 + q0.gf1 pgCIS CIS.THERM_CTL_HYST < q0.gf pgCIS CIS.THERM_CTL_THROT) else decide (q0.gf pgCIS CIS.THERM_CTL_THROT ≤ 179)) ∧ (true = true ∧ q0.gb pgCIS CIS.TEMP_THROTTLING = false ∧ 179 < ((((((State.mk q0.pending q0.clock q0.free q0.out q0.regs q0.tbls q0.sets q0.smb q0.sys q0.lnd q0.flt q0.oas (have __src := q0.avs; Avs.mk __src.target __src.deadline __src.failed __src.last true __src.vrunAt __src.asked) q0.vlt q0.host q0.links q0.lards q0.ports q0.brg q0.gal q0.sch q0.cvn q0.hlm q0.erg q0.mgq q0.mez q0.tap).sf pgCIS CIS.TEMP_NOW 179).sf pgCIS CIS.TEMP_MAX (max 179 (q0.gf pgCIS CIS.TEMP_MAX))).sf pgCIS CIS.TEMP_THROTTLING (b2n true)).cnt pgCIS CIS.CNT_THROTTLES).event pgCIS 1).tripPoint))
    ∧ ((194 < 256) ∧ (q0.sys.hkOn = true) ∧ (true = if q0.gb pgCIS CIS.TEMP_THROTTLING = true then !decide (194 + q0.gf1 pgCIS CIS.THERM_CTL_HYST < q0.gf pgCIS CIS.THERM_CTL_THROT) else decide (q0.gf pgCIS CIS.THERM_CTL_THROT ≤ 194)) ∧ (true = true ∧ q0.gb pgCIS CIS.TEMP_THROTTLING = false ∧ ((((((State.mk q0.pending q0.clock q0.free q0.out q0.regs q0.tbls q0.sets q0.smb q0.sys q0.lnd q0.flt q0.oas (have __src := q0.avs; Avs.mk __src.target __src.deadline __src.failed __src.last true __src.vrunAt __src.asked) q0.vlt q0.host q0.links q0.lards q0.ports q0.brg q0.gal q0.sch q0.cvn q0.hlm q0.erg q0.mgq q0.mez q0.tap).sf pgCIS CIS.TEMP_NOW 194).sf pgCIS CIS.TEMP_MAX (max 194 (q0.gf pgCIS CIS.TEMP_MAX))).sf pgCIS CIS.TEMP_THROTTLING (b2n true)).cnt pgCIS CIS.CNT_THROTTLES).event pgCIS 1).tripPoint ≤ 194))
    ∧ ((194 < 256) ∧ (th.sys.hkOn = true) ∧ (true = if th.gb pgCIS CIS.TEMP_THROTTLING = true then !decide (194 + th.gf1 pgCIS CIS.THERM_CTL_HYST < th.gf pgCIS CIS.THERM_CTL_THROT) else decide (th.gf pgCIS CIS.THERM_CTL_THROT ≤ 194)) ∧ ((true = false ∨ th.gb pgCIS CIS.TEMP_THROTTLING = true) ∧ ((((State.mk th.pending th.clock th.free th.out th.regs th.tbls th.sets th.smb th.sys th.lnd th.flt th.oas (have __src := th.avs; Avs.mk __src.target __src.deadline __src.failed __src.last true __src.vrunAt __src.asked) th.vlt th.host th.links th.lards th.ports th.brg th.gal th.sch th.cvn th.hlm th.erg th.mgq th.mez th.tap).sf pgCIS CIS.TEMP_NOW 194).sf pgCIS CIS.TEMP_MAX (max 194 (th.gf pgCIS CIS.TEMP_MAX))).sf pgCIS CIS.TEMP_THROTTLING (b2n true)).tripPoint ≤ 194))
    ∧ ((poff.sys.hkOn = false))
    ∧ ((Rail.vaux = Rail.vaux))
    ∧ ((Rail.vdd = Rail.vdd ∧ q0.gf pgOAS OAS.PWR_STS_STATE < 3 ∧ q0.sys.hkOn = true))
    ∧ ((Rail.vddio = Rail.vddio ∧ q0.gf pgOAS OAS.PWR_STS_STATE < 3 ∧ q0.sys.hkOn = true))
    ∧ ((Rail.vddq = Rail.vddq ∧ q0.gf pgOAS OAS.PWR_STS_STATE < 3 ∧ q0.sys.hkOn = true))
    ∧ ((Rail.vdd = Rail.vdd ∧ (st q0 3).gf pgOAS OAS.PWR_STS_STATE = 3))
    ∧ ((Rail.vdd = Rail.vdd ∧ (st q0 4).gf pgOAS OAS.PWR_STS_STATE = 4))
    ∧ (((st poff 4).sys.hkOn = false ∧ (st poff 4).gf pgOAS OAS.PWR_STS_STATE ≠ 3 ∧ ((st poff 4).sampled 5 Candidate.noAnswer).gf pgOAS OAS.PWR_STS_STATE = 4))
    ∧ (((st poff 0).sys.hkOn = false ∧ (st poff 0).gf pgOAS OAS.PWR_STS_STATE ≠ 3 ∧ ((st poff 0).sampled 5 Candidate.noAnswer).gf pgOAS OAS.PWR_STS_STATE ≠ 4))
    ∧ ((q0.sys.hkOn = true)) := by
  refine ⟨?_, ?_, ?_, ?_, ?_, ?_, ?_, ?_, ?_, ?_, ?_, ?_, ?_, ?_, ?_, ?_, ?_, ?_, ?_, ?_, ?_, ?_, ?_, ?_, ?_, ?_, ?_, ?_, ?_, ?_⟩ <;> decide +kernel

end Sys2Proof.Machine.Wit14

/-! ### States of the statements, part 15 -/

namespace Sys2Proof.Machine.Wit15

def h0 : State := { on r0 [pgOAS, pgCIS, pgFLT, pgLND] with clock := 2000000000, sys := { r0.sys with hkOn := true, coreOn := true } }
def magic : Word := 0xB0070001
def h1 : State := { h0 with vlt := { h0.vlt with rebootAt := some 2000000000 } }
def h2 : State := { h0 with vlt := { h0.vlt with rebootAt := some 2000000001 } }
def h3 : State := h1.sf pgMEZ MEZ.MEZ_STS_STATE 2
def h4 : State := { ((h0.sf pgERG ERG.ERG_CFG_RETAIN 1).setErgSt 2 erACTIVE) with erg := { h0.erg with mem := [(2 ^ 36 + 5, 6), (2 * 2 ^ 36 + 5, 7)], retained := [3] } }
def vs (s : State) (a b : Nat) : State := { s with vlt := { s.vlt with mem := Memory.writeN (Memory.writeN [] vaultBoot (bytesOf 8 (2 + a * 2 ^ 32))) (vaultBoot + 8) (bytesOf 8 (2 + b * 2 ^ 32)) } }
def h5 : State := { h0 with vlt := { h0.vlt with spi := .blank } }
def h6 : State := { h0 with vlt := { h0.vlt with erasing := true } }
def rc : BitVec 256 := BitVec.ofNat 256 (4 * 2 ^ 77 + 0x1234)
def h7 : State := { (((h0.sf pgDEV DEV.BOOT_STS_DONE 1).sf pgFLT FLT.FLT_CTL_VAULT_EN 1).sf pgFLT FLT.FLT_CTL_VAULT_CLASS 2).sf pgFLT FLT.NEXT_SEQ_SEQ 0xFFFFFFFF with flt := ⟨[rc, 0], [], []⟩ }
def h8 : State := { h7 with flt := ⟨[], List.replicate 1000 1500000000, []⟩ }
def h9 : State := ((h7.sf pgFLT FLT.FLT_CTL_ERG_EN 1).setErgSt 0 erACTIVE).sf (pgERGC 0) ERGC.CH_CTL_HIST_SIZE 1
def h10 : State := { h7.sf pgFLT FLT.FLT_STS_SCANNING 1 with vlt := { h7.vlt with mem := Memory.writeN [] vaultHist (bytesOf 32 (5 * 2 ^ 224)) } }
def h11 : State := { h9.sf pgFLT FLT.FLT_STS_SCANNING 1 |>.sf (pgERGC 0) ERGC.CH_STS_RETAINED 1 with erg := { h9.erg with mem := Memory.writeN [] 32 (bytesOf 32 (9 * 2 ^ 224)) } }

theorem witness_ResetsAndHistory :
    ((fld magic 0 1 = 1 ∧ fld magic 16 16 = 45063 ∧ h0.vlt.rebootAt = none))
    ∧ ((fld (2953183233 : Word) (0 : ℕ) (1 : ℕ) = (0 : ℕ) ∨ fld (2953183233 : Word) (16 : ℕ) (16 : ℕ) ≠ (45063 : ℕ) ∨ h0.vlt.rebootAt ≠ none))
    ∧ ((h1.vlt.rebootAt = some 2000000000) ∧ ((2000000000 ≤ h1.clock ∧ (h1.avs.target = none ∨ 2000000000 - us 10 + us (h1.gf1 pgCIS CIS.AVS_CTL_SETTLE_US) ≤ h1.clock)) ∧ h1.gf pgMEZ MEZ.MEZ_STS_STATE ≠ 2))
    ∧ ((h2.vlt.rebootAt = some 2000000001) ∧ (¬(2000000001 ≤ h2.clock ∧ (h2.avs.target = none ∨ 2000000001 - us 10 + us (h2.gf1 pgCIS CIS.AVS_CTL_SETTLE_US) ≤ h2.clock))))
    ∧ ((h3.vlt.rebootAt = some 2000000000) ∧ ((2000000000 ≤ h3.clock ∧ (h3.avs.target = none ∨ 2000000000 - us 10 + us (h3.gf1 pgCIS CIS.AVS_CTL_SETTLE_US) ≤ h3.clock)) ∧ h3.gf pgMEZ MEZ.MEZ_STS_STATE = 2))
    ∧ ((h0.vlt.rebootAt = none))
    ∧ ((100 < 4096) ∧ (pgOAS = pgOAS ∧ 100 ≠ 68))
    ∧ ((72 < 4096) ∧ (pgCIS ≠ pgOAS))
    ∧ ((2 < 4) ∧ ((2 * 2 ^ 36 + 5) / 2 ^ 36 = 2) ∧ (h4.ergKept.contains 2 = true))
    ∧ ((1 < 4) ∧ ((2 ^ 36 + 5) / 2 ^ 36 = 1) ∧ (h4.ergKept.contains 1 = false))
    ∧ ((2 < 4))
    ∧ (((vs h0 5 4).slotState false = 2) ∧ ((vs h0 5 4).slotState true = 2) ∧ (1 ≤ subMod ((vs h0 5 4).slotSeq false) ((vs h0 5 4).slotSeq true) 32 ∧ subMod ((vs h0 5 4).slotSeq false) ((vs h0 5 4).slotSeq true) 32 ≤ 2 ^ 31))
    ∧ (((vs h0 4 5).slotState false = 2) ∧ ((vs h0 4 5).slotState true = 2) ∧ (subMod ((vs h0 4 5).slotSeq false) ((vs h0 4 5).slotSeq true) 32 = 0 ∨ 2 ^ 31 < subMod ((vs h0 4 5).slotSeq false) ((vs h0 4 5).slotSeq true) 32))
    ∧ (((Choice.mk 0 [] 0).source = 0 ∧ (vs h0 4 5).slotState true = 2 ∧ (vs h0 4 5).slotBad true = none))
    ∧ (((Choice.mk 3 [] 0).source ≠ 0 ∨ (vs h0 4 5).slotState true ≠ 2))
    ∧ ((h5.slotState false = 0) ∧ (h5.slotState true = 0) ∧ (h5.vlt.spi = Candidate.blank))
    ∧ ((fld (3681419265 : Word) (0 : ℕ) (1 : ℕ) = (1 : ℕ) ∧ fld (3681419265 : Word) (16 : ℕ) (16 : ℕ) = (56174 : ℕ) ∧ h0.gf pgVLT VLT.VLT_STS_DEBUG = (0 : ℕ)))
    ∧ ((fld (3681419264 : Word) (0 : ℕ) (1 : ℕ) = (0 : ℕ) ∨ fld (3681419264 : Word) (16 : ℕ) (16 : ℕ) ≠ (56174 : ℕ) ∨ h0.gf pgVLT VLT.VLT_STS_DEBUG ≠ (0 : ℕ)))
    ∧ ((h6.vlt.erasing = true))
    ∧ ((h0.vlt.erasing = false))
    ∧ ((vaultIdent ≤ vaultIdent + 4095) ∧ (vaultIdent + 4095 < vaultIdent + 4096))
    ∧ ((vaultIdent + 4096 < vaultIdent ∨ vaultIdent + 4096 ≤ vaultIdent + 4096))
    ∧ ((h7.flt.queue = [rc, (0 : BitVec (256 : ℕ))]) ∧ (h7.historyWaits = false))
    ∧ (((h7.sf pgFLT FLT.FLT_STS_SCANNING (1 : ℕ)).flt.queue = [rc, (0 : BitVec (256 : ℕ))]) ∧ ((h7.sf pgFLT FLT.FLT_STS_SCANNING 1).historyWaits = true))
    ∧ ((h0.flt.queue = []))
    ∧ (((h7.gb pgFLT FLT.FLT_CTL_VAULT_EN = true ∧ min 4 (h7.gf pgFLT FLT.FLT_CTL_VAULT_CLASS) ≤ fld rc 77 3) ∧ (List.filter (fun t => decide (h7.clock < t + ms 1000)) h7.flt.times).length < 1000))
    ∧ (((h8.gb pgFLT FLT.FLT_CTL_VAULT_EN = true ∧ min 4 (h8.gf pgFLT FLT.FLT_CTL_VAULT_CLASS) ≤ fld rc 77 3) ∧ 1000 ≤ (List.filter (fun t => decide (h8.clock < t + ms 1000)) h8.flt.times).length))
    ∧ ((¬(h0.gb pgFLT FLT.FLT_CTL_VAULT_EN = true ∧ min 4 (h0.gf pgFLT FLT.FLT_CTL_VAULT_CLASS) ≤ fld rc 77 3)))
    ∧ (((2097184 : ℕ) < (2097152 : ℕ) ∨ (2097152 : ℕ) + [(1 : Byte), (2 : Byte), (3 : Byte), (4 : Byte), (5 : Byte), (6 : Byte), (7 : Byte), (8 : Byte)].length ≤ (2097184 : ℕ)))
    ∧ ((h9.gb pgFLT FLT.FLT_CTL_ERG_EN = true ∧ h9.ergServes (h9.gf pgFLT FLT.FLT_CTL_ERG_CH) = true ∧ 0 < h9.histSize (h9.gf pgFLT FLT.FLT_CTL_ERG_CH) * 2097152))
    ∧ (((h7.sf pgFLT FLT.FLT_CTL_ERG_EN 1).gb pgFLT FLT.FLT_CTL_ERG_EN = true ∧ (h7.sf pgFLT FLT.FLT_CTL_ERG_EN 1).ergServes ((h7.sf pgFLT FLT.FLT_CTL_ERG_EN 1).gf pgFLT FLT.FLT_CTL_ERG_CH) = false))
    ∧ ((¬h7.gb pgFLT FLT.FLT_CTL_ERG_EN = true))
    ∧ ((h10.gb pgFLT FLT.FLT_STS_SCANNING = true ∧ (h10.ergServes (h10.gf pgFLT FLT.FLT_CTL_ERG_CH) && h10.gb (pgERGC (h10.gf pgFLT FLT.FLT_CTL_ERG_CH)) ERGC.CH_STS_RETAINED) = false))
    ∧ ((h11.gb pgFLT FLT.FLT_STS_SCANNING = true ∧ (h11.ergServes (h11.gf pgFLT FLT.FLT_CTL_ERG_CH) && h11.gb (pgERGC (h11.gf pgFLT FLT.FLT_CTL_ERG_CH)) ERGC.CH_STS_RETAINED) = true))
    ∧ ((¬h0.gb pgFLT FLT.FLT_STS_SCANNING = true)) := by
  refine ⟨?_, ?_, ?_, ?_, ?_, ?_, ?_, ?_, ?_, ?_, ?_, ?_, ?_, ?_, ?_, ?_, ?_, ?_, ?_, ?_, ?_, ?_, ?_, ?_, ?_, ?_, ?_, ?_, ?_, ?_, ?_, ?_, ?_, ?_, ?_⟩ <;> decide +kernel

end Sys2Proof.Machine.Wit15

end
end

section
/-!
PROOF. The Gallery's housekeeping (R279, R284 to R288, R18): flush, sweep, detach, banks and the auditor, one equation per case of
each operation, and O41 from them.
-/

namespace Sys2Proof.Machine

variable {s : State}

/-! ### Accesses to a page (R473) -/

theorem onPage_of_free {p : Nat} (h : s.applying p = false) (i : Instr) (t : State) : s.onPage p i t = t := by
  simp [State.onPage, h]

theorem onPage_of_applying {p : Nat} (h : s.applying p = true) (i : Instr) (t : State) : s.onPage p i t = s.mezWait i := by
  simp [State.onPage, h]

/-! ### What the rows of the Gallery do -/

theorem exec_queueFlush (s : State) (v : Word) :
    exec (.queueFlush v) s = .next (s.onPage pgSWC (.queueFlush v) (s.queueFlush v)).shown := rfl

theorem exec_bankRetire (s : State) (b : Nat) :
    exec (.bankRetire b) s = .next (s.onPage pgSWC (.bankRetire b) (s.bankRetire b)).shown := rfl

theorem exec_mcDetach (s : State) (q : Nat) : exec (.mcDetach q) s = .next (s.mcDetach q).shown := rfl

theorem exec_bankRetireDone (s : State) (b : Nat) (bad : List Nat) : exec (.bankRetireDone b bad) s = .next (s.retireDone b bad).shown := rfl

theorem exec_sessionSweepDone (s : State) (a : Nat) :
    exec (.sessionSweepDone a) s = .next (s.setLink a { s.link a with sweeping := false }).shown := rfl

theorem exec_naLockoutEnd (s : State) (g : Nat) : exec (.naLockoutEnd g) s =
    .next ({ s with gal := { s.gal with naLock := s.gal.naLock.filter (fun e => !(e.1 == g && s.due e.2)) } }).shown := rfl

/-! ### Flush (R285) -/

theorem queueFlush_of_busy (h : s.gb pgSWC SWC.QFLUSH_BUSY = true) (v : Word) :
    s.queueFlush v = s.sf pgSWC SWC.QFLUSH_QUEUE (fld v 0 16) := by
  simp only [State.queueFlush, h, if_true]

theorem queueFlush_go (h : s.gb pgSWC SWC.QFLUSH_BUSY = false) {v : Word} (hgo : bitAt v.toNat 16 = true)
    (hq : fld v 0 16 < 40960) :
    s.queueFlush v = ({ ((s.sf pgSWC SWC.QFLUSH_QUEUE (fld v 0 16)).sf pgSWC SWC.QFLUSH_BUSY 1) with
      gal := { s.gal with flushing := some (fld v 0 16) } }).flushQueue (fld v 0 16) := by
  simp only [State.queueFlush, h, hgo, hq, decide_true, Bool.and_self, if_true, Bool.false_eq_true, if_false, State.sf_gal]

theorem queueFlush_no_go (h : s.gb pgSWC SWC.QFLUSH_BUSY = false) {v : Word}
    (hgo : bitAt v.toNat 16 = false ∨ 40960 ≤ fld v 0 16) :
    s.queueFlush v = s.sf pgSWC SWC.QFLUSH_QUEUE (fld v 0 16) := by
  have hno : (bitAt v.toNat 16 && decide (fld v 0 16 < 40960)) = false := by
    rcases hgo with h0 | h0 <;> simp [h0]
  simp only [State.queueFlush, h, hno, Bool.false_eq_true, if_false]

theorem exec_queueFlushDone (h : s.gb pgSWC SWC.QFLUSH_BUSY = true) :
    exec .queueFlushDone s
      = .next ((({ s with gal := { s.gal with flushing := none } }).sf pgSWC SWC.QFLUSH_BUSY 0).event pgSWC 9).shown := by
  show execQueueFlushDone s = _
  unfold execQueueFlushDone
  rw [if_pos h]
  rfl

/-! ### Detach (R279) -/

/-- Whether a reference is to a multicast frame that the Gallery still holds. -/
def State.multicastRef (s : State) (r : Ref) : Bool := match s.galFrame r.frame with | some g => g.mc | none => false

theorem mcDetach_of_due {q : Nat} (hq : q < 8192) (h : s.detaches (q / 8) = true) :
    s.mcDetach q = s.each ((s.queue q).filter s.multicastRef) (fun r s => s.discardRef q r .detached) := by
  have hh : isHostQueue q = false := by simp [isHostQueue, hq]
  unfold State.mcDetach
  rw [hh, h]
  rfl

theorem mcDetach_of_not {q : Nat} (h : 8192 ≤ q ∨ s.detaches (q / 8) = false) : s.mcDetach q = s := by
  unfold State.mcDetach
  rcases h with h | h <;> simp [isHostQueue, h]

/-! ### Banks (R287) -/

theorem retireBank_of_room {b : Nat} (hb : b < 64) (ho : s.bankOut b = false)
    (hr : s.gf pgSWC SWC.GAL_STS_RETIRED_N + s.gal.retiring.length < 4) (auto : Bool) :
    s.retireBank b auto = { s with gal := { s.gal with retiring := s.gal.retiring ++ [(b, auto)] } } := by
  simp only [State.retireBank, ho, Nat.not_le.2 hb, Nat.not_le.2 hr, decide_false, Bool.or_self, Bool.false_eq_true, if_false]

theorem retireBank_of_full {b : Nat} (hb : b < 64) (ho : s.bankOut b = false)
    (hr : 4 ≤ s.gf pgSWC SWC.GAL_STS_RETIRED_N + s.gal.retiring.length) (auto : Bool) :
    s.retireBank b auto = s.error pgSWC 2 0x03 b 0 0 := by
  simp only [State.retireBank, ho, Nat.not_le.2 hb, hr, decide_false, Bool.or_self, Bool.false_eq_true, if_false, if_true]

theorem bankRetire_of_active (ha : s.active pgSWC = true) {b : Nat} (hb : b < 64) :
    s.bankRetire b = (s.sf pgSWC SWC.BANK_CTL_BANK b).retireBank b false := by
  simp only [State.bankRetire, State.onlyIf, ha, if_true, Nat.mod_eq_of_lt hb]

theorem bankRetire_of_inactive (ha : s.active pgSWC = false) (b : Nat) : s.bankRetire b = s.sf pgSWC SWC.BANK_CTL_BANK b := by
  simp only [State.bankRetire, State.onlyIf, ha, Bool.false_eq_true, if_false]

theorem exec_bankRetireAuto (ha : s.active pgSWC = true) (hr : s.gb pgSWC SWC.SWC_CTL_AUTO_RETIRE = true) (b n : Nat) (u : Bool) :
    exec (.bankRetireAuto b u n) s
      = .next (if u || decide (s.gf1 pgSWC SWC.SWC_CTL_ECC_TH < n) then s.retireBank b true else s).shown := by
  show execBankRetireAuto b u n s = _
  unfold execBankRetireAuto
  simp only [ha, hr, Bool.true_and]
  rfl

theorem retireDone_of_empty {b : Nat} {auto : Bool} (hr : s.gal.retiring = [(b, auto)]) (hf : s.gal.frames = []) (hb : b < 32)
    (bad : List Nat) :
    s.retireDone b bad = (({ ((s.sf pgSWC SWC.RETIRED_LO_MAP (putBits (s.gf pgSWC SWC.RETIRED_LO_MAP) (b % 32) 1 1)).sf pgSWC
        SWC.GAL_STS_RETIRED_N ((s.sf pgSWC SWC.RETIRED_LO_MAP (putBits (s.gf pgSWC SWC.RETIRED_LO_MAP) (b % 32) 1 1)).gf pgSWC
          SWC.GAL_STS_RETIRED_N + 1)) with gal := { s.gal with retiring := [] } }).error pgSWC 1 0x02 (b + b2n auto * 2 ^ 6) 0 0).galUpdate := by
  have hfind : s.gal.retiring.find? (fun e => e.1 == b) = some (b, auto) := by simp [hr]
  have hrest : s.gal.retiring.filter (fun e => e.1 != b) = [] := by simp [hr]
  have hcount : (s.sf pgSWC SWC.RETIRED_LO_MAP (putBits (s.gf pgSWC SWC.RETIRED_LO_MAP) (b % 32) 1 1)).gf pgSWC SWC.GAL_STS_RETIRED_N
      = s.gf pgSWC SWC.GAL_STS_RETIRED_N := s.gf_sf_of_ne _ (by decide)
  unfold State.retireDone
  rw [hfind, hcount]
  simp only [hf, hb, if_true, List.filter_nil, List.map_nil, List.foldl_nil, State.each, List.length_nil, State.sf_gal, hrest]

theorem retireDone_of_none (hr : s.gal.retiring = []) (b : Nat) (bad : List Nat) : s.retireDone b bad = s := by
  unfold State.retireDone
  rw [hr]
  rfl

/-! ### The auditor (R288) -/

theorem exec_auditSweep_of_due (ha : s.active pgSWC = true) (he : s.gb pgSWC SWC.AUD_CTL_EN = true) (hn : s.gal.audit = none)
    (hd : s.due (s.gal.auditAt + ms (s.gf1 pgSWC SWC.AUD_CTL_INTERVAL_MS)) = true) :
    exec .auditSweep s = .next ({ s with gal := { s.gal with audit := some s.clock, auditAt := s.clock } }).shown := by
  show execAuditSweep s = _
  unfold execAuditSweep
  rw [ha, he, hn, hd]
  rfl

theorem exec_auditSweepDone_of_due {t : Nat} (ha : s.gal.audit = some t)
    (hd : s.due (t + 4 * (262144 + s.gf pgSWC SWC.SPILL_STS_SPILL_CELLS)) = true) :
    exec .auditSweepDone s = .next s.auditEnd.shown := by
  show execAuditSweepDone s = _
  unfold execAuditSweepDone
  rw [ha]
  simp only [hd, if_true]
  rfl

theorem exec_auditSweepDone_of_none (ha : s.gal.audit = none) : exec .auditSweepDone s = .next s.shown := by
  show execAuditSweepDone s = _
  unfold execAuditSweepDone
  rw [ha]
  rfl

/-- Settles O41, case by case of each row from the equations above. -/
theorem galleryHousekeeping : Obligations.GalleryHousekeeping := by
  refine ⟨?flush, ?flushBusy, fun s h => exec_queueFlushDone h, exec_sessionSweepDone, ?detach, ?noDetach, ?retire, ?retireOff,
    ?auto, ?done, ?doneNone, fun s ha he hn hd => exec_auditSweep_of_due ha he hn hd, ?audit,
    fun s ha => exec_auditSweepDone_of_none ha, exec_naLockoutEnd, ?held⟩
  case flush =>
    intro s v hp hb
    rw [exec_queueFlush, onPage_of_free hp]
    exact ⟨fun ⟨hgo, hq⟩ => by rw [queueFlush_go hb hgo hq], fun h => by rw [queueFlush_no_go hb h]⟩
  case flushBusy =>
    intro s v hp hb
    rw [exec_queueFlush, onPage_of_free hp, queueFlush_of_busy hb]
  case detach =>
    intro s q hq hd mc
    rw [exec_mcDetach, mcDetach_of_due hq hd]
    rfl
  case noDetach =>
    intro s q h
    rw [exec_mcDetach, mcDetach_of_not h]
  case retire =>
    intro s b hp hb ha t ho
    rw [exec_bankRetire, onPage_of_free hp, bankRetire_of_active ha hb]
    exact ⟨fun h => by rw [retireBank_of_room hb ho h], fun h => by rw [retireBank_of_full hb ho h]⟩
  case retireOff =>
    intro s b hp ha
    rw [exec_bankRetire, onPage_of_free hp, bankRetire_of_inactive ha]
  case auto =>
    intro s b n u hb ha hr ho hn
    rw [exec_bankRetireAuto ha hr]
    refine ⟨fun h => ?_, fun ⟨hu, h⟩ => ?_⟩
    · rw [if_pos (by simpa using h), retireBank_of_room hb ho hn]
    · rw [if_neg (by simpa [hu] using h)]
  case done =>
    intro s b auto bad hb hr hf
    rw [exec_bankRetireDone, retireDone_of_empty hr hf hb]
  case doneNone =>
    intro s b bad hr
    rw [exec_bankRetireDone, retireDone_of_none hr]
  case audit =>
    intro s t ha hd lost twice u
    rw [exec_auditSweepDone_of_due ha hd]
    have hend : s.auditEnd = if twice.isEmpty then u else (((((u.freeCells twice).cnt pgSWC SWC.CNT_LEAKED_CELLS twice.length).sf
        pgSWC SWC.AUD_STS_LAST_LEAKED twice.length)).error pgSWC 3 0x04 twice.length (twice.foldl min (2 ^ 19)) 0).galUpdate := rfl
    refine ⟨fun h => ?_, fun h => ?_⟩
    · rw [hend, if_pos (List.isEmpty_iff.2 h)]
    · rw [hend, if_neg (fun e => h (List.isEmpty_iff.1 e))]
  case held =>
    intro s v b hp
    rw [exec_queueFlush, exec_bankRetire, onPage_of_applying hp, onPage_of_applying hp]
    exact ⟨rfl, rfl⟩

end Sys2Proof.Machine
end

section
/-!
PROOF. The Cistern and the supplies (R34, R502, R518 to R527, R534): the admission test and its books, AVSBus, the sensor, and the rails,
one equation per case of each operation, and O58 from them.
-/

namespace Sys2Proof.Machine

variable {s : State}

/-! ### Admission (R523, R524) -/

theorem admissible_iff (v l : Nat) : s.admissible v l = true ↔
    (s.gf pgCIS CIS.GRANTED_VDD + v + s.gf pgCIS CIS.RESERVE_VDD ≤ s.gf pgCIS CIS.BUDGET_VDD
      ∧ s.gf pgCIS CIS.GRANTED_VDDL + l + s.gf pgCIS CIS.RESERVE_VDDL ≤ s.gf pgCIS CIS.BUDGET_VDDL
      ∧ s.gb pgCIS CIS.TEMP_THROTTLING = false) := by
  simp only [State.admissible, Bool.and_eq_true, decide_eq_true_eq, Bool.not_eq_true', and_assoc]

theorem totalDraw_single (q v l : Nat) : totalDraw [(q, v, l)] = (v, l) := by
  simp only [totalDraw, List.foldl_cons, List.foldl_nil, Nat.zero_add]

theorem each_single {α : Type} (s : State) (x : α) (f : α → State → State) : s.each [x] f = f x s := rfl

theorem askCistern_of_admissible {v l : Nat} (h : s.admissible v l = true) (p q : Nat) :
    s.askCistern p [(q, v, l)] = (((s.addDraw q v l).cnt pgCIS CIS.CNT_ADMITTED).sf p HDR.PAGE_STS_NOT_ADMITTED 0, true) := by
  rw [State.askCistern, totalDraw_single, if_pos h, each_single]

theorem askCistern_of_not_admissible {v l : Nat} (h : s.admissible v l = false) (p q : Nat) :
    s.askCistern p [(q, v, l)] = (s.refuse p v l, false) := by
  rw [State.askCistern, totalDraw_single, if_neg (Bool.not_eq_true _ ▸ h)]

/-- A refusal names the block and the number of the requesting page. -/
theorem refuse_of_blkOf {p k : Nat} {b : Blk} (h : blkOf p = some (b, k)) (v l : Nat) :
    s.refuse p v l = ((s.cnt pgCIS CIS.CNT_REFUSED).error pgCIS 0 0x01 (b.id + instanceField b k * 2 ^ 8) (v + l * 2 ^ 16)
      (s.reg (raddr pgCIS 0x48)).toNat).sf p HDR.PAGE_STS_NOT_ADMITTED 1 := by
  simp only [State.refuse, h]

/-! ### The books of the allowance (R34) -/

/-- The registers that OVER and its event may change. -/
def overRegs : List Nat := raddr pgCIS 0x4C :: raddr pgCIS 0x10 :: fireRegs

theorem regsBut_overUpdate (s : State) : RegsBut overRegs s s.overUpdate := by
  unfold State.overUpdate
  extract_lets above was t
  have h : RegsBut overRegs s t := regsBut_sf s _ (List.mem_cons_self)
  exact regsBut_ite (h.trans ((regsBut_event t pgCIS 2).mono (fun _ ha => List.mem_cons_of_mem _ ha))) h

theorem pageDraw_not_mem_overRegs (p : Nat) : raddr p HDR.PAGE_DRAW_VDD.off ∉ overRegs := by
  simp only [overRegs, fireRegs, List.mem_cons, List.not_mem_nil, or_false, raddr, HDR.PAGE_DRAW_VDD, pgCIS, pgOAS, pgLND,
    LND.CNT_HOLDOFF_WAITS]
  omega

theorem pageDraw_ne_granted (p : Nat) : raddr p HDR.PAGE_DRAW_VDD.off ≠ raddr pgCIS 0x48 := by
  simp only [raddr, HDR.PAGE_DRAW_VDD, pgCIS]
  omega

/-- A grant is added to the granted total of VDD. -/
theorem addDraw_granted (s : State) (p v l : Nat) :
    (s.addDraw p v l).gf pgCIS CIS.GRANTED_VDD = (s.gf pgCIS CIS.GRANTED_VDD + v) % 65536 := by
  unfold State.addDraw
  rw [(regsBut_overUpdate _).gf (by decide), State.gf_sf_of_disjoint _ _ _ (by decide) (by decide), State.gf_sf_self _ _ _ _ (by decide)]
  rfl

/-- A grant is added to the draw of VDD of the page. -/
theorem addDraw_pageDraw (s : State) (p v l : Nat) :
    (s.addDraw p v l).gf p HDR.PAGE_DRAW_VDD = (s.gf p HDR.PAGE_DRAW_VDD + v) % 65536 := by
  unfold State.addDraw
  rw [(regsBut_overUpdate _).gf (pageDraw_not_mem_overRegs p), State.gf_sf_of_ne (f := CIS.GRANTED_VDDL) _ _ (pageDraw_ne_granted p),
    State.gf_sf_of_ne (f := CIS.GRANTED_VDD) _ _ (pageDraw_ne_granted p), State.gf_sf_of_disjoint _ _ _ (by decide) (by decide),
    State.gf_sf_self _ _ _ _ (by decide)]
  rfl

/-! ### AVSBus (R518 to R520) -/

theorem exec_avsConfirmPoll (s : State) (c : Bool) (mv : Nat) : exec (.avsConfirmPoll c mv) s = .next (s.avsPoll c mv).shown := rfl

theorem avsPoll_of_none (h : s.avs.target = none) (c : Bool) (mv : Nat) : s.avsPoll c mv = s := by
  simp only [State.avsPoll, h]

theorem avsPoll_confirms {t mv : Nat} (h : s.avs.target = some t) (hn : t ≤ mv + 10 ∧ mv ≤ t + 25) :
    s.avsPoll true mv
      = ({ s with avs := { s.avs with target := none, failed := 0, last := false } } : State).sf pgCIS CIS.AVS_STS_CONFIRMED_MV t := by
  simp only [State.avsPoll, h, hn, decide_true, Bool.and_self, if_true]

theorem avsPoll_off {t mv : Nat} (h : s.avs.target = some t) (hn : ¬ (t ≤ mv + 10 ∧ mv ≤ t + 25)) :
    s.avsPoll true mv = if s.due s.avs.deadline then s.avsUnconfirmed t mv else s := by
  have hn' : ¬ (true && decide (t ≤ mv + 10) && decide (mv ≤ t + 25)) = true := by simpa using hn
  unfold State.avsPoll
  rw [h]
  dsimp only
  rw [if_neg hn']
  cases s.due s.avs.deadline <;> rfl

theorem avsPoll_crc {t : Nat} (h : s.avs.target = some t) (mv : Nat) : s.avsPoll false mv = s.avsUnconfirmed t 0xFFF := by
  simp only [State.avsPoll, h, Bool.false_and, Bool.false_eq_true, if_false]

theorem avsUnconfirmed_last (h : s.avs.last = true) (t back : Nat) :
    s.avsUnconfirmed t back = (({ s with avs := { s.avs with target := none }, sys := { s.sys with coreSlow := true } } : State).sf
      pgCIS CIS.AVS_STS_FAILED 1).error pgCIS 3 0x02 t back 0 := by
  simp only [State.avsUnconfirmed, h, if_true]

theorem avsUnconfirmed_retry {t : Nat} (h : s.avs.last = false) (hr : s.gf pgCIS CIS.AVS_STS_CONFIRMED_MV < t) (hf : s.avs.failed < 2)
    (back : Nat) :
    s.avsUnconfirmed t back = ({ s with avs := { s.avs with failed := s.avs.failed + 1 } } : State).avsSend t := by
  simp only [State.avsUnconfirmed, h, hr, Nat.not_le.2 hf, Bool.false_eq_true, if_true, if_false]

theorem avsUnconfirmed_highest {t : Nat} (h : s.avs.last = false) (hr : s.gf pgCIS CIS.AVS_STS_CONFIRMED_MV < t) (hf : 2 ≤ s.avs.failed)
    (back : Nat) :
    s.avsUnconfirmed t back = ({ s with avs := { s.avs with last := true } } : State).avsSend 850 := by
  simp only [State.avsUnconfirmed, h, hr, hf, Bool.false_eq_true, if_true, if_false]

theorem avsSend_of_on (h : s.gb pgCIS CIS.AVS_CTL_EN = true) (hf : s.gb pgCIS CIS.AVS_STS_FAILED = false) (mv : Nat) :
    s.avsSend mv = (({ s with avs := { s.avs with target := some mv, deadline := s.clock + us (s.gf1 pgCIS CIS.AVS_CTL_SETTLE_US) } } :
      State).emit (.avsWrite mv)).cnt pgCIS CIS.CNT_AVS_WRITES := by
  simp only [State.avsSend, State.avsOn, h, hf, Bool.not_false, Bool.and_self, if_true]

theorem avsSend_of_off (h : s.gb pgCIS CIS.AVS_CTL_EN = false ∨ s.gb pgCIS CIS.AVS_STS_FAILED = true) (mv : Nat) : s.avsSend mv = s := by
  have ho : s.avsOn = false := by rcases h with h | h <;> simp [State.avsOn, h]
  simp only [State.avsSend, ho, Bool.false_eq_true, if_false]

/-! ### V_RUN (R519) -/

theorem exec_vrunRecompute (s : State) : exec .vrunRecompute s = .next s.vrunTick.shown := rfl

/-- Showing V_RUN leaves the state of the device. -/
theorem vrunShow_pwr (s : State) : s.vrunShow.gf pgOAS OAS.PWR_STS_STATE = s.gf pgOAS OAS.PWR_STS_STATE :=
  State.gf_sf_of_ne _ _ (by decide)

theorem vrunShow_avs_target (s : State) : s.vrunShow.avs.target = s.avs.target := by rw [State.vrunShow, State.sf_avs]
theorem vrunShow_oas (s : State) : s.vrunShow.oas = s.oas := by rw [State.vrunShow, State.sf_oas]

/-- The tick of a device whose housekeeping domain is on, 10 ms after the last one. -/
theorem vrunTick_of_due (hk : s.sys.hkOn = true) (hd : s.due (s.avs.vrunAt + ms 10) = true) :
    s.vrunTick = if s.avs.target.isSome then s.vrunShow
      else if s.gf pgOAS OAS.PWR_STS_STATE == 0 || (s.gf pgOAS OAS.PWR_STS_STATE == 1 && s.oas.waking) then
        s.vrunShow.avsWrite (s.vrunShow.gf pgCIS CIS.AVS_STS_VRUN_MV)
      else if s.gf pgOAS OAS.PWR_STS_STATE == 1 then s.vrunShow.avsWrite s.vrunShow.vstby
      else s.vrunShow := by
  simp only [State.vrunTick, hk, hd, Bool.and_self, if_true, vrunShow_pwr, vrunShow_avs_target, vrunShow_oas]

theorem vrunTick_of_not (h : s.sys.hkOn = false ∨ s.due (s.avs.vrunAt + ms 10) = false) : s.vrunTick = s := by
  have hn : (s.sys.hkOn && s.due (s.avs.vrunAt + ms 10)) = false := by rcases h with h | h <;> simp [h]
  simp only [State.vrunTick, hn, Bool.false_eq_true, if_false]

/-! ### Temperature (R525 to R527) -/

theorem exec_tempSample (s : State) (x : Nat) (cold : Bool) : exec (.tempSample x cold) s = .next (s.tempSample x cold).shown := rfl

/-- Whether a sample leaves the device throttling: from THROT on, until below THROT - HYST (R526). -/
def State.hotAt (s : State) (x : Nat) : Bool :=
  if s.gb pgCIS CIS.TEMP_THROTTLING then !decide (x + s.gf1 pgCIS CIS.THERM_CTL_HYST < s.gf pgCIS CIS.THERM_CTL_THROT)
  else decide (s.gf pgCIS CIS.THERM_CTL_THROT ≤ x)

/-- What a sample shows before it throttles or trips anything. -/
def State.sampleShown (s : State) (x : Nat) (cold : Bool) : State :=
  ((({ s with avs := { s.avs with cold := cold } } : State).sf pgCIS CIS.TEMP_NOW x).sf pgCIS CIS.TEMP_MAX
    (max x (s.gf pgCIS CIS.TEMP_MAX))).sf pgCIS CIS.TEMP_THROTTLING (b2n (s.hotAt x))

/-- A state with a sample: it trips from the trip point on. -/
def State.tripFrom (s : State) (x : Nat) : State := if s.tripPoint ≤ x then s.trip x else s

theorem tripFrom_below {x : Nat} (h : x < s.tripPoint) : s.tripFrom x = s := if_neg (Nat.not_le.2 h)
theorem tripFrom_reached {x : Nat} (h : s.tripPoint ≤ x) : s.tripFrom x = s.trip x := if_pos h

theorem tempSample_of_on (hk : s.sys.hkOn = true) {x : Nat} (hx : x < 256) (cold : Bool) :
    s.tempSample x cold = (if s.hotAt x && !s.gb pgCIS CIS.TEMP_THROTTLING then
      ((s.sampleShown x cold).cnt pgCIS CIS.CNT_THROTTLES).event pgCIS 1 else s.sampleShown x cold).tripFrom x := by
  unfold State.tempSample
  rw [hk, Nat.mod_eq_of_lt hx]
  rfl

/-- A sample that does not start to throttle. -/
theorem tempSample_of_steady (hk : s.sys.hkOn = true) {x : Nat} (hx : x < 256) (cold : Bool)
    (h : s.hotAt x = false ∨ s.gb pgCIS CIS.TEMP_THROTTLING = true) : s.tempSample x cold = (s.sampleShown x cold).tripFrom x := by
  rw [tempSample_of_on hk hx, if_neg (by rcases h with h | h <;> simp [h])]

/-- A sample that starts to throttle. -/
theorem tempSample_of_start (hk : s.sys.hkOn = true) {x : Nat} (hx : x < 256) (cold : Bool) (h : s.hotAt x = true)
    (hw : s.gb pgCIS CIS.TEMP_THROTTLING = false) :
    s.tempSample x cold = (((s.sampleShown x cold).cnt pgCIS CIS.CNT_THROTTLES).event pgCIS 1).tripFrom x := by
  rw [tempSample_of_on hk hx, if_pos (by simp [h, hw])]

theorem tempSample_of_off (hk : s.sys.hkOn = false) (x : Nat) (cold : Bool) : s.tempSample x cold = s := by
  simp only [State.tempSample, hk, Bool.not_false, if_true]

/-! ### Supplies (R502, R534) -/

theorem exec_supplyLoss (s : State) (r : Rail) : exec (.supplyLoss r) s = .next (s.supplyLoss r).shown := rfl

/-- Above DEEP_SLEEP every rail is required. -/
theorem needs_of_lt (h : s.gf pgOAS OAS.PWR_STS_STATE < 3) (r : Rail) : s.needs r = true := by
  have h3 : s.pwr ≠ 3 := Nat.ne_of_lt h
  have h4 : s.pwr ≠ 4 := Nat.ne_of_lt (Nat.lt_succ_of_lt h)
  unfold State.needs
  split
  · exact absurd ‹_› h4
  · exact absurd ‹_› h3
  · rfl

/-- A rail other than VAUX is lost above DEEP_SLEEP: the Erg's contents stay only while VDD, VDDQ and VPP do. -/
theorem supplyLoss_awake (h : s.gf pgOAS OAS.PWR_STS_STATE < 3) (hk : s.sys.hkOn = true) {r : Rail} (hr : r ≠ .vaux) :
    s.supplyLoss r = s.dark (!(r == .vddq || r == .vpp || r == .vdd)) := by
  have hp : s.pwr < 3 := h
  have hv : (r == .vaux) = false := by simpa using hr
  simp only [State.supplyLoss, needs_of_lt h, hv, hk, hp, Nat.not_le.2 hp, decide_true, Bool.and_true, Bool.not_true, Bool.false_eq_true,
    if_false]

theorem supplyLoss_vdd_deepSleep (h : s.gf pgOAS OAS.PWR_STS_STATE = 3) : s.supplyLoss .vdd = s.sf pgOAS OAS.PWR_STS_STATE 4 := by
  have hp : s.pwr = 3 := h
  simp [State.supplyLoss, State.needs, hp]

theorem supplyLoss_vdd_off (h : s.gf pgOAS OAS.PWR_STS_STATE = 4) : s.supplyLoss .vdd = s := by
  have hp : s.pwr = 4 := h
  simp [State.supplyLoss, State.needs, hp]

/-- Where the supplies return to a dark device that is not in DEEP_SLEEP, it boots, from OFF by a wake. -/
theorem exec_supplyReturn_dark (hk : s.sys.hkOn = false) (h3 : s.gf pgOAS OAS.PWR_STS_STATE ≠ 3) (straps : Nat) (spi : Candidate) :
    exec (.supplyReturn straps spi) s = .next (if (s.sampled straps spi).gf pgOAS OAS.PWR_STS_STATE = 4
      then (s.sampled straps spi).bootWake else (s.sampled straps spi).boot).shown := by
  have hp : (s.pwr == 3) = false := beq_eq_false_iff_ne.2 h3
  show execSupplyReturn straps spi s = _
  simp only [execSupplyReturn, hk, hp, Bool.or_self, Bool.false_eq_true, if_false, beq_iff_eq]
  rfl

theorem exec_supplyReturn_on (hk : s.sys.hkOn = true) (straps : Nat) (spi : Candidate) :
    exec (.supplyReturn straps spi) s = .next s.shown := by
  show execSupplyReturn straps spi s = _
  simp only [execSupplyReturn, hk, Bool.true_or, if_true]
  rfl

/-- Settles O58, case by case of each row from the equations above. -/
theorem cisternAndSupplies : Obligations.CisternAndSupplies := by
  refine ⟨fun s v l => admissible_iff v l, ?ask, ?books, ?poll, ?pollNone, ?unconfirmed, ?send, ?vrun, ?vrunNot, ?temp, ?tempOff,
    ?trip, ?vauxLoss, ?powerOn, ?loss, ?back⟩
  case ask =>
    intro s p q v l b k hb
    exact ⟨fun h => askCistern_of_admissible h p q, fun h => by rw [askCistern_of_not_admissible h, refuse_of_blkOf hb]⟩
  case books =>
    intro s p v l hg hd
    exact ⟨by rw [addDraw_granted, Nat.mod_eq_of_lt hg], by rw [addDraw_pageDraw, Nat.mod_eq_of_lt hd]⟩
  case poll =>
    intro s mv t ht done near
    simp only [exec_avsConfirmPoll]
    refine ⟨fun hn => by rw [avsPoll_confirms ht hn], fun ⟨hn, hd⟩ => ?_, fun ⟨hn, hd⟩ => ?_, by rw [avsPoll_crc ht]⟩
    · rw [avsPoll_off ht hn, hd, if_neg Bool.false_ne_true]
    · rw [avsPoll_off ht hn, hd, if_pos rfl]
  case pollNone =>
    intro s c mv h
    rw [exec_avsConfirmPoll, avsPoll_of_none h]
  case unconfirmed =>
    intro s t back raise n z y
    exact ⟨fun h => avsUnconfirmed_last h t back, fun ⟨h, hr, hf⟩ => avsUnconfirmed_retry h hr hf back,
      fun ⟨h, hr, hf⟩ => avsUnconfirmed_highest h hr hf back⟩
  case send =>
    intro s mv w
    exact ⟨fun ⟨h, hf⟩ => avsSend_of_on h hf mv, fun h => avsSend_of_off h mv⟩
  case vrun =>
    intro s hk hd mv t
    have ht : t = s.vrunShow := rfl
    rw [exec_vrunRecompute, vrunTick_of_due hk hd, ht]
    refine ⟨fun h => ?_, fun ⟨h, h0⟩ => ?_, fun ⟨h, h1, hw⟩ => ?_⟩
    · rw [if_pos (Option.isSome_iff_ne_none.2 h)]
    · rw [if_neg (by simp [h]), if_pos (by simp [h0])]
    · rw [if_neg (by simp [h]), if_neg (by simp [h1, hw]), if_pos (by simp [h1]), State.vstby]
  case vrunNot =>
    intro s h
    rw [exec_vrunRecompute, vrunTick_of_not h]
  case temp =>
    intro s x cold hot hx hk hh t start was
    have ht : t = s.sampleShown x cold := by unfold t; rw [hh]; rfl
    have hh' : hot = s.hotAt x := hh
    have hs : start = ((s.sampleShown x cold).cnt pgCIS CIS.CNT_THROTTLES).event pgCIS 1 := by unfold start; rw [ht]
    rw [hs, ht, hh', exec_tempSample]
    refine ⟨fun ⟨h, hb⟩ => ?_, fun ⟨h, hw, hb⟩ => ?_, fun ⟨h, hb⟩ => ?_, fun ⟨h, hw, hb⟩ => ?_⟩
    · rw [tempSample_of_steady hk hx cold h, tripFrom_below hb]
    · rw [tempSample_of_start hk hx cold h hw, tripFrom_below hb]
    · rw [tempSample_of_steady hk hx cold h, tripFrom_reached hb]
    · rw [tempSample_of_start hk hx cold h hw, tripFrom_reached hb]
  case tempOff =>
    intro s x cold hk
    rw [exec_tempSample, tempSample_of_off hk]
  case trip => exact fun _ _ => ⟨rfl, rfl⟩
  case vauxLoss => exact fun _ => ⟨rfl, rfl, rfl, rfl, rfl, rfl, rfl⟩
  case powerOn => exact fun _ _ _ => rfl
  case loss =>
    intro s r st
    rw [exec_supplyLoss]
    have awake : ∀ {q : Rail} (e : Bool), r = q ∧ st < 3 ∧ s.sys.hkOn = true → q ≠ .vaux → (q == .vddq || q == .vpp || q == .vdd) = !e →
        s.supplyLoss r = s.dark e := by
      rintro q e ⟨rfl, h, hk⟩ hq he
      rw [supplyLoss_awake h hk hq, he, Bool.not_not]
    refine ⟨?_, fun h => by rw [awake false h (by decide) rfl], fun h => by rw [awake true h (by decide) rfl],
      fun h => by rw [awake false h (by decide) rfl], ?_, ?_⟩
    · rintro rfl
      rfl
    · rintro ⟨rfl, h⟩
      rw [supplyLoss_vdd_deepSleep h]
    · rintro ⟨rfl, h⟩
      rw [supplyLoss_vdd_off h]
  case back =>
    intro s straps spi
    refine ⟨fun ⟨hk, h3, h4⟩ => ?_, fun ⟨hk, h3, h4⟩ => ?_, fun hk => exec_supplyReturn_on hk straps spi⟩
    · rw [exec_supplyReturn_dark hk h3, if_pos h4]
    · rw [exec_supplyReturn_dark hk h3, if_neg h4]

end Sys2Proof.Machine
end

section
/-!
PROOF. The state of R21 (R23 to R25, R27, R45): what the page map gives every page, what the registers and table entries read after a
reset, and O4 from it.
-/

namespace Sys2Proof.Machine

/-! ### The page map (R23) -/

/-- The number of a page among its block's fits the INSTANCE field. -/
theorem instanceField_lt {p k : Nat} {b : Blk} (h : blkOf p = some (b, k)) : instanceField b k < 4096 := by
  unfold blkOf at h
  split_ifs at h
  · cases h; simp only [instanceField]; omega
  · cases h; simp only [instanceField]; omega
  · cases h; simp only [instanceField]; omega
  · cases h; simp only [instanceField]; omega
  · split at h <;> cases h <;> decide

theorem blkOf_pgCVE {e : Nat} (h : e < 128) : blkOf (pgCVE e) = some (.cve, e) := by
  unfold blkOf pgCVE
  rw [if_neg (by omega), if_neg (by omega), if_pos (by omega), Nat.add_sub_cancel_left]

theorem blkOf_pgPRT {n : Nat} (h : n < 1024) : blkOf (pgPRT n) = some (.prt, n) := by
  unfold blkOf pgPRT
  rw [if_neg (by omega), if_pos (by omega), Nat.add_sub_cancel_left]

theorem blkOf_pgHAL {h : Nat} (hh : h < 4096) : blkOf (pgHAL h) = some (.hal, h) := by
  unfold blkOf pgHAL
  rw [if_pos (by omega), Nat.add_sub_cancel_left]

theorem raddr_div (p : Nat) {off : Nat} (h : off < 4096) : raddr p off / 4096 = p := by
  unfold raddr; omega

theorem raddr_mod (p : Nat) {off : Nat} (h : off < 4096) : raddr p off % 4096 = off := by
  unfold raddr; omega

/-! ### Reset values (R27) -/

section
variable {p k : Nat} {b : Blk} (h : blkOf p = some (b, k))
include h

theorem regReset_pageId : regReset (raddr p 0) = BitVec.ofNat 32 (pageIdOf b k) := by
  unfold regReset
  rw [raddr_div p (by decide), raddr_mod p (by decide), h]
  rfl

theorem regReset_pageSts : regReset (raddr p 0xC) = BitVec.ofNat 32 (b2n b.alwaysOn) := by
  unfold regReset
  rw [raddr_div p (by decide), raddr_mod p (by decide), h]
  rfl

/-- A register of the header above PAGE_STS reads what the header's list gives it. -/
theorem regReset_header {off : Nat} (h1 : 0xC < off) (h2 : off < 0x40) {r : RegInfo} (hr : HDR.regs.find? (fun r => r.off == off) = some r) :
    regReset (raddr p off) = BitVec.ofNat 32 r.reset := by
  have h4 : (off == 0x4C) = false := beq_eq_false_iff_ne.2 (by omega)
  have h5 : (off == 0x104) = false := beq_eq_false_iff_ne.2 (by omega)
  have hat : regAt b off = some r := (if_pos h2).trans hr
  unfold regReset
  rw [raddr_div p (by omega), raddr_mod p (by omega), h]
  dsimp only
  rw [if_neg (by omega), if_neg (by omega), if_neg (by omega), if_neg (by omega), h4, h5, Bool.and_false, if_neg Bool.false_ne_true,
    if_neg Bool.false_ne_true, hat]

end

theorem regReset_engSts {e : Nat} (h : e < 128) : regReset (raddr (pgCVE e) CVE.ENG_STS_STATE.off) = 0 := by
  unfold regReset
  rw [raddr_div _ (by decide), raddr_mod _ (by decide), blkOf_pgCVE h]
  rfl

theorem regReset_phySts {n : Nat} (h : n < 1024) : regReset (raddr (pgPRT n) PRT.PHY_STS_STATE.off) = 0 := by
  unfold regReset
  rw [raddr_div _ (by decide), raddr_mod _ (by decide), blkOf_pgPRT h]
  rfl

theorem regReset_linkSts {n : Nat} (h : n < 1024) :
    regReset (raddr (pgPRT n) LNK.LINK_STS_STATE.off) = BitVec.ofNat 32 (n * 2 ^ 16) := by
  unfold regReset
  rw [raddr_div _ (by decide), raddr_mod _ (by decide), blkOf_pgPRT h]
  rfl

theorem tblReset_hcx {h : Nat} (hh : h < 4096) : tblReset (tkey .hcx h) = 0 := by
  have hp : tkey .hcx h / 2 ^ 28 = 0x90 := by show ((0x90 * 16 + 0) * 2 ^ 24 + h) / 2 ^ 28 = 0x90; omega
  have hn : tkey .hcx h / 2 ^ 24 % 16 = 0 := by show ((0x90 * 16 + 0) * 2 ^ 24 + h) / 2 ^ 24 % 16 = 0; omega
  unfold tblReset
  rw [hp, hn]
  rfl

/-! ### The state after reset (R21, R34) -/

theorem reset_reg {a : Nat} (h1 : a ≠ 0x3C) (h2 : a ≠ 0x4048) : State.reset.reg a = regReset a := by
  show SMap.get regReset [(0x3C, 12900), (0x4048, 12900)] a = _
  rw [SMap.get, if_neg h1, SMap.get, if_neg h2, SMap.get]

/-- A register of a page but PAGE_DRAW and, in the Cistern, GRANTED. -/
theorem reset_reg_raddr (p : Nat) {off : Nat} (h : off < 4096) (h1 : off ≠ 0x3C) (h2 : off ≠ 0x48) :
    State.reset.reg (raddr p off) = regReset (raddr p off) :=
  reset_reg (by unfold raddr; omega) (by unfold raddr; omega)

theorem reset_ent (t : Tbl) (i : Nat) : State.reset.ent t i = tblReset (tkey t i) := by
  show SMap.get tblReset [] (tkey t i) = _
  rw [SMap.get]

theorem fld_zero {n : Nat} (lo w : Nat) : fld (0 : BitVec n) lo w = 0 := by
  simp [fld, bits]

theorem reset_pageId {p k : Nat} {b : Blk} (h : blkOf p = some (b, k)) :
    (State.reset.reg (raddr p 0)).toNat = b.id * 2 ^ 24 + instanceField b k * 2 ^ 12 + 0x100 := by
  have hi := instanceField_lt h
  have hb : b.id ≤ 0x22 := by cases b <;> decide
  rw [reset_reg_raddr p (by decide) (by decide) (by decide), regReset_pageId h, BitVec.toNat_ofNat, pageIdOf, Nat.mod_eq_of_lt (by omega)]

theorem reset_active {p k : Nat} {b : Blk} (h : blkOf p = some (b, k)) : State.reset.active p = b.alwaysOn := by
  unfold State.active State.gb State.gf
  rw [show HDR.PAGE_STS_ACTIVE.off = 0xC from rfl, reset_reg_raddr p (by decide) (by decide) (by decide), regReset_pageSts h]
  cases b.alwaysOn <;> decide

theorem reset_evtRaw {p k : Nat} {b : Blk} (h : blkOf p = some (b, k)) : State.reset.reg (raddr p 0x10) = 0 := by
  rw [reset_reg_raddr p (by decide) (by decide) (by decide), regReset_header h (by decide) (by decide) rfl]
  rfl

theorem reset_capture_invalid {p k : Nat} {b : Blk} (h : blkOf p = some (b, k)) : State.reset.gb p HDR.ERR_CAP0_VALID = false := by
  unfold State.gb State.gf
  rw [show HDR.ERR_CAP0_VALID.off = 0x20 from rfl, reset_reg_raddr p (by decide) (by decide) (by decide),
    regReset_header h (by decide) (by decide) rfl]
  rfl

theorem reset_engSt {e : Nat} (h : e < 128) : State.reset.engSt e = enIDLE := by
  unfold State.engSt State.gf
  rw [reset_reg_raddr _ (by decide) (by decide) (by decide), regReset_engSts h]
  exact fld_zero _ _

theorem reset_ph {n : Nat} (h : n < 1024) : State.reset.ph n = phDISABLED := by
  unfold State.ph State.gf
  rw [reset_reg_raddr _ (by decide) (by decide) (by decide), regReset_phySts h]
  exact fld_zero _ _

theorem reset_lk {n : Nat} (h : n < 1024) : State.reset.lk n = lkDISABLED := by
  unfold State.lk State.gf
  rw [reset_reg_raddr _ (by decide) (by decide) (by decide), regReset_linkSts h]
  show (BitVec.ofNat 32 (n * 2 ^ 16)).toNat / 2 ^ 0 % 2 ^ 4 = 0
  rw [BitVec.toNat_ofNat]
  omega

theorem reset_hallSt {h : Nat} (hh : h < 4096) : State.reset.hallSt h = hlFREE := by
  unfold State.hallSt State.tf
  rw [reset_ent, tblReset_hcx hh]
  exact fld_zero _ _

/-- Settles O4: the registers and entries page by page, and the rest from the constants of the reset state. -/
theorem resetState : Obligations.ResetState :=
  ⟨fun _ h1 h2 => reset_reg h1 h2, reset_ent,
    fun _ _ _ h => ⟨reset_pageId h, reset_active h, reset_capture_invalid h, reset_evtRaw h⟩,
    rfl, rfl, rfl, rfl, rfl, rfl, rfl, rfl, fun _ he => reset_engSt he, fun _ hn => ⟨reset_ph hn, reset_lk hn⟩,
    fun _ hh => reset_hallSt hh, rfl⟩

end Sys2Proof.Machine
end

section
/-!
PROOF. Enabling a page (R27, R28, R30, R178): what a write of 1 to EN does in each kind of block, what its end does, and O11 from them.
-/

namespace Sys2Proof.Machine

variable {s : State} {p k : Nat} {b : Blk}

/-! ### Rows about a page (R473) -/

theorem pageRow_of_free (hb : blkOf p = some (b, k)) (h : s.applying p = false) (i : Instr) (f : Blk → Nat → State → State) :
    s.pageRow p i f = f b k s := by
  simp only [State.pageRow, hb, h, Bool.false_eq_true, if_false]

theorem exec_pageEnable (s : State) (p : Nat) :
    exec (.pageEnable p) s = .next (s.pageRow p (.pageEnable p) (fun b k s => s.pageEnable p b k)).shown := rfl

theorem exec_pageEnable_of_free (hb : blkOf p = some (b, k)) (h : s.applying p = false) :
    exec (.pageEnable p) s = .next (s.pageEnable p b k).shown := by
  rw [exec_pageEnable, pageRow_of_free hb h]

/-! ### The kinds of blocks -/

/-- A block that EN of its page does not enable: EN reads 1 from reset on, or enabling it is not the page's own. -/
def Blk.fixed (b : Blk) : Bool := b.alwaysOn || b == .hst || b == .hal

theorem fixed_of_slow (h : b.slow = true) : b.fixed = false := by cases b <;> revert h <;> decide
theorem fixed_of_atOnce (h : b.atOnce = true) : b.fixed = false := by cases b <;> revert h <;> decide
theorem atOnce_of_slow (h : b.slow = true) : b.atOnce = false := by cases b <;> revert h <;> decide

theorem featOn_of_slow (s : State) (h : b.slow = true) : s.featOn b = true := by
  cases b with
  | brg | mir | swc | sch | pol | cvn => rfl
  | dev | mgq | mez | oas | cis | vlt | hst | flt | erg | ergc | wad | lnd | hlm | cve | prt | hal => exact absurd h Bool.false_ne_true

/-- The page of one block is not the page of another. -/
theorem page_ne_of_blkOf (hb : blkOf p = some (b, k)) {q : Nat} {c : Blk} (hq : blkOf q = some (c, 0)) (h : b ≠ c) : p ≠ q := by
  rintro rfl
  rw [hb] at hq
  cases hq
  exact h rfl

/-! ### EN and EN_PENDING -/

theorem setEn_pending (s : State) (p : Nat) :
    s.setEn p true true = (s.sf p HDR.PAGE_CTL_EN 1).sf p HDR.PAGE_STS_EN_PENDING 1 := rfl

theorem setEn_ready (s : State) (p : Nat) :
    s.setEn p true false = (s.sf p HDR.PAGE_CTL_EN 1).sf p HDR.PAGE_STS_EN_PENDING 0 := rfl

/-- A block that takes up no work of its own becomes ACTIVE in a device in which nothing waits. -/
theorem pageOn_of_calm (hp : p ≠ pgPOL) (hl : p ≠ pgLND) (hs : p ≠ pgSWC) (hg : p ≠ pgBRG) (hc : s.calm = true) :
    s.pageOn p = ((s.sf p HDR.PAGE_CTL_EN 1).sf p HDR.PAGE_STS_EN_PENDING 0).sf p HDR.PAGE_STS_ACTIVE 1 := by
  simp only [State.pageOn, setEn_ready, beq_iff_eq, hp, hl, hs, hg, if_false]
  exact settle_of_calm (by simp only [calm_sf, hc])

/-! ### 1 is written to EN (R28, R30) -/

theorem pageEnable_of_pending (h : s.gb p HDR.PAGE_STS_EN_PENDING = true) (b : Blk) (k : Nat) : s.pageEnable p b k = s := by
  simp only [State.pageEnable, h, Bool.or_true, Bool.true_or, if_true]

section
variable (hp : s.gb p HDR.PAGE_STS_EN_PENDING = false) (he : s.gb p HDR.PAGE_CTL_EN = false)
include hp he

/-- No guard holds the write of 1 to EN back. -/
theorem enable_unguarded (hx : b.fixed = false) (hf : s.featOn b = true) :
    ¬ (b.alwaysOn || b == .hst || b == .hal || s.gb p HDR.PAGE_STS_EN_PENDING || s.gb p HDR.PAGE_CTL_EN || !s.featOn b) = true := by
  rw [show (b.alwaysOn || b == .hst || b == .hal) = false from hx, hp, he, hf]
  decide

theorem pageEnable_of_slow (hb : b.slow = true) (k : Nat) : s.pageEnable p b k = s.setEn p true true := by
  unfold State.pageEnable
  rw [if_neg (enable_unguarded hp he (fixed_of_slow hb) (featOn_of_slow s hb)), atOnce_of_slow hb,
    if_neg Bool.false_ne_true, if_pos hb]

theorem pageEnable_of_atOnce (hb : b.atOnce = true) (hf : s.featOn b = true) (ha : s.awakePage p = true) (k : Nat) :
    s.pageEnable p b k = s.pageOn p := by
  unfold State.pageEnable
  rw [if_neg (enable_unguarded hp he (fixed_of_atOnce hb) hf), if_pos hb, if_pos ha]

/-- The Erg's allowance of 40 units is asked of the Cistern and admitted. -/
theorem pageEnable_erg (hf : s.gb pgDEV DEV.FEAT_EN_ERG = true) (ha : s.admissible 40 0 = true) (k : Nat) :
    s.pageEnable p .erg k
      = (((s.addDraw p 40 0).cnt pgCIS CIS.CNT_ADMITTED).sf p HDR.PAGE_STS_NOT_ADMITTED 0).setEn p true true := by
  unfold State.pageEnable
  rw [if_neg (enable_unguarded (b := .erg) hp he rfl hf), if_neg (by decide), if_neg (by decide)]
  dsimp only
  rw [askCistern_of_admissible ha]

end

/-! ### The block is ready -/

theorem exec_enableReady (hb : blkOf p = some (b, k)) (hs : b.slow = true) (he : s.gb p HDR.PAGE_CTL_EN = true)
    (hp : s.gb p HDR.PAGE_STS_EN_PENDING = true) (ha : s.active p = false) (hw : s.awakePage p = true) :
    exec (.enableReady p) s = .next (s.pageOn p).shown := by
  show execEnableReady p s = _
  simp only [execEnableReady, hb, hs, he, hp, ha, hw, Bool.or_true, Bool.not_false, Bool.and_self, if_true]
  rfl

/-- Settles O11, clause by clause from the equations of PAGE_ENABLE and ENABLE_READY. -/
theorem pageEnableAndReady : Obligations.PageEnableAndReady := by
  refine ⟨?slow, ?erg, ?pending, ?atOnce, ?ready⟩
  case slow =>
    intro s p k b hb hs hap hp he
    rw [exec_pageEnable_of_free hb hap, pageEnable_of_slow hp he hs, setEn_pending]
  case erg =>
    intro s hap hp he hf ha
    rw [exec_pageEnable_of_free (b := .erg) (k := 0) rfl hap, pageEnable_erg hp he hf ha, setEn_pending]
  case pending =>
    intro s p k b hb hap hp
    rw [exec_pageEnable_of_free hb hap, pageEnable_of_pending hp]
  case atOnce =>
    intro s p k b hb ho hf hl hap hp he hw hc
    have hne : ∀ {q : Nat} {c : Blk}, blkOf q = some (c, 0) → c.slow = true → p ≠ q :=
      fun hq hc => page_ne_of_blkOf hb hq (fun e => by rw [e, atOnce_of_slow hc] at ho; exact Bool.false_ne_true ho)
    rw [exec_pageEnable_of_free hb hap, pageEnable_of_atOnce hp he ho hf hw,
      pageOn_of_calm (hne rfl rfl) hl (hne rfl rfl) (hne rfl rfl) hc]
  case ready =>
    intro s p k b hb hs hpol hswc hbrg he hp ha hw hc
    have hl : p ≠ pgLND := page_ne_of_blkOf hb (c := .lnd) rfl (fun e => by rw [e] at hs; exact Bool.false_ne_true hs)
    rw [exec_enableReady hb hs he hp ha hw, pageOn_of_calm hpol hl hswc hbrg hc]

end Sys2Proof.Machine
end

section
/-!
PROOF. Virtual functions and the resets of the host (R22, R61, R62, R412, R475, R535): one equation per case of each row, and O23 from
them.
-/

namespace Sys2Proof.Machine

variable {s : State}

/-! ### Virtual functions (R61, R62) -/

theorem exec_vfEnable (s : State) : exec .vfEnable s = .next s.vfsOn.shown := rfl
theorem exec_vfDisable (s : State) : exec .vfDisable s = .next s.vfDisable.shown := rfl

/-- The VFs become visible 1 ms after VF Enable is set. -/
theorem vfsOn_of_clear (h : s.sriov = true) (hv : s.cfgRaw 0 .vfEnable = 0) :
    s.vfsOn = { s.setCfg 0 .vfEnable 1 with host := { (s.setCfg 0 .vfEnable 1).host with vfsAt := some (s.clock + 1000000) } } := by
  have hg : ¬ (!s.sriov || s.cfgRaw 0 .vfEnable == 1) = true := by rw [h, hv]; decide
  unfold State.vfsOn
  rw [if_neg hg, show ms 1 = 1000000 from rfl]

theorem vfsOn_of_hidden (h : s.sriov = false) : s.vfsOn = s := by
  simp only [State.vfsOn, h, Bool.not_false, Bool.true_or, if_true]

theorem vfDisable_of_set (hv : s.cfgRaw 0 .vfEnable = 1) (hd : s.defers = false) : s.vfDisable = s.vfsOff.settle := by
  simp only [State.vfDisable, hv, hd, bne_self_eq_false, Bool.false_eq_true, if_false]

/-! ### Function-level resets (R22, R412) -/

theorem exec_flr (s : State) (f : Nat) : exec (.flr f) s = .next (s.flr f).shown := rfl

/-- A report changes no configuration register. -/
theorem cfgRaw_event (s : State) (p b f : Nat) (r : CfgReg) : (s.event p b).cfgRaw f r = s.cfgRaw f r := by
  unfold State.cfgRaw
  rw [State.event_host]

/-- A reset of a function that exists and takes no VFs with it. -/
theorem flr_of_exists {f : Nat} (he : s.funcExists f = true) (hd : s.defers = false) (hv : f ≠ 0 ∨ s.cfgRaw 0 .vfEnable = 0) :
    let t := ((s.event pgHST 8).funcReset f).clearCfg true (fun g => g == f)
    s.flr f = ({ t with host := { t.host with
      flrs := t.host.flrs.filter (fun (e : Nat × Nat) => e.1 != f) ++ [(f, t.clock)] } } : State).settle := by
  have hn : ¬ (f == 0 && (s.event pgHST 8).cfgRaw 0 .vfEnable == 1) = true := by
    rw [cfgRaw_event]
    rcases hv with h | h <;> simp [h]
  intro t
  unfold State.flr
  dsimp only
  rw [if_neg (by rw [he]; decide), if_neg (by rw [hd]; decide), if_neg hn]

/-- A function serves again. -/
def State.serveAgain (s : State) (f : Nat) : State :=
  { s with host := { s.host with flrs := s.host.flrs.filter (fun e => e.1 != f) } }

theorem exec_flrDone (s : State) (f : Nat) : exec (.flrDone f) s = .next (s.serveAgain f).settle.shown := rfl

/-- Whether anything waits does not depend on the functions in reset. -/
theorem calm_serveAgain (s : State) (f : Nat) : (s.serveAgain f).calm = s.calm := calm_congr rfl rfl rfl rfl rfl rfl

theorem exec_flrDone_of_calm (h : s.calm = true) (f : Nat) : exec (.flrDone f) s = .next (s.serveAgain f).shown := by
  rw [exec_flrDone, settle_of_calm ((calm_serveAgain s f).trans h)]

/-! ### Resets by the host (R475, R535) -/

theorem exec_hostReset (s : State) (c : HostResetCause) : exec (.hostReset c) s = .next (s.hostReset c).shown := rfl

theorem hostReset_of_free (h : s.defers = false) (c : HostResetCause) : s.hostReset c = s.hostResetNow := by
  simp only [State.hostReset, h, Bool.false_eq_true, if_false]

theorem hostReset_of_applying (h : s.defers = true) (c : HostResetCause) : s.hostReset c = s.defer (.hostReset c) := by
  simp only [State.hostReset, h, if_true]

/-- DL_Down is a host reset. -/
theorem exec_hostLinkDown_of_up (h : s.gb pgHST HST.LINK_STS_DL_UP = true) :
    exec .hostLinkDown s = .next (s.hostReset .dlDown).shown := by
  show execHostLinkDown s = _
  unfold execHostLinkDown done
  rw [if_pos h]

theorem exec_hostLinkDown_of_down (h : s.gb pgHST HST.LINK_STS_DL_UP = false) : exec .hostLinkDown s = .next s.shown := by
  show execHostLinkDown s = _
  unfold execHostLinkDown done
  rw [if_neg (by rw [h]; decide)]

/-- Settles O23, row by row from the equations above. -/
theorem functionsAndHostResets : Obligations.FunctionsAndHostResets := by
  refine ⟨?on, ?hidden, ?off, ?flr, fun s f h => exec_flrDone_of_calm h f, ?reset, ?down, fun s h => exec_hostLinkDown_of_down h, ?held⟩
  case on =>
    intro s h hv
    rw [exec_vfEnable, vfsOn_of_clear h hv]
  case hidden =>
    intro s h
    rw [exec_vfEnable, vfsOn_of_hidden h]
  case off =>
    intro s hv hd
    rw [exec_vfDisable, vfDisable_of_set hv hd]
  case flr =>
    intro s f he hd hv t
    rw [exec_flr, flr_of_exists he hd hv]
  case reset =>
    intro s c h
    rw [exec_hostReset, hostReset_of_free h]
  case down =>
    intro s hu h
    rw [exec_hostLinkDown_of_up hu, hostReset_of_free h]
  case held =>
    intro s c h
    rw [exec_hostReset, hostReset_of_applying h]

end Sys2Proof.Machine
end

section
/-!
PROOF. Register accesses of the host (R20, R25 to R27, R48, R60, R223, R275): what an access meets, what one dword written or read does,
and O16 from them.
-/

namespace Sys2Proof.Machine

variable {s : State} {a p k off : Nat} {b : Blk} {r : RegInfo}

/-! ### The registers of the map (R23, R24) -/

theorem infoAt_eq_some (h : infoAt a = some (b, k, r)) : blkOf (a / 4096) = some (b, k) ∧ regAt b (a % 4096) = some r := by
  unfold infoAt at h
  split at h
  · cases h
  · next c j hb =>
    split at h
    · cases h
    · next q hr => cases h; exact ⟨hb, hr⟩

theorem infoAt_of (hb : blkOf (a / 4096) = some (b, k)) (hr : regAt b (a % 4096) = some r) : infoAt a = some (b, k, r) := by
  simp only [infoAt, hb, hr]

theorem page_of_blkOf_flt (h : blkOf p = some (.flt, k)) : p = pgFLT := by
  unfold blkOf at h
  split_ifs at h
  · cases h
  · cases h
  · cases h
  · cases h
  · split at h <;> cases h
    rfl

/-- FLT has no table-access sets and no landing stacks. -/
theorem flt_no_tblSet (off : Nat) : ¬ (Blk.flt.hasTbl && decide (off < 0x80)) = true := by
  rw [show Blk.flt.hasTbl = false from rfl, Bool.false_and]
  decide

theorem flt_no_stack (off : Nat) : ¬ (Blk.flt == .lnd && decide (0x800 ≤ off)) = true := by
  rw [show (Blk.flt == .lnd) = false from rfl, Bool.false_and]
  decide

/-- The own registers of FLT are dwords. -/
theorem flt_reg_aligned (h : regAt .flt off = some r) (ho : 0x40 ≤ off) : off % 4 = 0 := by
  have hf : FLT.regs.find? (fun r => r.off == off) = some r := by
    unfold regAt at h
    rwa [if_neg (by omega), if_neg (flt_no_tblSet off), if_neg (flt_no_stack off)] at h
  have hall : ∀ q ∈ FLT.regs, q.off % 4 = 0 := by decide
  have hoff : r.off = off := by simpa using List.find?_some hf
  exact hoff ▸ hall r (List.mem_of_find?_eq_some hf)

theorem headPage_of_le (h : 0x40 ≤ p) : headPage p = p := by
  have h1 : (p / 16 == 1) = false := beq_eq_false_iff_ne.2 (by omega)
  have h3 : (p / 16 == 3) = false := beq_eq_false_iff_ne.2 (by omega)
  simp only [headPage, h1, h3, Bool.false_eq_true, if_false]

/-! ### What an access meets (R20, R26) -/

theorem awakePage_flt (hk : s.sys.hkOn = true) : s.awakePage pgFLT = true := hk

theorem regMeets_register (hc : contPage (a / 4096) = false) (hi : infoAt a = some (b, k, r))
    (hw : (s.awakePage (a / 4096) || heldReg b r) = true) : s.regMeets a = 0 := by
  simp only [State.regMeets, hc, hi, hw, Bool.false_eq_true, if_false, if_true]

theorem regMeets_reserved (hc : contPage (a / 4096) = false) (hi : infoAt a = none) : s.regMeets a = 2 := by
  simp only [State.regMeets, hc, hi, Bool.false_eq_true, if_false]

/-- Only LINK registers are barred (R223): none below 0x100 is one. -/
theorem linkBarred_of_lt (h : a % 4096 < 0x100) : s.linkBarred a = false := by
  unfold State.linkBarred
  split
  · rw [decide_eq_false (Nat.not_le.2 h), Bool.false_and, Bool.false_and]
  · rfl

theorem linkBarred_flt (h : a / 4096 = pgFLT) : s.linkBarred a = false := by
  unfold State.linkBarred
  rw [h]
  rfl

/-- The LINK registers of a port that is not the anchor of its link are barred, but for LINK_STS (R223). -/
theorem linkBarred_of_member (hk : k < 1024) (ha : s.anchorOf k ≠ k) (h1 : 0x100 ≤ off) (h2 : off < 0x1000) (h3 : off ≠ 0x104) :
    s.linkBarred (raddr (pgPRT k) off) = true := by
  unfold State.linkBarred
  rw [raddr_div _ h2, blkOf_pgPRT hk, raddr_mod _ h2]
  simp [h1, h3, ha]

/-! ### One register of PF0 read or written -/

/-- PF0 reaches every dword of BAR0. -/
theorem regTarget_pf0 (h : a < 2 ^ 26) (q : Nat) : s.regTarget ⟨.host, .pf0 q⟩ a = (s, some a) := by
  show (s, some (a % 2 ^ 26)) = (s, some a)
  rw [Nat.mod_eq_of_lt h]

theorem regPut_register (h : a < 2 ^ 26) (hm : s.regMeets a = 0) (hl : s.linkBarred a = false) (q : Nat) (v : Word) :
    s.regPut ⟨.host, .pf0 q⟩ a v = (s.regDirect a v, 0) := by
  simp only [State.regPut, regTarget_pf0 h, hm, hl, viaPf0, Bool.not_true, Bool.false_and, Bool.or_self, Bool.false_eq_true, if_false]

theorem regPut_barred (h : a < 2 ^ 26) (hm : s.regMeets a = 0) (hl : s.linkBarred a = true) (q : Nat) (v : Word) :
    s.regPut ⟨.host, .pf0 q⟩ a v = (s, 0) := by
  simp only [State.regPut, regTarget_pf0 h, hm, hl, Bool.or_true, if_true]

theorem regPut_reserved (h : a < 2 ^ 26) (hm : s.regMeets a = 2) (q : Nat) (v : Word) :
    s.regPut ⟨.host, .pf0 q⟩ a v = (s.devError 1 a q, 2) := by
  have hq : RegWho.requester ⟨.host, .pf0 q⟩ = q := rfl
  simp only [State.regPut, regTarget_pf0 h, hm, State.regMissed, hq, beq_self_eq_true, if_true]

theorem regGet_register (h : a < 2 ^ 26) (hm : s.regMeets a = 0) (hl : s.linkBarred a = false) (q : Nat) :
    s.regGet ⟨.host, .pf0 q⟩ a = (s.regReadSide .host a, s.regWord .host a, 0) := by
  simp only [State.regGet, regTarget_pf0 h, hm, hl, viaPf0, Bool.not_true, Bool.false_and, Bool.or_self, Bool.false_eq_true, if_false]

theorem regGet_barred (h : a < 2 ^ 26) (hm : s.regMeets a = 0) (hl : s.linkBarred a = true) (q : Nat) :
    s.regGet ⟨.host, .pf0 q⟩ a = (s, 0, 0) := by
  simp only [State.regGet, regTarget_pf0 h, hm, hl, Bool.or_true, if_true]

/-- Without an open transaction a direct write conflicts with none. -/
theorem regDirect_of_closed (hi : infoAt a = some (b, k, r)) (hm : s.mezSt ≠ mzOPEN) (v : Word) :
    s.regDirect a v = s.regEffect a v := by
  have hc : ∀ new : Word, s.regConflict a new v = s := by
    intro new
    simp only [State.regConflict, beq_eq_false_iff_ne.2 hm, Bool.false_and, Bool.false_eq_true, if_false]
  simp only [State.regDirect, hi, hc]

theorem infoAt_evtGroup (hb : blkOf p = some (b, k)) :
    infoAt (raddr p 0x1C) = some (b, k, ⟨"EVT_GROUP", 0x1C, 0x3FF, 0, 0, 0, 0, false⟩) :=
  infoAt_of (by rw [raddr_div p (by decide)]; exact hb) (by rw [raddr_mod p (by decide)]; rfl)

theorem regEffect_evtGroup (hb : blkOf p = some (b, k)) (v : Word) :
    s.regEffect (raddr p 0x1C) v = s.sf p HDR.EVT_GROUP_GROUP (fld v 0 10) := by
  simp only [State.regEffect, infoAt_evtGroup hb, raddr_div p (show 0x1C < 4096 by decide), raddr_mod p (show 0x1C < 4096 by decide)]
  rfl

/-- An own register of FLT but CNT_CLR takes the bits of its write mask, and nothing follows (R27). -/
theorem regEffect_flt (hi : infoAt a = some (.flt, 0, r)) (ho : 0x40 ≤ a % 4096) (hn : r.name ≠ "CNT_CLR") (v : Word) :
    s.regEffect a v = s.setReg a (mergeWord (s.reg a) v (s.regRw pgFLT r)) := by
  have hp : a / 4096 = pgFLT := page_of_blkOf_flt (infoAt_eq_some hi).1
  have ha : raddr pgFLT (a % 4096) = a := by rw [raddr, ← hp]; omega
  have hc : (r.name == "CNT_CLR") = false := beq_eq_false_iff_ne.2 hn
  unfold State.regEffect
  rw [hi]
  dsimp only
  rw [if_neg (Nat.not_lt.2 ho), hp, if_neg (flt_no_tblSet _), if_neg (by decide)]
  simp only [State.ownWrite, hc, Bool.false_eq_true, if_false, State.mgmtWrite, ha]

/-- A register of FLT reads as the word it holds, and nothing follows. -/
theorem regWord_flt (hk : s.sys.hkOn = true) (h : a / 4096 = pgFLT) (x : Path) : s.regWord x a = s.reg a := by
  have hb : blkOf pgFLT = some (.flt, 0) := rfl
  unfold State.regWord
  simp only [h, hb, awakePage_flt hk, Bool.not_true, Bool.and_false, Bool.false_eq_true, if_false]
  rw [if_neg (by decide), if_neg (by decide), if_neg (by decide), ite_self]

theorem regReadSide_flt (h : a / 4096 = pgFLT) (x : Path) : s.regReadSide x a = s := by
  unfold State.regReadSide
  rw [h]
  rfl

/-! ### One dword written or read by the host (R25, R48) -/

section
variable {via : BarPath} (hk : s.sys.hkOn = true) (hs : s.hostStall = false) (hh : regHeldBy s via a = false)
include hk hs hh

theorem exec_regWrite (fbe lbe : BitVec 4) (d : List Word) :
    exec (.regWrite via a fbe lbe d) s = .next (s.regBurst ⟨.host, via⟩ a fbe lbe d).shown := by
  show execRegWrite via a fbe lbe d s = _
  simp only [execRegWrite, hk, hs, hh, Bool.not_true, Bool.false_eq_true, if_false, done]

theorem exec_regRead (n : Nat) (fbe lbe : BitVec 4) (tag : Nat) :
    exec (.regRead via a n fbe lbe tag) s = .next (s.regAnswer via a n fbe tag).shown := by
  show execRegRead via a n fbe lbe tag s = _
  simp only [execRegRead, hk, hs, hh, Bool.not_true, Bool.false_eq_true, if_false, done]

end

/-- While a frame of the host waits for admission, an access is kept back (R275). -/
theorem exec_regWrite_stalled (hk : s.sys.hkOn = true) (hs : s.hostStall = true) (via : BarPath) (a : Nat) (fbe lbe : BitVec 4)
    (d : List Word) :
    exec (.regWrite via a fbe lbe d) s = .next (s.stallTlp (.regWrite via a fbe lbe d)).shown := by
  show execRegWrite via a fbe lbe d s = _
  simp only [execRegWrite, hk, hs, Bool.not_true, Bool.false_eq_true, if_false, if_true, done]

theorem exec_regRead_stalled (hk : s.sys.hkOn = true) (hs : s.hostStall = true) (via : BarPath) (a n : Nat) (fbe lbe : BitVec 4)
    (tag : Nat) :
    exec (.regRead via a n fbe lbe tag) s = .next (s.stallTlp (.regRead via a n fbe lbe tag)).shown := by
  show execRegRead via a n fbe lbe tag s = _
  simp only [execRegRead, hk, hs, Bool.not_true, Bool.false_eq_true, if_false, if_true, done]

theorem regHeldBy_pf0 (h : a < 2 ^ 26) (ha : s.applying (headPage (a / 4096)) = false) (q : Nat) : regHeldBy s (.pf0 q) a = false := by
  show s.applying (headPage (a % 2 ^ 26 / 4096)) = false
  rw [Nat.mod_eq_of_lt h, ha]

theorem dwEnables_first (fbe lbe : BitVec 4) (n : Nat) : dwEnables fbe lbe n 0 = fbe := rfl

theorem dword_addr (h : a % 4 = 0) : a / 4 * 4 + 4 * 0 = a := by omega

/-- A wholly enabled dword is one register write. -/
theorem regBurst_dword (h : a % 4 = 0) (w : RegWho) (v : Word) : s.regBurst w a 0xF 0 [v] = (s.regPut w a v).1 := by
  unfold State.regBurst
  rw [if_neg (by rw [List.length_singleton]; decide), List.zipIdx_singleton, each_single]
  dsimp only
  rw [dword_addr h, dwEnables_first, if_pos (by decide)]

/-- A dword of which only some bytes are enabled is not written (R25, R48). -/
theorem regBurst_partial (h : a % 4 = 0) (hl : a < 2 ^ 26) {be : BitVec 4} (h0 : be ≠ 0) (hf : be ≠ 0xF) (q : Nat) (v : Word) :
    s.regBurst ⟨.host, .pf0 q⟩ a be 0 [v] = s.devError 0 a q := by
  have hf' : (be == 0xF) = false := beq_eq_false_iff_ne.2 hf
  unfold State.regBurst
  rw [if_neg (by rw [beq_eq_false_iff_ne.2 h0, Bool.and_false]; decide), List.zipIdx_singleton, each_single]
  dsimp only
  rw [dword_addr h, dwEnables_first, hf', if_neg Bool.false_ne_true, Nat.mod_eq_of_lt hl]
  rfl

/-- A read of one dword answers with its word. -/
theorem regAnswer_dword (h : a % 4 = 0) {q : Nat} {v : Word} (hg : s.regGet ⟨.host, .pf0 q⟩ a = (s, v, 0)) (tag : Nat) :
    s.regAnswer (.pf0 q) a 1 0xF tag = s.complete_ 0 tag a (bytesOf 4 v.toNat) := by
  have ha : a / 4 * 4 = a := by omega
  have hr : s.regReads ⟨.host, .pf0 q⟩ a 1 = (s, bytesOf 4 v.toNat) := by
    simp only [State.regReads, hg, List.append_nil]
  unfold State.regAnswer
  rw [if_neg (by decide), ha, hr]

/-- Settles O16: each clause is one dword, and the register it meets says what follows. -/
theorem hostRegisterAccess : Obligations.HostRegisterAccess := by
  refine ⟨?flt, ?group, ?part, ?reserved, ?zero, ?read, ?slot, ?link, ?stall⟩
  case flt =>
    intro s q a r v hk hs hi hl ho hn hap hm
    obtain ⟨hb, hr⟩ := infoAt_eq_some hi
    have hp : a / 4096 = pgFLT := page_of_blkOf_flt hb
    have h4 : a % 4 = 0 := by have := flt_reg_aligned hr ho; omega
    have hmeets : s.regMeets a = 0 := regMeets_register (by rw [hp]; rfl) hi (by rw [hp, awakePage_flt hk, Bool.true_or])
    rw [exec_regWrite hk hs (regHeldBy_pf0 hl (by rw [hp]; exact hap) q), regBurst_dword h4,
      regPut_register hl hmeets (linkBarred_flt hp), regDirect_of_closed hi hm, regEffect_flt hi ho hn]
  case group =>
    intro s q p k b v hk hs hb h11 h31 hp hap hm
    have hd : raddr p 0x1C / 4096 = p := raddr_div p (by decide)
    have ho : raddr p 0x1C % 4096 = 0x1C := raddr_mod p (by decide)
    have hl : raddr p 0x1C < 2 ^ 26 := by rw [raddr]; omega
    have h4 : raddr p 0x1C % 4 = 0 := by rw [raddr]; omega
    have hi := infoAt_evtGroup hb
    have hc : contPage (raddr p 0x1C / 4096) = false := by simp [contPage, hd, h11, h31]
    have hmeets : s.regMeets (raddr p 0x1C) = 0 := regMeets_register hc hi (Bool.or_true _)
    rw [exec_regWrite hk hs (regHeldBy_pf0 hl (by rw [hd]; exact hap) q), regBurst_dword h4,
      regPut_register hl hmeets (linkBarred_of_lt (by rw [ho]; decide)), regDirect_of_closed hi hm, regEffect_evtGroup hb]
  case part =>
    intro s q a v be hk hs hl h4 hap h0 hf
    rw [exec_regWrite hk hs (regHeldBy_pf0 hl hap q), regBurst_partial h4 hl h0 hf]
  case reserved =>
    intro s q a v hk hs hl h4 hap hi hc
    rw [exec_regWrite hk hs (regHeldBy_pf0 hl hap q), regBurst_dword h4, regPut_reserved hl (regMeets_reserved hc hi)]
  case zero =>
    intro s q a tag hk hs hl hap
    rw [exec_regRead hk hs (regHeldBy_pf0 hl hap q)]
    rfl
  case read =>
    intro s q a tag k r hk hs hl h4 hi hap
    have hp : a / 4096 = pgFLT := page_of_blkOf_flt (infoAt_eq_some hi).1
    have hmeets : s.regMeets a = 0 := regMeets_register (by rw [hp]; rfl) hi (by rw [hp, awakePage_flt hk, Bool.true_or])
    have hg : s.regGet ⟨.host, .pf0 q⟩ a = (s, s.reg a, 0) := by
      rw [regGet_register hl hmeets (linkBarred_flt hp), regReadSide_flt hp, regWord_flt hk hp]
    rw [exec_regRead hk hs (regHeldBy_pf0 hl (by rw [hp]; exact hap) q), regAnswer_dword h4 hg]
  case slot =>
    intro s q vf slot a pasid v hk hs h4 hap
    rw [exec_regWrite (via := .slot vf slot pasid q) hk hs hap, regBurst_dword h4]
  case link =>
    intro s q k off w hn ha h1 h2 h4 h3 hk hs hap hw hi
    have hd : raddr (pgPRT k) off / 4096 = pgPRT k := raddr_div _ h2
    have hl : raddr (pgPRT k) off < 2 ^ 26 := by rw [raddr, pgPRT]; omega
    have h4' : raddr (pgPRT k) off % 4 = 0 := by rw [raddr]; omega
    obtain ⟨⟨b, j, r⟩, hr⟩ := Option.isSome_iff_exists.1 hi
    have hc : contPage (raddr (pgPRT k) off / 4096) = false := by
      rw [hd, contPage, pgPRT, Bool.or_eq_false_iff]
      exact ⟨beq_eq_false_iff_ne.2 (by omega), beq_eq_false_iff_ne.2 (by omega)⟩
    have hmeets : s.regMeets (raddr (pgPRT k) off) = 0 := regMeets_register hc hr (by rw [hd, hw, Bool.true_or])
    have hbar := linkBarred_of_member hn ha h1 h2 h3
    have hh : headPage (pgPRT k) = pgPRT k := headPage_of_le (by rw [pgPRT]; omega)
    refine ⟨?_, regGet_barred hl hmeets hbar q⟩
    rw [exec_regWrite hk hs (regHeldBy_pf0 hl (by rw [hd, hh, hap]) q), regBurst_dword h4', regPut_barred hl hmeets hbar]
  case stall =>
    intro s via a n tag fbe lbe d hk hs
    exact ⟨exec_regWrite_stalled hk hs via a fbe lbe d, exec_regRead_stalled hk hs via a n fbe lbe tag⟩

end Sys2Proof.Machine
end

section
/-!
PROOF. What the device always shows of itself (R46, R64, R467, R566): what bringing it up to date changes, that it is true after every
step and after a reset, and O5, O6 and O7 from that.
-/

namespace Sys2Proof.Machine

/-! ### A field that already holds its value -/

/-- A number of which a field is replaced by the value it has is the same number. -/
theorem putBits_bits {x lo w v : Nat} (h : bits x lo w = v % 2 ^ w) : putBits x lo w v = x := by
  apply Nat.eq_of_testBit_eq
  intro i
  rw [testBit_putBits]
  by_cases hl : i < lo
  · rw [if_pos hl]
  · rw [if_neg hl]
    by_cases hw : i < lo + w
    · have hv : (bits x lo w).testBit (i - lo) = (v % 2 ^ w).testBit (i - lo) := by rw [h]
      have hi : i - lo < w := by omega
      rw [testBit_bits, Nat.testBit_mod_two_pow, Nat.add_sub_cancel' (Nat.le_of_not_lt hl)] at hv
      simpa [hi, hw] using hv.symm
    · rw [if_neg hw]

theorem put_fld {n : Nat} {x : BitVec n} {lo w v : Nat} (h : fld x lo w = v % 2 ^ w) : put x lo w v = x := by
  rw [put, putBits_bits h, BitVec.ofNat_toNat, BitVec.setWidth_eq]

/-- Setting a field to the value it has changes no register. -/
theorem reg_sf_of_gf {s : State} {p : Nat} {f : Fld} {v : Nat} (h : s.gf p f = v % 2 ^ f.w) (a : Nat) : (s.sf p f v).reg a = s.reg a := by
  by_cases ha : a = raddr p f.off
  · subst ha
    rw [State.sf, State.reg_setReg_self, put_fld h]
  · exact s.reg_sf_of_ne v ha

/-! ### The three counts and the alert -/

/-- The state with the three counts of R64, R566 and R467 brought up to date. -/
def State.counted (s : State) : State :=
  ((s.sf pgHST HST.NP_CTL_NP_OUT s.host.reqs.length).sf pgFLT FLT.FLT_STS_QUEUE s.flt.queue.length).sf
    pgMEZ MEZ.MEZ_STS_COUNT s.mez.staged.length

/-- The state with a change of SMB_ALERT_N sent (R46). -/
def State.alertSent (s : State) : State :=
  if s.smb.alertLow == s.alertDue then s else s.emit (.pin "SMB_ALERT_N" (!s.alertDue))

theorem counted_eq (s : State) : s.counted = { s with regs := s.counted.regs } := rfl

theorem reg_counted_of_not_mem (s : State) {a : Nat} (h : a ∉ shownRegs) : s.counted.reg a = s.reg a := by
  simp only [shownRegs, List.mem_cons, List.not_mem_nil, or_false, not_or] at h
  obtain ⟨hnp, hq, hc⟩ := h
  rw [State.counted, State.reg_sf_of_ne _ _ hc, State.reg_sf_of_ne _ _ hq, State.reg_sf_of_ne _ _ hnp]

/-- Whether the alert is due depends on the clocks of the housekeeping domain and on registers of DEV only. -/
theorem alertDue_congr {s t : State} (hs : t.sys = s.sys) (hr : ∀ off < 4096, t.reg (raddr pgDEV off) = s.reg (raddr pgDEV off)) :
    t.alertDue = s.alertDue := by
  rw [State.alertDue, State.alertDue, hs, hr _ (by decide), hr _ (by decide), State.gb, State.gf, hr _ (by decide)]
  rfl

theorem alertDue_counted (s : State) : s.counted.alertDue = s.alertDue := by
  refine alertDue_congr (by rw [counted_eq]) fun off h => reg_counted_of_not_mem s ?_
  rw [raddr, pgDEV, Nat.zero_mul, Nat.zero_add]
  intro hm
  have : ∀ a ∈ shownRegs, 4096 ≤ a := by decide
  exact absurd (this off hm) (Nat.not_le.2 h)

theorem shown_eq (s : State) :
    s.shown = { s with regs := s.counted.regs, out := s.alertSent.out, smb := { s.smb with alertLow := s.alertDue } } := by
  have h : s.shown = { s.counted.alertSent with
      smb := { s.counted.alertSent.smb with alertLow := s.counted.alertDue } } := rfl
  have hc : ∃ r, s.counted = { s with regs := r } := ⟨_, counted_eq s⟩
  rw [h, State.alertSent, State.alertSent, alertDue_counted]
  obtain ⟨r, hr⟩ := hc
  rw [hr]
  dsimp only
  split
  · rfl
  · rfl

theorem reg_shown (s : State) (a : Nat) : s.shown.reg a = s.counted.reg a := by rw [shown_eq]; rfl
theorem gf_shown (s : State) (p : Nat) (f : Fld) : s.shown.gf p f = s.counted.gf p f := by rw [State.gf, reg_shown, State.gf]
theorem shown_smb (s : State) : s.shown.smb = { s.smb with alertLow := s.alertDue } := by rw [shown_eq]
theorem shown_out (s : State) : s.shown.out = s.alertSent.out := by rw [shown_eq]

theorem alertDue_shown (s : State) : s.shown.alertDue = s.alertDue := by
  rw [← alertDue_counted s]
  exact alertDue_congr (by rw [shown_sys, counted_eq]) fun off _ => reg_shown s _

theorem counted_npOut (s : State) : s.counted.gf pgHST HST.NP_CTL_NP_OUT = s.host.reqs.length % 2 ^ HST.NP_CTL_NP_OUT.w := by
  rw [State.counted, State.gf_sf_of_ne _ _ (by decide), State.gf_sf_of_ne _ _ (by decide), State.gf_sf_self _ _ _ _ (by decide)]

theorem counted_queue (s : State) : s.counted.gf pgFLT FLT.FLT_STS_QUEUE = s.flt.queue.length % 2 ^ FLT.FLT_STS_QUEUE.w := by
  rw [State.counted, State.gf_sf_of_ne _ _ (by decide), State.gf_sf_self _ _ _ _ (by decide)]

theorem counted_staged (s : State) : s.counted.gf pgMEZ MEZ.MEZ_STS_COUNT = s.mez.staged.length % 2 ^ MEZ.MEZ_STS_COUNT.w := by
  rw [State.counted, State.gf_sf_self _ _ _ _ (by decide)]

/-- Where the counts are true already, bringing them up to date changes no register. -/
theorem reg_counted_of_showsTrue {s : State} (h : s.showsTrue) (a : Nat) : s.counted.reg a = s.reg a := by
  obtain ⟨hnp, hq, hc, -⟩ := h
  rw [State.counted, reg_sf_of_gf, reg_sf_of_gf, reg_sf_of_gf hnp]
  · rw [State.gf_sf_of_ne _ _ (by decide), hq]
  · rw [State.gf_sf_of_ne _ _ (by decide), State.gf_sf_of_ne _ _ (by decide), hc]

/-- What the device shows after it was brought up to date is true. -/
theorem showsTrue_shown (s : State) : s.shown.showsTrue := by
  refine ⟨?_, ?_, ?_, ?_⟩
  · rw [gf_shown, counted_npOut, shown_host]
  · rw [gf_shown, counted_queue, shown_flt]
  · rw [gf_shown, counted_staged, shown_mez]
  · rw [alertDue_shown, shown_smb]

/-! ### Every command ends with it -/

/-- Every command ends by bringing up to date what the device shows. -/
theorem exec_ends_shown (c : Instr) (s : State) : ∃ u : State, exec c s = .next u.shown := by
  have row : ∀ (b : Prop) [Decidable b] (t u : State), ∃ v : State, (if b then done t else done u) = .next v.shown := by
    intro b _ t u
    split
    · exact ⟨t, rfl⟩
    · exact ⟨u, rfl⟩
  cases c
  case sumClaim target path => exact row _ _ _
  case sumComplete target source => exact row _ _ _
  case sumStackReset target => exact row _ _ _
  case sourceClrPend source => exact row _ _ _
  case sourceReassign source => exact row _ _ _
  all_goals exact ⟨_, rfl⟩

/-- A step ends by bringing up to date what the device shows. -/
theorem step_ends_shown (s : State) : ∃ u : State, step s = .next u.shown := by
  unfold step
  split
  · exact ⟨s.idle, rfl⟩
  · exact exec_ends_shown _ _

/-- Settles O6: whatever a step does before, it ends by bringing up to date what the device shows. -/
theorem stepShowsTrue : Obligations.StepShowsTrue := by
  intro s t h
  obtain ⟨u, hu⟩ := step_ends_shown s
  obtain rfl : u.shown = t := Host.Outcome.next.inj (hu.symm.trans h)
  exact showsTrue_shown u

/-- Settles O5: the counts read 0 and nothing is outstanding, recorded or staged; no event of DEV is set. -/
theorem resetShowsTrue : Obligations.ResetShowsTrue := by
  have hraw : State.reset.reg (raddr pgDEV 0x10) = 0 := reset_evtRaw (b := .dev) (k := 0) rfl
  refine ⟨by decide +kernel, by decide +kernel, by decide +kernel, ?_⟩
  rw [State.alertDue, hraw, show ∀ x : Word, (0 : Word) &&& x = 0 from fun _ => BitVec.zero_and]
  rfl

/-- Settles O7, from the form of the state brought up to date. -/
theorem shownChangesNothingElse : Obligations.ShownChangesNothingElse := by
  intro s
  refine ⟨?regs, ?rest, ?same, ?changed, ?already⟩
  case regs =>
    intro a hnp hq hc
    exact reg_shown_of_not_mem s (by simp [shownRegs, hnp, hq, hc])
  case rest =>
    conv_lhs => rw [shown_eq]
    rw [shown_out, show s.shown.regs = s.counted.regs by rw [shown_eq]]
  case same =>
    intro h
    rw [shown_out, State.alertSent, h, beq_self_eq_true, if_pos rfl]
  case changed =>
    intro h
    rw [shown_out, State.alertSent, if_neg (by simpa using h)]
    rfl
  case already =>
    intro h a
    rw [reg_shown, reg_counted_of_showsTrue h]

end Sys2Proof.Machine
end

section
/-!
PROOF. Events and captures (R31, R33, R430, R432, R566): what the firing of a source leaves of the tables and of the history, what a
page's capture registers hold after an error, and O8 and O9 from them.
-/

namespace Sys2Proof.Machine

variable (s : State)

/-! ### What the firing of a source leaves -/

/-- Registers of two pages are two registers. -/
theorem raddr_ne {p q i j : Nat} (h : p ≠ q) (hi : i < 4096) (hj : j < 4096) : raddr p i ≠ raddr q j := by
  unfold raddr; omega

theorem fireRegs_page {a : Nat} (h : a ∈ fireRegs) : a / 4096 = pgOAS ∨ a / 4096 = pgLND := by
  have : ∀ a ∈ fireRegs, a / 4096 = pgOAS ∨ a / 4096 = pgLND := by decide
  exact this a h

theorem raddr_not_mem_fireRegs {p off : Nat} (ho : p ≠ pgOAS) (hl : p ≠ pgLND) (h : off < 4096) : raddr p off ∉ fireRegs := by
  intro hm
  have := fireRegs_page hm
  rw [raddr_div p h] at this
  exact this.elim ho hl

/-- A state is another but for its registers and the Oasis. -/
def OasisOnly (s t : State) : Prop := t = { s with regs := t.regs, oas := t.oas }

theorem OasisOnly.refl (s : State) : OasisOnly s s := rfl
theorem OasisOnly.trans {s t u : State} (h : OasisOnly s t) (k : OasisOnly t u) : OasisOnly s u := by
  unfold OasisOnly at *; rw [k, h]
theorem OasisOnly.tbls {s t : State} (h : OasisOnly s t) : t.tbls = s.tbls := by rw [h]
theorem OasisOnly.flt {s t : State} (h : OasisOnly s t) : t.flt = s.flt := by rw [h]

theorem oasisOnly_oas (x : Oasis) : OasisOnly s { s with oas := x } := rfl
theorem oasisOnly_setReg (a : Nat) (v : Word) : OasisOnly s (s.setReg a v) := rfl
theorem oasisOnly_sf (p : Nat) (f : Fld) (v : Nat) : OasisOnly s (s.sf p f v) := rfl
theorem oasisOnly_ite {s a b : State} {c : Prop} [Decidable c] (h : OasisOnly s a) (k : OasisOnly s b) :
    OasisOnly s (if c then a else b) := by
  by_cases hc : c
  · rwa [if_pos hc]
  · rwa [if_neg hc]

theorem oasisOnly_wakeHint (f : Fld) : OasisOnly s (s.wakeHint f) := by
  unfold State.wakeHint
  exact oasisOnly_ite ((oasisOnly_oas s _).trans (oasisOnly_sf _ _ _ _)) (OasisOnly.refl s)

theorem oasisOnly_wakeBySource (x : Nat) : OasisOnly s (s.wakeBySource x) := by
  unfold State.wakeBySource
  extract_lets t l
  exact oasisOnly_ite (oasisOnly_ite ((oasisOnly_oas s _).trans (oasisOnly_sf _ _ _ _)) (OasisOnly.refl s))
    (oasisOnly_ite (oasisOnly_wakeHint s _) (OasisOnly.refl s))

theorem oasisOnly_oasLatch (slot x : Nat) : OasisOnly s (s.oasLatch slot x) := by
  unfold State.oasLatch
  refine oasisOnly_ite (OasisOnly.refl s) ?_
  extract_lets t o u a
  have h : OasisOnly s t := oasisOnly_ite ((oasisOnly_sf s _ _ _).trans (oasisOnly_sf _ _ _ _)) (OasisOnly.refl s)
  exact ((h.trans (oasisOnly_oas t _)).trans (oasisOnly_setReg u _ _)).trans (oasisOnly_sf _ _ _ _)

theorem oasisOnly_oasWatch (x : Nat) : OasisOnly s (s.oasWatch x) := by
  unfold State.oasWatch
  split
  · exact oasisOnly_ite (oasisOnly_oasLatch s _ _) (OasisOnly.refl s)
  · exact OasisOnly.refl s

/-- The state of a source after it fired in RUN or STANDBY with LND ACTIVE (R432). -/
def State.fired (s : State) (x : Nat) : State :=
  if s.tf .src x T_SRC.STATE = srcIDLE then s.st .src x T_SRC.STATE srcPENDING
  else if s.tf .src x T_SRC.STATE = srcACTIVE then s.st .src x T_SRC.STATE srcACTPEND
  else s

theorem becomePending_tbls (x : Nat) : (s.becomePending x).tbls = (s.st .src x T_SRC.STATE srcPENDING).tbls := by
  unfold State.becomePending
  dsimp only
  split
  · rw [State.cnt_tbls]
  · rfl

theorem becomePending_flt (x : Nat) : (s.becomePending x).flt = s.flt := by
  unfold State.becomePending
  dsimp only
  split
  · rw [State.cnt_flt, State.st_flt]
  · rw [State.st_flt]

/-- The firing of a source leaves the history queue. -/
@[simp] theorem fire_flt (x : Nat) : (s.fire x).flt = s.flt := by
  unfold State.fire
  split
  · exact (oasisOnly_oasWatch s x).flt
  · split
    · refine (oasisOnly_wakeBySource _ x).flt.trans ?_
      split
      · exact becomePending_flt s x
      · split
        · rw [State.st_flt]
        · rfl
    · rfl

/-- With LND ACTIVE and above SLEEP a source that fires takes its next state. -/
theorem fire_tbls_awake {s : State} (hp : s.gf pgOAS OAS.PWR_STS_STATE < 2) (hl : s.active pgLND = true) (x : Nat) :
    (s.fire x).tbls = (s.fired x).tbls := by
  unfold State.fire State.fired
  rw [if_neg (Nat.not_le.2 hp), if_pos hl]
  refine (oasisOnly_wakeBySource _ x).tbls.trans ?_
  simp only [beq_iff_eq]
  split
  · exact becomePending_tbls s x
  · split
    · rfl
    · rfl

theorem fire_tbls_cases (x : Nat) : (s.fire x).tbls = s.tbls ∨ (s.fire x).tbls = (s.fired x).tbls := by
  by_cases hp : s.gf pgOAS OAS.PWR_STS_STATE < 2
  · by_cases hl : s.active pgLND = true
    · exact .inr (fire_tbls_awake hp hl x)
    · left; unfold State.fire; rw [if_neg (Nat.not_le.2 hp), if_neg hl]
  · left; unfold State.fire; rw [if_pos (Nat.not_lt.1 hp)]; exact (oasisOnly_oasWatch s x).tbls

theorem tf_of_tbls {s t : State} (h : t.tbls = s.tbls) (u : Tbl) (i : Nat) (f : TFld) : t.tf u i f = s.tf u i f := by
  rw [State.tf, State.ent, h, State.tf, State.ent]

theorem tf_fired_of_disjoint (x : Nat) {f : TFld} (hd : f.lo + f.w ≤ 64 ∨ 67 ≤ f.lo) : (s.fired x).tf .src x f = s.tf .src x f := by
  unfold State.fired
  split
  · exact s.tf_st_of_disjoint _ _ _ (by decide) hd
  · split
    · exact s.tf_st_of_disjoint _ _ _ (by decide) hd
    · rfl

/-- The firing of a source changes STATE of its entry at most. -/
theorem tf_fire_of_disjoint (x : Nat) {f : TFld} (hd : f.lo + f.w ≤ 64 ∨ 67 ≤ f.lo) : (s.fire x).tf .src x f = s.tf .src x f := by
  rcases fire_tbls_cases s x with h | h
  · exact tf_of_tbls h _ _ _
  · rw [tf_of_tbls h, tf_fired_of_disjoint s x hd]

/-! ### The level of a page's source (R31, R430) -/

/-- The level of a source is what it was set to. -/
theorem asserted_setLevel (x : Nat) (l : Bool) : (s.setLevel x l).tb .src x T_SRC.ASSERTED = l := by
  have h : (s.st .src x T_SRC.ASSERTED (b2n l)).tf .src x T_SRC.ASSERTED = b2n l := by
    rw [State.tf_st_self _ _ _ _ _ (by decide)]; cases l <;> rfl
  unfold State.setLevel
  dsimp only
  split
  · rw [State.tb, tf_fire_of_disjoint _ _ (by decide), h]; cases l <;> rfl
  · rw [State.tb, h]; cases l <;> rfl

/-- A rise of the level fires the source. -/
theorem setLevel_rise {x : Nat} (h : s.tb .src x T_SRC.ASSERTED = false) :
    s.setLevel x true = (s.st .src x T_SRC.ASSERTED 1).fire x := by
  simp only [State.setLevel, h, Bool.not_false, Bool.and_self, if_true]; rfl

@[simp] theorem setLevel_flt (x : Nat) (l : Bool) : (s.setLevel x l).flt = s.flt := by
  unfold State.setLevel
  dsimp only
  split
  · rw [fire_flt, State.st_flt]
  · rw [State.st_flt]

/-- Whether a page's source is asserted: EVT_RAW and EVT_EN have a common bit. -/
def State.pageLevel (s : State) (p : Nat) : Bool := (s.reg (raddr p 0x10) &&& s.reg (raddr p 0x14)) != 0

/-- The state in which an event bit of a page is set, before its source follows. -/
def State.raised (s : State) (p b : Nat) : State := s.setReg (raddr p 0x10) (s.reg (raddr p 0x10) ||| BitVec.ofNat 32 (2 ^ b))

theorem event_eq (p b : Nat) : s.event p b = (s.raised p b).setLevel p ((s.raised p b).pageLevel p) := rfl

theorem pageLevel_raised (p b : Nat) :
    (s.raised p b).pageLevel p = (((s.reg (raddr p 0x10) ||| BitVec.ofNat 32 (2 ^ b)) &&& s.reg (raddr p 0x14)) != 0) := by
  rw [State.pageLevel, State.raised, State.reg_setReg_self, State.reg_setReg_of_ne _ _ (by simp [raddr])]

@[simp] theorem event_flt (p b : Nat) : (s.event p b).flt = s.flt := by
  rw [event_eq, setLevel_flt, State.raised, State.setReg_flt]

/-- A register of another page than OAS and LND that is not the page's EVT_RAW is left by its event. -/
theorem reg_event_of_ne {p b a : Nat} (h : a ≠ raddr p 0x10) (ho : a / 4096 ≠ pgOAS) (hl : a / 4096 ≠ pgLND) :
    (s.event p b).reg a = s.reg a := by
  refine regsBut_event s p b a ?_
  rw [List.mem_cons, not_or]
  exact ⟨h, fun hm => (fireRegs_page hm).elim ho hl⟩

/-- A header register other than EVT_RAW is left by an event of its page. -/
theorem reg_event_header {p b off : Nat} (ho : p ≠ pgOAS) (hl : p ≠ pgLND) (h : off < 4096) (hr : off ≠ 0x10) :
    (s.event p b).reg (raddr p off) = s.reg (raddr p off) := by
  refine reg_event_of_ne s ?_ ?_ ?_
  · simpa [raddr] using hr
  · rwa [raddr_div p h]
  · rwa [raddr_div p h]

/-- An event that raises the level of a page's source above SLEEP with LND ACTIVE fires it. -/
theorem tf_state_event {s : State} {p b : Nat} (ho : p ≠ pgOAS) (hl : p ≠ pgLND) (ha : s.active pgLND = true)
    (hp : s.gf pgOAS OAS.PWR_STS_STATE < 2) (hw : s.tb .src p T_SRC.ASSERTED = false)
    (hv : ((s.reg (raddr p 0x10) ||| BitVec.ofNat 32 (2 ^ b)) &&& s.reg (raddr p 0x14)) ≠ 0) :
    (s.tf .src p T_SRC.STATE = srcIDLE → (s.event p b).tf .src p T_SRC.STATE = srcPENDING)
      ∧ (s.tf .src p T_SRC.STATE = srcACTIVE → (s.event p b).tf .src p T_SRC.STATE = srcACTPEND) := by
  let r := (s.raised p b).st .src p T_SRC.ASSERTED 1
  have hev : s.event p b = r.fire p := by
    rw [event_eq, pageLevel_raised, bne_iff_ne.2 hv]
    exact setLevel_rise _ ((congrArg (· == 1) (State.tf_setReg s _ _ _ _ _)).trans hw)
  have hrp : r.gf pgOAS OAS.PWR_STS_STATE < 2 := by
    rwa [State.gf_st, State.raised, State.gf_setReg_of_ne _ _ (raddr_ne (Ne.symm ho) (by decide) (by decide))]
  have hra : r.active pgLND = true := by
    rwa [State.active, State.gb, State.gf_st, State.raised, State.gf_setReg_of_ne _ _ (raddr_ne (Ne.symm hl) (by decide) (by decide))]
  have hst : r.tf .src p T_SRC.STATE = s.tf .src p T_SRC.STATE := by
    rw [State.tf_st_of_disjoint _ _ _ _ (by decide) (by decide), State.raised, State.tf_setReg]
  have hf : ∀ v, (r.fired p).tf .src p T_SRC.STATE = v → (s.event p b).tf .src p T_SRC.STATE = v := fun v h => by
    rw [hev, tf_of_tbls (fire_tbls_awake hrp hra p), h]
  constructor
  · intro hi
    refine hf _ ?_
    rw [State.fired, if_pos (hst.trans hi), State.tf_st_self _ _ _ _ _ (by decide)]; rfl
  · intro hi
    refine hf _ ?_
    rw [State.fired, if_neg (by rw [hst, hi]; decide), if_pos (hst.trans hi), State.tf_st_self _ _ _ _ _ (by decide)]; rfl

/-- Settles O8: the bit, the level and the state of the source, each from the lemma about it. -/
theorem eventSetsItsBit : Obligations.EventSetsItsBit := by
  intro s p b _ _ ho hl
  refine ⟨reg_event_raw s p b (raddr_not_mem_fireRegs ho hl (by decide)), fun a h h1 h2 => reg_event_of_ne s h h1 h2, ?_,
    State.event_out s p b, event_flt s p b, State.event_pending s p b, fun ha hp hw hv => tf_state_event ho hl ha hp hw hv⟩
  rw [event_eq, asserted_setLevel, pageLevel_raised]

/-! ### The capture registers of a page (R33) -/

section
variable {s} {p : Nat} (code c1 c2 c3 : Nat)

theorem takeCapture_fresh (h : s.gb p HDR.ERR_CAP0_VALID = false) : s.takeCapture p code c1 c2 c3 =
    ((((((((s.sf p HDR.ERR_CAP0_VALID 1).sf p HDR.ERR_CAP0_CODE code).setReg (raddr p 0x24) (BitVec.ofNat 32 c1)).setReg
      (raddr p 0x28) (BitVec.ofNat 32 c2)).setReg (raddr p 0x2C) (BitVec.ofNat 32 c3)).setReg (raddr p 0x30)
        (BitVec.ofNat 32 s.stamp)).sf p HDR.ERR_STAMP_HI_STAMP_HI (s.stamp / 2 ^ 32)).sf p HDR.PAGE_STS_FAULT 1) := by
  rw [State.takeCapture, h]; rfl

theorem takeCapture_held (h : s.gb p HDR.ERR_CAP0_VALID = true) : s.takeCapture p code c1 c2 c3 =
    (s.sf p HDR.ERR_CAP0_LOST 1).sf p HDR.ERR_CAP0_LOST_COUNT (min (s.gf p HDR.ERR_CAP0_LOST_COUNT + 1) 0xFFFF) := by
  rw [State.takeCapture, h]; rfl

theorem captureOnce_held (h : s.gb p HDR.ERR_CAP0_VALID = true) :
    s.captureOnce p code c1 c2 c3 = s.takeCapture p code c1 c2 c3 := by
  rw [State.captureOnce, h]; rfl

theorem captureOnce_fresh (h : s.gb p HDR.ERR_CAP0_VALID = false) :
    ∃ r, s.captureOnce p code c1 c2 c3 = (s.takeCapture p code c1 c2 c3).pushRecord r := by
  rw [State.captureOnce, h]; exact ⟨_, rfl⟩

/-- An error while the history queue has room: the capture with its record, then the event. -/
theorem error_of_room (hq : s.flt.queue.length < 256) (b : Nat) :
    s.error p b code c1 c2 c3 = (s.captureOnce p code c1 c2 c3).event p b := by
  simp only [State.error, hq, decide_true, Bool.not_true, Bool.and_false, Bool.false_eq_true, if_false]

end

/-- A capture leaves the history queue. -/
theorem takeCapture_flt (p code c1 c2 c3 : Nat) : (s.takeCapture p code c1 c2 c3).flt = s.flt := by
  unfold State.takeCapture
  split
  · rw [State.sf_flt, State.sf_flt]
  · simp only [State.sf_flt, State.setReg_flt]

/-- A record that finds room is queued last. -/
theorem pushRecord_queue {s : State} (h : s.flt.queue.length < 256) (r : BitVec 256) : (s.pushRecord r).flt.queue = s.flt.queue ++ [r] := by
  unfold State.pushRecord
  dsimp only
  rw [State.cnt_flt, if_pos h, State.sf_flt]

/-- A record leaves the registers of every other page. -/
theorem reg_pushRecord {p off : Nat} (hp : p ≠ pgFLT) (ho : off < 4096) (r : BitVec 256) :
    (s.pushRecord r).reg (raddr p off) = s.reg (raddr p off) := by
  have hne : ∀ {k : Nat}, k < 4096 → raddr p off ≠ raddr pgFLT k := raddr_ne hp ho
  unfold State.pushRecord
  dsimp only
  split
  · rw [State.reg_sf_of_ne _ _ (hne (by decide))]
    exact s.reg_cnt_of_ne _ (hne (by decide))
  · rw [State.reg_cnt_of_ne _ _ (hne (by decide)), State.reg_cnt_of_ne _ _ (hne (by decide))]

section
variable {s} {p : Nat} {b code c1 c2 c3 : Nat} (hp : p ≠ pgFLT) (ho : p ≠ pgOAS) (hl : p ≠ pgLND) (hq : s.flt.queue.length < 256)
include hp ho hl hq

/-- After an error the header registers but EVT_RAW are those of the capture. -/
theorem reg_error {off : Nat} (h : off < 4096) (hr : off ≠ 0x10) :
    (s.error p b code c1 c2 c3).reg (raddr p off) = (s.takeCapture p code c1 c2 c3).reg (raddr p off) := by
  rw [error_of_room _ _ _ _ hq, reg_event_header _ ho hl h hr]
  cases hv : s.gb p HDR.ERR_CAP0_VALID
  case false =>
    obtain ⟨r, hc⟩ := captureOnce_fresh code c1 c2 c3 hv
    rw [hc, reg_pushRecord _ hp h]
  case true => rw [captureOnce_held _ _ _ _ hv]

theorem gf_error {f : Fld} (h : f.off < 4096) (hr : f.off ≠ 0x10) :
    (s.error p b code c1 c2 c3).gf p f = (s.takeCapture p code c1 c2 c3).gf p f := by
  rw [State.gf, reg_error hp ho hl hq h hr, State.gf]

/-- The event bit is set by every error. -/
theorem raw_error :
    (s.error p b code c1 c2 c3).reg (raddr p 0x10) = (s.reg (raddr p 0x10) ||| BitVec.ofNat 32 (2 ^ b)) := by
  have hc : raddr p 0x10 ∉ capRegs p := by simp [capRegs, raddr]
  rw [error_of_room _ _ _ _ hq, reg_event_raw _ p b (raddr_not_mem_fireRegs ho hl (by decide))]
  cases hv : s.gb p HDR.ERR_CAP0_VALID
  case false =>
    obtain ⟨r, hr⟩ := captureOnce_fresh code c1 c2 c3 hv
    rw [hr, reg_pushRecord _ hp (by decide), regsBut_takeCapture s p code c1 c2 c3 _ hc]
  case true => rw [captureOnce_held _ _ _ _ hv, regsBut_takeCapture s p code c1 c2 c3 _ hc]

end

theorem stamp_low (s : State) : BitVec.ofNat 32 s.stamp = BitVec.ofNat 32 s.sys.devtime := by
  apply BitVec.eq_of_toNat_eq
  rw [BitVec.toNat_ofNat, BitVec.toNat_ofNat, State.stamp]
  omega

theorem stamp_high (s : State) : s.stamp / 2 ^ 32 % 2 ^ 16 = s.sys.devtime / 2 ^ 32 % 2 ^ 16 := by
  rw [State.stamp]; omega

/-! ### Other registers of the same page -/

theorem gf_setReg_of_off (p : Nat) {off : Nat} {f : Fld} (v : Word) (h : f.off ≠ off) : (s.setReg (raddr p off) v).gf p f = s.gf p f :=
  s.gf_setReg_of_ne v (by simpa [raddr] using h)

theorem reg_setReg_of_off (p : Nat) {i off : Nat} (v : Word) (h : i ≠ off) : (s.setReg (raddr p off) v).reg (raddr p i) = s.reg (raddr p i) :=
  s.reg_setReg_of_ne v (by simpa [raddr] using h)

theorem reg_sf_of_off (p : Nat) {i : Nat} {f : Fld} (v : Nat) (h : i ≠ f.off) : (s.sf p f v).reg (raddr p i) = s.reg (raddr p i) :=
  reg_setReg_of_off s p _ h

/-- Settles O9: what the capture's writes leave in each register, and the record and the event after them. -/
theorem firstErrorIsCaptured : Obligations.FirstErrorIsCaptured := by
  intro s p b code c1 c2 c3 _ ho hl hp _ hcode hq
  have hreg : ∀ off, off < 4096 → off ≠ 0x10 →
      (s.error p b code c1 c2 c3).reg (raddr p off) = (s.takeCapture p code c1 c2 c3).reg (raddr p off) :=
    fun _ h hr => reg_error hp ho hl hq h hr
  have hgf : ∀ f : Fld, f.off < 4096 → f.off ≠ 0x10 →
      (s.error p b code c1 c2 c3).gf p f = (s.takeCapture p code c1 c2 c3).gf p f :=
    fun _ h hr => gf_error hp ho hl hq h hr
  refine ⟨fun hv => ?fresh, fun hv => ?held⟩
  case fresh =>
    dsimp only
    have hcap := takeCapture_fresh code c1 c2 c3 hv
    refine ⟨?valid, ?code, ?d1, ?d2, ?d3, ?low, ?high, ?fault, raw_error hp ho hl hq, ?queue⟩
    case queue =>
      obtain ⟨r, hr⟩ := captureOnce_fresh code c1 c2 c3 hv
      rw [error_of_room _ _ _ _ hq, event_flt, hr, pushRecord_queue (by rwa [takeCapture_flt]), takeCapture_flt,
        List.length_append, List.length_singleton]
    case code =>
      simp (disch := decide) only [hgf, hcap, gf_setReg_of_off, State.gf_sf_of_disjoint, State.gf_sf_self]
      exact Nat.mod_eq_of_lt hcode
    case high =>
      simp (disch := decide) only [hgf, hcap, State.gf_sf_of_disjoint, State.gf_sf_self]
      exact stamp_high s
    case low =>
      simp (disch := decide) only [hreg, hcap, reg_sf_of_off, State.reg_setReg_self, stamp_low]
    case valid =>
      simp (disch := decide) only [State.gb, hgf, hcap, gf_setReg_of_off, State.gf_sf_of_disjoint, State.gf_sf_self]
      rfl
    case fault =>
      simp (disch := decide) only [State.gb, hgf, hcap, State.gf_sf_self]
      rfl
    all_goals simp (disch := decide) only [hreg, hcap, reg_sf_of_off, reg_setReg_of_off, State.reg_setReg_self]
  case held =>
    dsimp only
    have hcap := takeCapture_held code c1 c2 c3 hv
    refine ⟨?valid', ?code', ?lost, ?count, ?d1', ?d2', ?d3', ?low', ?high', raw_error hp ho hl hq, ?flt⟩
    case flt => rw [error_of_room _ _ _ _ hq, event_flt, captureOnce_held _ _ _ _ hv, takeCapture_flt]
    case valid' =>
      simp (disch := decide) only [State.gb, hgf, hcap, State.gf_sf_of_disjoint]
      exact hv
    case code' => simp (disch := decide) only [hgf, hcap, State.gf_sf_of_disjoint]
    case lost =>
      simp (disch := decide) only [State.gb, hgf, hcap, State.gf_sf_of_disjoint, State.gf_sf_self]
      rfl
    case count =>
      simp (disch := decide) only [hgf, hcap, State.gf_sf_self]
      exact Nat.mod_eq_of_lt (Nat.lt_succ_of_le (Nat.min_le_right _ _))
    all_goals simp (disch := decide) only [hreg, hcap, reg_sf_of_off]

end Sys2Proof.Machine
end

section
/-!
PROOF. What reports, doorbells and voltage commands leave alone (R24, R33, R457, R493, R494, R514, R519, R528, R557): the pages whose
registers each of them may change, the parts of the state it may change, and O60 from that.
-/

namespace Sys2Proof.Machine

/-! ### A change of some pages' registers and of what reports change -/

/-- The pages where events, captures and the shown counts lie. -/
def reportPages : List Nat := [pgOAS, pgLND, pgFLT, pgHST, pgMEZ]

/-- A state is another but for registers of some pages and of those that reports change, for Landing's sources, and for the parts of the
state that reports, the AVSBus and a reboot that is asked for change. -/
structure ReportOnly (pages : List Nat) (s t : State) : Prop where
  regs : ∀ a, a / 4096 ∉ pages → a / 4096 ∉ reportPages → t.reg a = s.reg a
  ents : EntsBut s t
  rest : t = { s with
    regs := t.regs, tbls := t.tbls, oas := t.oas, flt := t.flt, out := t.out, smb := t.smb, sys := t.sys, avs := t.avs
    vlt := { s.vlt with rebootAt := t.vlt.rebootAt } }

section
variable {pages : List Nat}

theorem ReportOnly.refl (s : State) : ReportOnly pages s s := ⟨fun _ _ _ => rfl, EntsBut.refl s, rfl⟩

theorem ReportOnly.trans {s t u : State} (h : ReportOnly pages s t) (k : ReportOnly pages t u) : ReportOnly pages s u where
  regs a ha hr := (k.regs a ha hr).trans (h.regs a ha hr)
  ents := h.ents.trans k.ents
  rest := by
    have e := h.rest
    have f := k.rest
    rw [e] at f
    exact f

theorem reportOnly_ite {s a b : State} {c : Prop} [Decidable c] (h : ReportOnly pages s a) (k : ReportOnly pages s b) :
    ReportOnly pages s (if c then a else b) := by
  by_cases hc : c
  · rwa [if_pos hc]
  · rwa [if_neg hc]

theorem reportOnly_sameBut {s t : State} {l : List Nat} (hb : SameBut s t) (he : EntsBut s t) (hr : RegsBut l s t)
    (hl : ∀ a ∈ l, a / 4096 ∈ pages ∨ a / 4096 ∈ reportPages) : ReportOnly pages s t where
  regs a ha hp := hr a (fun hm => (hl a hm).elim ha hp)
  ents := he
  rest := by unfold SameBut at hb; rw [hb]

theorem reportOnly_setReg (s : State) {p off : Nat} (v : Word) (ho : off < 4096) (h : p ∈ pages ∨ p ∈ reportPages) :
    ReportOnly pages s (s.setReg (raddr p off) v) :=
  reportOnly_sameBut (sameBut_setReg s _ v) (entsBut_setReg s _ v) (regsBut_setReg (l := [raddr p off]) s v (by simp))
    (by simpa [raddr_div p ho] using h)

theorem reportOnly_sf (s : State) {p : Nat} {f : Fld} (v : Nat) (ho : f.off < 4096) (h : p ∈ pages ∨ p ∈ reportPages) :
    ReportOnly pages s (s.sf p f v) := reportOnly_setReg s _ ho h

theorem reportOnly_cnt (s : State) {p off : Nat} (n : Nat) (ho : off < 4096) (h : p ∈ pages ∨ p ∈ reportPages) :
    ReportOnly pages s (s.cnt p off n) := reportOnly_setReg s _ ho h

theorem fireRegs_reportPages {a : Nat} (h : a ∈ fireRegs) : a / 4096 ∈ reportPages := by
  rcases fireRegs_page h with h | h
  · rw [h]; decide
  · rw [h]; decide

theorem reportOnly_event (s : State) {p : Nat} (b : Nat) (hp : p < 2 ^ 24) (h : p ∈ pages ∨ p ∈ reportPages) :
    ReportOnly pages s (s.event p b) := by
  refine reportOnly_sameBut (sameBut_event s p b) (entsBut_event s b hp) (regsBut_event s p b) fun a ha => ?_
  rcases List.mem_cons.1 ha with rfl | ha
  · rwa [raddr_div p (by decide)]
  · exact .inr (fireRegs_reportPages ha)

theorem capRegs_page {p a : Nat} (h : a ∈ capRegs p) : a / 4096 = p := by
  simp only [capRegs, List.mem_cons, List.not_mem_nil, or_false] at h
  rcases h with rfl | rfl | rfl | rfl | rfl | rfl | rfl <;> exact raddr_div p (by decide)

theorem errRegs_page {p a : Nat} (h : a ∈ errRegs p) : a / 4096 = p ∨ a / 4096 ∈ reportPages := by
  simp only [errRegs, List.mem_append] at h
  rcases h with ((h | h) | h) | h
  · exact .inl (capRegs_page h)
  · rw [capRegs_page h]; exact .inr (by decide)
  · have : ∀ a ∈ [raddr pgFLT FLT.FLT_STS_QUEUE.off, raddr pgFLT FLT.CNT_RECORDS, raddr pgFLT FLT.CNT_QUEUE_LOST, raddr pgFLT 0x10],
      a / 4096 ∈ reportPages := by decide
    exact .inr (this a h)
  · exact .inr (fireRegs_reportPages h)

theorem reportOnly_error (s : State) {p : Nat} (b code c1 c2 c3 : Nat) (hp : p < 2 ^ 24) (h : p ∈ pages ∨ p ∈ reportPages) :
    ReportOnly pages s (s.error p b code c1 c2 c3) := by
  refine reportOnly_sameBut (sameBut_error s p b code c1 c2 c3) (entsBut_error s b code c1 c2 c3 hp)
    (regsBut_error s p b code c1 c2 c3) fun a ha => ?_
  rcases List.mem_cons.1 ha with rfl | ha
  · rwa [raddr_div p (by decide)]
  · rcases errRegs_page ha with ha | ha
    · rwa [ha]
    · exact .inr ha

theorem reportOnly_emit (s : State) (o : Out) : ReportOnly pages s (s.emit o) := ⟨fun _ _ _ => rfl, EntsBut.refl s, rfl⟩
theorem reportOnly_avs (s : State) (x : Avs) : ReportOnly pages s { s with avs := x } := ⟨fun _ _ _ => rfl, EntsBut.refl s, rfl⟩
theorem reportOnly_avs_sys (s : State) (x : Avs) (y : Sys) : ReportOnly pages s { s with avs := x, sys := y } :=
  ⟨fun _ _ _ => rfl, EntsBut.refl s, rfl⟩
theorem reportOnly_oas (s : State) (x : Oasis) : ReportOnly pages s { s with oas := x } := ⟨fun _ _ _ => rfl, EntsBut.refl s, rfl⟩
theorem reportOnly_rebootAt (s : State) (x : Option Nat) : ReportOnly pages s { s with vlt := { s.vlt with rebootAt := x } } :=
  ⟨fun _ _ _ => rfl, EntsBut.refl s, rfl⟩

theorem shownRegs_reportPages {a : Nat} (h : a ∈ shownRegs) : a / 4096 ∈ reportPages := by
  have : ∀ a ∈ shownRegs, a / 4096 ∈ reportPages := by decide
  exact this a h

theorem reportOnly_shown (s : State) : ReportOnly pages s s.shown where
  regs a _ hr := reg_shown_of_not_mem s (fun h => hr (shownRegs_reportPages h))
  ents := entsBut_of_tbls (shown_tbls s)
  rest := by conv_lhs => rw [shown_eq]
             rw [shown_eq]

/-! ### The Erg -/

theorem reportOnly_ergShow (s : State) (h : pgERG ∈ pages) : ReportOnly pages s s.ergShow := by
  unfold State.ergShow
  exact (reportOnly_sf s _ (by decide) (.inl h)).trans (reportOnly_sf _ _ (by decide) (.inl h))

theorem reportOnly_ergPll (s : State) (h : pgERG ∈ pages) : ReportOnly pages s s.ergPll := by
  unfold State.ergPll
  exact reportOnly_ite (((reportOnly_sf s _ (by decide) (.inl h)).trans (reportOnly_sf _ _ (by decide) (.inl h))).trans
    (reportOnly_ergShow _ h)) (ReportOnly.refl s)

theorem reportOnly_ergUncorr (s : State) {c : Nat} (off rank : Nat) (scrub : Bool) (hc : c < 4) (h : pgERGC c ∈ pages) :
    ReportOnly pages s (s.ergUncorr c off rank scrub) := by
  unfold State.ergUncorr
  exact (reportOnly_cnt s _ (by decide) (.inl h)).trans (reportOnly_error _ _ _ _ _ _ (by unfold pgERGC; omega) (.inl h))

theorem reportOnly_each {α : Type} {f : α → State → State} (hf : ∀ x s, ReportOnly pages s (f x s)) (l : List α) (s : State) :
    ReportOnly pages s (s.each l f) := by
  induction l generalizing s with
  | nil => exact ReportOnly.refl s
  | cons x xs ih => exact (hf x s).trans (ih (f x s))

theorem reportOnly_ergScrub (s : State) {c : Nat} (n : Nat) (u : List (Nat × Nat)) (hc : c < 4) (h : pgERGC c ∈ pages) :
    ReportOnly pages s (s.ergScrub c n u) := by
  unfold State.ergScrub
  exact reportOnly_ite (ReportOnly.refl s) (((reportOnly_cnt s _ (by decide) (.inl h)).trans
    (reportOnly_cnt _ _ (by decide) (.inl h))).trans (reportOnly_each (fun x s => reportOnly_ergUncorr s _ _ _ hc h) u _))

theorem reportOnly_ergSpare (s : State) {c : Nat} (d n : Nat) (u : Bool) (hc : c < 4) (h : pgERGC c ∈ pages) (hg : pgERG ∈ pages) :
    ReportOnly pages s (s.ergSpare c d n u) := by
  unfold State.ergSpare
  exact reportOnly_ite (((((((reportOnly_cnt s _ (by decide) (.inl h)).trans (reportOnly_sf _ _ (by decide) (.inl h))).trans
    (reportOnly_sf _ _ (by decide) (.inl h)))).trans (reportOnly_sf _ _ (by decide) (.inl h))).trans
    (reportOnly_error _ _ _ _ _ _ (by unfold pgERGC; omega) (.inl h))).trans (reportOnly_ergShow _ hg)) (ReportOnly.refl s)

theorem reportOnly_ergSpared (s : State) {c : Nat} (hc : c < 4) (h : pgERGC c ∈ pages) (hg : pgERG ∈ pages) :
    ReportOnly pages s (s.ergSpared c) := by
  unfold State.ergSpared
  exact reportOnly_ite ((((reportOnly_sf s _ (by decide) (.inl h)).trans (reportOnly_sf _ _ (by decide) (.inl h))).trans
    (reportOnly_event _ _ (by unfold pgERGC; omega) (.inl h))).trans (reportOnly_ergShow _ hg)) (ReportOnly.refl s)

@[simp] theorem ergShow_sys (s : State) : s.ergShow.sys = s.sys := by simp only [State.ergShow, State.sf_sys]
@[simp] theorem ergShow_flt (s : State) : s.ergShow.flt = s.flt := by simp only [State.ergShow, State.sf_flt]

theorem ergPll_sys (s : State) : s.ergPll.sys = s.sys := by
  unfold State.ergPll
  split
  · simp only [ergShow_sys, State.sf_sys]
  · rfl

theorem ergScrub_sys (s : State) (c n : Nat) (u : List (Nat × Nat)) : (s.ergScrub c n u).sys = s.sys := by
  have key : ∀ (l : List (Nat × Nat)) (t : State), (t.each l (fun u s => s.ergUncorr c (u.1 % 2 ^ 36) u.2 true)).sys = t.sys := by
    intro l
    induction l with
    | nil => exact fun _ => rfl
    | cons x xs ih =>
      intro t
      exact (ih _).trans ((State.error_sys _ _ _ _ _ _ _).trans (State.cnt_sys _ _ _ _))
  unfold State.ergScrub
  split
  · rfl
  · exact (key u _).trans (by rw [State.cnt_sys, State.cnt_sys])

theorem ergSpare_sys (s : State) (c d n : Nat) (u : Bool) : (s.ergSpare c d n u).sys = s.sys := by
  unfold State.ergSpare
  split
  · simp only [ergShow_sys, State.error_sys, State.setErgSt, State.sf_sys, State.cnt_sys]
  · rfl

theorem ergSpared_sys (s : State) (c : Nat) : (s.ergSpared c).sys = s.sys := by
  unfold State.ergSpared
  split
  · simp only [ergShow_sys, State.event_sys, State.setErgSt, State.sf_sys]
  · rfl

theorem ergSpared_flt (s : State) (c : Nat) : (s.ergSpared c).flt = s.flt := by
  unfold State.ergSpared
  split
  · simp only [ergShow_flt, event_flt, State.setErgSt, State.sf_flt]
  · rfl

/-! ### The Oasis -/

/-- The clock of the Oasis has stopped (R528). -/
def State.xo32Stop (s : State) : State :=
  if s.gb pgOAS OAS.OAS_CTL_RC_ACTIVE then s else (s.sf pgOAS OAS.OAS_CTL_RC_ACTIVE 1).error pgOAS 3 0x02 0 0 0

theorem reportOnly_xo32Stop (s : State) : ReportOnly pages s s.xo32Stop := by
  unfold State.xo32Stop
  exact reportOnly_ite (ReportOnly.refl s) ((reportOnly_sf s _ (by decide) (.inr (by decide))).trans
    (reportOnly_error _ _ _ _ _ _ (by decide) (.inr (by decide))))

theorem xo32Stop_sys (s : State) : s.xo32Stop.sys = s.sys := by
  unfold State.xo32Stop
  split
  · rfl
  · rw [State.error_sys, State.sf_sys]

theorem xo32Stop_avs (s : State) : s.xo32Stop.avs = s.avs := by
  unfold State.xo32Stop
  split
  · rfl
  · rw [State.error_avs, State.sf_avs]

theorem reportOnly_wakeAny (s : State) : ReportOnly pages s s.wakeAny := by
  unfold State.wakeAny
  extract_lets any was t
  have h : ReportOnly pages s t := reportOnly_sf s _ (by decide) (.inr (by decide))
  exact reportOnly_ite (h.trans (reportOnly_event _ _ (by decide) (.inr (by decide)))) h

theorem wakeAny_sys (s : State) : s.wakeAny.sys = s.sys := by
  unfold State.wakeAny
  dsimp only
  split
  · rw [State.event_sys, State.sf_sys]
  · rw [State.sf_sys]

theorem wakeAny_flt (s : State) : s.wakeAny.flt = s.flt := by
  unfold State.wakeAny
  dsimp only
  split
  · rw [event_flt, State.sf_flt]
  · rw [State.sf_flt]

theorem reportOnly_wakeClear (s : State) (v : Word) : ReportOnly pages s (s.wakeClear v) := by
  unfold State.wakeClear
  extract_lets a t
  have h : ReportOnly pages s t := (reportOnly_setReg s _ (by decide) (.inr (by decide))).trans (reportOnly_wakeAny _)
  exact reportOnly_ite h ((h.trans (reportOnly_oas t _)).trans (reportOnly_emit _ _))

theorem wakeClear_sys (s : State) (v : Word) : (s.wakeClear v).sys = s.sys := by
  unfold State.wakeClear
  dsimp only
  split
  · rw [wakeAny_sys, State.setReg_sys]
  · exact (wakeAny_sys _).trans (State.setReg_sys _ _ _)

theorem wakeClear_flt (s : State) (v : Word) : (s.wakeClear v).flt = s.flt := by
  unfold State.wakeClear
  dsimp only
  split
  · rw [wakeAny_flt, State.setReg_flt]
  · exact (wakeAny_flt _).trans (State.setReg_flt _ _ _)

/-! ### The command ring -/

theorem reportOnly_mqDoorbell (s : State) (p : Nat) (h : pgMGQ ∈ pages) : ReportOnly pages s (s.mqDoorbell p) := by
  unfold State.mqDoorbell
  have hs := reportOnly_sf (f := MGQ.DB_COUNT) s (p % 65536) (by decide) (.inl h)
  exact reportOnly_ite (reportOnly_ite (hs.trans (reportOnly_sf _ _ (by decide) (.inl h))) hs)
    ((reportOnly_cnt s _ (by decide) (.inl h)).trans (reportOnly_error _ _ _ _ _ _ (by decide) (.inl h)))

theorem mqDoorbell_sys (s : State) (p : Nat) : (s.mqDoorbell p).sys = s.sys := by
  unfold State.mqDoorbell
  dsimp only
  split
  · split
    · rw [State.sf_sys, State.sf_sys]
    · rw [State.sf_sys]
  · rw [State.error_sys, State.cnt_sys]

/-- A resumed ring changes its state only. -/
theorem mqResume_cases (s : State) : s.mqResume = s ∨ ∃ v, s.mqResume = s.sf pgMGQ MGQ.RING_STS_STATE v := by
  unfold State.mqResume
  split
  · exact .inr ⟨_, rfl⟩
  · exact .inl rfl

/-! ### The AVSBus -/

theorem reportOnly_avsSend (s : State) (mv : Nat) (h : pgCIS ∈ pages) : ReportOnly pages s (s.avsSend mv) := by
  unfold State.avsSend
  exact reportOnly_ite (((reportOnly_avs s _).trans (reportOnly_emit _ _)).trans (reportOnly_cnt _ _ (by decide) (.inl h)))
    (ReportOnly.refl s)

theorem reportOnly_avsWrite (s : State) (mv : Nat) (h : pgCIS ∈ pages) : ReportOnly pages s (s.avsWrite mv) :=
  (reportOnly_avs s _).trans (reportOnly_avsSend _ mv h)

theorem reportOnly_avsUnconfirmed (s : State) (t back : Nat) (h : pgCIS ∈ pages) : ReportOnly pages s (s.avsUnconfirmed t back) := by
  unfold State.avsUnconfirmed
  refine reportOnly_ite ?_ (reportOnly_ite (reportOnly_ite ?_ ?_) (reportOnly_avs s _))
  · exact ((reportOnly_avs_sys s _ _).trans (reportOnly_sf _ _ (by decide) (.inl h))).trans
      (reportOnly_error _ _ _ _ _ _ (by decide) (.inl h))
  · exact (reportOnly_avs s _).trans (reportOnly_avsSend _ _ h)
  · exact (reportOnly_avs s _).trans (reportOnly_avsSend _ _ h)

theorem reportOnly_avsPoll (s : State) (ok : Bool) (mv : Nat) (h : pgCIS ∈ pages) : ReportOnly pages s (s.avsPoll ok mv) := by
  unfold State.avsPoll
  split
  · exact ReportOnly.refl s
  · exact reportOnly_ite ((reportOnly_avs s _).trans (reportOnly_sf _ _ (by decide) (.inl h)))
      (reportOnly_ite (ReportOnly.refl s) (reportOnly_avsUnconfirmed s _ _ h))

theorem reportOnly_vrunTick (s : State) (h : pgCIS ∈ pages) : ReportOnly pages s s.vrunTick := by
  unfold State.vrunTick
  have hs : ReportOnly pages s s.vrunShow := (reportOnly_avs s _).trans (reportOnly_sf _ _ (by decide) (.inl h))
  have hw : ∀ mv, ReportOnly pages s (s.vrunShow.avsWrite mv) := fun mv => hs.trans (reportOnly_avsWrite _ mv h)
  exact reportOnly_ite (reportOnly_ite hs (reportOnly_ite (hw _) (reportOnly_ite (hw _) hs))) (ReportOnly.refl s)

theorem reportOnly_reboot (s : State) (v : Word) (h : pgCIS ∈ pages) : ReportOnly pages s (s.reboot v) := by
  unfold State.reboot
  exact reportOnly_ite ((reportOnly_rebootAt s _).trans (reportOnly_avsWrite _ _ h)) (ReportOnly.refl s)

/-- A state is another but for what the AVSBus and a reboot that is asked for change. -/
def VoltageOnly (s t : State) : Prop := t.sys = s.sys ∧ t.flt = s.flt ∧ t.oas = s.oas

theorem VoltageOnly.trans {s t u : State} (h : VoltageOnly s t) (k : VoltageOnly t u) : VoltageOnly s u :=
  ⟨k.1.trans h.1, k.2.1.trans h.2.1, k.2.2.trans h.2.2⟩

theorem voltageOnly_avsWrite (s : State) (mv : Nat) : VoltageOnly s (s.avsWrite mv) := by
  unfold State.avsWrite State.avsSend
  split
  · refine ⟨?_, ?_, ?_⟩
    · rw [State.cnt_sys, State.emit_sys]
    · rw [State.cnt_flt, State.emit_flt]
    · rw [State.cnt_oas, State.emit_oas]
  · exact ⟨rfl, rfl, rfl⟩

theorem voltageOnly_reboot (s : State) (v : Word) : VoltageOnly s (s.reboot v) := by
  unfold State.reboot
  split
  · exact VoltageOnly.trans ⟨rfl, rfl, rfl⟩ (voltageOnly_avsWrite _ 850)
  · exact ⟨rfl, rfl, rfl⟩

theorem voltageOnly_vrunTick (s : State) : VoltageOnly s s.vrunTick := by
  have hs : VoltageOnly s s.vrunShow := ⟨State.sf_sys _ _ _ _, State.sf_flt _ _ _ _, State.sf_oas _ _ _ _⟩
  unfold State.vrunTick
  dsimp only
  split
  · split
    · exact hs
    · split
      · exact hs.trans (voltageOnly_avsWrite _ _)
      · split
        · exact hs.trans (voltageOnly_avsWrite _ _)
        · exact hs
  · exact ⟨rfl, rfl, rfl⟩

end

/-- Settles O60, row by row from what each changes. -/
theorem reportsLeaveTheRest : Obligations.ReportsLeaveTheRest := by
  intro s c
  obtain ⟨u, hu⟩ := exec_ends_shown c s
  refine ⟨u.shown, hu, ?_⟩
  extract_lets quiet
  have hq : ∀ {pages : List Nat} {v : State}, exec c s = .next v.shown → ReportOnly pages s v → quiet pages := by
    intro pages v hv h
    obtain ⟨hregs, hents, hrest⟩ := h.trans (reportOnly_shown v)
    rw [← Host.Outcome.next.inj (hu.symm.trans hv)] at hregs hents hrest
    refine ⟨hregs, hents, ?_⟩
    rw [hrest]
    exact ⟨fun _ => rfl, fun _ => rfl, rfl, rfl, rfl, rfl, rfl, rfl, rfl, rfl, rfl, rfl, rfl, rfl, rfl, rfl⟩
  have hend : ∀ {v : State}, exec c s = .next v.shown → u.shown = v.shown := fun hv => Host.Outcome.next.inj (hu.symm.trans hv)
  have herg : ∀ ch : Nat, ch % 4 < 4 := fun ch => Nat.mod_lt _ (by decide)
  refine ⟨?xo32, ?wake, ?pll, ?scrub, ?spare, ?spared, ?doorbell, ?resume, ?reboot, ?poll, ?vrun⟩
  case xo32 =>
    rintro rfl
    have h : exec .xo32Stopped s = .next s.xo32Stop.shown := rfl
    exact ⟨hq h (reportOnly_xo32Stop s), by rw [hend h, shown_sys, xo32Stop_sys], by rw [hend h, shown_avs, xo32Stop_avs]⟩
  case wake =>
    rintro v rfl
    have h : exec (.wakeFlagClear v) s = .next (s.wakeClear v).shown := rfl
    exact ⟨hq h (reportOnly_wakeClear s v), by rw [hend h, shown_sys, wakeClear_sys], by rw [hend h, shown_flt, wakeClear_flt]⟩
  case pll =>
    rintro rfl
    have h : exec .ergPllLocked s = .next s.ergPll.shown := rfl
    exact ⟨hq h (reportOnly_ergPll s (by decide)), by rw [hend h, shown_sys, ergPll_sys]⟩
  case scrub =>
    rintro ch n x rfl
    have h : exec (.ergScrubPass ch n x) s = .next (s.ergScrub (ch % 4) n x).shown := rfl
    exact ⟨hq h (reportOnly_ergScrub s n x (herg ch) (by simp)), by rw [hend h, shown_sys, ergScrub_sys]⟩
  case spare =>
    rintro ch d n x rfl
    have h : exec (.ergSparingStart ch d n x) s = .next (s.ergSpare (ch % 4) d n x).shown := rfl
    exact ⟨hq h (reportOnly_ergSpare s d n x (herg ch) (by simp) (by simp)), by rw [hend h, shown_sys, ergSpare_sys]⟩
  case spared =>
    rintro ch rfl
    have h : exec (.ergSparingDone ch) s = .next (s.ergSpared (ch % 4)).shown := rfl
    exact ⟨hq h (reportOnly_ergSpared s (herg ch) (by simp) (by simp)), by rw [hend h, shown_sys, ergSpared_sys],
      by rw [hend h, shown_flt, ergSpared_flt]⟩
  case doorbell =>
    rintro p rfl
    have h : exec (.mgqDoorbell p) s = .next (s.mqDoorbell p).shown := rfl
    exact ⟨hq h (reportOnly_mqDoorbell s p (by simp)), by rw [hend h, shown_sys, mqDoorbell_sys]⟩
  case resume =>
    rintro rfl
    have h : exec .mgqRingResume s = .next s.mqResume.shown := rfl
    rw [hend h, shown_sys, shown_flt, shown_oas]
    rcases mqResume_cases s with hr | ⟨v, hr⟩
    · exact ⟨hq h (by rw [hr]; exact ReportOnly.refl s), by rw [hr], by rw [hr], by rw [hr]⟩
    · exact ⟨hq h (by rw [hr]; exact reportOnly_sf s v (by decide) (.inl (by simp))), by rw [hr, State.sf_sys], by rw [hr, State.sf_flt],
        by rw [hr, State.sf_oas]⟩
  case reboot =>
    rintro v rfl
    have h : exec (.reboot v) s = .next (s.reboot v).shown := rfl
    rw [hend h, shown_sys, shown_flt, shown_oas]
    exact ⟨hq h (reportOnly_reboot s v (by simp)), voltageOnly_reboot s v⟩
  case poll =>
    rintro ok mv rfl
    exact hq (v := s.avsPoll ok mv) rfl (reportOnly_avsPoll s ok mv (by simp))
  case vrun =>
    rintro rfl
    have h : exec .vrunRecompute s = .next s.vrunTick.shown := rfl
    rw [hend h, shown_sys, shown_flt, shown_oas]
    exact ⟨hq h (reportOnly_vrunTick s (by simp)), voltageOnly_vrunTick s⟩

end Sys2Proof.Machine
end

section
/-!
PROOF. The common page header (R27 to R33): disabling and gating a page, QUIESCE and LOCK, the event registers, the release of a capture and
the clearing of counters, one equation per row, and O12, O13 and O14 from them.
-/

namespace Sys2Proof.Machine

variable {s : State} {p k : Nat} {b : Blk}

/-! ### QUIESCE (R29) -/

/-- The link state of a port is not in the registers of its page's header. -/
theorem lk_sf_header (n p : Nat) {f : Fld} (v : Nat) (h : f.off < 0x100) : (s.sf p f v).lk n = s.lk n := by
  refine s.gf_sf_of_ne v ?_
  have : LNK.LINK_STS_STATE.off = 0x104 := rfl
  rw [raddr, raddr, this]; omega

/-- Software or the device sets QUIESCE of a page that is no port's, or of a port whose link is disabled. -/
theorem setQuiesce_set (hb : blkOf p = some (b, k)) (h : b ≠ .prt ∨ s.lk k = lkDISABLED) :
    s.setQuiesce p true = s.sf p HDR.PAGE_CTL_QUIESCE 1 := by
  unfold State.setQuiesce
  rw [hb]
  dsimp only
  rw [if_pos rfl]
  cases b with
  | prt =>
    have hd : s.lk k = lkDISABLED := h.resolve_left (fun hn => hn rfl)
    dsimp only
    rw [if_pos (beq_iff_eq.2 ((lk_sf_header k p _ (by decide)).trans hd))]
    rfl
  | dev | mgq | mez | oas | cis | vlt | hst | flt | brg | mir | swc | erg | ergc | wad | sch | pol | lnd | hlm | cvn | cve | hal => rfl

/-- QUIESCE of a port whose link is enabled is set: the link's flow state follows. -/
theorem setQuiesce_set_link {n : Nat} (hn : n < 1024) (h : s.lk n ≠ lkDISABLED) :
    s.setQuiesce (pgPRT n) true = (s.sf (pgPRT n) HDR.PAGE_CTL_QUIESCE 1).flowUpdate n := by
  unfold State.setQuiesce
  rw [blkOf_pgPRT hn]
  dsimp only
  rw [if_pos rfl, if_neg (by rw [beq_iff_eq, lk_sf_header n _ _ (by decide)]; exact h)]
  rfl

/-- What is left of a page's header once its QUIESCE is cleared. -/
theorem setQuiesce_clear (hb : blkOf p = some (b, k)) (h : b ≠ .prt ∨ s.lk k = lkDISABLED) :
    s.setQuiesce p false = (if p = pgBRG ∨ p = pgHLM then
      ((s.sf p HDR.PAGE_CTL_QUIESCE 0).sf p HDR.PAGE_STS_QUIESCED 0).acceptHeld
      else (s.sf p HDR.PAGE_CTL_QUIESCE 0).sf p HDR.PAGE_STS_QUIESCED 0) := by
  unfold State.setQuiesce
  rw [hb]
  dsimp only
  rw [if_neg Bool.false_ne_true]
  simp only [Bool.or_eq_true, beq_iff_eq]
  cases b with
  | prt =>
    have hd : s.lk k = lkDISABLED := h.resolve_left (fun hn => hn rfl)
    dsimp only
    rw [if_pos ((lk_sf_header k p _ (by decide)).trans hd)]
    rfl
  | dev | mgq | mez | oas | cis | vlt | hst | flt | brg | mir | swc | erg | ergc | wad | sch | pol | lnd | hlm | cvn | cve | hal => rfl

/-- In a device in which nothing waits, clearing QUIESCE clears QUIESCED too and no more. -/
theorem setQuiesce_clear_of_calm (hb : blkOf p = some (b, k)) (h : b ≠ .prt ∨ s.lk k = lkDISABLED) (hc : s.calm = true) :
    s.setQuiesce p false = (s.sf p HDR.PAGE_CTL_QUIESCE 0).sf p HDR.PAGE_STS_QUIESCED 0 := by
  rw [setQuiesce_clear hb h]
  split
  · exact acceptHeld_of_calm (by simp only [calm_sf, hc])
  · rfl

/-- A link's flow state is no work that waits. -/
theorem calm_flowUpdate (s : State) (n : Nat) : (s.flowUpdate n).calm = s.calm := by
  have hl : ∀ (t : State) (a : Nat) (l : Link), (t.setLink a l).calm = t.calm := fun t a l => calm_congr rfl rfl rfl rfl rfl rfl
  unfold State.flowUpdate State.each
  induction List.range (s.vcs n) generalizing s with
  | nil => rfl
  | cons v vs ih =>
    refine (ih _).trans ?_
    dsimp only
    split
    · split
      · rw [hl, calm_sf]
      · rfl
    · split
      · rw [calm_cnt, hl, calm_sf]
      · rfl

theorem exec_quiesceSet (hb : blkOf p = some (b, k)) (ha : s.applying p = false) :
    exec (.quiesceSet p) s = .next (s.quiesceWrite p true).shown := by
  show Host.Outcome.next (s.pageRow p (.quiesceSet p) (fun _ _ s => s.quiesceWrite p true)).shown = _
  rw [pageRow_of_free hb ha]

theorem exec_quiesceClear (hb : blkOf p = some (b, k)) (ha : s.applying p = false) :
    exec (.quiesceClear p) s = .next (s.quiesceWrite p false).shown := by
  show Host.Outcome.next (s.pageRow p (.quiesceClear p) (fun _ _ s => s.quiesceWrite p false)).shown = _
  rw [pageRow_of_free hb ha]

/-- A write of QUIESCE that changes it is taken unless the device itself quiesced the page. -/
theorem quiesceWrite_of_change {v : Bool} (hd : p ∉ s.sys.devQuiet) (hq : s.gb p HDR.PAGE_CTL_QUIESCE = !v) :
    s.quiesceWrite p v = (s.setQuiesce p v).mezTake.settle := by
  have hc : s.sys.devQuiet.contains p = false := by simpa using hd
  unfold State.quiesceWrite
  rw [hc, hq, if_neg (by cases v <;> decide)]

/-- In a device in which nothing waits, nothing goes on when QUIESCE was written. -/
theorem mezTake_settle_of_calm (h : s.calm = true) : s.mezTake.settle = s := by
  rw [mezTake_of_calm h, settle_of_calm h]

/-- QUIESCED of a quiescing block without work. -/
theorem exec_quiesced (hb : blkOf p = some (b, k)) (hq : s.gb p HDR.PAGE_CTL_QUIESCE = true) (hw : s.quiet b k = true) :
    exec (.quiesced p) s = .next (s.sf p HDR.PAGE_STS_QUIESCED 1).shown := by
  show execQuiesced p s = _
  simp only [execQuiesced, hb, hq, hw, Bool.and_self, if_true]
  rfl

/-- Settles O13, clause by clause from the equations of QUIESCE. -/
theorem quiesceAndLock : Obligations.QuiesceAndLock := by
  refine ⟨?set, ?setLink, ?clear, ?clearBrg, ?quiesced, ?lock⟩
  case set =>
    intro s p k b hb hl ha hd hq hc
    rw [exec_quiesceSet hb ha, quiesceWrite_of_change (v := true) hd hq, setQuiesce_set hb hl,
      mezTake_settle_of_calm (by rw [calm_sf, hc])]
  case setLink =>
    intro s n hn hl ha hd hq hc
    rw [exec_quiesceSet (blkOf_pgPRT hn) ha, quiesceWrite_of_change (v := true) hd hq, setQuiesce_set_link hn hl,
      mezTake_settle_of_calm (by rw [calm_flowUpdate, calm_sf, hc])]
  case clear =>
    intro s p k b hb hl _ ha hd hq hc
    rw [exec_quiesceClear hb ha, quiesceWrite_of_change (v := false) hd hq, setQuiesce_clear_of_calm hb hl hc,
      mezTake_settle_of_calm (by rw [calm_sf, calm_sf, hc])]
  case clearBrg =>
    intro s ha hd hq
    rw [exec_quiesceClear (b := .brg) (k := 0) rfl ha, quiesceWrite_of_change (v := false) hd hq,
      setQuiesce_clear (b := .brg) (k := 0) rfl (.inl (by decide)), if_pos (.inl rfl)]
  case quiesced => exact fun s p k b hb hq hw => exec_quiesced hb hq hw
  case lock =>
    intro s p k b hb ha
    show Host.Outcome.next (s.pageRow p (.pageLock p) (fun _ _ s => s.sf p HDR.PAGE_CTL_LOCK 1)).shown = _
    rw [pageRow_of_free hb ha]

/-! ### Disabling a page (R28, R30) -/

/-- The blocks that O12 is stated for: their disable ends no port, no transaction and no allowance. -/
def plainBlks : List Blk := [.mir, .sch, .cvn, .wad, .hlm]

theorem fixed_of_plain (h : b ∈ plainBlks) : b.fixed = false := by
  have : ∀ b ∈ plainBlks, b.fixed = false := by decide
  exact this b h

theorem not_prt_of_plain (h : b ∈ plainBlks) : b ≠ .prt := by
  have : ∀ b ∈ plainBlks, b ≠ .prt := by decide
  exact this b h

theorem exec_pageDisable (hb : blkOf p = some (b, k)) (ha : s.applying p = false) :
    exec (.pageDisable p) s = .next (s.pageDisable p b k).shown := by
  show Host.Outcome.next (s.pageRow p (.pageDisable p) (fun b k s => s.pageDisable p b k)).shown = _
  rw [pageRow_of_free hb ha]

theorem pageDisable_of_plain (h : b ∈ plainBlks) (hp : s.gb p HDR.PAGE_STS_EN_PENDING = false) (he : s.gb p HDR.PAGE_CTL_EN = true)
    (k : Nat) : s.pageDisable p b k = s.pageStop p b k := by
  have hg : (b == .ergc) = false := by
    have : ∀ b ∈ plainBlks, (b == Blk.ergc) = false := by decide
    exact this b h
  unfold State.pageDisable
  rw [if_neg]
  rw [show (b.alwaysOn || b == .hst || b == .hal) = false from fixed_of_plain h, hp, he, hg, Bool.false_and, Bool.false_and]
  decide

/-- An ACTIVE page of a plain block that is disabled: EN_PENDING, and QUIESCE on the device's own account unless software had set it. -/
theorem pageStop_of_plain (hm : b ∈ plainBlks) (ha : s.active p = true) (hw : s.awakePage p = true) (k : Nat) :
    s.pageStop p b k = (if (s.setEn p false true).gb p HDR.PAGE_CTL_QUIESCE then s.setEn p false true else
      ({ s.setEn p false true with sys := { (s.setEn p false true).sys with
        devQuiet := p :: (s.setEn p false true).sys.devQuiet } }).setQuiesce p true).settle := by
  unfold State.pageStop
  rw [ha, hw, if_neg (by decide)]
  simp only [plainBlks, List.mem_cons, List.not_mem_nil, or_false] at hm
  rcases hm with rfl | rfl | rfl | rfl | rfl <;> rfl

theorem setEn_pendingOff (s : State) (p : Nat) :
    s.setEn p false true = (s.sf p HDR.PAGE_CTL_EN 0).sf p HDR.PAGE_STS_EN_PENDING 1 := rfl

theorem quiesce_setEn (s : State) (p : Nat) : (s.setEn p false true).gb p HDR.PAGE_CTL_QUIESCE = s.gb p HDR.PAGE_CTL_QUIESCE := by
  rw [setEn_pendingOff, State.gb, State.gb, State.gf_sf_of_disjoint _ _ _ (by decide) (by decide),
    State.gf_sf_of_disjoint _ _ _ (by decide) (by decide)]

theorem calm_sys (s : State) (x : Sys) : State.calm { s with sys := x } = s.calm := calm_congr rfl rfl rfl rfl rfl rfl

/-! ### The gating of a disabled page (R28) -/

theorem exec_disableGate (hb : blkOf p = some (b, k)) : exec (.disableGate p) s = .next (s.disableGate p b k).shown := by
  show Host.Outcome.next (match blkOf p with | some (b, k) => s.disableGate p b k | none => s).shown = _
  rw [hb]

/-- A page of a plain block without work loses ACTIVE and EN_PENDING, and the QUIESCE that the device had set. -/
theorem disableGate_of_plain (hm : b ∈ plainBlks) (hp : s.gb p HDR.PAGE_STS_EN_PENDING = true) (he : s.gb p HDR.PAGE_CTL_EN = false)
    (ha : s.active p = true) (hq : s.quiet b k = true) :
    s.disableGate p b k = (if s.sys.devQuiet.contains p then
        ({ (s.sf p HDR.PAGE_STS_ACTIVE 0).sf p HDR.PAGE_STS_EN_PENDING 0 with
          sys := { s.sys with devQuiet := s.sys.devQuiet.filter (· != p) } }).setQuiesce p false
      else ((s.sf p HDR.PAGE_STS_ACTIVE 0).sf p HDR.PAGE_STS_EN_PENDING 0).sf p HDR.PAGE_STS_QUIESCED 1).settle := by
  unfold State.disableGate
  rw [hp, he, ha, hq, if_pos (by decide)]
  simp only [plainBlks, List.mem_cons, List.not_mem_nil, or_false] at hm
  rcases hm with rfl | rfl | rfl | rfl | rfl <;> rfl

/-- Settles O12, clause by clause from the equations of a plain block's disable and gating. -/
theorem pageDisableAndGate : Obligations.PageDisableAndGate := by
  refine ⟨?sets, ?kept, ?gateOwn, ?gateKept⟩
  case sets =>
    intro s p k b hb hm ha hp he hact hw hq hc
    rw [exec_pageDisable hb ha, pageDisable_of_plain hm hp he, pageStop_of_plain hm hact hw, quiesce_setEn, hq,
      if_neg Bool.false_ne_true, setQuiesce_set hb (.inl (not_prt_of_plain hm)), setEn_pendingOff,
      settle_of_calm (by rw [calm_sf, calm_sys, calm_sf, calm_sf, hc])]
    simp only [State.sf_sys]
  case kept =>
    intro s p k b hb hm ha hp he hact hw hq hc
    rw [exec_pageDisable hb ha, pageDisable_of_plain hm hp he, pageStop_of_plain hm hact hw, quiesce_setEn, hq, if_pos rfl,
      setEn_pendingOff, settle_of_calm (by rw [calm_sf, calm_sf, hc])]
  case gateOwn =>
    intro s p k b hb hm hp he hact hq hd hc
    rw [exec_disableGate hb, disableGate_of_plain hm hp he hact hq, if_pos (List.contains_iff_mem.2 hd),
      setQuiesce_clear_of_calm hb (.inl (not_prt_of_plain hm)) (by rw [calm_sys, calm_sf, calm_sf, hc]),
      settle_of_calm (by rw [calm_sf, calm_sf, calm_sys, calm_sf, calm_sf, hc])]
  case gateKept =>
    intro s p k b hb hm hp he hact hq hd hc
    rw [exec_disableGate hb, disableGate_of_plain hm hp he hact hq, if_neg (by rwa [List.contains_iff_mem]),
      settle_of_calm (by rw [calm_sf, calm_sf, calm_sf, hc])]

/-! ### Event registers, the capture and the counters of a page (R31 to R33, R85) -/

/-- A capture without losses is released: VALID, LOST_COUNT and FAULT are cleared. -/
theorem capWrite_release (hv : s.gb p HDR.ERR_CAP0_VALID = true) (hl : s.gf p HDR.ERR_CAP0_LOST_COUNT = 0) :
    s.capWrite p 1 = ((s.sf p HDR.ERR_CAP0_VALID 0).sf p HDR.ERR_CAP0_LOST_COUNT 0).sf p HDR.PAGE_STS_FAULT 0 := by
  unfold State.capWrite
  rw [hv, hl]
  rfl

theorem cntClear_of_counters {lo hi : Nat} (h : b.counters = some (lo, hi)) : s.cntClear p b false = s.clearRange p lo hi := by
  simp only [State.cntClear, h, Bool.false_eq_true, if_false]

/-- Settles O14: the rows about a page that no apply holds, each with the equation of its operation. -/
theorem eventRegistersOfAPage : Obligations.EventRegistersOfAPage := by
  refine ⟨?raw, ?en, ?force, ?release, ?clear⟩
  case raw =>
    intro s p k b ones hw hb ha
    show Host.Outcome.next (s.pageRow p (.evtRawClear p ones hw) (fun b _ s => s.evtClear p b ones hw)).shown = _
    rw [pageRow_of_free hb ha, State.evtClear]
  case en =>
    intro s p k b v hb ha
    show Host.Outcome.next (s.pageRow p (.evtEnWrite p v) (fun _ _ s => s.evtEn p v)).shown = _
    rw [pageRow_of_free hb ha, State.evtEn]
  case force =>
    intro s p k b v hb ha
    show Host.Outcome.next (s.pageRow p (.evtForce p v) (fun b _ s => s.evtForce p b v)).shown = _
    rw [pageRow_of_free hb ha, State.evtForce]
  case release =>
    intro s p k b hb ha hv hl
    show Host.Outcome.next (s.pageRow p (.errCapRelease p) (fun _ _ s => s.capWrite p 1)).shown = _
    rw [pageRow_of_free hb ha, capWrite_release hv hl]
  case clear =>
    intro s p k lo hi b hb ha hc
    show Host.Outcome.next (s.pageRow p (.cntClear p false) (fun b _ s => s.cntClear p b false)).shown = _
    rw [pageRow_of_free hb ha, cntClear_of_counters hc]

end Sys2Proof.Machine
end

section
/-!
PROOF. Indirect table access (R35 to R40): what an operation's start finds, the read and the write of a word, the end of an operation, and
O15 from them.
-/

namespace Sys2Proof.Machine

variable {s : State} {p : Nat} {x : Path} {t : Tbl}

/-! ### A key written twice -/

theorem SMap.del_of_not_mem {α : Type} {m : List (Nat × α)} {k : Nat} (h : ∀ e ∈ m, e.1 ≠ k) : SMap.del m k = m := by
  induction m with
  | nil => rfl
  | cons e m ih =>
    obtain ⟨j, v⟩ := e
    have hj : ¬ k = j := fun hk => h (j, v) (by simp) hk.symm
    rw [SMap.del, if_neg hj, ih fun e he => h e (List.mem_cons_of_mem _ he)]

theorem SMap.del_ins {α : Type} {m : List (Nat × α)} {k : Nat} (v : α) (h : ∀ e ∈ m, e.1 ≠ k) : SMap.del (SMap.ins m k v) k = m := by
  induction m with
  | nil => simp [SMap.ins, SMap.del]
  | cons e m ih =>
    obtain ⟨j, w⟩ := e
    have hj : ¬ k = j := fun hk => h (j, w) (by simp) hk.symm
    rw [SMap.ins]
    split
    · rw [SMap.del, if_pos rfl, SMap.del_of_not_mem h]
    · rw [SMap.del, if_neg hj, ih fun e he => h e (List.mem_cons_of_mem _ he)]

/-- Of two writes of one key the second counts. -/
theorem SMap.set_set {α : Type} [DecidableEq α] (d : Nat → α) (m : List (Nat × α)) (k : Nat) (v w : α) :
    SMap.set d (SMap.set d m k v) k w = SMap.set d m k w := by
  have hm : ∀ e ∈ SMap.del m k, e.1 ≠ k := fun e he => SMap.ne_of_mem_del he
  have h : SMap.del (SMap.set d m k v) k = SMap.del m k := by
    unfold SMap.set
    split
    · exact SMap.del_of_not_mem hm
    · exact SMap.del_ins v hm
  rw [SMap.set, h, SMap.set]

/-! ### The register sets of a page (R35) -/

theorem putSet_putSet (s : State) (p : Nat) (x : Path) (v w : TblSet) : (s.putSet p x v).putSet p x w = s.putSet p x w := by
  unfold State.putSet
  rw [SMap.set_set]

@[simp] theorem tblSet_putSet (s : State) (p : Nat) (x : Path) (v : TblSet) : (s.putSet p x v).tblSet p x = v :=
  SMap.get_set_self _ _ _ _

@[simp] theorem tblSet_sf (s : State) (p q : Nat) (x : Path) (f : Fld) (v : Nat) : (s.sf q f v).tblSet p x = s.tblSet p x := by
  rw [State.tblSet, State.sf_sets, State.tblSet]

/-- What TBL_CMD of a command leaves in its register while the operation is in progress. -/
def State.tblBusy (s : State) (p : Nat) (x : Path) (v : Word) : State :=
  ((s.sf p (tcAUTOINC x) (fld v 2 1)).sf p (tcSTAGE x) (fld v 3 1)).sf p (tcBUSY x) 1

theorem tblSetOff_cases (x : Path) : tblSetOff x = 0x40 ∨ tblSetOff x = 0x60 := by
  cases x
  · exact .inl rfl
  · exact .inr rfl

/-- A register other than TBL_CMD of the set is left by a command's start. -/
theorem reg_tblBusy {q off : Nat} (v : Word) (h : off < 4096) (hn : q = p → off ≠ tblSetOff x + 0x14) :
    (s.tblBusy p x v).reg (raddr q off) = s.reg (raddr q off) := by
  have hne : raddr q off ≠ raddr p (tblSetOff x + 0x14) := by
    intro e
    have ho := tblSetOff_cases x
    unfold raddr at e
    exact hn (by omega) (by omega)
  unfold State.tblBusy
  rw [State.reg_sf_of_ne _ _ hne, State.reg_sf_of_ne _ _ hne, State.reg_sf_of_ne _ _ hne]

theorem gf_tblBusy {q : Nat} {f : Fld} (v : Word) (h : f.off < 4096) (hn : q = p → f.off ≠ tblSetOff x + 0x14) :
    (s.tblBusy p x v).gf q f = s.gf q f := by
  rw [State.gf, reg_tblBusy v h hn, State.gf]

theorem gf_tblBusy_addr (v : Word) {f : Fld} (h : f.off = tblSetOff x) : (s.tblBusy p x v).gf p f = s.gf p f := by
  have ho := tblSetOff_cases x
  exact gf_tblBusy v (by omega) (fun _ => by omega)

/-- STAGE as the command gave it. -/
theorem gb_tblBusy_stage (s : State) (p : Nat) (x : Path) (v : Word) (h : fld v 3 1 = 0) : (s.tblBusy p x v).gb p (tcSTAGE x) = false := by
  have hs : (s.tblBusy p x v).gf p (tcSTAGE x) = 0 := by
    unfold State.tblBusy
    rw [State.gf_sf_of_disjoint _ _ _ (by cases x <;> decide) (.inr (.inl (by cases x <;> decide))),
      State.gf_sf_self _ _ _ _ (by cases x <;> decide), h]
    rfl
  rw [State.gb, hs]; rfl

theorem tblData_tblBusy (s : State) (p : Nat) (x : Path) (v : Word) : (s.tblBusy p x v).tblData p x = s.tblData p x := by
  have ho := tblSetOff_cases x
  have h : ∀ k ∈ List.range 4, (s.tblBusy p x v).reg (raddr p (tblSetOff x + 4 + 4 * k)) = s.reg (raddr p (tblSetOff x + 4 + 4 * k)) := by
    intro k hk
    have := List.mem_range.1 hk
    exact reg_tblBusy v (by omega) (fun _ => by omega)
  unfold State.tblData
  rw [List.map_congr_left fun k hk => by rw [h k hk]]

@[simp] theorem tblBusy_flt (s : State) (p : Nat) (x : Path) (v : Word) : (s.tblBusy p x v).flt = s.flt := by
  simp only [State.tblBusy, State.sf_flt]

@[simp] theorem tblBusy_sys (s : State) (p : Nat) (x : Path) (v : Word) : (s.tblBusy p x v).sys = s.sys := by
  simp only [State.tblBusy, State.sf_sys]

@[simp] theorem tblSet_tblBusy (s : State) (p : Nat) (x : Path) (v : Word) : (s.tblBusy p x v).tblSet p x = s.tblSet p x := by
  simp only [State.tblBusy, tblSet_sf]

/-- A page with register sets is no port's page. -/
theorem not_prt_of_hasTbl (h : pageHasTbl p = true) {n : Nat} : blkOf (headPage p) ≠ some (.prt, n) := by
  intro hb
  unfold headPage at hb
  split at hb
  · rw [show blkOf 0x10 = some (.brg, 0) from rfl] at hb
    cases hb
  · split at hb
    · rw [show blkOf 0x30 = some (.swc, 0) from rfl] at hb
      cases hb
    · rw [pageHasTbl, hb] at h
      exact absurd h (show ¬ Blk.prt.hasTbl = true by decide)

/-- Whether the block of a page with register sets is awake does not depend on the sets. -/
theorem awakePage_tblBusy (hp : pageHasTbl p = true) (v : Word) : (s.tblBusy p x v).awakePage p = s.awakePage p := by
  have ho := tblSetOff_cases x
  have ha : (s.tblBusy p x v).active pgERG = s.active pgERG := by
    rw [State.active, State.gb, gf_tblBusy v (by decide) (fun _ => by show 0xC ≠ _; omega), State.active, State.gb]
  unfold State.awakePage
  rw [ha, tblBusy_sys]
  split
  · rfl
  · rfl
  · rfl
  · rfl
  · rfl
  · rfl
  · rfl
  next n h => exact absurd h (not_prt_of_hasTbl hp)
  · rfl
  · rfl
  · rfl

/-! ### The start of an operation (R37, R40) -/

theorem tblCmd_start (hb : s.gb p (tcBUSY x) = false) {v : Word} (ho : fld v 0 2 = 1 ∨ fld v 0 2 = 2) :
    s.tblCmd p x v = ((s.sf p (tcAUTOINC x) (fld v 2 1)).sf p (tcSTAGE x) (fld v 3 1)).tblStart p x (fld v 0 2 == 2) := by
  unfold State.tblCmd
  rw [hb, if_neg Bool.false_ne_true]
  rcases ho with h | h
  · rw [h]; rfl
  · rw [h]; rfl

/-- What the checks of R38 pass on to the read or the write of a word. -/
theorem tblStart_of_entry (hp : pageHasTbl p = true) {v : Word} (ha : s.awakePage p = true) (ht : tblAt p (s.gf p (taTABLE x)) = some t)
    (hi : s.gf p (taINDEX x) < t.info.count) (hw : s.gf p (taWORD x) < t.words) (write : Bool) :
    ((s.sf p (tcAUTOINC x) (fld v 2 1)).sf p (tcSTAGE x) (fld v 3 1)).tblStart p x write =
      (if write then (s.tblBusy p x v).tblWriteWord p x t (s.gf p (taINDEX x)) (s.gf p (taWORD x))
      else (s.tblBusy p x v).tblReadWord p x t (s.gf p (taINDEX x)) (s.gf p (taWORD x))) := by
  have hI : (s.tblBusy p x v).gf p (taINDEX x) = s.gf p (taINDEX x) := gf_tblBusy_addr v rfl
  have hW : (s.tblBusy p x v).gf p (taWORD x) = s.gf p (taWORD x) := gf_tblBusy_addr v rfl
  have hT : (s.tblBusy p x v).gf p (taTABLE x) = s.gf p (taTABLE x) := gf_tblBusy_addr v rfl
  unfold State.tblStart
  dsimp only
  rw [← State.tblBusy, awakePage_tblBusy hp, ha, hT, ht]
  simp only [Bool.not_true, Bool.false_eq_true, if_false, hI, hW]
  rw [if_neg (Nat.not_le.2 hi), if_neg (Nat.not_le.2 hw)]

theorem tblOp_of_free (hp : pageHasTbl p = true) (ha : s.applying p = false) {v : Word} {op : Nat} (ho : fld v 0 2 = op) (i : Instr) :
    s.tblOp p x v op i = (s.tblCmd p x v).settle := by
  unfold State.tblOp
  rw [hp, ho, ha]
  simp

theorem exec_tblRead (hp : pageHasTbl p = true) (ha : s.applying p = false) {v : Word} (ho : fld v 0 2 = 1)
    (hb : s.gb p (tcBUSY x) = false) (hw : s.awakePage p = true) (ht : tblAt p (s.gf p (taTABLE x)) = some t)
    (hi : s.gf p (taINDEX x) < t.info.count) (hn : s.gf p (taWORD x) < t.words) :
    exec (.tblRead p x v) s
      = .next ((s.tblBusy p x v).tblReadWord p x t (s.gf p (taINDEX x)) (s.gf p (taWORD x))).settle.shown := by
  show Host.Outcome.next (s.tblOp p x v 1 (.tblRead p x v)).shown = _
  rw [tblOp_of_free hp ha ho, tblCmd_start hb (.inl ho), tblStart_of_entry hp hw ht hi hn, ho]
  rfl

theorem exec_tblWrite (hp : pageHasTbl p = true) (ha : s.applying p = false) {v : Word} (ho : fld v 0 2 = 2)
    (hb : s.gb p (tcBUSY x) = false) (hw : s.awakePage p = true) (ht : tblAt p (s.gf p (taTABLE x)) = some t)
    (hi : s.gf p (taINDEX x) < t.info.count) (hn : s.gf p (taWORD x) < t.words) :
    exec (.tblWrite p x v) s
      = .next ((s.tblBusy p x v).tblWriteWord p x t (s.gf p (taINDEX x)) (s.gf p (taWORD x))).settle.shown := by
  show Host.Outcome.next (s.tblOp p x v 2 (.tblWrite p x v)).shown = _
  rw [tblOp_of_free hp ha ho, tblCmd_start hb (.inr ho), tblStart_of_entry hp hw ht hi hn, ho]
  rfl

/-! ### The read of a word (R38, R39) -/

theorem words_pos (t : Tbl) : 0 < t.words := by cases t <;> decide

theorem setBucket_flt (s : State) (b : Bkt) (k : Bucket) : (s.setBucket b k).flt = s.flt := rfl

theorem bring_flt (s : State) (b : Bkt) : (s.bring b).flt = s.flt := by
  unfold State.bring
  dsimp only
  split
  · rfl
  · rw [setBucket_flt, State.setTokens, State.st_flt]

theorem openNow_flt (s : State) (n : Nat) : (s.openNow n).flt = s.flt := by
  unfold State.openNow
  split
  · rw [State.st_flt]
  · rw [State.st_flt]

theorem floorFix_flt (s : State) (h : Nat) : (s.floorFix h).flt = s.flt := by
  unfold State.floorFix
  dsimp only
  split
  · rw [State.st_flt, State.st_flt]
  · rw [State.st_flt]

/-- Bringing an entry's fields up to date leaves the history. -/
theorem tblFresh_flt (s : State) (t : Tbl) (i : Nat) : (s.tblFresh t i).flt = s.flt := by
  have each : ∀ (l : List Bkt) (s : State), (s.each l (fun b s => s.bring b)).flt = s.flt := by
    intro l
    induction l with
    | nil => exact fun _ => rfl
    | cons b l ih => exact fun s => (ih _).trans (bring_flt s b)
  cases t with
  | gct => exact openNow_flt s i
  | egn => exact each _ s
  | cls => exact each _ s
  | leaf => exact each _ s
  | pole => exact each _ s
  | hcx => exact floorFix_flt s i
  | vec => rw [State.tblFresh, State.st_flt, State.pendUpdate, State.st_flt]
  | src =>
    unfold State.tblFresh
    dsimp only
    split_ifs
    · rw [State.st_flt, State.st_flt, State.st_flt]
    · rw [State.st_flt]
    · rw [State.st_flt, State.st_flt]
    · rfl
  | hof => rw [State.tblFresh, State.st_flt, State.st_flt]
  | win | pwl | drd | mir | acc | que | wrp | ste | grp | mbr | rte | gen | sel | hsel | rng | enl | tse | tgt | wkl | vlt => rfl

theorem hurt_tblFresh (s : State) (t : Tbl) (i : Nat) : (s.tblFresh t i).hurt t i = s.hurt t i := by
  rw [State.hurt, tblFresh_flt, State.hurt]

/-- The read of an entry without an error: what it holds, but for the bits that only a write has. -/
theorem tblRead_sound (hv : t ≠ .vlt) {i : Nat} (h : s.hurt t i = false) :
    s.tblRead t i = (s.tblFresh t i, (s.tblFresh t i).ent t i &&& ~~~(BitVec.ofNat 1024 t.info.wo), 0) := by
  have hf := (hurt_tblFresh s t i).trans h
  cases t with
  | vlt => exact absurd rfl hv
  | win | pwl | drd | mir | acc | que | wrp | ste | grp | mbr | rte | egn | cls | leaf | gct | gen | pole | sel | hsel | rng | enl | hcx
  | src | tse | tgt | vec | hof | wkl =>
    unfold State.tblRead
    dsimp only
    rw [hf, if_neg Bool.false_ne_true]

/-- The read of an entry with an uncorrectable error gives 0 and STATUS 0x7. -/
theorem tblRead_hurt (hv : t ≠ .vlt) {i : Nat} (h : s.hurt t i = true) : s.tblRead t i = (s.tblFresh t i, 0, 7) := by
  have hf := (hurt_tblFresh s t i).trans h
  cases t with
  | vlt => exact absurd rfl hv
  | win | pwl | drd | mir | acc | que | wrp | ste | grp | mbr | rte | egn | cls | leaf | gct | gen | pole | sel | hsel | rng | enl | hcx
  | src | tse | tgt | vec | hof | wkl =>
    unfold State.tblRead
    dsimp only
    rw [hf, if_pos rfl]

/-- A read of word 0 takes a snapshot of what the entry reads as. -/
theorem tblReadWord_zero {i st : Nat} {f : State} {e : Entry} (h : s.tblRead t i = (f, e, st)) :
    s.tblReadWord p x t i 0
      = ((f.putSet p x { f.tblSet p x with snap := e, held := e }).setData p x (fld e 0 128)).tblResult p x st (t.words == 1) := by
  have hl : (0 + 1 == t.words) = (t.words == 1) := BEq.comm
  unfold State.tblReadWord
  rw [h, hl]
  rfl

/-! ### The write of a word (R39) -/

/-- The held copy of an entry with a word replaced by TBL_DATA. -/
def State.tblHeld (s : State) (p : Nat) (x : Path) (w : Nat) : Entry := put (s.tblSet p x).held (128 * w) 128 (s.tblData p x)

theorem tblWriteWord_lower (hr : t.info.rw ≠ 0) (hs : s.gb p (tcSTAGE x) = false) {i w : Nat} (hw : w + 1 < t.words) :
    s.tblWriteWord p x t i w = s.putSet p x { s.tblSet p x with
      held := s.tblHeld p x w, marks := (s.tblSet p x).marks ||| 2 ^ w, result := 0, last := false } := by
  have hl : (w + 1 == t.words) = false := beq_eq_false_iff_ne.2 (Nat.ne_of_lt hw)
  have hz : (t.info.rw == 0) = false := beq_eq_false_iff_ne.2 hr
  unfold State.tblWriteWord
  rw [hl, hs, hz]
  simp only [Bool.false_and, Bool.false_eq_true, if_false, Bool.not_false, if_true]
  rw [State.tblResult, tblSet_putSet, putSet_putSet]
  rfl

theorem tblWriteWord_last (hr : t.info.rw ≠ 0) (hs : s.gb p (tcSTAGE x) = false) {i w : Nat} (hw : w + 1 = t.words) :
    s.tblWriteWord p x t i w =
      (let d := (s.putSet p x { s.tblSet p x with held := s.tblHeld p x w, marks := (s.tblSet p x).marks ||| 2 ^ w }).tblDirect t i
        (BitVec.ofNat 1024 ((s.tblHeld p x w).toNat % 2 ^ t.info.width))
      (d.putSet p x { d.tblSet p x with marks := 0 }).tblResult p x 0 true) := by
  have hl : (w + 1 == t.words) = true := beq_iff_eq.2 hw
  have hz : (t.info.rw == 0) = false := beq_eq_false_iff_ne.2 hr
  unfold State.tblWriteWord
  rw [hl, hs, hz]
  rfl

/-! ### The end of an operation (R37, R40) -/

/-- BUSY cleared and STATUS written. -/
def State.tblEnded (s : State) (p : Nat) (x : Path) (status : Nat) : State := (s.sf p (tcBUSY x) 0).sf p (tcSTATUS x) status

theorem gf_tblEnded_addr (status : Nat) {f : Fld} (h : f.off = tblSetOff x) : (s.tblEnded p x status).gf p f = s.gf p f := by
  have hc : ∀ g : Fld, g.off = tblSetOff x + 0x14 → f.off ≠ g.off := fun g hg => by omega
  unfold State.tblEnded
  rw [State.gf_sf_of_disjoint _ _ _ (by cases x <;> decide) (.inl (hc _ rfl)),
    State.gf_sf_of_disjoint _ _ _ (by cases x <;> decide) (.inl (hc _ rfl))]

theorem gb_tblEnded_autoinc (s : State) (p : Nat) (x : Path) (status : Nat) :
    (s.tblEnded p x status).gb p (tcAUTOINC x) = s.gb p (tcAUTOINC x) := by
  unfold State.tblEnded
  rw [State.gb, State.gf_sf_of_disjoint _ _ _ (by cases x <;> decide) (.inr (.inl (by cases x <;> decide))),
    State.gf_sf_of_disjoint _ _ _ (by cases x <;> decide) (.inr (.inl (by cases x <;> decide))), State.gb]

theorem exec_tblOpDone (s : State) (p : Nat) (x : Path) : exec (.tblOpDone p x) s = .next (s.tblDone p x).shown := rfl

theorem tblDone_eq (hp : pageHasTbl p = true) (hb : s.gb p (tcBUSY x) = true) (hr : (s.tblSet p x).result ≠ tblUNDONE) :
    s.tblDone p x = (let e := s.tblEnded p x (s.tblSet p x).result
      if s.gb p (tcAUTOINC x) && ((s.tblSet p x).result == 0 || (s.tblSet p x).result == 4) then
        if (s.tblSet p x).last then (e.sf p (taINDEX x) (s.gf p (taINDEX x) + 1)).sf p (taWORD x) 0
        else e.sf p (taWORD x) (s.gf p (taWORD x) + 1)
      else e) := by
  unfold State.tblDone
  rw [hp, hb, if_pos (by simpa using hr)]
  dsimp only
  rw [← State.tblEnded, gb_tblEnded_autoinc, gf_tblEnded_addr _ rfl, gf_tblEnded_addr _ rfl]

theorem tblDone_of_undone (hr : (s.tblSet p x).result = tblUNDONE) : s.tblDone p x = s := by
  unfold State.tblDone
  rw [hr, if_neg (by simp)]

/-- Settles O15, clause by clause from the equations of an operation's start, its words and its end. -/
theorem tableOperations : Obligations.TableOperations := by
  refine ⟨?read, ?hurt, ?lower, ?last, ?invalid, ?done, ?entry, ?word, ?undone⟩
  case read =>
    intro s p x v t hp ha ho hb hw ht hi h0 _ hv hh _
    have hr : (s.tblBusy p x v).hurt t (s.gf p (taINDEX x)) = false := by rwa [State.hurt, tblBusy_flt]
    rw [exec_tblRead hp ha ho hb hw ht hi (h0 ▸ words_pos t), h0, tblReadWord_zero (tblRead_sound hv hr)]
    rfl
  case hurt =>
    intro s p x v t hp ha ho hb hw ht hi h0 hv hh
    have hr : (s.tblBusy p x v).hurt t (s.gf p (taINDEX x)) = true := by rwa [State.hurt, tblBusy_flt]
    rw [exec_tblRead hp ha ho hb hw ht hi (h0 ▸ words_pos t), h0, tblReadWord_zero (tblRead_hurt hv hr), fld_zero]
    rfl
  case lower =>
    intro s p x v t hp ha ho hb hw ht hi hn hrw hs hc
    rw [exec_tblWrite hp ha ho hb hw ht hi (by omega), tblWriteWord_lower hrw (gb_tblBusy_stage s p x v hs) hn,
      State.tblHeld, tblSet_tblBusy, tblData_tblBusy, State.tblBusy, hs, settle_of_calm]
    exact (calm_congr rfl rfl rfl rfl rfl rfl).trans hc
  case last =>
    intro s p x v t hp ha ho hb hw ht hi hn hrw hs
    rw [exec_tblWrite hp ha ho hb hw ht hi (by omega), tblWriteWord_last hrw (gb_tblBusy_stage s p x v hs) hn,
      State.tblHeld, tblSet_tblBusy, tblData_tblBusy, State.tblBusy, hs]
  case invalid =>
    intro s p x v hp ha ho hb hc
    have h : s.tblCmd p x v = ((s.sf p (tcAUTOINC x) (fld v 2 1)).sf p (tcSTAGE x) (fld v 3 1)).sf p (tcSTATUS x) 0x9 := by
      unfold State.tblCmd
      rw [hb, ho, if_neg Bool.false_ne_true]
      rfl
    show Host.Outcome.next (s.tblOp p x v 3 (.tblOpInvalid p x v)).shown = _
    rw [tblOp_of_free hp ha ho, h, settle_of_calm (by rw [calm_sf, calm_sf, calm_sf, hc])]
  case done =>
    intro s p x hp hb hn hr
    rw [exec_tblOpDone, tblDone_eq hp hb hr, hn]
    rfl
  case entry =>
    intro s p x hp hb ha hr hl
    rw [exec_tblOpDone, tblDone_eq hp hb (by rw [hr]; decide), ha, hr, hl]
    rfl
  case word =>
    intro s p x hp hb ha hr hl
    rw [exec_tblOpDone, tblDone_eq hp hb (by rw [hr]; decide), ha, hr, hl]
    rfl
  case undone =>
    intro s p x hr
    rw [exec_tblOpDone, tblDone_of_undone hr]

end Sys2Proof.Machine
end

section
/-!
PROOF. The management interfaces: DEVTIME read over either path (R47), SMBus register commands (R41 to R43) and the MCTP endpoint (R44,
R465); O17, O18 and O19 from them.
-/

namespace Sys2Proof.Machine

variable {s : State} {a : Nat}

/-! ### DEVTIME (R47) -/

theorem regWord_devtimeLo (s : State) (x : Path) : s.regWord x 0x58 = BitVec.ofNat 32 s.sys.devtime := rfl

theorem regWord_devtimeHi_host (s : State) : s.regWord .host 0x5C = BitVec.ofNat 32 s.sys.latchHost := rfl

theorem regWord_devtimeHi_smb (s : State) : s.regWord .smb 0x5C = BitVec.ofNat 32 s.sys.latchSmb := rfl

theorem latch_devtime (s : State) (x : Path) : (s.latch x).sys.devtime = s.sys.devtime := by cases x <;> rfl

theorem latch_hkOn (s : State) (x : Path) : (s.latch x).sys.hkOn = s.sys.hkOn := by cases x <;> rfl

theorem ofNat_mod_word (n : Nat) : BitVec.ofNat 32 (n % 2 ^ 32) = BitVec.ofNat 32 n := by
  apply BitVec.eq_of_toNat_eq
  rw [BitVec.toNat_ofNat, BitVec.toNat_ofNat, Nat.mod_mod]

theorem regWord_devtimeHi_latch (s : State) (x : Path) : (s.latch x).regWord x 0x5C = BitVec.ofNat 32 (s.sys.devtime / 2 ^ 32) := by
  cases x
  · exact (regWord_devtimeHi_host _).trans (ofNat_mod_word _)
  · exact (regWord_devtimeHi_smb _).trans (ofNat_mod_word _)

theorem regWord_devtimeHi_latch_of_ne (s : State) {x y : Path} (h : x ≠ y) : (s.latch x).regWord y 0x5C = s.regWord y 0x5C := by
  cases x <;> cases y
  · exact absurd rfl h
  · rfl
  · rfl
  · exact absurd rfl h

/-- The registers of DEV meet an access while the housekeeping domain is on. -/
theorem regMeets_dev (hk : s.sys.hkOn = true) (hp : a / 4096 = pgDEV) (hi : (infoAt a).isSome = true) : s.regMeets a = 0 := by
  obtain ⟨⟨b, k, r⟩, hr⟩ := Option.isSome_iff_exists.1 hi
  have hw : s.awakePage pgDEV = true := hk
  exact regMeets_register (by rw [hp]; rfl) hr (by rw [hp, hw, Bool.true_or])

theorem linkBarred_dev (h : a / 4096 = pgDEV) : s.linkBarred a = false := by
  unfold State.linkBarred
  rw [h]
  rfl

theorem bytesOf_mod (k n : Nat) : bytesOf k (n % 256 ^ k) = bytesOf k n := by
  induction k generalizing n with
  | zero => rfl
  | succ k ih =>
    have hb : BitVec.ofNat 8 (n % 256 ^ (k + 1)) = BitVec.ofNat 8 n := by
      apply BitVec.eq_of_toNat_eq
      rw [BitVec.toNat_ofNat, BitVec.toNat_ofNat, pow_succ]
      exact Nat.mod_mul_left_mod _ _ _
    rw [bytesOf, bytesOf, hb, pow_succ', Nat.mod_mul_right_div_self, ih]

/-- The bytes of a dword depend on its low 32 bits only. -/
theorem bytesOf_ofNat_word (n : Nat) : bytesOf 4 (BitVec.ofNat 32 n).toNat = bytesOf 4 n := by
  rw [BitVec.toNat_ofNat]
  exact bytesOf_mod 4 n

theorem regGet_devtimeLo (hk : s.sys.hkOn = true) (q : Nat) :
    s.regGet ⟨.host, .pf0 q⟩ 0x58 = (s.latch .host, BitVec.ofNat 32 s.sys.devtime, 0) :=
  regGet_register (by decide) (regMeets_dev hk rfl (by decide)) (linkBarred_dev rfl) q

theorem regGet_devtimeHi (hk : s.sys.hkOn = true) (q : Nat) :
    s.regGet ⟨.host, .pf0 q⟩ 0x5C = (s, BitVec.ofNat 32 s.sys.latchHost, 0) :=
  regGet_register (by decide) (regMeets_dev hk rfl (by decide)) (linkBarred_dev rfl) q

/-- A read of both halves sees one value. -/
theorem regReads_devtime (hk : s.sys.hkOn = true) (q : Nat) :
    s.regReads ⟨.host, .pf0 q⟩ 0x58 2 = (s.latch .host, bytesOf 4 s.sys.devtime ++ bytesOf 4 (s.sys.devtime / 2 ^ 32)) := by
  have hl : (s.latch .host).sys.hkOn = true := (latch_hkOn s .host).trans hk
  have hh : (s.latch .host).sys.latchHost = s.sys.devtime / 2 ^ 32 % 2 ^ 32 := rfl
  simp only [State.regReads, regGet_devtimeLo hk, regGet_devtimeHi hl, hh, ofNat_mod_word, bytesOf_ofNat_word, List.append_nil]

theorem exec_devtimeLoRead (hk : s.sys.hkOn = true) (x : Path) :
    exec (.devtimeLoRead x) s = .next ((s.latch x).emit (.regData 0x58 (BitVec.ofNat 32 s.sys.devtime))).shown := by
  show execDevtimeLoRead x s = _
  rw [execDevtimeLoRead, hk]
  rfl

/-- Settles O17: both halves come from one reading of DEVTIME. -/
theorem devtimeReadIsCoherent : Obligations.DevtimeReadIsCoherent := by
  refine ⟨fun s x hk => exec_devtimeLoRead hk x, ?_, fun s x y h => regWord_devtimeHi_latch_of_ne s h, fun s q hk => regReads_devtime hk q⟩
  intro s x
  exact ⟨regWord_devtimeHi_latch s x, by rw [regWord_devtimeLo, latch_devtime]⟩

/-! ### SMBus register commands (R42, R43) -/

/-- PF0 reaches every dword of BAR0 over either path. -/
theorem regTarget_of_pf0 (h : a < 2 ^ 26) (x : Path) (q : Nat) : s.regTarget ⟨x, .pf0 q⟩ a = (s, some a) := by
  show (s, some (a % 2 ^ 26)) = (s, some a)
  rw [Nat.mod_eq_of_lt h]

/-- A register met by an access through PF0 over either path. -/
theorem regPut_of_meets (h : a < 2 ^ 26) (hm : s.regMeets a = 0) (hl : s.linkBarred a = false) (x : Path) (q : Nat) (v : Word) :
    s.regPut ⟨x, .pf0 q⟩ a v = (s.regDirect a v, 0) := by
  simp only [State.regPut, regTarget_of_pf0 h, hm, hl, viaPf0, Bool.not_true, Bool.false_and, Bool.or_self, Bool.false_eq_true, if_false]

theorem regGet_of_meets (h : a < 2 ^ 26) (hm : s.regMeets a = 0) (hl : s.linkBarred a = false) (x : Path) (q : Nat) :
    s.regGet ⟨x, .pf0 q⟩ a = (s.regReadSide x a, s.regWord x a, 0) := by
  simp only [State.regGet, regTarget_of_pf0 h, hm, hl, viaPf0, Bool.not_true, Bool.false_and, Bool.or_self, Bool.false_eq_true, if_false]

/-- A register of FLT meets every access while the housekeeping domain is on. -/
theorem regMeets_flt {r : RegInfo} (hk : s.sys.hkOn = true) (hi : infoAt a = some (.flt, 0, r)) : s.regMeets a = 0 := by
  have hp : a / 4096 = pgFLT := page_of_blkOf_flt (infoAt_eq_some hi).1
  exact regMeets_register (by rw [hp]; rfl) hi (by rw [hp, awakePage_flt hk, Bool.true_or])

theorem smbOffOk_of (h4 : a % 4 = 0) (hl : a < 2 ^ 26) : smbOffOk a = true := by
  rw [smbOffOk, h4, decide_eq_true (by omega)]; rfl

theorem smbOffOk_of_bad (h : a % 4 ≠ 0 ∨ 2 ^ 26 ≤ a) : smbOffOk a = false := by
  rcases h with h | h
  · rw [smbOffOk, beq_eq_false_iff_ne.2 h, Bool.false_and]
  · rw [smbOffOk, decide_eq_false (by omega), Bool.and_false]

/-- Command 0x10 ends with its status, which command 0x12 shows afterwards. -/
def State.smbWritten (s : State) (a st : Nat) : State := { s with smb := { s.smb with lastWrite := st } }.smbEnd a st

theorem smbEnd_zero (s : State) (a : Nat) : s.smbEnd a 0 = s.sf pgDEV DEV.SMB_STS_LAST_STATUS 0 := by
  rw [State.smbEnd, if_neg (by decide)]

theorem smbEnd_one (s : State) (a : Nat) : s.smbEnd a 1 = (s.sf pgDEV DEV.SMB_STS_LAST_STATUS 1).devError 3 a 0xFFFF := by
  rw [State.smbEnd, if_pos (by decide)]

theorem smbEnd_four (s : State) (a : Nat) : s.smbEnd a 4 = (s.sf pgDEV DEV.SMB_STS_LAST_STATUS 4).devError 3 a 0xFFFF := by
  rw [State.smbEnd, if_pos (by decide)]

theorem exec_smbRegWrite_pec (hk : s.sys.hkOn = true) {given ok : Bool}
    (hb : (if given then !ok else s.gb pgDEV DEV.SMB_CTL_PEC_REQ) = true) (a : Nat) (v : Word) :
    exec (.smbRegWrite a v given ok) s = .next (s.smbWritten a 4).shown := by
  show execSmbRegWrite a v given ok s = _
  simp only [execSmbRegWrite, hk, hb, Bool.not_true, Bool.false_eq_true, if_false, if_true, done, State.smbWritten]

theorem exec_smbRegWrite_offset (hk : s.sys.hkOn = true) (ha : smbOffOk a = false) (v : Word) :
    exec (.smbRegWrite a v true true) s = .next (s.smbWritten a 1).shown := by
  show execSmbRegWrite a v true true s = _
  simp only [execSmbRegWrite, hk, ha, Bool.not_true, Bool.not_false, Bool.false_eq_true, if_false, if_true, done, State.smbWritten]

theorem exec_smbRegWrite (hk : s.sys.hkOn = true) (ha : smbOffOk a = true) (hh : regHeldBy s .pf0 a = false) {v : Word} {t : State}
    {st : Nat} (hw : s.smbPut a v = (t, st)) : exec (.smbRegWrite a v true true) s = .next (t.smbWritten a st).shown := by
  show execSmbRegWrite a v true true s = _
  simp only [execSmbRegWrite, hk, ha, hh, hw, Bool.not_true, Bool.false_eq_true, if_false, if_true, done, State.smbWritten]

theorem exec_smbRegRead_offset (hk : s.sys.hkOn = true) (ha : smbOffOk a = false) :
    exec (.smbRegRead a) s = .next (s.smbAnswer a 1 0).shown := by
  show execSmbRegRead a s = _
  simp only [execSmbRegRead, hk, ha, Bool.not_true, Bool.not_false, Bool.false_eq_true, if_false, if_true, done]

theorem exec_smbRegRead (hk : s.sys.hkOn = true) (ha : smbOffOk a = true) (hh : regHeldBy s .pf0 a = false) {t : State} {w : Word}
    {st : Nat} (hg : s.regGet ⟨.smb, .pf0⟩ a = (t, w, st)) : exec (.smbRegRead a) s = .next (t.smbAnswer a st w).shown := by
  show execSmbRegRead a s = _
  simp only [execSmbRegRead, hk, ha, hh, hg, Bool.not_true, Bool.false_eq_true, if_false, done]

/-- Settles O18, command by command. -/
theorem smbusRegisterCommands : Obligations.SmbusRegisterCommands := by
  refine ⟨?write, ?pec, ?offset, ?read, ?readOffset, ?status, ?ara, ?quiet, fun s => rfl, ?reply⟩
  case write =>
    intro s a r v hk hi hl h4 ho hn hap hm t
    have hp : a / 4096 = pgFLT := page_of_blkOf_flt (infoAt_eq_some hi).1
    have hput : s.smbPut a v = (t, 0) := by
      rw [State.smbPut, regPut_of_meets hl (regMeets_flt hk hi) (linkBarred_flt hp), regDirect_of_closed hi hm, regEffect_flt hi ho hn]
    rw [exec_smbRegWrite hk (smbOffOk_of h4 hl) (regHeldBy_pf0 hl (by rw [hp]; exact hap) 0) hput, State.smbWritten, smbEnd_zero]
    rfl
  case pec =>
    intro s a v given ok hk hb
    rw [exec_smbRegWrite_pec hk hb, State.smbWritten, smbEnd_four]
  case offset =>
    intro s a v hk h
    rw [exec_smbRegWrite_offset hk (smbOffOk_of_bad h), State.smbWritten, smbEnd_one]
  case read =>
    intro s a r hk hi hl h4 hap
    have hp : a / 4096 = pgFLT := page_of_blkOf_flt (infoAt_eq_some hi).1
    have hget : s.regGet ⟨.smb, .pf0⟩ a = (s, s.reg a, 0) := by
      rw [regGet_of_meets hl (regMeets_flt hk hi) (linkBarred_flt hp), regReadSide_flt hp, regWord_flt hk hp]
    rw [exec_smbRegRead hk (smbOffOk_of h4 hl) (regHeldBy_pf0 hl (by rw [hp]; exact hap) 0) hget, State.smbAnswer, smbEnd_zero]
  case readOffset =>
    intro s a hk h
    rw [exec_smbRegRead_offset hk (smbOffOk_of_bad h), State.smbAnswer, smbEnd_one]
    rfl
  case status =>
    intro s hk
    show execSmbStatusRead s = _
    rw [execSmbStatusRead, hk]
    rfl
  case ara =>
    intro s hk h
    show execSmbAra s = _
    rw [execSmbAra, hk, h]
    rfl
  case quiet =>
    intro s h
    show execSmbAra s = _
    rw [execSmbAra, h, Bool.and_false]
    rfl
  case reply =>
    intro s sent back
    simp only [State.smbReply, bytes, byte, List.map_append, List.map_cons, List.map_nil]
    rfl

/-! ### The MCTP endpoint (R44, R465) -/

theorem onlyIf_true (s : State) (f : State → State) : s.onlyIf true f = f s := rfl

theorem onlyIf_false (s : State) (f : State → State) : s.onlyIf false f = s := rfl

/-- A control command that the endpoint takes acts. -/
theorem done_onlyIf {c : Bool} (h : c = true) (f : State → State) : done (s.onlyIf c f) = .next (f s).shown := by
  rw [h, onlyIf_true]
  rfl

theorem mctpSetEid_of_valid {eid : Byte} (h0 : eid ≠ 0) (hF : eid ≠ 0xFF) :
    s.mctpSetEid 0 eid.toNat = { s with smb := { s.smb with eid := eid.toNat } }.mctpSend (bytes [0, 0, 1, 0, 0, eid.toNat, 0]) := by
  have n0 : (eid.toNat == 0) = false := beq_eq_false_iff_ne.2 fun h => h0 (BitVec.eq_of_toNat_eq h)
  have nF : (eid.toNat == 0xFF) = false := beq_eq_false_iff_ne.2 fun h => hF (BitVec.eq_of_toNat_eq h)
  rw [State.mctpSetEid, n0, nF]
  rfl

theorem not_listed_mctp {c : Byte} (h : c = 0 ∨ 6 < c.toNat) : (!(decide (1 ≤ c.toNat) && decide (c.toNat ≤ 6))) = true := by
  rcases h with rfl | h
  · rfl
  · rw [decide_eq_false (Nat.not_le.2 h), Bool.and_false]
    rfl

/-- A packet with SOM, EOM and TO 1 and sequence number 0 is a whole message: its sender is noted and its body acts. -/
theorem mctpTake_whole {p : List Byte} (hg : s.mctpGood p = true) (hf : (p.getD 7 0).toNat / 8 = 25) :
    s.mctpTake p = { s with smb := { s.smb with
      peerAddr := (p.getD 3 0).toNat / 2, peerEid := (p.getD 6 0).toNat, peerTag := (p.getD 7 0).toNat % 16,
      nextSeq := ((p.getD 7 0).toNat / 16 + 1) % 4, assembly := none } }.mctpMessage ((p.drop 8).take (p.length - 9)) := by
  have hn : ∀ i, (p.map BitVec.toNat).getD i 0 = (p.getD i 0).toNat := fun i => List.getD_map (f := BitVec.toNat) (d := 0#8) ..
  have ho : ((p.getD 7 0).toNat / 8 % 2 == 0) = false := beq_eq_false_iff_ne.2 (by omega)
  have hs : ((p.getD 7 0).toNat / 128 == 1) = true := beq_iff_eq.2 (by omega)
  have he : ((p.getD 7 0).toNat / 64 % 2 == 1) = true := beq_iff_eq.2 (by omega)
  have hq : ((p.getD 7 0).toNat / 16 % 4 + 1) % 4 = ((p.getD 7 0).toNat / 16 + 1) % 4 := by omega
  unfold State.mctpTake
  simp only [hn, hg, ho, hs, he, hq, Bool.not_true, Bool.or_self, Bool.false_eq_true, if_false, if_true]

/-- Settles O19, command by command. -/
theorem mctpEndpoint : Obligations.MctpEndpoint := by
  refine ⟨?setEid, ?others, ?unsupported, ?mgq, ?off, ?packet⟩
  case setEid =>
    intro s eid h h0 hF
    show done (s.onlyIf s.mctpOn fun s => s.mctpSetEid 0 eid.toNat) = _
    rw [done_onlyIf h, mctpSetEid_of_valid h0 hF]
  case others =>
    intro s h
    refine ⟨?_, ?_, ?_, ?_, ?_, ?_⟩
    · exact done_onlyIf h fun s => s.mctpGetEid 0
    · exact done_onlyIf h fun s => s.mctpGetUuid 0
    · exact done_onlyIf h fun s => s.mctpVersion 0 0
    · exact done_onlyIf h fun s => s.mctpVersion 0 1
    · exact done_onlyIf h fun s => s.mctpTypes 0
    · exact done_onlyIf h fun s => s.mctpVendor 0 0
  case unsupported =>
    intro s c h hc
    exact done_onlyIf (by rw [h, not_listed_mctp hc]; rfl) fun s => s.mctpOther 0 c.toNat
  case mgq =>
    intro s cmd data h
    exact done_onlyIf h fun s => s.mctpMgq cmd data
  case off =>
    intro s p h
    show done (s.onlyIf s.mctpOn fun s => s.mctpTake p) = _
    rw [State.mctpOn, h, Bool.and_false, onlyIf_false]
    rfl
  case packet =>
    intro s p h hg hf
    show done (s.onlyIf s.mctpOn fun s => s.mctpTake p) = _
    rw [done_onlyIf h, mctpTake_whole hg hf]

end Sys2Proof.Machine
end

section
/-!
PROOF. Memory requests of the host (R25, R59, R68, R75, R88, R89, R275): how a TLP is received, what a request does in each BAR and
outside all of them, and O24 from that.
-/

namespace Sys2Proof.Machine

variable {s : State} {i : TlpInfo} {tag a off n : Nat} {fbe lbe : BitVec 4}

/-! ### Reports leave nothing that waits (R75) -/

theorem calm_each {α : Type} {f : α → State → State} (hf : ∀ x s, (f x s).calm = s.calm) (l : List α) (s : State) :
    (s.each l f).calm = s.calm := by
  induction l generalizing s with
  | nil => rfl
  | cons x l ih => exact (ih (f x s)).trans (hf x s)

theorem calm_setCfg (s : State) (f : Nat) (r : CfgReg) (v : Nat) : (s.setCfg f r v).calm = s.calm := calm_congr rfl rfl rfl rfl rfl rfl

theorem calm_cfgOr (s : State) (f : Nat) (r : CfgReg) (b : Nat) : (s.cfgOr f r b).calm = s.calm := calm_setCfg ..

theorem calm_aer (s : State) (f : Nat) (e : AerErr) (advisory : Bool) (hdr : List Word) : (s.aer f e advisory hdr).calm = s.calm := by
  have hh (t : State) : (t.each hdr.zipIdx fun x s => s.setCfg f (.aerHeader x.2) x.1.toNat).calm = t.calm :=
    calm_each (fun _ _ => calm_setCfg ..) _ _
  have hc (t : State) (c : Bool) : (if c then t.cfgOr f .aerCorStatus 13 else t).calm = t.calm := by
    cases c
    · rfl
    · exact calm_cfgOr ..
  unfold State.aer
  dsimp only
  rw [calm_emit]
  split
  · rfl
  · split
    · rw [hh, hc, calm_cfgOr]
    · rw [hc, calm_cfgOr]

theorem calm_poisonedTlp (s : State) (i : TlpInfo) : (s.poisonedTlp i).calm = s.calm := by
  rw [State.poisonedTlp, calm_aer, State.badTlp, calm_error, calm_cnt]

theorem calm_aerUr (s : State) (f : Nat) (posted : Bool) (hdr : List Word) : (s.aerUr f posted hdr).calm = s.calm := calm_aer ..

theorem calm_urAnswer (s : State) (f tag : Nat) (hdr : List Word) : (s.urAnswer f tag hdr).calm = s.calm := by
  rw [State.urAnswer, calm_aerUr, calm_emit, calm_cnt]

theorem calm_flrUr (s : State) (tag : Nat) : (s.flrUr tag).calm = s.calm := by
  rw [State.flrUr, calm_emit, calm_cnt]

/-! ### A TLP is received -/

/-- In RUN without a power request nothing is to be woken. -/
theorem wakeHint_of_run (h : s.gf pgOAS OAS.PWR_STS_STATE = 0) (hc : s.oas.cur = none) (f : Fld) : s.wakeHint f = s := by
  rw [State.wakeHint, h, hc, if_neg (by decide)]

/-- Without an IDE stream a TLP outside IDE passes. -/
theorem tlpIn_of_run (h : s.gf pgOAS OAS.PWR_STS_STATE = 0) (hc : s.oas.cur = none) (hi : i.ide = .clear) (hn : s.host.ide = []) (sub : Nat) :
    s.tlpIn i sub = (s, true) := by
  rw [State.tlpIn, wakeHint_of_run h hc, hi, State.ideCheck, hn]
  rfl

/-! ### Writes -/

/-- The bytes of one wholly enabled dword. -/
theorem reqCells_dword (lbe : BitVec 4) (data : Nat → Byte) :
    reqCells 0xF lbe 1 data = (0, [some (data 0), some (data 1), some (data 2), some (data 3)]) := by
  have he : ∀ i ∈ List.range (4 * 1), bitAt (dwEnables 0xF lbe 1 (i / 4)).toNat (i % 4) = true := by
    intro i hi
    have h4 : i < 4 := List.mem_range.1 hi
    have h0 : i / 4 = 0 := by omega
    rw [h0, dwEnables_first]
    have hall : ∀ j < 4, bitAt (0xF : BitVec 4).toNat (j % 4) = true := by decide
    exact hall i h4
  unfold reqCells
  rw [List.map_congr_left (g := fun i => some (data i)) fun i hi => if_pos (he i hi)]
  rfl

section
variable (ht : s.tlpIn i 0 = (s, true))
include ht

theorem hostPut_inFlr (hf : s.inFlr i.func = true) (d : List Word) : s.hostPut i a fbe lbe d = s := by
  unfold State.hostPut
  rw [ht]
  dsimp only
  rw [if_pos hf]

theorem hostPut_poisoned (hf : s.inFlr i.func = false) (hp : i.poisoned = true) (d : List Word) :
    s.hostPut i a fbe lbe d = s.poisonedTlp i := by
  unfold State.hostPut
  rw [ht]
  dsimp only
  rw [hf, if_neg Bool.false_ne_true, if_pos hp]

variable (hf : s.inFlr i.func = false) (hp : i.poisoned = false)
include hf hp

theorem hostPut_noBar (hb : s.barHit i.func a = none) (d : List Word) : s.hostPut i a fbe lbe d = s.aerUr 0 true (tlpHdr i) := by
  unfold State.hostPut
  rw [ht]
  dsimp only
  rw [hf, hp, hb, if_neg Bool.false_ne_true, if_neg Bool.false_ne_true]

theorem hostPut_bar0 {d : List Word} (hb : s.barHit i.func a = some (0, off)) (hh : s.burstHeld (barPath i off) off d.length = false) :
    s.hostPut i a fbe lbe d = s.regBurst ⟨.host, barPath i off⟩ off fbe lbe d := by
  unfold State.hostPut
  rw [ht]
  dsimp only
  rw [hf, hp, hb, if_neg Bool.false_ne_true, if_neg Bool.false_ne_true]
  exact if_neg (by rw [hh]; exact Bool.false_ne_true)

theorem hostPut_bar2 (hb : s.barHit i.func a = some (2, off)) (v : Word) :
    s.hostPut i a 0xF lbe [v] = s.accept ⟨.write, .host 0, i.func, i.pasid, none, off / 4 * 4, a / 4 * 4,
      (bytesOf 4 v.toNat).map some, [], i.req, 0⟩ := by
  unfold State.hostPut
  rw [ht]
  dsimp only
  rw [hf, hp, hb, if_neg Bool.false_ne_true, if_neg Bool.false_ne_true]
  rw [List.length_singleton, reqCells_dword]
  rfl

end

/-! ### Non-posted requests -/

section
variable (ht : s.tlpIn i 1 = (s, true))
include ht

theorem npIn_inFlr (hf : s.inFlr i.func = true) (f : Nat → Nat → State → State) : s.npIn i tag a f = s.flrUr tag := by
  unfold State.npIn
  rw [ht]
  dsimp only
  rw [if_pos hf]

variable (hf : s.inFlr i.func = false)
include hf

theorem npIn_noBar (hb : s.barHit i.func a = none) (f : Nat → Nat → State → State) : s.npIn i tag a f = s.urAnswer 0 tag (tlpHdr i) := by
  unfold State.npIn
  rw [ht]
  dsimp only
  rw [hf, hb, if_neg Bool.false_ne_true]

theorem npIn_bar {bar : Nat} (hb : s.barHit i.func a = some (bar, off)) (f : Nat → Nat → State → State) : s.npIn i tag a f = f bar off s := by
  unfold State.npIn
  rw [ht]
  dsimp only
  rw [hf, hb, if_neg Bool.false_ne_true]

theorem hostGet_bar0 (hb : s.barHit i.func a = some (0, off)) (hh : s.burstHeld (barPath i off) off n = false) :
    s.hostGet i tag a n fbe lbe = s.regAnswer (barPath i off) off n fbe tag := by
  unfold State.hostGet
  rw [npIn_bar ht hf hb]
  exact if_neg (by rw [hh]; exact Bool.false_ne_true)

theorem hostGet_bar2 (hb : s.barHit i.func a = some (2, off)) :
    s.hostGet i tag a 1 0xF lbe = s.accept ⟨.read, .host tag, i.func, i.pasid, none, off / 4 * 4, a / 4 * 4,
      [some 0, some 0, some 0, some 0], [], i.req, 0⟩ := by
  unfold State.hostGet
  rw [npIn_bar ht hf hb]
  dsimp only
  rw [reqCells_dword]
  rfl

theorem hostGetZero_bar0 (hb : s.barHit i.func a = some (0, off)) : s.hostGetZero i tag a = s.emit (.cpl tag .sc [0, 0, 0, 0]) := by
  unfold State.hostGetZero
  rw [npIn_bar ht hf hb]
  rfl

theorem hostGetZero_bar2 (hb : s.barHit i.func a = some (2, off)) :
    s.hostGetZero i tag a = s.accept ⟨.zero, .host tag, i.func, i.pasid, none, off / 4 * 4, a / 4 * 4, [some 0], [], i.req, 0⟩ := by
  unfold State.hostGetZero
  rw [npIn_bar ht hf hb]
  rfl

variable (h4 : a % 4 = 0) (hp : i.poisoned = false)
include h4 hp

/-- An aligned AtomicOp of 32 bits is not malformed. -/
theorem hostAtom_bar2 (hb : s.barHit i.func a = some (2, off)) (op : AtomicOp) (v c : Nat) :
    s.hostAtom i tag a op 4 v c = s.accept ⟨.atomic op, .host tag, i.func, i.pasid, none, off, a, (bytesOf 4 v).map some,
      if op = .cas then bytesOf 4 c else [], i.req, 0⟩ := by
  have hc : (if (op == .cas) = true then bytesOf 4 c else []) = if op = .cas then bytesOf 4 c else [] := by simp only [beq_iff_eq]
  unfold State.hostAtom
  rw [if_neg (by rw [h4]; decide), npIn_bar ht hf hb, hp, if_neg Bool.false_ne_true, if_pos (by decide), hc]

theorem hostAtom_bar0 (hb : s.barHit i.func a = some (0, off)) (op : AtomicOp) (v c : Nat) :
    s.hostAtom i tag a op 4 v c = s.urAnswer i.func tag (tlpHdr i) := by
  unfold State.hostAtom
  rw [if_neg (by rw [h4]; decide), npIn_bar ht hf hb, hp, if_neg Bool.false_ne_true, if_neg (by decide)]

end

/-! ### The commands over an up link -/

section
variable (hu : s.gb pgHST HST.LINK_STS_DL_UP = true)
include hu

section
variable (hs : s.hostStall = false)
include hs

theorem exec_hostWrite (d : List Word) : exec (.hostWrite i a fbe lbe d) s = .next (s.hostPut i a fbe lbe d).settle.shown := by
  show execHostWrite i a fbe lbe d s = _
  simp only [execHostWrite, hu, hs, Bool.not_true, Bool.false_eq_true, if_false, done]

theorem exec_hostRead (h0 : 0 < n) (h1 : 1 < n ∨ fbe ≠ 0) :
    exec (.hostRead i tag a n fbe lbe) s = .next (s.hostGet i tag a n fbe lbe).settle.shown := by
  have hz : (n == 0) = false := beq_eq_false_iff_ne.2 (Nat.ne_of_gt h0)
  have hn : (n == 1 && fbe == 0) = false := by
    rcases h1 with h | h
    · rw [beq_eq_false_iff_ne.2 (Nat.ne_of_gt h), Bool.false_and]
    · rw [beq_eq_false_iff_ne.2 h, Bool.and_false]
  show execHostRead i tag a n fbe lbe s = _
  simp only [execHostRead, hu, hs, hz, hn, Bool.not_true, Bool.or_self, Bool.false_eq_true, if_false, done]

theorem exec_hostZeroLengthRead : exec (.hostZeroLengthRead i tag a) s = .next (s.hostGetZero i tag a).settle.shown := by
  show execHostZeroLengthRead i tag a s = _
  simp only [execHostZeroLengthRead, hu, hs, Bool.not_true, Bool.false_eq_true, if_false, done]

theorem exec_hostAtomic (op : AtomicOp) (size v c : Nat) :
    exec (.hostAtomic i tag a op size v c) s = .next (s.hostAtom i tag a op size v c).settle.shown := by
  show execHostAtomic i tag a op size v c s = _
  simp only [execHostAtomic, hu, hs, Bool.not_true, Bool.false_eq_true, if_false, done]

end

section
variable (hs : s.hostStall = true)
include hs

theorem exec_hostWrite_stalled (d : List Word) :
    exec (.hostWrite i a fbe lbe d) s = .next (s.stallTlp (.hostWrite i a fbe lbe d)).shown := by
  show execHostWrite i a fbe lbe d s = _
  simp only [execHostWrite, hu, hs, Bool.not_true, Bool.false_eq_true, if_false, if_true, done]

theorem exec_hostRead_stalled (h0 : 0 < n) :
    exec (.hostRead i tag a n fbe lbe) s = .next (s.stallTlp (.hostRead i tag a n fbe lbe)).shown := by
  have hz : (n == 0) = false := beq_eq_false_iff_ne.2 (Nat.ne_of_gt h0)
  show execHostRead i tag a n fbe lbe s = _
  simp only [execHostRead, hu, hs, hz, Bool.not_true, Bool.or_self, Bool.false_eq_true, if_false, if_true, done]

theorem exec_hostZeroLengthRead_stalled :
    exec (.hostZeroLengthRead i tag a) s = .next (s.stallTlp (.hostZeroLengthRead i tag a)).shown := by
  show execHostZeroLengthRead i tag a s = _
  simp only [execHostZeroLengthRead, hu, hs, Bool.not_true, Bool.false_eq_true, if_false, if_true, done]

theorem exec_hostAtomic_stalled (op : AtomicOp) (size v c : Nat) :
    exec (.hostAtomic i tag a op size v c) s = .next (s.stallTlp (.hostAtomic i tag a op size v c)).shown := by
  show execHostAtomic i tag a op size v c s = _
  simp only [execHostAtomic, hu, hs, Bool.not_true, Bool.false_eq_true, if_false, if_true, done]

end

end

/-- Settles O24, request by request and BAR by BAR. -/
theorem hostMemoryRequests : Obligations.HostMemoryRequests := by
  refine ⟨?writeRefused, ?write, ?read, ?readReset, ?atomic, ?zero, ?stall⟩
  case writeRefused =>
    intro s i a fbe lbe d hu hs hi hn hr hc hq
    have ht := tlpIn_of_run hr hc hi hn 0
    refine ⟨fun hf => ?_, fun hf hp => ?_, fun hf hp hb => ?_⟩
    · rw [exec_hostWrite hu hs, hostPut_inFlr ht hf, settle_of_calm hq]
    · rw [exec_hostWrite hu hs, hostPut_poisoned ht hf hp, settle_of_calm ((calm_poisonedTlp s i).trans hq)]
    · rw [exec_hostWrite hu hs, hostPut_noBar ht hf hp hb, settle_of_calm ((calm_aerUr ..).trans hq)]
  case write =>
    intro s i a off fbe lbe d hu hs hi hn hr hc hf hp
    have ht := tlpIn_of_run hr hc hi hn 0
    refine ⟨fun hb hh => ?_, fun hl he hb => ?_⟩
    · rw [exec_hostWrite hu hs, hostPut_bar0 ht hf hp hb hh]
    · obtain ⟨v, rfl⟩ := List.length_eq_one_iff.1 hl
      rw [he, exec_hostWrite hu hs, hostPut_bar2 ht hf hp hb]
      rfl
  case read =>
    intro s i tag a off n fbe lbe hu hs hi hn hr hc hf h0 h1
    have ht := tlpIn_of_run hr hc hi hn 1
    refine ⟨fun hb hh => ?_, fun hb h1 he => ?_, fun hb hq => ?_⟩
    · rw [exec_hostRead hu hs h0 h1, hostGet_bar0 ht hf hb hh]
    · subst h1 he
      rw [exec_hostRead hu hs h0 h1, hostGet_bar2 ht hf hb]
    · rw [exec_hostRead hu hs h0 h1, State.hostGet, npIn_noBar ht hf hb, settle_of_calm ((calm_urAnswer ..).trans hq)]
  case readReset =>
    intro s i tag a n fbe lbe hu hs hi hn hr hc hf h1 hq
    have ht := tlpIn_of_run hr hc hi hn 1
    rw [exec_hostRead hu hs (by omega) (.inl h1), State.hostGet, npIn_inFlr ht hf, settle_of_calm ((calm_flrUr s tag).trans hq), State.flrUr]
  case atomic =>
    intro s i tag a off op v c hu hs hi hn hr hc hf hp h4
    have ht := tlpIn_of_run hr hc hi hn 1
    refine ⟨fun hb => ?_, fun hb hq => ?_⟩
    · rw [exec_hostAtomic hu hs, hostAtom_bar2 ht hf h4 hp hb]
    · rw [exec_hostAtomic hu hs, hostAtom_bar0 ht hf h4 hp hb, settle_of_calm ((calm_urAnswer ..).trans hq)]
  case zero =>
    intro s i tag a off hu hs hi hn hr hc hf
    have ht := tlpIn_of_run hr hc hi hn 1
    refine ⟨fun hb => ?_, fun hb hq => ?_⟩
    · rw [exec_hostZeroLengthRead hu hs, hostGetZero_bar2 ht hf hb]
    · rw [exec_hostZeroLengthRead hu hs, hostGetZero_bar0 ht hf hb, settle_of_calm ((calm_emit ..).trans hq)]
  case stall =>
    intro s i tag a n v c size op fbe lbe d hu hs h0
    exact ⟨exec_hostWrite_stalled hu hs d, exec_hostRead_stalled hu hs h0, exec_hostAtomic_stalled hu hs op size v c,
      exec_hostZeroLengthRead_stalled hu hs⟩

end Sys2Proof.Machine
end

section
/-!
PROOF. A nanosecond without a command (R73, R74, R84, R503): what a tick of DEVTIME can do, what the advance of time changes, and O2
from that.
-/

namespace Sys2Proof.Machine

/-! ### A tick of DEVTIME (R73, R74) -/

/-- DEVTIME moves by 1, or at the end of a slew period by 2 or 0 with one nanosecond of the error absorbed. -/
theorem tick_cases (y : Sys) :
    (y.slew = 0 ∧ y.tick = { y with devtime := y.devtime + 1 })
      ∨ (y.slew ≠ 0 ∧ y.tick = { y with devtime := y.devtime + 1, slewIn := y.slewIn + 1 })
      ∨ (0 < y.slew ∧ y.tick = { y with devtime := y.devtime + 2, slew := y.slew - 1, slewIn := 0 })
      ∨ (y.slew < 0 ∧ y.tick = { y with slew := y.slew + 1, slewIn := 0 }) := by
  unfold Sys.tick
  by_cases h0 : y.slew = 0
  · exact .inl ⟨h0, by rw [h0]; rfl⟩
  rw [if_neg (by rwa [beq_iff_eq])]
  by_cases hp : y.slewIn + 1 < slewPeriod y.slewFast
  · exact .inr (.inl ⟨h0, if_pos hp⟩)
  rw [if_neg hp]
  by_cases hs : 0 < y.slew
  · exact .inr (.inr (.inl ⟨hs, if_pos hs⟩))
  · exact .inr (.inr (.inr ⟨by omega, if_neg hs⟩))

theorem tick_of_no_slew {y : Sys} (h : y.slew = 0) : y.tick = { y with devtime := y.devtime + 1 } := by
  unfold Sys.tick
  rw [h]
  rfl

theorem tick_devtime_le (y : Sys) : y.devtime ≤ y.tick.devtime ∧ y.tick.devtime ≤ y.devtime + 2 := by
  rcases tick_cases y with ⟨-, h⟩ | ⟨-, h⟩ | ⟨-, h⟩ | ⟨-, h⟩ <;> rw [h] <;> dsimp only <;> omega

theorem tick_slew_natAbs_le (y : Sys) : y.tick.slew.natAbs ≤ y.slew.natAbs := by
  rcases tick_cases y with ⟨-, h⟩ | ⟨-, h⟩ | ⟨hs, h⟩ | ⟨hs, h⟩ <;> rw [h] <;> dsimp only <;> omega

theorem tick_slew_of_devtime_succ {y : Sys} (hd : y.tick.devtime = y.devtime + 1) : y.tick.slew = y.slew := by
  rcases tick_cases y with ⟨-, h⟩ | ⟨-, h⟩ | ⟨hs, h⟩ | ⟨hs, h⟩ <;> rw [h] at hd ⊢ <;> dsimp only at hd <;> omega

/-! ### The advance of time (R84, R503) -/

theorem advance_only (s : State) : s.advance = { s with clock := s.clock + 1, sys := s.advance.sys, regs := s.advance.regs } := by
  unfold State.advance
  extract_lets y t
  split <;> rfl

theorem advance_clock (s : State) : s.advance.clock = s.clock + 1 := by rw [advance_only]

theorem advance_sys (s : State) : s.advance.sys = if s.pwr < 3 then s.sys.tick else s.sys := by
  unfold State.advance
  extract_lets y t
  split <;> rfl

theorem advance_sys_of_run {s : State} (h : s.pwr < 3) : s.advance.sys = s.sys.tick := by rw [advance_sys, if_pos h]

/-- DEVTIME rests in DEEP_SLEEP and OFF (R503). -/
theorem advance_sys_of_rest {s : State} (h : 3 ≤ s.pwr) : s.advance.sys = s.sys := by rw [advance_sys, if_neg (Nat.not_lt.2 h)]

/-- SLEWING falls where a slew ends. -/
theorem advance_regs (s : State) :
    s.advance.regs = (if s.sys.slew ≠ 0 ∧ s.advance.sys.slew = 0 then s.sf pgHST HST.PTM_STS_SLEWING 0 else s).regs := by
  rw [advance_sys]
  unfold State.advance
  extract_lets y t
  by_cases h : (s.sys.slew != 0 && y.slew == 0) = true
  · rw [if_pos h, if_pos (show s.sys.slew ≠ 0 ∧ y.slew = 0 by simpa using h)]
    rfl
  · rw [if_neg h, if_neg (show ¬ (s.sys.slew ≠ 0 ∧ y.slew = 0) by simpa using h)]

theorem advance_devtime_le (s : State) : s.sys.devtime ≤ s.advance.sys.devtime ∧ s.advance.sys.devtime ≤ s.sys.devtime + 2 := by
  by_cases h : s.pwr < 3
  · rw [advance_sys_of_run h]; exact tick_devtime_le s.sys
  · rw [advance_sys_of_rest (Nat.not_lt.1 h)]; omega

theorem advance_regs_of_slew_end {s : State} (h : s.sys.slew ≠ 0) (he : s.advance.sys.slew = 0) :
    s.advance.regs = (s.sf pgHST HST.PTM_STS_SLEWING 0).regs := by rw [advance_regs, if_pos ⟨h, he⟩]

theorem advance_regs_of_no_slew_end {s : State} (h : s.sys.slew = 0 ∨ s.advance.sys.slew ≠ 0) : s.advance.regs = s.regs := by
  rw [advance_regs, if_neg (by tauto)]

theorem reg_advance_of_ne (s : State) {a : Nat} (h : a ≠ raddr pgHST HST.PTM_STS_SLEWING.off) : s.advance.reg a = s.reg a := by
  by_cases he : s.sys.slew ≠ 0 ∧ s.advance.sys.slew = 0
  · rw [State.reg, advance_regs_of_slew_end he.1 he.2]; exact s.reg_sf_of_ne _ h
  · rw [State.reg, advance_regs_of_no_slew_end (by tauto), State.reg]

theorem slewing_advance {s : State} (h : s.sys.slew ≠ 0) (he : s.advance.sys.slew = 0) :
    s.advance.gb pgHST HST.PTM_STS_SLEWING = false := by
  have hf : s.advance.gf pgHST HST.PTM_STS_SLEWING = (s.sf pgHST HST.PTM_STS_SLEWING 0).gf pgHST HST.PTM_STS_SLEWING := by
    unfold State.gf State.reg
    rw [advance_regs_of_slew_end h he]
  rw [State.gb, hf, s.gf_sf_self _ _ _ (by decide)]
  rfl

/-! ### A step without a command -/

theorem step_of_no_command {s : State} (h : s.pending = []) : step s = .next s.idle.shown := by
  unfold step
  rw [h]
  rfl

/-- Settles O2: an idle step by definition, the rest from the four cases of a tick. -/
theorem idleStepIsOneNanosecond : Obligations.IdleStepIsOneNanosecond := by
  refine ⟨fun s h => step_of_no_command h, fun s => ?advance, fun y _ => ⟨tick_slew_natAbs_le y, tick_slew_of_devtime_succ⟩⟩
  case advance =>
    obtain ⟨hlo, hhi⟩ := advance_devtime_le s
    exact ⟨advance_clock s, hlo, hhi, advance_sys_of_rest, fun hp h0 => (advance_sys_of_run hp).trans (tick_of_no_slew h0),
      advance_only s, fun _ => reg_advance_of_ne s, slewing_advance, advance_regs_of_no_slew_end⟩

end Sys2Proof.Machine
end

section
/-!
PROOF. Time rounds (R73, R74, R260 to R262, R320): what each of their rows does, how a measured error is corrected, and O31 from that.
-/

namespace Sys2Proof.Machine

variable {s : State} {a : Nat} {f : Frame}

/-! ### The leader's round (R261, R262) -/

theorem exec_timeRoundStart (s : State) (a : Nat) : exec (.timeRoundStart a) s = .next (s.roundStart a).shown := rfl

theorem roundStart_first (hf : s.flows a = true) (hq : s.quiesce (pgPRT a) = false) (hl : s.timeLeads a = true)
    (hn : (s.lard a).roundAt = none) :
    s.roundStart a = (s.setLard a { s.lard a with
      round := some ⟨((s.lard a).roundId + 1) % 256, s.sys.devtime, false, s.clock, none, 0⟩
      roundId := ((s.lard a).roundId + 1) % 256
      roundAt := some s.clock }).ownFrame a (mkTime 0 (((s.lard a).roundId + 1) % 256) []) := by
  simp only [State.roundStart, hf, hq, hl, hn, Bool.not_false, Bool.and_self, if_true]

theorem roundStart_early {t : Nat} (hr : (s.lard a).roundAt = some t) (hd : s.due (t + 1000000) = false) : s.roundStart a = s := by
  have hd' : s.due (t + ms 1) = false := hd
  simp only [State.roundStart, hr, hd', Bool.and_false, Bool.false_eq_true, if_false]

theorem exec_timeEchoRx (h : s.rxTime a 2 = some f) {r : Round} (hr : ((s.rxTake a f).lard a).round = some r) (hs : r.s2 = none) (t4 : Nat) :
    exec (.timeEchoRx a t4) s = .next (if f.roundId = r.id then (s.rxTake a f).setLard a { (s.rxTake a f).lard a with
      round := some { r with s2 := some (f.words.getD 0 0).toNat, t4 := t4 } } else s.rxTake a f).shown := by
  show execTimeEchoRx a t4 s = _
  simp only [execTimeEchoRx, h, hr, hs, Option.isNone_none, Bool.and_true, beq_iff_eq, done]

theorem exec_timeEchoFuRx (h : s.rxTime a 3 = some f) {r : Round} {s2 : Nat} (hr : ((s.rxTake a f).lard a).round = some r)
    (hs : r.s2 = some s2) (hi : f.roundId = r.id) :
    exec (.timeEchoFuRx a) s = .next (((s.rxTake a f).setLard a { (s.rxTake a f).lard a with round := none }).ownFrame a (mkTime 1 r.id
      [BitVec.ofNat 64 r.t1, BitVec.ofNat 64 (ofSigned (roundDelay r.t1 r.t4 s2 (f.words.getD 0 0).toNat) 64),
        BitVec.ofNat 64 (b2n (!r.again && fld (f.words.getD 1 0) 0 1 == 0 && decide ((r.t4 : Int) - r.t1 ≤ 1000000)
          && decide (((f.words.getD 0 0).toNat : Int) - s2 ≤ (r.t4 : Int) - r.t1))),
        BitVec.ofNat 64 (ofSigned (s.rxTake a f).slewPpb 32)])).shown := by
  show execTimeEchoFuRx a s = _
  simp only [execTimeEchoFuRx, h, hr, hs, hi, beq_self_eq_true, if_true, done]

/-- D is half the difference of the two intervals, rounded to the nearest ns. -/
theorem two_mul_roundDelay (t1 t4 s2 s3 : Nat) :
    2 * roundDelay t1 t4 s2 s3 = ((t4 : Int) - t1) - ((s3 : Int) - s2) ∨ 2 * roundDelay t1 t4 s2 s3 = ((t4 : Int) - t1) - ((s3 : Int) - s2) + 1 := by
  unfold roundDelay
  omega

theorem exec_timeRoundTimeout {r : Round} (hr : (s.lard a).round = some r) (hs : r.s2 = none) :
    exec (.timeRoundTimeout a) s
      = .next (if s.due (r.start + 500000) = true then s.setLard a { s.lard a with round := none } else s).shown := by
  show execTimeRoundTimeout a s = _
  simp only [execTimeRoundTimeout, hr, hs, Option.isNone_none, Bool.true_and, done]
  rfl

/-! ### The cascade follower (R320) -/

section
variable (hc : (s.rxTake a f).cascadeLink a = true) (hl : (s.rxTake a f).isLeader a = false)
include hc hl

theorem exec_timeSyncRx (h : s.rxTime a 0 = some f) (s2 : Nat) :
    exec (.timeSyncRx a s2) s = .next (((s.rxTake a f).setLard a { (s.rxTake a f).lard a with
      echo := some ⟨f.roundId, s2, (s.rxTake a f).sys.devtime, false, false⟩ }).ownFrame a
        (mkTime 2 f.roundId [BitVec.ofNat 64 s2])).shown := by
  show execTimeSyncRx a s2 s = _
  simp only [execTimeSyncRx, h, hc, hl, Bool.not_false, Bool.and_self, if_true, done]

theorem exec_timeFollowUpRx (h : s.rxTime a 1 = some f) {x : Echo} (hx : ((s.rxTake a f).lard a).echo = some x) (hi : f.roundId = x.id)
    (hv : fld (f.words.getD 2 0) 0 1 = 1) :
    exec (.timeFollowUpRx a) s = .next (((s.rxTake a f).setLard a { (s.rxTake a f).lard a with echo := none }).correctTime
      ((((f.words.getD 0 0).toNat + (f.words.getD 1 0).toNat : Nat) : Int) - x.s2)).shown := by
  show execTimeFollowUpRx a s = _
  simp only [execTimeFollowUpRx, h, hc, hl, hx, hi, hv, beq_self_eq_true, Bool.not_false, Bool.and_self, if_true, done]

end

/-! ### The correction of DEVTIME (R74) -/

theorem sys_each {α : Type} {g : α → State → State} (hg : ∀ x t, (g x t).sys = t.sys) (l : List α) (s : State) : (s.each l g).sys = s.sys := by
  induction l generalizing s with
  | nil => rfl
  | cons x l ih => exact (ih (g x s)).trans (hg x s)

/-- An error above 1,000 ns is a step forward. -/
theorem correctTime_sys_step {err : Int} (h : 1000 < err) :
    (s.correctTime err).sys = { s.sys with devtime := s.sys.devtime + err.toNat, slew := 0, slewIn := 0, slewFast := false } := by
  unfold State.correctTime
  rw [if_pos h]
  exact sys_each (fun n t => State.gateStep_sys t s.sys.devtime n) _ _

/-- Any other error is slewed. -/
theorem correctTime_sys_slew {err : Int} (h : err ≤ 1000) :
    (s.correctTime err).sys = { s.sys with slew := err, slewFast := decide (err < -1000), slewIn := 0 } := by
  unfold State.correctTime
  rw [if_neg (Int.not_lt.2 h)]

theorem devtime_le_correctTime (s : State) (err : Int) : s.sys.devtime ≤ (s.correctTime err).sys.devtime := by
  by_cases h : 1000 < err
  · rw [correctTime_sys_step h]; exact Nat.le_add_right ..
  · rw [correctTime_sys_slew (Int.not_lt.1 h)]

/-- Settles O31, row by row. -/
theorem timeRounds : Obligations.TimeRounds := by
  refine ⟨?start, ?early, ?echo, ?echoFu, two_mul_roundDelay, ?timeout, ?sync, ?followUp, ?correct⟩
  case start =>
    intro s a hf hq hl hn
    rw [exec_timeRoundStart, roundStart_first hf hq hl hn]
  case early =>
    intro s a t hr hd
    rw [exec_timeRoundStart, roundStart_early hr hd]
  case echo =>
    intro s a t4 f r h hr hs
    exact ⟨fun hi => by rw [exec_timeEchoRx h hr hs, if_pos hi], fun hi => by rw [exec_timeEchoRx h hr hs, if_neg hi]⟩
  case echoFu =>
    intro s a s2 f r h hr hs hi
    exact exec_timeEchoFuRx h hr hs hi
  case timeout =>
    intro s a r hr hs
    exact ⟨fun hd => by rw [exec_timeRoundTimeout hr hs, if_pos hd],
      fun hd => by rw [exec_timeRoundTimeout hr hs, hd, if_neg Bool.false_ne_true]⟩
  case sync =>
    intro s a s2 f h hc hl
    exact exec_timeSyncRx hc hl h s2
  case followUp =>
    intro s a f x h hx hc hl hi hv
    exact exec_timeFollowUpRx hc hl h hx hi hv
  case correct =>
    intro s err
    refine ⟨devtime_le_correctTime s err, fun h => ?_, fun h => ?_⟩
    · rw [correctTime_sys_slew h]; exact ⟨rfl, rfl⟩
    · rw [correctTime_sys_step h]
      have hn : ((err.toNat : Nat) : Int) = err := Int.toNat_of_nonneg (by omega)
      exact ⟨by rw [Nat.cast_add, hn], rfl⟩

end Sys2Proof.Machine
end

section
/-!
PROOF. PERST_N, PME_Turn_Off, configuration requests and the power state of PF0 (R51, R53, R56 to R58, R504, R505, R534): one equation
per case of each row, and O21 from them.
-/

namespace Sys2Proof.Machine

variable {s : State}

/-! ### PERST_N (R51, R53, R534) -/

theorem exec_perstRelease (s : State) (clk : List Nat) : exec (.perstRelease clk) s = .next (s.perstHigh clk).shown := rfl

/-- Above DEEP_SLEEP with WAKE_N high the release only makes HST ACTIVE, takes the clock strap and offers the boot speed. -/
theorem perstHigh_awake (hp : s.sys.perst = true) (hk : s.sys.hkOn = true) (hr : s.pwr < 3) (hw : s.oas.wakeLow = false) (clk : List Nat) :
    s.perstHigh clk = { (({ s with sys := { s.sys with perst := false }, oas := { s.oas with pmeAck := false } }.sf
      pgHST HDR.PAGE_CTL_EN 1).sf pgHST HDR.PAGE_STS_ACTIVE 1).sf pgHST HST.LINK_CFG_CLK_MODE (majority clk) with
        host := { s.host with offer := s.gf pgHST HST.LINK_CFG_BOOT_SPEED } } := by
  let u : State := { s with sys := { s.sys with perst := false }, oas := { s.oas with pmeAck := false } }
  have h3 : ¬ 3 ≤ u.pwr := Nat.not_le.2 hr
  have he : ¬ (u.pwr == 3) = true := fun h => h3 (Nat.le_of_eq (beq_iff_eq.1 h).symm)
  have hh : u.wakeHigh = u := if_neg (by rw [show u.oas.wakeLow = false from hw]; exact Bool.false_ne_true)
  have hb : ((u.sf pgHST HDR.PAGE_CTL_EN 1).sf pgHST HDR.PAGE_STS_ACTIVE 1).gf pgHST HST.LINK_CFG_BOOT_SPEED
      = s.gf pgHST HST.LINK_CFG_BOOT_SPEED := by
    rw [State.gf_sf_of_disjoint _ _ _ (by decide) (.inl (by decide)), State.gf_sf_of_disjoint _ _ _ (by decide) (.inl (by decide))]
    rfl
  unfold State.perstHigh
  rw [if_neg (by rw [hp]; decide)]
  dsimp only
  rw [if_neg h3, hh, if_neg he, if_pos hk, hb]
  rfl

theorem exec_perstAssert (s : State) : exec .perstAssert s = .next s.perstLow.shown := rfl

theorem perstLow_again (hp : s.sys.perst = true) : s.perstLow = s := by
  unfold State.perstLow
  rw [if_pos hp]

section
variable (hp : s.sys.perst = false) (hk : s.sys.hkOn = true) (hd : s.defers = false)
include hp hk hd

/-- Without a request the assertion is a fundamental reset. -/
theorem perstLow_reset (hc : s.oas.cur = none) : s.perstLow = { s with sys := { s.sys with perst := true } }.wholeReset := by
  simp only [State.perstLow, hp, hk, hd, hc, Bool.and_false, Bool.not_true, Bool.false_eq_true, if_false]

/-- An armed request for DEEP_SLEEP or OFF takes effect once PME_TO_Ack was sent. -/
theorem perstLow_armed {r : PwrReq} (hc : s.oas.cur = some r) (ht : 3 ≤ r.target) (ha : s.gb pgOAS OAS.PWR_STS_ARMED = true)
    (hm : s.oas.pmeAck = true) :
    s.perstLow = ({ s with sys := { s.sys with perst := true }, oas := { s.oas with cur := none } } : State).powerOff r.target r.modes := by
  have ha' (y : Sys) : State.gb { s with sys := y } pgOAS OAS.PWR_STS_ARMED = true := ha
  simp only [State.perstLow, hp, hk, hd, hc, ha', hm, decide_eq_true ht, Bool.and_false, Bool.and_self, Bool.not_true,
    Bool.false_eq_true, if_false, if_true]

end

theorem exec_pmeTurnOff (h : s.gb pgHST HST.LINK_STS_DL_UP = true) :
    exec .pmeTurnOff s = .next ({ s with oas := { s.oas with pmeAck := true } }.emit .pmeToAck).shown := by
  show execPmeTurnOff s = _
  rw [execPmeTurnOff, if_pos h]
  rfl

/-! ### Configuration requests (R56 to R58) -/

theorem exec_configRequest (h : s.hostStall = false) (f : Nat) (r : CfgReg) (w : Option Nat) (tag : Nat) :
    exec (.configRequest f r w tag) s = .next (s.cfgRequest f r w tag).shown := by
  show execConfigRequest f r w tag s = _
  rw [execConfigRequest, h]
  rfl

section
variable (hp : s.sys.perst = false) (hk : s.sys.hkOn = true) (hr : s.gf pgOAS OAS.PWR_STS_STATE = 0) (hc : s.oas.cur = none)
include hp hk hr hc

theorem cfgRequest_retry (hb : s.gb pgDEV DEV.BOOT_STS_DONE = false) (f : Nat) (r : CfgReg) (w : Option Nat) (tag : Nat) :
    s.cfgRequest f r w tag = s.emit (.retry tag) := by
  unfold State.cfgRequest
  rw [hp, hk, wakeHint_of_run hr hc]
  dsimp only
  rw [hb]
  rfl

/-- Once the boot is done PF0 answers with Successful Completion. -/
theorem cfgRequest_pf0 (hb : s.gb pgDEV DEV.BOOT_STS_DONE = true) (r : CfgReg) (w : Option Nat) (tag : Nat) :
    s.cfgRequest 0 r w tag = match w with
      | some v => (s.cfgWrite 0 r v).emit (.cpl tag .sc [])
      | none => s.emit (.cpl tag .sc (bytesOf 4 (s.cfgRead 0 r))) := by
  unfold State.cfgRequest
  rw [hp, hk, wakeHint_of_run hr hc]
  dsimp only
  rw [hb]
  cases w <;> rfl

end

theorem cfgRead_vendorId (s : State) : s.cfgRead 0 .vendorId = 0x1F3C := rfl
theorem cfgRead_deviceId (s : State) : s.cfgRead 0 .deviceId = 0x1024 := rfl
theorem cfgRead_classCode (s : State) : s.cfgRead 0 .classCode = 0x068000 := rfl

/-- The one-bit registers of PF0 whose write has no other effect. -/
def flagRegs : List CfgReg := [.busMaster, .memSpace, .msixEnable, .funcMask, .atsEnable, .priEnable]

theorem cfgWritable_of_flag {r : CfgReg} (h : r ∈ flagRegs) : cfgWritable 0 r = true := by
  revert r
  decide

theorem cfgWrite_hidden {f : Nat} {r : CfgReg} (hs : s.cfgShown f r = false) (v : Nat) : s.cfgWrite f r v = s := by
  unfold State.cfgWrite
  rw [hs, if_pos (by rw [Bool.not_false, Bool.or_true])]

theorem cfgWrite_flag {r : CfgReg} (h : r ∈ flagRegs) (hs : s.cfgShown 0 r = true) (v : Nat) :
    s.cfgWrite 0 r v = (s.setCfg 0 r (v % 2)).settle := by
  unfold State.cfgWrite
  rw [cfgWritable_of_flag h, hs]
  simp only [flagRegs, List.mem_cons, List.not_mem_nil, or_false] at h
  rcases h with rfl | rfl | rfl | rfl | rfl | rfl <;> rfl

/-! ### The power state of PF0 (R504) -/

theorem exec_pmStateWrite (hb : s.gb pgDEV DEV.BOOT_STS_DONE = true) (hr : s.gf pgOAS OAS.PWR_STS_STATE = 0) (hc : s.oas.cur = none)
    (d3 : Bool) : exec (.pmStateWrite 0 d3) s = .next (s.pmWrite 0 (if d3 then 3 else 0)).shown := by
  show execPmStateWrite 0 d3 s = _
  rw [execPmStateWrite, if_pos hb, wakeHint_of_run hr hc]
  rfl

/-- Without an armed request D3hot enters no power state. -/
theorem pmWrite_d3 (hc : s.oas.cur = none) : s.pmWrite 0 3 = s.setCfg 0 .powerState 3 := by
  show (s.setCfg 0 .powerState 3).intoD3 = _
  rw [State.intoD3, show (s.setCfg 0 .powerState 3).oas.cur = none from hc]

/-- In RUN nothing returns from SLEEP. -/
theorem pmWrite_d0 (hr : s.gf pgOAS OAS.PWR_STS_STATE = 0) : s.pmWrite 0 0 = (s.setCfg 0 .powerState 0).settle := by
  show (s.setCfg 0 .powerState 0).intoD0.settle = _
  rw [State.intoD0, show (s.setCfg 0 .powerState 0).pwr = 0 from hr]
  rfl

/-- Settles O21, row by row. -/
theorem perstAndConfiguration : Obligations.PerstAndConfiguration := by
  refine ⟨?release, ?reset, ?armed, ?again, fun s h => exec_pmeTurnOff h, ?retry, ?read, ?write, ?d3, ?d0⟩
  case release =>
    intro s clk hp hk hr hw
    rw [exec_perstRelease, perstHigh_awake hp hk hr hw]
  case reset =>
    intro s hp hk hd hc
    rw [exec_perstAssert, perstLow_reset hp hk hd hc]
  case armed =>
    intro s r hp hk hd hc ht ha hm
    rw [exec_perstAssert, perstLow_armed hp hk hd hc ht ha hm]
  case again =>
    intro s hp
    rw [exec_perstAssert, perstLow_again hp]
  case retry =>
    intro s f tag r w hs hp hk hr hc hb
    rw [exec_configRequest hs, cfgRequest_retry hp hk hr hc hb]
  case read =>
    intro s tag r hs hp hk hr hc hb
    exact ⟨by rw [exec_configRequest hs, cfgRequest_pf0 hp hk hr hc hb], cfgRead_vendorId s, cfgRead_deviceId s, cfgRead_classCode s⟩
  case write =>
    intro s tag v r hm hs hp hk hr hc hb hq
    refine ⟨fun hv => ?_, fun hv => ?_⟩
    · rw [exec_configRequest hs, cfgRequest_pf0 hp hk hr hc hb]
      dsimp only
      rw [cfgWrite_flag hm hv, settle_of_calm ((calm_setCfg ..).trans hq)]
    · rw [exec_configRequest hs, cfgRequest_pf0 hp hk hr hc hb]
      dsimp only
      rw [cfgWrite_hidden hv]
  case d3 =>
    intro s hb hr hc
    rw [exec_pmStateWrite hb hr hc, if_pos rfl, pmWrite_d3 hc]
  case d0 =>
    intro s hb hr hc hq
    rw [exec_pmStateWrite hb hr hc, if_neg Bool.false_ne_true, pmWrite_d0 hr, settle_of_calm ((calm_setCfg ..).trans hq)]

end Sys2Proof.Machine
end

section
/-!
PROOF. The link of the host port and its rate (R49, R50, R53 to R55, R522): what showing a rate and width does, what Recovery and a
change of LIMIT do, the lanes in use, and O22 from that.
-/

namespace Sys2Proof.Machine

variable {s : State} {v w : Nat}

/-! ### The lanes in use (R50) -/

/-- The POL_INV bits of a list of lanes. -/
def laneMask (l : List Nat) : Nat := (l.map (fun i => 2 ^ i)).foldl (· + ·) 0

theorem laneMask_append (l : List Nat) (i : Nat) : laneMask (l ++ [i]) = laneMask l + 2 ^ i := by
  simp only [laneMask, List.map_append, List.foldl_append, List.map_cons, List.map_nil, List.foldl_cons, List.foldl_nil]

theorem hostLanes_succ (w : Nat) (r : Bool) : hostLanes (w + 1) r = hostLanes w r ++ [if r then 15 - w else w] := by
  simp only [hostLanes, List.range_succ, List.map_append, List.map_cons, List.map_nil]

theorem laneMask_forward (w : Nat) : laneMask (hostLanes w false) = 2 ^ w - 1 := by
  induction w with
  | zero => rfl
  | succ w ih =>
    have hp : 0 < 2 ^ w := Nat.two_pow_pos w
    rw [hostLanes_succ, laneMask_append, ih, if_neg Bool.false_ne_true, Nat.pow_succ]
    omega

theorem laneMask_reversed {w : Nat} (h : w ≤ 16) : laneMask (hostLanes w true) = 2 ^ (16 - w) * (2 ^ w - 1) := by
  induction w with
  | zero => rfl
  | succ w ih =>
    have he : 16 - w = (15 - w) + 1 := by omega
    have hs : 16 - (w + 1) = 15 - w := by omega
    have hp : 2 ^ (w + 1) - 1 = 2 * (2 ^ w - 1) + 1 := by
      have := Nat.two_pow_pos w
      rw [Nat.pow_succ]
      omega
    rw [hostLanes_succ, laneMask_append, ih (by omega), if_pos rfl, hs, he, hp, Nat.pow_succ]
    ring

theorem mem_hostLanes {w i : Nat} {r : Bool} : i ∈ hostLanes w r ↔ ∃ j < w, (if r then 15 - j else j) = i := by
  simp only [hostLanes, List.mem_map, List.mem_range]

theorem testBit_laneMask {w i : Nat} {r : Bool} (hi : i < 16) (h : i ∉ hostLanes w r) : (laneMask (hostLanes w r)).testBit i = false := by
  rw [mem_hostLanes] at h
  cases r with
  | false =>
    have hw : w ≤ i := Nat.not_lt.1 fun hw => h ⟨i, hw, rfl⟩
    rw [laneMask_forward, Nat.testBit_two_pow_sub_one, decide_eq_false (by omega)]
  | true =>
    have hw : w ≤ 15 - i := Nat.not_lt.1 fun hw => h ⟨15 - i, hw, by rw [if_pos rfl]; omega⟩
    rw [laneMask_reversed (by omega), Nat.testBit_two_pow_mul, decide_eq_false (by omega), Bool.false_and]

theorem bitAt_eq_testBit (n i : Nat) : bitAt n i = n.testBit i := by
  rw [bitAt, Nat.testBit_eq_decide_div_mod_eq]
  rfl

theorem lanesUse_lanes (s : State) :
    s.lanesUse.host.lanes = hostLanes (s.gf pgHST HST.LINK_STS_WIDTH) (s.gb pgHST HST.LINK_STS_REVERSED) := by
  simp only [State.lanesUse, State.sf_host]

theorem polInv_lanesUse (s : State) :
    s.lanesUse.gf pgHST HST.LINK_STS_POL_INV = (s.gf pgHST HST.LINK_STS_POL_INV &&& laneMask s.lanesUse.host.lanes) % 2 ^ 16 := by
  rw [lanesUse_lanes]
  exact State.gf_sf_self _ _ _ _ (by decide)

theorem polInv_lanesUse_unused {i : Nat} (h : i ∉ s.lanesUse.host.lanes) :
    bitAt (s.lanesUse.gf pgHST HST.LINK_STS_POL_INV) i = false := by
  rw [polInv_lanesUse, bitAt_eq_testBit, Nat.testBit_mod_two_pow]
  by_cases hi : i < 16
  · rw [lanesUse_lanes] at h ⊢
    rw [Nat.testBit_and, testBit_laneMask hi h, Bool.and_false, Bool.and_false]
  · rw [decide_eq_false hi, Bool.false_and]

/-! ### The rate and width shown -/

/-- What the link's rate and width touch: LINK_STS, RETRAINS, EVT_RAW of HST, and what an event touches beyond its page. -/
def linkRegs : List Nat := raddr pgHST 0x40 :: raddr pgHST HST.CNT_RETRAINS :: raddr pgHST 0x10 :: fireRegs

theorem regsBut_linkSts (s : State) {f : Fld} (v : Nat) (h : f.off = 0x40) : RegsBut linkRegs s (s.sf pgHST f v) :=
  regsBut_sf s v (by rw [h]; exact List.mem_cons_self)

theorem regsBut_linkEvent (s : State) (b : Nat) : RegsBut linkRegs s (s.event pgHST b) :=
  (regsBut_event s pgHST b).mono fun _ h => List.mem_cons_of_mem _ (List.mem_cons_of_mem _ h)

/-- The state with a rate and width, and the lanes that go with them. -/
def State.linkAt (s : State) (v w : Nat) : State := ((s.sf pgHST HST.LINK_STS_SPEED v).sf pgHST HST.LINK_STS_WIDTH w).lanesUse

theorem regsBut_lanesUse (s : State) : RegsBut linkRegs s s.lanesUse := by
  unfold State.lanesUse
  extract_lets l mask
  exact (regsBut_of_regs rfl : RegsBut linkRegs s { s with host := { s.host with lanes := l } }).trans (regsBut_linkSts _ _ rfl)

theorem regsBut_linkAt (s : State) (v w : Nat) : RegsBut linkRegs s (s.linkAt v w) :=
  ((regsBut_linkSts s v rfl).trans (regsBut_linkSts _ w rfl)).trans (regsBut_lanesUse _)

theorem gf_linkAt {f : Fld} (hv : 4 ≤ f.lo) (hw : f.lo + f.w ≤ 8 ∨ 13 ≤ f.lo) (hp : f.lo + f.w ≤ 16) :
    (s.linkAt v w).gf pgHST f = s.gf pgHST f := by
  have hl (t : State) : t.lanesUse.gf pgHST f = t.gf pgHST f := State.gf_sf_of_disjoint _ _ _ (by decide) (.inr (.inl hp))
  rw [State.linkAt, hl, State.gf_sf_of_disjoint _ _ _ (by decide) (.inr (by exact hw)), State.gf_sf_of_disjoint _ _ _ (by decide) (.inr (.inr (by exact hv)))]

theorem dlUp_linkAt (s : State) (v w : Nat) : (s.linkAt v w).gb pgHST HST.LINK_STS_DL_UP = s.gb pgHST HST.LINK_STS_DL_UP :=
  congrArg (· == 1) (gf_linkAt (by decide) (.inr (by decide)) (by decide))

theorem speed_linkAt (s : State) (v w : Nat) : (s.linkAt v w).gf pgHST HST.LINK_STS_SPEED = v % 16 := by
  have hl (t : State) : t.lanesUse.gf pgHST HST.LINK_STS_SPEED = t.gf pgHST HST.LINK_STS_SPEED :=
    State.gf_sf_of_disjoint _ _ _ (by decide) (.inr (.inl (by decide)))
  rw [State.linkAt, hl, State.gf_sf_of_disjoint _ _ _ (by decide) (.inr (.inl (by decide))), State.gf_sf_self _ _ _ _ (by decide)]
  rfl

/-- While DL_UP is 0 a change is no event. -/
theorem linkShow_down (h : s.gb pgHST HST.LINK_STS_DL_UP = false) (v w : Nat) : s.linkShow v w = s.linkAt v w := by
  have hd := (dlUp_linkAt s v w).trans h
  unfold State.linkAt at hd ⊢
  unfold State.linkShow
  dsimp only
  rw [hd, Bool.and_false, if_neg Bool.false_ne_true]

theorem linkShow_same (hv : s.gf pgHST HST.LINK_STS_SPEED = v) (hw : s.gf pgHST HST.LINK_STS_WIDTH = w) : s.linkShow v w = s.linkAt v w := by
  unfold State.linkShow
  refine if_neg ?_
  rw [hv, hw, bne_self_eq_false, bne_self_eq_false, Bool.or_self, Bool.false_and]
  exact Bool.false_ne_true

theorem linkShow_changed (h : s.gb pgHST HST.LINK_STS_DL_UP = true) (hv : s.gf pgHST HST.LINK_STS_SPEED ≠ v) (w : Nat) :
    s.linkShow v w = (s.linkAt v w).event pgHST 2 := by
  have hd := (dlUp_linkAt s v w).trans h
  unfold State.linkAt at hd ⊢
  unfold State.linkShow
  dsimp only
  rw [hd, bne_iff_ne.2 hv, Bool.true_or, Bool.and_self, if_pos rfl]

/-! ### LIMIT and ADMITTED (R54) -/

/-- LIMIT and ADMITTED stand apart from what the link shows. -/
theorem admitted_of_regsBut {t : State} (h : RegsBut linkRegs s t) : t.gf pgHST HST.SPEED_CTL_ADMITTED = s.gf pgHST HST.SPEED_CTL_ADMITTED :=
  h.gf (by decide)

theorem speedLimit_of_regsBut {t : State} (h : RegsBut linkRegs s t) : t.speedLimit = s.speedLimit := by
  rw [State.speedLimit, h.gf (by decide), h.gf (by decide), State.speedLimit]

theorem speedSettle_of_within (h : s.gf pgHST HST.SPEED_CTL_ADMITTED ≤ s.speedLimit) : s.speedSettle = s := by
  unfold State.speedSettle
  refine if_neg ?_
  rw [decide_eq_false (Nat.not_lt.2 h), Bool.false_and]
  exact Bool.false_ne_true

theorem speedSettle_of_regsBut {t : State} (h : RegsBut linkRegs s t) (hl : s.gf pgHST HST.SPEED_CTL_ADMITTED ≤ s.speedLimit) :
    t.speedSettle = t :=
  speedSettle_of_within (by rwa [admitted_of_regsBut h, speedLimit_of_regsBut h])

theorem speedSettle_lowered (h : s.speedLimit < s.gf pgHST HST.SPEED_CTL_ADMITTED) (hv : s.gf pgHST HST.LINK_STS_SPEED ≤ s.speedLimit) :
    s.speedSettle = (s.sf pgHST HST.SPEED_CTL_ADMITTED s.speedLimit).giveBack pgHST
      (hostDraw (s.gf pgHST HST.SPEED_CTL_ADMITTED) - hostDraw s.speedLimit) 0 := by
  unfold State.speedSettle
  refine if_pos ?_
  rw [decide_eq_true h, decide_eq_true hv]
  rfl

theorem speedLimit_lt (s : State) : s.speedLimit < 16 := Nat.lt_of_le_of_lt (Nat.min_le_left ..) (s.gf_lt pgHST HST.SPEED_CTL_LIMIT)

/-! ### The link comes up (R49, R53) -/

theorem exec_hostLinkUp (hu : s.gb pgHST HST.LINK_STS_DL_UP = false) (hp : s.sys.perst = false) (hb : s.gb pgDEV DEV.BOOT_STS_DONE = true)
    (flit rev : Bool) (pol : BitVec 16) :
    exec (.hostLinkUp v w flit rev pol) s = .next (s.linkUp v w flit rev pol).shown := by
  show execHostLinkUp v w flit rev pol s = _
  simp only [execHostLinkUp, hu, hp, hb, Bool.not_true, Bool.or_self, Bool.false_eq_true, if_false, done]

theorem linkUp_within (hu : s.gb pgHST HST.LINK_STS_DL_UP = false) (hl : s.gf pgHST HST.SPEED_CTL_ADMITTED ≤ s.speedLimit)
    (speed width : Nat) (flit rev : Bool) (pol : BitVec 16) :
    let v := min speed (min s.host.offer s.speedOffer)
    s.linkUp speed width flit rev pol = (((((s.sf pgHST HST.LINK_STS_REVERSED (b2n rev)).sf pgHST HST.LINK_STS_POL_INV pol.toNat).sf
      pgHST HST.LINK_STS_FLIT (b2n (s.flitAt v flit))).linkAt v (min width (s.gf pgHST HST.LINK_CFG_WIDTH_MAX))).sf
        pgHST HST.LINK_STS_DL_UP 1).event pgHST 0 := by
  intro v
  let u := ((s.sf pgHST HST.LINK_STS_REVERSED (b2n rev)).sf pgHST HST.LINK_STS_POL_INV pol.toNat).sf pgHST HST.LINK_STS_FLIT (b2n (s.flitAt v flit))
  have hk : RegsBut linkRegs s u := (regsBut_linkSts s _ rfl).trans ((regsBut_linkSts _ _ rfl).trans (regsBut_linkSts _ _ rfl))
  have hd : u.gb pgHST HST.LINK_STS_DL_UP = false := by
    rw [State.gb, State.gf_sf_of_disjoint _ _ _ (by decide) (.inr (by decide)), State.gf_sf_of_disjoint _ _ _ (by decide) (.inr (by decide)),
      State.gf_sf_of_disjoint _ _ _ (by decide) (.inr (by decide))]
    exact hu
  have hw : u.gf pgHST HST.LINK_CFG_WIDTH_MAX = s.gf pgHST HST.LINK_CFG_WIDTH_MAX := hk.gf (by decide)
  show ((((u.linkShow v (min width (u.gf pgHST HST.LINK_CFG_WIDTH_MAX))).sf pgHST HST.LINK_STS_DL_UP 1).event pgHST 0).speedSettle) = _
  rw [hw, linkShow_down hd]
  exact speedSettle_of_regsBut (hk.trans ((regsBut_linkAt u _ _).trans ((regsBut_linkSts _ _ rfl).trans (regsBut_linkEvent _ _)))) hl

/-! ### Recovery (R54, R55) -/

/-- Recovery at a rate: from its entry the bridge offers the rates in force, and it counts. -/
def State.retrained (s : State) (v : Nat) : State :=
  ({ s with host := { s.host with offer := s.speedOffer } }.sf pgHST HST.LINK_STS_FLIT
    (b2n (s.flitAt v (s.gb pgHST HST.LINK_STS_FLIT)))).cnt pgHST HST.CNT_RETRAINS

theorem regsBut_retrained (s : State) (v : Nat) : RegsBut linkRegs s (s.retrained v) :=
  (regsBut_of_regs rfl : RegsBut linkRegs s { s with host := { s.host with offer := s.speedOffer } }).trans
    ((regsBut_linkSts _ _ rfl).trans (regsBut_cnt _ _ (by decide)))

theorem gf_retrained {f : Fld} (ho : f.off = 0x40) (hd : f.lo + f.w ≤ 13 ∨ 14 ≤ f.lo) : (s.retrained v).gf pgHST f = s.gf pgHST f := by
  rw [State.retrained, State.gf_cnt_of_ne _ _ (by rw [ho]; decide), State.gf_sf_of_disjoint _ _ _ (by decide) (.inr hd)]
  rfl

theorem dlUp_retrained (s : State) (v : Nat) : (s.retrained v).gb pgHST HST.LINK_STS_DL_UP = s.gb pgHST HST.LINK_STS_DL_UP :=
  congrArg (· == 1) (gf_retrained rfl (.inr (by decide)))

theorem speed_retrained (s : State) (v : Nat) : (s.retrained v).gf pgHST HST.LINK_STS_SPEED = s.gf pgHST HST.LINK_STS_SPEED :=
  gf_retrained rfl (.inl (by decide))

theorem width_retrained (s : State) (v : Nat) : (s.retrained v).gf pgHST HST.LINK_STS_WIDTH = s.gf pgHST HST.LINK_STS_WIDTH :=
  gf_retrained rfl (.inl (by decide))

section
variable (hu : s.gb pgHST HST.LINK_STS_DL_UP = true)
include hu

theorem recovered_of_up {speed : Nat} (hv : min speed s.speedOffer = v) (w : Nat) :
    s.recovered speed w = ((s.retrained v).linkShow v w).speedSettle := by
  unfold State.recovered
  rw [if_pos hu, ← hv]
  rfl

section
variable (hl : s.gf pgHST HST.SPEED_CTL_ADMITTED ≤ s.speedLimit)
include hl

theorem recovered_changed {speed : Nat} (hv : min speed s.speedOffer = v) (hc : s.gf pgHST HST.LINK_STS_SPEED ≠ v) (w : Nat) :
    s.recovered speed w = ((s.retrained v).linkAt v w).event pgHST 2 := by
  rw [recovered_of_up hu hv, linkShow_changed ((dlUp_retrained s v).trans hu) (by rwa [speed_retrained])]
  exact speedSettle_of_regsBut ((regsBut_retrained s v).trans ((regsBut_linkAt _ _ _).trans (regsBut_linkEvent _ _))) hl

theorem recovered_same {speed : Nat} (hv : min speed s.speedOffer = v) (hc : s.gf pgHST HST.LINK_STS_SPEED = v)
    (hw : s.gf pgHST HST.LINK_STS_WIDTH = w) : s.recovered speed w = (s.retrained v).linkAt v w := by
  rw [recovered_of_up hu hv, linkShow_same ((speed_retrained s v).trans hc) ((width_retrained s v).trans hw)]
  exact speedSettle_of_regsBut ((regsBut_retrained s v).trans (regsBut_linkAt _ _ _)) hl

end

/-- Recovery at a lowered LIMIT lowers ADMITTED and returns the difference. -/
theorem recovered_lowered {speed : Nat} (hv : min speed s.speedOffer = s.speedLimit) (hl : s.speedLimit < s.gf pgHST HST.SPEED_CTL_ADMITTED)
    (hc : s.speedLimit < s.gf pgHST HST.LINK_STS_SPEED) (w : Nat) :
    s.recovered speed w = ((((s.retrained s.speedLimit).linkAt s.speedLimit w).event pgHST 2).sf pgHST HST.SPEED_CTL_ADMITTED
      s.speedLimit).giveBack pgHST (hostDraw (s.gf pgHST HST.SPEED_CTL_ADMITTED) - hostDraw s.speedLimit) 0 := by
  have hk := (regsBut_retrained s s.speedLimit).trans (regsBut_linkAt _ s.speedLimit w)
  have hk' := hk.trans (regsBut_linkEvent _ 2)
  have hs : (((s.retrained s.speedLimit).linkAt s.speedLimit w).event pgHST 2).gf pgHST HST.LINK_STS_SPEED = s.speedLimit := by
    rw [(regsBut_event _ _ _).gf (by decide), speed_linkAt, Nat.mod_eq_of_lt (speedLimit_lt s)]
  rw [recovered_of_up hu hv, linkShow_changed ((dlUp_retrained s _).trans hu) (by rw [speed_retrained]; exact Nat.ne_of_gt hc),
    speedSettle_lowered (by rwa [speedLimit_of_regsBut hk', admitted_of_regsBut hk']) (by rw [hs, speedLimit_of_regsBut hk']),
    speedLimit_of_regsBut hk', admitted_of_regsBut hk']

end

theorem exec_hostRecovery (s : State) (speed width : Nat) :
    exec (.hostRecovery speed width) s = .next (s.recovered (if s.gb pgHST HST.SPEED_CTL_AUTO_UP then speed else
      min speed (s.gf pgHST HST.LINK_STS_SPEED)) (min width (s.gf pgHST HST.LINK_CFG_WIDTH_MAX))).shown := rfl

theorem exec_hostRetrainLink {target : Nat} (h : target < 16) (most : Nat) :
    exec (.hostRetrainLink target most) s = .next ((s.setCfg 0 .targetSpeed target).recovered
      (max 1 (min (min target most) s.speedOffer)) (s.gf pgHST HST.LINK_STS_WIDTH)).shown := by
  show execHostRetrainLink target most s = _
  rw [execHostRetrainLink, Nat.mod_eq_of_lt h]
  rfl

/-- Within LIMIT the bridge offers what is admitted. -/
theorem speedOffer_of_within (hl : s.gf pgHST HST.SPEED_CTL_ADMITTED ≤ s.speedLimit) (h1 : 1 ≤ s.gf pgHST HST.SPEED_CTL_ADMITTED) :
    s.speedOffer = s.gf pgHST HST.SPEED_CTL_ADMITTED := by
  rw [State.speedOffer, Nat.min_eq_left hl, Nat.max_eq_right h1]

/-- At the lowered LIMIT the bridge offers that rate. -/
theorem min_speedLimit_speedOffer (hl : s.speedLimit < s.gf pgHST HST.SPEED_CTL_ADMITTED) : min s.speedLimit s.speedOffer = s.speedLimit := by
  rw [State.speedOffer, Nat.min_eq_right hl.le, Nat.min_eq_left (Nat.le_max_right ..)]

/-! ### LIMIT is written (R54) -/

/-- LIMIT and AUTO_UP as written. -/
def State.limitSet (s : State) (limit : Nat) (auto : Bool) : State :=
  (s.sf pgHST HST.SPEED_CTL_LIMIT limit).sf pgHST HST.SPEED_CTL_AUTO_UP (b2n auto)

theorem admitted_limitSet (s : State) (limit : Nat) (auto : Bool) :
    (s.limitSet limit auto).gf pgHST HST.SPEED_CTL_ADMITTED = s.gf pgHST HST.SPEED_CTL_ADMITTED := by
  rw [State.limitSet, State.gf_sf_of_disjoint _ _ _ (by decide) (.inr (by decide)), State.gf_sf_of_disjoint _ _ _ (by decide) (.inr (by decide))]

theorem speedLimit_limitSet {limit : Nat} (h : limit < 16) (auto : Bool) :
    (s.limitSet limit auto).speedLimit = min limit (s.gf pgHST HST.LINK_CFG_SPEED_MAX) := by
  have hl : (s.limitSet limit auto).gf pgHST HST.SPEED_CTL_LIMIT = limit := by
    rw [State.limitSet, State.gf_sf_of_disjoint _ _ _ (by decide) (.inr (by decide)), State.gf_sf_self _ _ _ _ (by decide)]
    exact Nat.mod_eq_of_lt h
  have hm : (s.limitSet limit auto).gf pgHST HST.LINK_CFG_SPEED_MAX = s.gf pgHST HST.LINK_CFG_SPEED_MAX := by
    rw [State.limitSet, State.gf_sf_of_ne _ _ (by decide), State.gf_sf_of_ne _ _ (by decide)]
  rw [State.speedLimit, hl, hm]

theorem gf_cis_limitSet (s : State) (limit : Nat) (auto : Bool) {f : Fld} (h : f.off < 4096) :
    (s.limitSet limit auto).gf pgCIS f = s.gf pgCIS f := by
  have hn (g : Fld) (hg : g.off < 4096) : raddr pgCIS f.off ≠ raddr pgHST g.off := raddr_ne (by decide) h hg
  rw [State.limitSet, State.gf_sf_of_ne _ _ (hn _ (by decide)), State.gf_sf_of_ne _ _ (hn _ (by decide))]

theorem admissible_limitSet (s : State) (limit : Nat) (auto : Bool) (v l : Nat) :
    (s.limitSet limit auto).admissible v l = s.admissible v l := by
  unfold State.admissible State.gb
  rw [gf_cis_limitSet s limit auto (by decide), gf_cis_limitSet s limit auto (by decide), gf_cis_limitSet s limit auto (by decide),
    gf_cis_limitSet s limit auto (by decide), gf_cis_limitSet s limit auto (by decide), gf_cis_limitSet s limit auto (by decide),
    gf_cis_limitSet s limit auto (by decide)]

/-- A request for one page is admitted or refused by its own amounts. -/
theorem askCistern_one (p v l : Nat) :
    s.askCistern p [(p, v, l)] = if s.admissible v l = true then
      (((s.addDraw p v l).cnt pgCIS CIS.CNT_ADMITTED).sf p HDR.PAGE_STS_NOT_ADMITTED 0, true) else (s.refuse p v l, false) := by
  have ht : totalDraw [(p, v, l)] = (v, l) := by rw [totalDraw, List.foldl_cons, List.foldl_nil, Nat.zero_add, Nat.zero_add]
  have he (f : Nat × Nat × Nat → State → State) : s.each [(p, v, l)] f = f (p, v, l) s := rfl
  unfold State.askCistern
  rw [ht, he]

theorem exec_speedLimitWrite (s : State) (limit : Nat) (auto : Bool) :
    exec (.speedLimitWrite limit auto) s = .next (s.speedWrite limit auto).shown := rfl

theorem speedWrite_eq {limit : Nat} (h : limit < 16) (auto : Bool) :
    s.speedWrite limit auto =
      let want := min limit (s.gf pgHST HST.LINK_CFG_SPEED_MAX)
      let was := s.gf pgHST HST.SPEED_CTL_ADMITTED
      let t := s.limitSet limit auto
      let d := hostDraw want - hostDraw was
      if was < want then
        if s.admissible d 0 = true then
          (((t.addDraw pgHST d 0).cnt pgCIS CIS.CNT_ADMITTED).sf pgHST HDR.PAGE_STS_NOT_ADMITTED 0).sf pgHST HST.SPEED_CTL_ADMITTED want
        else ((t.refuse pgHST d 0).cnt pgHST HST.CNT_SPEED_REFUSALS).event pgHST 3
      else t := by
  have hs : (s.sf pgHST HST.SPEED_CTL_LIMIT limit).sf pgHST HST.SPEED_CTL_AUTO_UP (b2n auto) = s.limitSet limit auto := rfl
  unfold State.speedWrite
  rw [hs]
  dsimp only
  rw [admitted_limitSet, speedLimit_limitSet h, askCistern_one, admissible_limitSet]
  by_cases ha : s.admissible (hostDraw (min limit (s.gf pgHST HST.LINK_CFG_SPEED_MAX))
      - hostDraw (s.gf pgHST HST.SPEED_CTL_ADMITTED)) 0 = true
  · rw [if_pos ha, if_pos ha]
  · rw [if_neg ha, if_neg ha]

/-! ### AUTO_UP (R55) -/

theorem exec_speedAutoUp (ha : s.gb pgHST HST.SPEED_CTL_AUTO_UP = true) (hu : s.gb pgHST HST.LINK_STS_DL_UP = true)
    (hv : s.gf pgHST HST.LINK_STS_SPEED < s.speedOffer) : exec .speedAutoUp s = .next (s.emit (.linkSpeed s.speedOffer)).shown := by
  show execSpeedAutoUp s = _
  rw [execSpeedAutoUp, ha, hu, decide_eq_true hv]
  rfl

theorem exec_speedAutoUp_off (ha : s.gb pgHST HST.SPEED_CTL_AUTO_UP = false) : exec .speedAutoUp s = .next s.shown := by
  show execSpeedAutoUp s = _
  rw [execSpeedAutoUp, ha]
  rfl

/-- Settles O22, row by row. -/
theorem hostLinkAndSpeed : Obligations.HostLinkAndSpeed := by
  refine ⟨?up, ?recovery, ?retrain, ?limit, ?lowered, ?lanes, fun s ha hu hv => exec_speedAutoUp ha hu hv, fun s ha => exec_speedAutoUp_off ha⟩
  case up =>
    intro s speed width flit rev pol hu hp hb hl v t
    rw [exec_hostLinkUp hu hp hb, linkUp_within hu hl]
    rfl
  case recovery =>
    intro s speed width hu hl v w u t
    refine ⟨fun hc => ?_, fun hc hw => ?_⟩
    · rw [exec_hostRecovery, recovered_changed hu hl rfl hc]
      rfl
    · rw [exec_hostRecovery, recovered_same hu hl rfl hc hw]
      rfl
  case retrain =>
    intro s target most ht hu hl r hc h1 c u
    have ho := speedOffer_of_within hl h1
    have hr : min (max 1 (min (min target most) s.speedOffer)) c.speedOffer = r := by
      rw [show c.speedOffer = s.gf pgHST HST.SPEED_CTL_ADMITTED from ho, ho]
      omega
    rw [exec_hostRetrainLink ht, recovered_changed (s := c) hu hl hr hc, State.retrained,
      show c.speedOffer = s.gf pgHST HST.SPEED_CTL_ADMITTED from ho]
    rfl
  case limit =>
    intro s limit auto h want was t
    rw [exec_speedLimitWrite, speedWrite_eq h]
    refine ⟨fun hw ha => ?_, fun hw ha => ?_, fun hw => ?_⟩
    · dsimp only
      rw [if_pos hw, if_pos ha]
      rfl
    · dsimp only
      rw [if_pos hw, if_neg (by rw [ha]; exact Bool.false_ne_true)]
      rfl
    · dsimp only
      rw [if_neg (Nat.not_lt.2 hw)]
      rfl
  case lowered =>
    intro s width hu hl hc u
    have hv : (if s.gb pgHST HST.SPEED_CTL_AUTO_UP then s.speedLimit else min s.speedLimit (s.gf pgHST HST.LINK_STS_SPEED)) = s.speedLimit := by
      rw [Nat.min_eq_left hc.le, ite_self]
    rw [exec_hostRecovery, hv, recovered_lowered hu (min_speedLimit_speedOffer hl) hl hc]
    rfl
  case lanes =>
    exact fun s => ⟨lanesUse_lanes s, fun i hi => polInv_lanesUse_unused hi⟩

end Sys2Proof.Machine
end

section
/-!
PROOF. Completions for the bridge's own requests, MSI-X tables, invalidations, translations and page requests (R66, R68 to R71, R75, R88,
R267): one equation per case of each row, and O25 from them.
-/

namespace Sys2Proof.Machine

variable {s : State}

/-! ### The end of a request (R66, R267) -/

/-- What ends with a request leaves nothing that waits. -/
theorem calm_endHostReq (s : State) (r : HostReq) : (s.endHostReq r).calm = s.calm := rfl

theorem endHostReq_cache (s : State) (r : HostReq) : (s.endHostReq r).host.cache = s.host.cache := rfl

theorem endHostReq_invals (s : State) (r : HostReq) :
    (s.endHostReq r).host.invals = s.host.invals.map (fun v => { v with tags := v.tags.filter (fun t => t != r.txn) }) := rfl

/-- The Gallery's counters are apart from what a request was made for. -/
theorem oldCompletion_viaGallery (s : State) (q r : HostReq) : (s.viaGallery q).oldCompletion r = s.oldCompletion r := by
  have hc (t : State) : ((t.cnt pgSWC SWC.CNT_FRAMES_IN).cnt pgSWC SWC.CNT_FRAMES_OUT).oldCompletion r = t.oldCompletion r := by
    unfold State.oldCompletion State.hallGen State.hallSt
    simp only [State.tf_cnt]
  unfold State.viaGallery
  extract_lets own
  split
  · rfl
  · exact hc s

/-- The last data of a request ends it and goes to its requester. -/
theorem hostData_last {r : HostReq} {data : List Byte} (ho : s.oldCompletion r = false) (hg : r.got = []) (hl : data.length = r.len) :
    s.hostData r data = (s.endHostReq r).hostResult r 0 data := by
  have ht : (r.got ++ data).take r.len = data := by rw [hg, List.nil_append, ← hl, List.take_length]
  simp only [State.hostData, ht, hl, ho, Nat.lt_irrefl, Bool.false_eq_true, if_false]

theorem hostCpl_sc {r : HostReq} (ho : s.oldCompletion r = false) (data : List Byte) (h0 h1 h2 : Word) :
    s.hostCpl r .sc data false h0 h1 h2 = s.hostData r data := by
  simp only [State.hostCpl, ho, Bool.false_eq_true, if_false]

section
variable (hr : s.gf pgOAS OAS.PWR_STS_STATE = 0) (hc : s.oas.cur = none) (hi : s.host.ide = [])
include hr hc hi

/-- Without an IDE stream a completion in the clear passes. -/
theorem ideCheck_completion (rid : Nat) : (s.wakeHint OAS.WAKE_FLAG_HOST).ideCheck .clear rid 2 = (s, true) := by
  rw [wakeHint_of_run hr hc, State.ideCheck, hi]
  rfl

theorem hostCompletion_known {r : HostReq} {tag : Nat} (hf : s.host.reqs.find? (fun x => x.txn == tag) = some r) (st : CplStatus)
    (data : List Byte) (c : Nat) (p : Bool) (h0 h1 h2 : Word) :
    s.hostCompletion tag st data c .clear p h0 h1 h2 = (s.viaGallery r).hostCpl r st data p h0 h1 h2 := by
  unfold State.hostCompletion
  rw [ideCheck_completion hr hc hi]
  dsimp only
  rw [hf]

theorem hostCompletion_unexpected {tag : Nat} (hf : s.host.reqs.find? (fun x => x.txn == tag) = none) (st : CplStatus)
    (data : List Byte) (c : Nat) (p : Bool) (h0 h1 h2 : Word) :
    s.hostCompletion tag st data c .clear p h0 h1 h2 = s.unexpected tag c := by
  unfold State.hostCompletion
  rw [ideCheck_completion hr hc hi]
  dsimp only
  rw [hf]

end

theorem calm_unexpected (s : State) (tag c : Nat) : (s.unexpected tag c).calm = s.calm := by
  rw [State.unexpected, calm_aer, State.badTlp, calm_error, calm_cnt]

theorem exec_hostCompletion (s : State) (tag : Nat) (st : CplStatus) (data : List Byte) (c : Nat) (ide : IdeCheck) (p : Bool)
    (h0 h1 h2 : Word) :
    exec (.hostCompletion tag st data c ide p h0 h1 h2) s = .next (s.hostCompletion tag st data c ide p h0 h1 h2).settle.shown := rfl

theorem exec_cplTimeout (s : State) (tag : Nat) : exec (.cplTimeout tag) s = .next (s.cplExpire tag).settle.shown := rfl

/-- A request whose timeout has passed is abandoned. -/
theorem cplExpire_due {r : HostReq} {tag : Nat} (hf : s.host.reqs.find? (fun x => x.txn == tag) = some r)
    (hd : s.cfgRaw r.func .cplTimeoutDis = 0) (ht : s.due (r.issued + s.cplTimeout r.func) = true) :
    s.cplExpire tag = (((s.cnt pgHST HST.CNT_CPL_TIMEOUTS).error pgHST 4 0x01 (r.func % 256 + r.tag % 2 ^ 14 * 2 ^ 8) (r.addr % 2 ^ 32)
      (r.addr / 2 ^ 32)).aer r.func .completionTimeout false []).hostError r 0x05 := by
  have hg : ¬ (s.cfgRaw r.func .cplTimeoutDis == 1 || !s.due (r.issued + s.cplTimeout r.func)) = true := by
    rw [hd, ht]
    decide
  unfold State.cplExpire
  rw [hf]
  dsimp only
  rw [if_neg hg]

/-! ### MSI-X tables (R68) -/

theorem exec_msixTableWrite (s : State) (f vec d : Nat) (be : BitVec 4) (v : Word) :
    exec (.msixTableWrite f vec d be v) s = .next (s.vecWrite f vec d be v).shown := rfl

/-- The dwords of an MSI-X entry: the low and the high half of its address, its data, and its mask. -/
def vecDwords : List (Nat × TFld) := [(0, ⟨0, 32⟩), (1, ⟨32, 32⟩), (2, T_VEC.DATA), (3, T_VEC.MASK)]

/-- A function that is not in FLR takes a whole dword of an entry it has. -/
theorem vecWrite_whole {f vec e d : Nat} {g : TFld} (hf : s.host.flrs.any (fun x => x.1 == f) = false) (he : s.vecEntry f vec = some e)
    (hd : (d, g) ∈ vecDwords) (v : Word) : s.vecWrite f vec d 0xF v = (s.st .vec e g v.toNat).heal .vec e := by
  have hb : ((0xF : BitVec 4) != 15) = false := rfl
  unfold State.vecWrite
  rw [hb, hf, he, if_neg (by decide)]
  simp only [vecDwords, List.mem_cons, Prod.mk.injEq, List.not_mem_nil, or_false] at hd
  rcases hd with ⟨rfl, rfl⟩ | ⟨rfl, rfl⟩ | ⟨rfl, rfl⟩ | ⟨rfl, rfl⟩ <;> rfl

theorem vecWrite_partial {be : BitVec 4} (h : be ≠ 15) (f vec d : Nat) (v : Word) : s.vecWrite f vec d be v = s := by
  unfold State.vecWrite
  rw [if_pos (by rw [bne_iff_ne.2 h, Bool.true_or])]

/-! ### Invalidations (R70) -/

theorem exec_atsInvalidationRequest (h : s.hostStall = false) (itag f : Nat) (p : Option Nat) (a n : Nat) :
    exec (.atsInvalidationRequest itag f p a n) s = .next (s.invalIn itag f p a n).shown := by
  show execAtsInvalidationRequest itag f p a n s = _
  rw [execAtsInvalidationRequest, h]
  rfl

/-- With none in progress and no request outstanding an invalidation takes effect at once and waits for nothing. -/
theorem invalIn_first (hi : s.host.invals = []) (hq : s.host.invalQ = []) (hr : s.host.reqs = []) (itag f a n : Nat) :
    s.invalIn itag f none a n = { s with host := { s.host with
      cache := s.host.cache.filter (fun e => !s.invalHits f none a n e.1 e.2.1), invals := [⟨itag, f, none, a, n, []⟩] } }.atsShow := by
  unfold State.invalIn
  simp only [hq, List.nil_append, List.length_singleton, State.invalTake, hi, hr, List.filter_nil, List.map_nil, List.length_nil,
    if_false, Bool.false_eq_true]
  rfl

/-- With 32 in progress one more waits. -/
theorem invalIn_full (hi : 32 ≤ s.host.invals.length) (hq : s.host.invalQ = []) (itag f : Nat) (p : Option Nat) (a n : Nat) :
    s.invalIn itag f p a n = { s with host := { s.host with invalQ := [⟨itag, f, p, a, n, []⟩] } } := by
  unfold State.invalIn
  simp only [hq, List.nil_append, List.length_singleton, State.invalTake, hi, if_true]

theorem exec_atsInvalidationComplete (s : State) (itag : Nat) : exec (.atsInvalidationComplete itag) s = .next (s.invalEnd itag).shown := rfl

/-- The only invalidation in progress completes once no request uses what it invalidates. -/
theorem invalEnd_only {v : Inval} (hi : s.host.invals = [v]) (hq : s.host.invalQ = []) (ht : v.tags = []) :
    s.invalEnd v.itag = (({ s with host := { s.host with invals := [] } }.emit (.invCpl v.itag v.func)).cnt pgHST
      HST.CNT_ATS_INVALS).atsShow := by
  have hf : s.host.invals.find? (fun x => x.itag == v.itag && x.tags.isEmpty) = some v := by
    rw [hi, List.find?_cons_of_pos (by rw [beq_self_eq_true, ht]; rfl)]
  have he : s.host.invals.erase v = [] := by rw [hi, List.erase_cons_head]
  unfold State.invalEnd
  rw [hf]
  dsimp only
  rw [he, hq]
  rfl

/-! ### Translations and page requests (R69, R71) -/

theorem exec_atsTranslationCompletion (s : State) (h page : Nat) (r : XlatResult) :
    exec (.atsTranslationCompletion h page r) s = .next (s.xlatIn h page r).settle.shown := rfl

/-- The answer to the only request outstanding ends it and is used. -/
theorem xlatIn_only {h page : Nat} {q : HostReq} (hr : s.host.reqs = [q]) (ho : q.owner = .xlat h page) (hq : s.oldCompletion q = false)
    (r : XlatResult) : s.xlatIn h page r = (s.endHostReq q).xlatDone h page r := by
  have hf : s.host.reqs.find? (fun x => x.owner == .xlat h page) = some q := by
    rw [hr, List.find?_cons_of_pos (by rw [ho, beq_self_eq_true])]
  unfold State.xlatIn
  rw [hf]
  dsimp only
  rw [hq]
  rfl

/-- An empty cache takes the translation of a page that no invalidation affects. -/
theorem xlatDone_empty (hi : s.host.invals = []) (hc : s.host.cache = []) (h page a : Nat) :
    s.xlatDone h page (.mapped a) = { s with host := { s.host with cache := [(h, page, a / 4096)] } }.atsShow := by
  have ht : [(h, page, a / 4096)].take 16384 = [(h, page, a / 4096)] := rfl
  simp only [State.xlatDone, hi, hc, List.any_nil, List.filter_nil, ht, Bool.false_eq_true, if_false]

theorem calm_atsShow (s : State) : s.atsShow.calm = s.calm := by
  rw [State.atsShow, calm_sf, calm_sf]

theorem exec_prgResponse (s : State) (h g : Nat) (c : PrgCode) : exec (.prgResponse h g c) s = .next (s.prgIn h g c).settle.shown := rfl

/-- Success asks for the translation again. -/
theorem prgIn_success {h g page : Nat} (hp : s.host.prgs = [(h, g, page)]) :
    s.prgIn h g .success = { s with host := { s.host with prgs := [] } }.askXlat h (page * 4096) := by
  have hf : s.host.prgs.find? (fun p => p.1 == h && p.2.1 == g) = some (h, g, page) := by
    rw [hp, List.find?_cons_of_pos (by rw [beq_self_eq_true, beq_self_eq_true, Bool.and_self])]
  have hn : s.host.prgs.filter (· != (h, g, page)) = [] := by
    rw [hp, List.filter_cons_of_neg (by rw [bne_self_eq_false]; exact Bool.false_ne_true), List.filter_nil]
  unfold State.prgIn
  rw [hf]
  dsimp only
  rw [hn]

/-- Settles O25, row by row. -/
theorem completionsAndTranslations : Obligations.CompletionsAndTranslations := by
  refine ⟨?last, ?unexpected, ?timeout, ?msix, ?inval, ?invalFull, ?invalEnd, ?xlat, ?prg⟩
  case last =>
    intro s r data c h0 h1 h2 hr hc hi hf ho hg hl
    have ho' : (s.viaGallery r).oldCompletion r = false := (oldCompletion_viaGallery s r r).trans ho
    rw [exec_hostCompletion, hostCompletion_known hr hc hi hf, hostCpl_sc ho', hostData_last ho' hg hl]
  case unexpected =>
    intro s tag c st data p h0 h1 h2 hr hc hi hf hq
    rw [exec_hostCompletion, hostCompletion_unexpected hr hc hi hf, settle_of_calm ((calm_unexpected s tag c).trans hq)]
    rfl
  case timeout =>
    intro s r hf hd ht t
    rw [exec_cplTimeout, cplExpire_due hf hd ht]
  case msix =>
    intro s f vec e v hf he
    have hw {d : Nat} {g : TFld} (hd : (d, g) ∈ vecDwords) :
        exec (.msixTableWrite f vec d 0xF v) s = .next ((s.st .vec e g v.toNat).heal .vec e).shown := by
      rw [exec_msixTableWrite, vecWrite_whole hf he hd]
    exact ⟨hw (by decide), hw (by decide), hw (by decide), hw (by decide), by rw [exec_msixTableWrite, vecWrite_partial (by decide)]⟩
  case inval =>
    intro s itag f a n hs hi hq hr t
    rw [exec_atsInvalidationRequest hs, invalIn_first hi hq hr]
    rfl
  case invalFull =>
    intro s itag f a n p hs hi hq
    rw [exec_atsInvalidationRequest hs, invalIn_full hi hq]
  case invalEnd =>
    intro s v hi hq ht
    rw [exec_atsInvalidationComplete, invalEnd_only hi hq ht]
    rfl
  case xlat =>
    intro s h page a q hr ho hq hi hc hq' t
    have hi' : t.host.invals = [] := by rw [endHostReq_invals, hi, List.map_nil]
    have hc' : t.host.cache = [] := (endHostReq_cache s q).trans hc
    have hm : State.calm { t with host := { t.host with cache := [(h, page, a / 4096)] } } = true := (calm_endHostReq s q).trans hq'
    rw [exec_atsTranslationCompletion, xlatIn_only hr ho hq, xlatDone_empty hi' hc', settle_of_calm ((calm_atsShow _).trans hm), State.atsShow]
    dsimp only
    rw [hi']
    rfl
  case prg =>
    intro s h g page hp
    rw [exec_prgResponse, prgIn_success hp]

end Sys2Proof.Machine
end

section
/-!
PROOF. The DOE mailbox, the SPDM responder, IDE keys and TDISP (R76 to R79, R81, R418, R419, R553): one equation per case of each row,
and O27 from them.
-/

namespace Sys2Proof.Machine

variable {s : State}

/-! ### The DOE mailbox (R76) -/

theorem exec_doeRequest (s : State) (p : Nat) (o : List Word) : exec (.doeRequest p o) s = .next (s.doeIn p o).shown := rfl

theorem exec_doeAbort (s : State) : exec .doeAbort s = .next { s with host := { s.host with doeObj := [], doeErr := false } }.shown := rfl

section
variable {o : List Word} (hf : s.gb pgDEV DEV.FEAT_EN_DOE_SPDM = true) (he : s.host.doeErr = false)
include hf he

theorem doeIn_long (h : 4094 < o.length) (p : Nat) : s.doeIn p o = { s with host := { s.host with doeErr := true } } := by
  unfold State.doeIn
  rw [hf, he, if_neg (by decide), if_pos (by omega)]

theorem doeIn_discovery (h : o.length ≤ 4094) : s.doeIn 0 o = s.doeReady 0 [doeDiscovery (fld (o.headD 0) 0 8)] := by
  unfold State.doeIn
  rw [hf, he, if_neg (by decide), if_neg (by omega), if_pos (beq_self_eq_true 0)]

/-- SPDM is answered in the clear, and secured SPDM within a session. -/
theorem doeIn_spdm (h : o.length ≤ 4094) {p : Nat} (hp : p = 1 ∨ p = 2 ∧ s.host.spdmPci.session = true) :
    let l := o.flatMap (fun w => bytesOf 4 w.toNat)
    let r := s.spdmAnswer .host (p == 2) (l.headD 0).toNat (l.getD 1 0).toNat (l.getD 2 0).toNat (l.getD 3 0).toNat (l.drop 4)
    s.doeIn p o = r.1.doeReady p (dwordsOf r.2) := by
  have h0 : ¬ (p == 0) = true := by rw [beq_iff_eq]; omega
  have h1 : (p == 1 || (p == 2 && s.host.spdmPci.session)) = true := by
    rcases hp with rfl | ⟨rfl, hs⟩
    · rfl
    · rw [hs]; rfl
  intro l r
  unfold State.doeIn
  rw [hf, he, if_neg (by decide), if_neg (by omega), if_neg h0, if_pos h1]

end

/-! ### The SPDM responder (R77) -/

theorem byte_toNat_beq (x y : Byte) : (x.toNat == y.toNat) = true ↔ x = y := by
  rw [beq_iff_eq, BitVec.toNat_inj]

theorem exec_spdmRequest {x : Path} (h : s.spdmOn x = true) (v c p1 p2 : Byte) (b : List Byte) :
    let r := s.spdmAct (s.spdm x) (s.spdm x).session v.toNat c.toNat p1.toNat p2.toNat b
    let w := if c = 0x84 then 0x10 else if v = 0x11 then 0x11 else 0x12
    exec (.spdmRequest x v c p1 p2 b) s = .next (((s.setSpdm x { r.2 with lastMsg := s.clock }).drawn.drawn).emit
      (.spdm x (bytes [w, r.1.code, r.1.p1, r.1.p2] ++ r.1.body))).shown := by
  intro r w
  have hw : (if c.toNat == 0x84 then 0x10 else if v.toNat == 0x11 then 0x11 else 0x12) = w := by
    have hc := byte_toNat_beq c 0x84
    have hv := byte_toNat_beq v 0x11
    exact if_congr hc rfl (if_congr hv rfl rfl)
  show execSpdmRequest x v c p1 p2 b s = _
  unfold execSpdmRequest
  rw [if_pos h, ← hw]
  rfl

/-- The requests that only a session's keys may carry. -/
theorem spdmAct_unsecured {x : Spdm} {v c : Nat} (hx : x.stage = 3) (hv : x.version = v) (hv' : v = 0x11 ∨ v = 0x12)
    (hc : c ∈ [0xE5, 0xE8, 0xE9, 0xEC]) (p1 p2 : Nat) (b : List Byte) : s.spdmAct x false v c p1 p2 b = (spdmUnexpected, x) := by
  have hver : (v != 0x11 && v != 0x12) = false := by rcases hv' with rfl | rfl <;> rfl
  simp only [List.mem_cons, List.not_mem_nil, or_false] at hc
  unfold State.spdmAct
  rw [hx, hv, hver, bne_self_eq_false]
  rcases hc with rfl | rfl | rfl | rfl <;> rfl

theorem exec_spdmHeartbeatTimeout {x : Path} (hs : (s.spdm x).session = true) (hb : (s.spdm x).heartbeat ≠ 0) :
    exec (.spdmHeartbeatTimeout x) s = .next (if s.due ((s.spdm x).lastMsg + 2 * ms (1000 * (s.spdm x).heartbeat)) = true
      then s.spdmClose x else s).shown := by
  show execSpdmHeartbeatTimeout x s = _
  unfold execSpdmHeartbeatTimeout
  rw [hs, bne_iff_ne.2 hb, Bool.and_self, Bool.true_and]
  rfl

/-! ### IDE keys (R78, R79, R553) -/

theorem exec_ideKeyProg (s : State) (n set sub : Nat) (key : List Byte) :
    exec (.ideKeyProg n set sub key) s = .next (s.keyProg n set sub key).shown := rfl

theorem exec_ideKmMessage (s : State) (n : Nat) (kind : Byte) (set sub : Nat) :
    exec (.ideKmMessage n kind set sub) s = .next (s.ideKm n kind.toNat set sub).shown := rfl

section
variable {n set sub len : Nat} (hset : set < 2) (hsub : sub < 3) (hr : s.ideRoom n = true)
include hset hsub hr

theorem keyPlace_supported : ¬ (decide (1 < set) || decide (2 < sub) || !s.ideRoom n) = true := by
  rw [decide_eq_false (by omega), decide_eq_false (by omega), hr]
  decide

variable (hlen : len = 40)
include hlen

/-- A key of the right length for a stream there is room for is refused while the stream is Secure. -/
theorem keyProgStatus_secure (hi : (s.ideOf n).state = .secure) : s.keyProgStatus n set sub len = 4 := by
  unfold State.keyProgStatus
  dsimp only
  rw [hlen, if_neg (by decide), if_neg (keyPlace_supported hset hsub hr), hi, if_pos (by decide)]

/-- It is taken for another stream, whose key was not programmed before. -/
theorem keyProgStatus_taken (hi : (s.ideOf n).state ≠ .secure) (hk : ∀ e ∈ s.vlt.keyTimes, e.1 ≠ n * 16 + set * 8 + sub) :
    s.keyProgStatus n set sub len = 0 := by
  have hf : s.vlt.keyTimes.find? (fun e => e.1 == n * 16 + set * 8 + sub) = none :=
    List.find?_eq_none.2 fun e he => by rw [beq_iff_eq]; exact hk e he
  unfold State.keyProgStatus
  dsimp only
  rw [hlen, if_neg (by decide), if_neg (keyPlace_supported hset hsub hr), if_neg (by rwa [beq_iff_eq]), hf]

end

section
variable (hf : s.gb pgDEV DEV.FEAT_EN_IDE = true) (hs : s.secured = true) {n set sub : Nat}
include hf hs

theorem keyProg_refused {key : List Byte} {st : Nat} (hk : s.keyProgStatus n set sub key.length = st) (h0 : st ≠ 0) :
    s.keyProg n set sub key = s.emit (.ideKm (ideMsg 3 n [st, set + sub * 16, 0])) := by
  unfold State.keyProg
  dsimp only
  rw [hf, hs, if_neg (by decide), hk, if_pos (bne_iff_ne.2 h0)]

theorem keyProg_taken {key : List Byte} (hk : s.keyProgStatus n set sub key.length = 0) :
    let i := s.ideOf n
    let k := set * 8 + sub
    let t := s.setIde n { i with keys := i.keys.filter (fun (e : Nat × List Byte) => e.1 != k) ++ [(k, key)] }
    s.keyProg n set sub key = ({ t with
      vlt := { t.vlt with keyTimes := t.vlt.keyTimes.filter (fun (e : Nat × Nat) => e.1 != n * 16 + k) ++ [(n * 16 + k, s.clock)] } }.cnt
        pgVLT VLT.CNT_WORDS_WRITTEN 5).emit (.ideKm (ideMsg 3 n [0, set + sub * 16, 0])) := by
  intro i k t
  unfold State.keyProg
  dsimp only
  rw [hf, hs, if_neg (by decide), hk, if_neg (by decide)]
  rfl

theorem ideKm_stop : s.ideKm n 5 set sub = (s.ideInsecure n).emit (.ideKm (ideMsg 6 n [0, set + sub * 16, 0])) := by
  unfold State.ideKm
  rw [hf, hs, if_neg (by decide)]
  rfl

theorem ideKm_query : s.ideKm n 0 set sub = s.emit (.ideKm (ideMsg 1 n [0])) := by
  unfold State.ideKm
  rw [hf, hs, if_neg (by decide)]
  rfl

/-- With the three keys of a set the stream becomes Secure. -/
theorem ideKm_go (hk : ∀ u < 3, (s.ideOf n).keys.any (fun e => e.1 == set * 8 + u) = true) :
    s.ideKm n 4 set sub = (s.setIde n { s.ideOf n with state := .secure, keySet := set }).emit
      (.ideKm (ideMsg 6 n [0, set + sub * 16, 0])) := by
  have hall : (List.range 3).all (fun u => (s.ideOf n).keys.any (fun e => e.1 == set * 8 + u)) = true :=
    List.all_eq_true.2 fun u hu => hk u (List.mem_range.1 hu)
  unfold State.ideKm
  rw [hf, hs, if_neg (by decide)]
  exact congrArg (fun t : State => t.emit (.ideKm (ideMsg 6 n [0, set + sub * 16, 0]))) (if_pos hall)

end

/-! ### TDISP (R81, R418, R419) -/

theorem exec_tdispLockInterface (s : State) (vf : Nat) : exec (.tdispLockInterface vf) s = .next (s.tdispLock vf).settle.shown := rfl

theorem exec_tdispStartInterface (s : State) (vf nonce : Nat) :
    exec (.tdispStartInterface vf nonce) s = .next (s.tdispStart vf nonce).settle.shown := rfl

theorem exec_tdispStopInterface (s : State) (vf : Nat) : exec (.tdispStopInterface vf) s = .next (s.tdispStop vf).settle.shown := rfl

theorem exec_tdispMessage (s : State) (vf : Nat) (c : Byte) (b : List Byte) :
    exec (.tdispMessage vf c b) s = .next (s.tdispMsg vf c.toNat b).settle.shown := rfl

/-- The nonce of a lock is forgotten. -/
def State.forgetNonce (s : State) (vf : Nat) : State :=
  { s with host := { s.host with nonces := s.host.nonces.filter (fun e => e.1 != vf) } }

section
variable {vf : Nat} (ho : s.tdispOn = true)
include ho

theorem tdispMsg_version (b : List Byte) : s.tdispMsg vf 0x81 b = s.tdispSend vf 0x01 (bytes [1, 0x10]) := by
  unfold State.tdispMsg
  rw [ho]
  rfl

variable (hh : s.tdispHas vf = true)
include hh

/-- A lock of an unlocked interface draws its nonce. -/
theorem tdispLock_unlocked (h0 : s.tdispOf vf = 0) :
    let t := (s.drawn).setTdisp vf 1
    s.tdispLock vf = { t with host := { t.host with
      nonces := t.host.nonces.filter (fun (e : Nat × Nat) => e.1 != vf) ++ [(vf, s.nextFree 256)] } }.tdispSend vf 0x03
        (bytesOf 32 (s.nextFree 256)) := by
  intro t
  unfold State.tdispLock
  rw [ho, hh, h0]
  rfl

theorem tdispLock_again (h0 : s.tdispOf vf ≠ 0) : s.tdispLock vf = s.tdispErr vf 0x04 := by
  unfold State.tdispLock
  rw [ho, hh, if_neg (by decide), if_neg (by decide), if_pos (bne_iff_ne.2 h0)]

theorem tdispStart_locked (h1 : s.tdispOf vf = 1) {nonce : Nat} (hn : s.host.nonces.contains (vf, nonce) = true) :
    s.tdispStart vf nonce = ((s.setTdisp vf 2).forgetNonce vf).tdispSend vf 0x06 [] := by
  unfold State.tdispStart
  rw [ho, hh, h1, hn]
  rfl

theorem tdispStart_wrongNonce (h1 : s.tdispOf vf = 1) {nonce : Nat} (hn : s.host.nonces.contains (vf, nonce) = false) :
    s.tdispStart vf nonce = s.tdispErr vf 0x102 := by
  unfold State.tdispStart
  rw [ho, hh, h1, hn]
  rfl

/-- From RUN and ERROR the halls of the VF are reset. -/
theorem tdispStop_running (h : s.tdispOf vf = 2 ∨ s.tdispOf vf = 3) :
    let u := (s.setTdisp vf 0).forgetNonce vf
    s.tdispStop vf = (u.each (u.hallsOf vf) (fun h r => r.hallReset h false false)).tdispSend vf 0x07 [] := by
  intro u
  unfold State.tdispStop
  rw [ho, hh]
  rcases h with h | h <;> rw [h] <;> rfl

theorem tdispStop_stopped (h : s.tdispOf vf = 0 ∨ s.tdispOf vf = 1) :
    s.tdispStop vf = ((s.setTdisp vf 0).forgetNonce vf).tdispSend vf 0x07 [] := by
  unfold State.tdispStop
  rw [ho, hh]
  rcases h with h | h <;> rw [h] <;> rfl

theorem tdispMsg_state (b : List Byte) : s.tdispMsg vf 0x85 b = s.tdispSend vf 0x05 (bytes [s.tdispOf vf]) := by
  unfold State.tdispMsg
  rw [ho, hh]
  rfl

/-- The messages that have rows of their own. -/
theorem tdispMsg_lock (b : List Byte) : s.tdispMsg vf 0x83 b = s.tdispLock vf := by
  unfold State.tdispMsg
  rw [ho, hh]
  rfl

theorem tdispMsg_start (b : List Byte) : s.tdispMsg vf 0x86 b = s.tdispStart vf (ofBytes (b.take 32)) := by
  unfold State.tdispMsg
  rw [ho, hh]
  rfl

theorem tdispMsg_stop (b : List Byte) : s.tdispMsg vf 0x87 b = s.tdispStop vf := by
  unfold State.tdispMsg
  rw [ho, hh]
  rfl

end

/-- Settles O27, row by row. -/
theorem securityServices : Obligations.SecurityServices := by
  refine ⟨?doe, exec_doeAbort, fun s x v c p1 p2 b h => exec_spdmRequest h v c p1 p2 b, ?session, ?heartbeat, ?key, ?keySecure, ?km, ?lock,
    ?lockAgain, ?start, ?startWrong, ?stop, ?message⟩
  case doe =>
    intro s o hf he
    refine ⟨fun h => ?_, fun h p => ?_, fun h p hp => ?_⟩
    · rw [exec_doeRequest, doeIn_discovery hf he h]
      rfl
    · rw [exec_doeRequest, doeIn_long hf he h]
    · rw [exec_doeRequest, doeIn_spdm hf he h hp]
      rfl
  case session =>
    intro s x v c p1 p2 b hx hv hv' hc
    rw [spdmAct_unsecured hx hv hv' hc]
    exact ⟨rfl, rfl, rfl⟩
  case heartbeat =>
    intro s x hs hb
    exact ⟨fun hd => by rw [exec_spdmHeartbeatTimeout hs hb, if_pos hd]; rfl,
      fun hd => by rw [exec_spdmHeartbeatTimeout hs hb, hd, if_neg Bool.false_ne_true]⟩
  case key =>
    intro s n set sub key hf hs hset hsub hlen hr hi hk i k t
    rw [exec_ideKeyProg, keyProg_taken hf hs (keyProgStatus_taken hset hsub hr hlen hi hk)]
    rfl
  case keySecure =>
    intro s n set sub key hf hs hset hsub hlen hr hi
    rw [exec_ideKeyProg, keyProg_refused hf hs (keyProgStatus_secure hset hsub hr hlen hi) (by decide)]
    rfl
  case km =>
    intro s n set sub hf hs
    refine ⟨?setStop, ?query, fun hk => ?setGo⟩
    case setStop =>
      show Host.Outcome.next (s.ideKm n 5 set sub).shown = _
      rw [ideKm_stop hf hs]
      rfl
    case query =>
      show Host.Outcome.next (s.ideKm n 0 set sub).shown = _
      rw [ideKm_query hf hs]
      rfl
    case setGo =>
      show Host.Outcome.next (s.ideKm n 4 set sub).shown = _
      rw [ideKm_go hf hs hk]
      rfl
  case lock =>
    intro s vf ho hh h0 t
    rw [exec_tdispLockInterface, tdispLock_unlocked ho hh h0]
  case lockAgain =>
    intro s vf ho hh h0
    rw [exec_tdispLockInterface, tdispLock_again ho hh h0]
  case start =>
    intro s vf nonce ho hh h1 hn t
    rw [exec_tdispStartInterface, tdispStart_locked ho hh h1 hn]
    rfl
  case startWrong =>
    intro s vf nonce ho hh h1 hn
    rw [exec_tdispStartInterface, tdispStart_wrongNonce ho hh h1 hn]
  case stop =>
    intro s vf ho hh t u
    refine ⟨fun h => ?_, fun h => ?_⟩
    · rw [exec_tdispStopInterface, tdispStop_running ho hh h]
      rfl
    · rw [exec_tdispStopInterface, tdispStop_stopped ho hh h]
      rfl
  case message =>
    intro s vf b ho
    have he (c : Byte) : exec (.tdispMessage vf c b) s = .next (s.tdispMsg vf c.toNat b).settle.shown := exec_tdispMessage s vf c b
    refine ⟨?version, fun hh => ⟨?state, ?msgLock, ?msgStart, ?msgStop⟩⟩
    case version => exact (he 0x81).trans (by rw [← tdispMsg_version ho b]; rfl)
    case state => exact (he 0x85).trans (by rw [← tdispMsg_state ho hh b]; rfl)
    case msgLock => exact (he 0x83).trans (by rw [exec_tdispLockInterface, ← tdispMsg_lock ho hh b]; rfl)
    case msgStart => exact (he 0x86).trans (by rw [exec_tdispStartInterface, ← tdispMsg_start ho hh b]; rfl)
    case msgStop => exact (he 0x87).trans (by rw [exec_tdispStopInterface, ← tdispMsg_stop ho hh b]; rfl)

end Sys2Proof.Machine
end

section
/-!
SUPPORT. What taking a frame from a receive buffer leaves unchanged (R205, R209 to R211): the Larduper side of every link, the tables,
and every register outside the port pages.
-/

namespace Sys2Proof.Machine

variable {s : State} {a : Nat} {f : Frame}

/-- What each element's change keeps, the changes of a whole list keep. -/
theorem each_keeps {α β : Type} (g : State → β) {h : α → State → State} (hh : ∀ x t, g (h x t) = g t) (l : List α) (s : State) :
    g (s.each l h) = g s := by
  induction l generalizing s with
  | nil => rfl
  | cons x l ih => exact (ih (h x s)).trans (hh x s)

@[simp] theorem lard_setLard_self (d : Lard) : (s.setLard a d).lard a = d := SMap.get_set_self _ _ _ _

theorem lard_congr {t : State} (h : t.lards = s.lards) (a : Nat) : t.lard a = s.lard a := by rw [State.lard, h, State.lard]

/-- The flow state of a link is two registers of its page and its link record. -/
theorem flowUpdate_keeps {β : Type} (g : State → β) (hl : ∀ t l, g (t.setLink a l) = g t)
    (hx : ∀ t v, g (t.sf (pgPRT a) LNK.RX_STS_XOFF_SENT v) = g t) (hc : ∀ t, g (t.cnt (pgPRT a) LNK.CNT_XOFF_TX) = g t) (s : State) :
    g (s.flowUpdate a) = g s := by
  refine each_keeps g (fun v t => ?_) _ s
  dsimp only
  split
  · split
    · rw [hl, hx]
    · rfl
  · split
    · rw [hc, hl, hx]
    · rfl

theorem rxTake_keeps {β : Type} (g : State → β) (hl : ∀ t l, g (t.setLink a l) = g t)
    (hx : ∀ t v, g (t.sf (pgPRT a) LNK.RX_STS_XOFF_SENT v) = g t) (hc : ∀ t, g (t.cnt (pgPRT a) LNK.CNT_XOFF_TX) = g t) (s : State) (f : Frame) :
    g (s.rxTake a f) = g s :=
  (flowUpdate_keeps g hl hx hc _).trans (hl s _)

@[simp] theorem rxTake_lard (s : State) (a : Nat) (f : Frame) (b : Nat) : (s.rxTake a f).lard b = s.lard b :=
  lard_congr (rxTake_keeps State.lards (fun _ _ => rfl) (fun t _ => t.sf_lards ..) (fun t => t.cnt_lards ..) s f) b

@[simp] theorem rxTake_stationCan (s : State) (a : Nat) (f : Frame) (b bit : Nat) : (s.rxTake a f).stationCan b bit = s.stationCan b bit := by
  rw [State.stationCan, rxTake_lard, State.stationCan]

/-- A page below the port pages keeps its registers. -/
theorem gf_rxTake_of_lt {p : Nat} {g : Fld} (hp : p < 0x400) (ho : g.off < 4096) (s : State) (a : Nat) (f : Frame) :
    (s.rxTake a f).gf p g = s.gf p g := by
  have hne : p ≠ pgPRT a := by unfold pgPRT; omega
  exact rxTake_keeps (fun t => t.gf p g) (fun _ _ => rfl) (fun t v => t.gf_sf_of_ne v (raddr_ne hne ho (by decide)))
    (fun t => t.gf_cnt_of_ne 1 (raddr_ne hne ho (by decide))) s f

theorem rxTake_active {p : Nat} (hp : p < 0x400) (s : State) (a : Nat) (f : Frame) : (s.rxTake a f).active p = s.active p := by
  rw [State.active, State.gb, gf_rxTake_of_lt hp (by decide), State.active, State.gb]

theorem rxTake_device (s : State) (a : Nat) (f : Frame) : (s.rxTake a f).device = s.device :=
  gf_rxTake_of_lt (by decide) (by decide) s a f

end Sys2Proof.Machine
end

section
/-!
PROOF. Mirage slots, side-band polls and station events (R126 to R129, R138, R143, R257, R258): one equation per case of each row, and
O29 from them.
-/

namespace Sys2Proof.Machine

variable {s : State} {a : Nat} {f : Frame}

/-! ### Outbound slots (R126, R133) -/

theorem exec_mirageOutWrite {n k : Nat} (hn : n < 1024) (hk : k < 16) (v : Word) :
    exec (.mirageOutWrite n k v) s = .next (s.mirWrite n k v.toNat).shown := by
  show execMirageOutWrite n k v s = _
  rw [execMirageOutWrite, decide_eq_true hn, decide_eq_true hk, Bool.and_self, if_pos rfl, done]

theorem exec_mirageOutWrite_noPort {n : Nat} (hn : 1024 ≤ n) (k : Nat) (v : Word) : exec (.mirageOutWrite n k v) s = .next s.shown := by
  show execMirageOutWrite n k v s = _
  rw [execMirageOutWrite, decide_eq_false (Nat.not_lt.2 hn), Bool.false_and, if_neg Bool.false_ne_true, done]

theorem mirWrite_fresh {n k : Nat} (h : bitAt (s.lard n).changed k = false) (v : Nat) :
    s.mirWrite n k v = (s.st .mir n (T_MIR.OUT k) v).setLard n { s.lard n with changed := (s.lard n).changed ||| 2 ^ k } := by
  simp only [State.mirWrite, h, Bool.false_eq_true, if_false]

theorem mirWrite_unsent {n k : Nat} (h : bitAt (s.lard n).changed k = true) (v : Nat) :
    s.mirWrite n k v = ((s.cnt pgMIR MIR.CNT_OUT_COALESCED).st .mir n (T_MIR.OUT k) v).setLard n
      { s.lard n with changed := (s.lard n).changed ||| 2 ^ k } := by
  simp only [State.mirWrite, h, if_true]

/-! ### Updates (R126, R127, R258) -/

theorem exec_mirageUpdateSend (s : State) (a : Nat) : exec (.mirageUpdateSend a) s = .next (s.mirageSend a).shown := rfl

theorem mirageSend_changed (hm : s.mirOn = true) (he : s.gb pgMIR MIR.MIR_CTL_OUT_EN = true) (hf : s.flows a = true)
    (hq : s.quiesce (pgPRT a) = false) (hs : s.stationCan a 50 = true) (hd : (s.lard a).changed ≠ 0)
    (ho : ((s.link a).txq ++ (s.link a).held.map (·.2)).any (fun c => c.frame.op == opMIRAGE) = false) :
    s.mirageSend a = ((s.setLard a { s.lard a with changed := 0 }).cnt pgMIR MIR.CNT_OUT_UPDATES).ownFrame a
      (mkMirage (s.lard a).changed (mirageWords (((List.range 16).filter (fun i => bitAt (s.lard a).changed i)).map
        (fun i => s.tf .mir a (T_MIR.OUT i))))) := by
  have hd' : ((s.lard a).changed != 0) = true := bne_iff_ne.2 hd
  have hkeep : ∀ i, (s.setLard a { s.lard a with changed := 0 }).tf .mir a (T_MIR.OUT i) = s.tf .mir a (T_MIR.OUT i) := fun _ => rfl
  simp only [State.mirageSend, hm, he, hf, hq, hs, hd', ho, Bool.not_false, Bool.and_self, if_true, State.tf_cnt, hkeep]

theorem exec_mirageUpdateRx (s : State) (a : Nat) : exec (.mirageUpdateRx a) s = .next (s.mirageRx a).shown := rfl

/-- A MASK of one slot carries that slot, in the first half of the first word. -/
theorem slots_of_single {k : Nat} (hk : k < 15) : ((List.range 16).filter (fun i => bitAt (2 ^ k) i)).zipIdx = [(k, 0)] := by
  revert hk; revert k; decide

theorem inSlot_of_lt {k : Nat} (hk : k < 15) (v : Nat) : s.inSlot a k v = s.st .mir a (T_MIR.IN k) v := by
  rw [State.inSlot, beq_eq_false_iff_ne.2 (by omega)]
  rfl

section
variable (hc : s.cascadeLink a = false) (hq : s.quiesce pgMIR = false) (hr : s.rxHead a opMIRAGE = some f)
include hc hq hr

theorem mirageRx_single (ha : s.active pgMIR = true) (hs : s.stationCan a 50 = true) {k : Nat} (hk : k < 15) (hm : f.mask = 2 ^ k) :
    s.mirageRx a = ((s.rxTake a f).cnt pgMIR MIR.CNT_IN_UPDATES).st .mir a (T_MIR.IN k) (fld (f.words.getD 0 0) 0 32) := by
  have ha' : (s.rxTake a f).active pgMIR = true := (rxTake_active (by decide) s a f).trans ha
  have h0 : (2 ^ k == 0) = false := beq_eq_false_iff_ne.2 (by positivity)
  have h15 : (k == 15) = false := beq_eq_false_iff_ne.2 (by omega)
  simp only [State.mirageRx, hc, hq, hr, rxTake_stationCan, hs, ha', hm, h0, slots_of_single hk, each_single, h15, Bool.or_self, Bool.not_true,
    Bool.false_and, Bool.false_eq_true, if_false]
  exact inSlot_of_lt hk _

theorem mirageRx_undeclared (hs : s.stationCan a 50 = false) :
    s.mirageRx a = (s.rxTake a f).stationReport a (s.rxTake a f).device 6 f.op f.seq := by
  simp only [State.mirageRx, hc, hq, hr, rxTake_stationCan, hs, Bool.or_self, Bool.false_eq_true, if_false, Bool.not_false, if_true]

end

/-! ### Side-band polls (R128) -/

theorem exec_sbPollTimer (s : State) (a : Nat) : exec (.sbPollTimer a) s = .next (s.sbPoll a).shown := rfl

/-- A poll leaves with a tag: it is the last poll of its link, at its time. -/
def State.sendPoll (s : State) (a t : Nat) : State :=
  ((s.takeTag a t .poll).setLard a { (s.takeTag a t .poll).lard a with pollAt := some (s.takeTag a t .poll).clock, pollTag := some t }).ownFrame a
    (mkCtl opPOLL t 0 [])

section
variable (hm : s.mirOn = true) (hu : s.gf pgMIR MIR.MIR_CTL_POLL_US ≠ 0) (hf : s.flows a = true) (hq : s.quiesce (pgPRT a) = false)
  (hs : s.stationCan a 51 = true) {t : Nat} (ht : s.freeTag a = some t)
include hm hu hf hq hs ht

theorem sbPoll_first (ha : (s.lard a).pollAt = none) (hp : (s.lard a).pollTag = none) : s.sbPoll a = s.sendPoll a t := by
  have hu' : (s.gf pgMIR MIR.MIR_CTL_POLL_US != 0) = true := bne_iff_ne.2 hu
  simp only [State.sbPoll, State.sendPoll, hm, hu', hf, hq, hs, ht, ha, hp, Option.isSome_none, Bool.not_false, Bool.and_self, if_true,
    Bool.false_eq_true, if_false]

theorem sbPoll_missed {t0 p : Nat} (ha : (s.lard a).pollAt = some t0) (hd : s.due (t0 + us (s.gf pgMIR MIR.MIR_CTL_POLL_US)) = true)
    (hp : (s.lard a).pollTag = some p) :
    s.sbPoll a = ((s.cnt pgMIR MIR.CNT_POLL_MISSED).error pgMIR 0 0x01 a 0 0).sendPoll a t := by
  have hu' : (s.gf pgMIR MIR.MIR_CTL_POLL_US != 0) = true := bne_iff_ne.2 hu
  have ht' : ((s.cnt pgMIR MIR.CNT_POLL_MISSED).error pgMIR 0 0x01 a 0 0).freeTag a = some t := by
    rw [State.freeTag, lard_congr (s := s) (by rw [State.error_lards, State.cnt_lards])]
    exact ht
  simp only [State.sbPoll, State.sendPoll, hm, hu', hf, hq, hs, ht', ha, hd, hp, Option.isSome_some, Bool.not_false, Bool.and_self, if_true]

end

/-- The answer with one word to the last poll of a link. -/
theorem pollAnswer_last {w : Word64} {d : Lard} (h0 : f.code = 0) (hw : f.words = [w]) (hd : (s.dropTag a f.tag).lard a = d)
    (hp : d.pollTag = some f.tag) :
    s.pollAnswer a f = ((s.dropTag a f.tag).setLard a { d with pollTag := none }).inSlot a 15 (fld w 0 32) := by
  simp [State.pollAnswer, h0, hw, hd, hp]

/-- A response whose tag a poll holds. -/
theorem exec_sbPollAnswer_held {sent : Nat} (hc : s.cascadeLink a = false) (hr : s.rxHead a opRSP = some f)
    (ht : (s.lard a).tags.find? (fun t => t.tag == f.tag) = some ⟨f.tag, .poll, sent⟩) :
    exec (.sbPollAnswer a) s = .next ((s.rxTake a f).pollAnswer a f).settle.shown := by
  have hheld : (s.lard a).tags.any (fun t => t.tag == f.tag && t.use == .poll) = true :=
    List.any_eq_true.2 ⟨_, List.mem_of_find?_eq_some ht, by simp⟩
  show execSbPollAnswer a s = _
  simp only [execSbPollAnswer, hr, hheld, if_true, State.stationRsp, hc, Bool.false_eq_true, if_false, rxTake_lard, ht, done]

/-! ### Events of stations (R257, R258) -/

section
variable (hc : s.cascadeLink a = false) (hr : s.rxHead a opEVENT = some f)
include hc hr

theorem exec_stationEvent_declared (hs : (s.rxTake a f).stationCan a 53 = true) :
    exec (.stationEvent a) s = .next ((s.rxTake a f).fire (0x6000 + 16 * a + f.line)).shown := by
  show execStationEvent a s = _
  simp only [execStationEvent, hc, hr, hs, Bool.false_eq_true, if_false, if_true, done]

theorem exec_stationEvent_undeclared (hs : (s.rxTake a f).stationCan a 53 = false) :
    exec (.stationEvent a) s = .next ((s.rxTake a f).stationReport a (s.rxTake a f).device 5 f.op f.seq).shown := by
  show execStationEvent a s = _
  simp only [execStationEvent, hc, hr, hs, Bool.false_eq_true, if_false, done]

end

/-- Settles O29, by the equations above, row by row. -/
theorem mirageAndSideBand : Obligations.MirageAndSideBand := by
  refine ⟨?fresh, ?unsent, ?noPort, ?send, ?update, ?undeclared, ?firstPoll, ?missedPoll, ?answer, ?event, ?eventUndeclared⟩
  case fresh =>
    intro s n k v hn hk hb
    rw [exec_mirageOutWrite hn hk, mirWrite_fresh hb]
  case unsent =>
    intro s n k v hn hk hb
    rw [exec_mirageOutWrite hn hk, mirWrite_unsent hb]
  case noPort => exact fun s n k v hn => exec_mirageOutWrite_noPort hn k v
  case send =>
    intro s a hm he hf hq hs hd ho slots
    rw [exec_mirageUpdateSend, mirageSend_changed hm he hf hq hs hd ho]
  case update =>
    intro s a k f hc hq ha hr hs hk hm
    rw [exec_mirageUpdateRx, mirageRx_single hc hq hr ha hs hk hm]
  case undeclared =>
    intro s a f hc hq hr hs
    rw [exec_mirageUpdateRx, mirageRx_undeclared hc hq hr hs]
  case firstPoll =>
    intro s a t hm hu hf hq hs ha hp ht u
    rw [exec_sbPollTimer, sbPoll_first hm hu hf hq hs ht ha hp, State.sendPoll]
  case missedPoll =>
    intro s a t0 t p hm hu hf hq hs ha hd hp ht u
    rw [exec_sbPollTimer, sbPoll_missed hm hu hf hq hs ht ha hd hp, State.sendPoll]
  case answer =>
    intro s a sent f w hc hr h0 hw ht hd hp
    rw [exec_sbPollAnswer_held hc hr ht, pollAnswer_last h0 hw hd hp]
  case event => exact fun s a f hc hr hs => exec_stationEvent_declared hc hr hs
  case eventUndeclared => exact fun s a f hc hr hs => exec_stationEvent_undeclared hc hr hs

end Sys2Proof.Machine
end

section
/-!
PROOF. Responses, identities, tags and late error reports (R106, R246, R248 to R251, R254): one equation per case of each row, and O30
from them.
-/

namespace Sys2Proof.Machine

variable {s : State} {a : Nat} {f : Frame}

/-! ### Responses (R139, R248) -/

theorem exec_stationRsp (s : State) (a : Nat) : exec (.stationRsp a) s = .next (s.stationRsp a).shown := rfl

section
variable (hc : s.cascadeLink a = false) (hr : s.rxHead a opRSP = some f)
include hc hr

theorem stationRsp_stale (ht : (s.lard a).tags.find? (fun t => t.tag == f.tag) = none) :
    s.stationRsp a = (s.rxTake a f).staleTag a f.tag := by
  simp only [State.stationRsp, hc, hr, rxTake_lard, ht, Bool.false_eq_true, if_false]

theorem stationRsp_access {i k sent : Nat} (ht : (s.lard a).tags.find? (fun t => t.tag == f.tag) = some ⟨f.tag, .access i k, sent⟩)
    (ha : s.active pgSWC = true) (hq : s.quiesce pgSWC = false) (hb : s.behindMsg a f = false) :
    s.stationRsp a = ((s.rxTake a f).respond a i k f).settle := by
  simp only [State.stationRsp, hc, hr, rxTake_lard, ht, ha, hq, hb, Bool.not_true, Bool.or_self, Bool.false_eq_true, if_false]

theorem stationRsp_ident {sent : Nat} (ht : (s.lard a).tags.find? (fun t => t.tag == f.tag) = some ⟨f.tag, .ident, sent⟩) :
    s.stationRsp a = ((s.rxTake a f).identAnswer a f).settle := by
  simp only [State.stationRsp, hc, hr, rxTake_lard, ht, Bool.false_eq_true, if_false]

end

/-! ### Identities (R251, R254) -/

/-- A good record identifies a link that has none, and its tag is free. -/
theorem identAnswer_first (h0 : f.code = 0) (hw : f.words.length = 4) (hv : recordValid f.words = true)
    (hn : ((s.dropTag a f.tag).lard a).ident = none) :
    s.identAnswer a f = (s.dropTag a f.tag).setLard a
      { (s.dropTag a f.tag).lard a with ident := some ⟨f.words, true⟩, identDue := false } := by
  simp [State.identAnswer, h0, hw, hv, hn]

theorem exec_identRetry_unasked (hf : s.flows a = true) (hc : s.cascadeLink a = false) (hi : (s.lard a).ident = none)
    (hd : (s.lard a).identDue = false) (ht : (s.lard a).tags = []) (hx : (s.link a).txq = []) :
    exec (.identRetry a) s = .next (s.setLard a { s.lard a with identDue := true }).identPump.shown := by
  show execIdentRetry a s = _
  simp [execIdentRetry, hf, hc, hi, hd, ht, hx, done]

theorem exec_identRetry_identified {w : Ident} (hi : (s.lard a).ident = some w) : exec (.identRetry a) s = .next s.shown := by
  show execIdentRetry a s = _
  simp [execIdentRetry, hi, done]

/-! ### The lifetime of a tag (R246) -/

theorem exec_tagLifetime (s : State) (a tag : Nat) : exec (.tagLifetime a tag) s = .next (s.tagEnds a tag).shown := rfl

theorem tagEnds_of_old {tag sent : Nat} (ht : (s.lard a).tags.find? (fun t => t.tag == tag) = some ⟨tag, .ident, sent⟩)
    (hx : (s.link a).txq = []) (hu : sent + ms 1000 ≤ s.upTime a) : s.tagEnds a tag = (s.dropTag a tag).settle := by
  simp [State.tagEnds, ht, hx, hu]

theorem tagEnds_of_young {tag : Nat} {r : TagRec} (ht : (s.lard a).tags.find? (fun t => t.tag == tag) = some r)
    (hu : s.upTime a < r.sent + ms 1000) : s.tagEnds a tag = s := by
  simp only [State.tagEnds, ht, decide_eq_false (Nat.not_le.2 hu), Bool.and_false, Bool.false_eq_true, if_false]

/-! ### Late error reports (R249, R250) -/

theorem exec_errRptRx (s : State) (a : Nat) : exec (.errRptRx a) s = .next (s.errRptRx a).shown := rfl

section
variable (hc : s.cascadeLink a = false) (hr : s.rxHead a opERR = some f)
include hc hr

theorem errRptRx_declared (hs : s.stationCan a 54 = true) (hm : s.isMember = false) : s.errRptRx a = (s.rxTake a f).errReport a 0 f := by
  simp only [State.errRptRx, hc, hr, hs, hm, Bool.not_true, Bool.false_eq_true, if_false]

theorem errRptRx_undeclared (hs : s.stationCan a 54 = false) :
    s.errRptRx a = (s.rxTake a f).stationReport a (s.rxTake a f).device 3 f.op f.seq := by
  simp only [State.errRptRx, hc, hr, hs, rxTake_device, Bool.not_false, Bool.false_eq_true, if_false, if_true]

end

/-- Settles O30, by the equations above, row by row. -/
theorem responsesAndTags : Obligations.ResponsesAndTags := by
  refine ⟨?stale, ?access, ?ident, ?retry, ?identified, ?old, ?young, ?report, ?undeclared⟩
  case stale =>
    intro s a f hc hr ht
    rw [exec_stationRsp, stationRsp_stale hc hr ht, State.staleTag]
  case access =>
    intro s a i k sent f hc hr ht ha hq hb
    rw [exec_stationRsp, stationRsp_access hc hr ht ha hq hb]
  case ident =>
    intro s a sent f hc hr ht h0 hw hv t hn
    rw [exec_stationRsp, stationRsp_ident hc hr ht, identAnswer_first h0 hw hv hn]
  case retry => exact fun s a hf hc hi hd ht hx => exec_identRetry_unasked hf hc hi hd ht hx
  case identified => exact fun s a w hi => exec_identRetry_identified hi
  case old =>
    intro s a tag sent ht hx hu
    rw [exec_tagLifetime, tagEnds_of_old ht hx hu]
  case young =>
    intro s a tag r ht hu
    rw [exec_tagLifetime, tagEnds_of_young ht hu]
  case report =>
    intro s a f hc hr hs hm
    rw [exec_errRptRx, errRptRx_declared hc hr hs hm, State.errReport]
  case undeclared =>
    intro s a f hc hr hs
    rw [exec_errRptRx, errRptRx_undeclared hc hr hs]

end Sys2Proof.Machine
end

section
/-!
PROOF. Expiry and the bridge's stores (R99, R101, R102, R104, R108, R115, R117, R132): one equation per case of each row, and O28 from them.
-/

namespace Sys2Proof.Machine

variable {s : State}

/-! ### Reads (R99, R102, R104, R132) -/

theorem exec_readExpiry (s : State) (i : Nat) : exec (.readExpiry i) s = .next (s.readExpire i).settle.shown := rfl

/-- A state without the request of an access that waits before BRG. -/
def State.withoutHeld (s : State) (i : Nat) : State := { s with brg := { s.brg with held := s.brg.held.filter (fun e => e.1 != i) } }

section
variable {i : Nat} {a : Acc} (ha : s.acc? i = some a)
include ha

theorem readExpire_early (hd : s.due (a.start + us (s.gf1 pgBRG BRG.EXPIRY_READ_US)) = false) : s.readExpire i = s := by
  simp only [State.readExpire, ha, hd, Bool.not_false, Bool.or_true, if_true]

section
variable (he : a.ended = false) (ho : a.op = .read) (hr : a.isRelay = false)
  (hd : s.due (a.start + us (s.gf1 pgBRG BRG.EXPIRY_READ_US)) = true)
include he ho hr hd

theorem readExpire_unanswered (hh : s.brg.held.filter (fun e => e.1 == i) = []) {p : Part}
    (hp : a.parts.find? (fun p => !(p.st == .finished && p.got.length == p.len)) = some p) :
    s.readExpire i = (((s.withoutHeld i).failRead i 0x06).cnt pgBRG BRG.CNT_READS_EXPIRED).error pgBRG 2 0x02 (p.win + p.hall * 2 ^ 16)
      (p.first % 2 ^ 32) (p.first / 2 ^ 32) := by
  have hw : (a.op == .write) = false := by rw [ho]; rfl
  simp only [State.readExpire, State.withoutHeld, ha, he, hw, hr, hd, hh, hp, List.any_nil, List.isEmpty_nil, Bool.true_or, Bool.not_true,
    Bool.or_self, Bool.false_eq_true, if_false, if_true]

section
variable {r : Req} (hh : s.brg.held.filter (fun e => e.1 == i) = [(i, r)])
include hh

theorem readExpire_mirage (hm : s.heldMirage r = true) : s.readExpire i = s := by
  simp [State.readExpire, ha, he, ho, hr, hd, hh, hm]

theorem readExpire_withdrawn (hp : a.parts = []) (hm : s.heldMirage r = false) :
    s.readExpire i = ((((s.withoutHeld i).failRead i 0x06).cnt pgBRG BRG.CNT_READS_WITHDRAWN).cnt pgBRG BRG.CNT_READS_EXPIRED).error
      pgBRG 2 0x02 0 0 0 := by
  simp [State.readExpire, State.withoutHeld, ha, he, ho, hr, hd, hh, hp, hm]

end
end

end

/-! ### Non-posted writes (R101) -/

theorem exec_npwExpiry (s : State) (i : Nat) : exec (.npwExpiry i) s = .next (s.npwExpire i).settle.shown := rfl

section
variable {i : Nat} {a : Acc} (ha : s.acc? i = some a)
include ha

theorem npwExpire_early (hd : s.due (a.start + us (s.gf1 pgBRG BRG.EXPIRY_READ_US)) = false) : s.npwExpire i = s := by
  simp only [State.npwExpire, ha, hd, Bool.not_false, Bool.or_true, if_true]

theorem npwExpire_one (he : a.ended = false) (ho : a.op = .write) (hr : a.isRelay = false)
    (hd : s.due (a.start + us (s.gf1 pgBRG BRG.EXPIRY_READ_US)) = true) {p : Part}
    (hp : a.parts.filter (fun p => isNpw a p && p.st != .finished && p.st != .stored) = [p]) :
    s.npwExpire i = ((s.pwLog 5 { p.entry a 0 with np := true }).writeFailed a.who 0x0B).endAcc i := by
  have hw : (a.op != .write) = false := by rw [ho]; rfl
  simp only [State.npwExpire, ha, he, hw, hr, hd, hp, each_single, Bool.not_true, Bool.or_self, List.isEmpty_cons, Bool.false_eq_true, if_false]

end

/-! ### The delayed-read store (R108) -/

theorem exec_drHoldExpiry_due {i : Nat} (hi : i < 64) (hv : s.tb .drd i T_DRD.VALID = true)
    (hd : us (s.gf1 pgBRG BRG.DR_CTL_HOLD_US) ≤ subMod s.stamp (s.tf .drd i T_DRD.STAMP) 48) :
    exec (.drHoldExpiry i) s = .next (s.drDiscard i).shown := by
  show execDrHoldExpiry i s = _
  simp only [execDrHoldExpiry, decide_eq_true hi, hv, decide_eq_true hd, Bool.and_self, if_true, done]

theorem exec_drHoldExpiry_early {i : Nat} (hd : subMod s.stamp (s.tf .drd i T_DRD.STAMP) 48 < us (s.gf1 pgBRG BRG.DR_CTL_HOLD_US)) :
    exec (.drHoldExpiry i) s = .next s.shown := by
  show execDrHoldExpiry i s = _
  simp only [execDrHoldExpiry, decide_eq_false (Nat.not_le.2 hd), Bool.and_false, Bool.false_eq_true, if_false, done]

theorem exec_drRelease (s : State) (v : Word) : exec (.drRelease v) s = .next (s.onPage pgBRG (.drRelease v) (s.drRelease v)).shown := rfl

theorem drRelease_valid {v : Word} (hb : bitAt v.toNat 8 = true) (hv : s.tb .drd (fld v 0 6) T_DRD.VALID = true) :
    s.drRelease v = s.drFree (fld v 0 6) := by
  simp only [State.drRelease, hb, hv, Bool.and_self, if_true]

theorem drRelease_no_release {v : Word} (hb : bitAt v.toNat 8 = false) : s.drRelease v = s := by
  simp only [State.drRelease, hb, Bool.false_and, Bool.false_eq_true, if_false]

/-! ### The posted-write error log (R117) -/

theorem exec_pwlogRelease (s : State) (v : Word) :
    exec (.pwlogRelease v) s = .next (s.onPage pgBRG (.pwlogRelease v) (s.pwRelease v)).shown := rfl

theorem tkey_ne (t : Tbl) {i j : Nat} (h : i ≠ j) : tkey t i ≠ tkey t j := fun he => h (Nat.add_left_cancel he)

/-- The oldest entries of the log, r of them from entry o on, read 0. -/
def State.pwClear (s : State) (o r : Nat) : State := s.each (List.range r) (fun i s => s.setEnt .pwl ((o + i) % 256) 0)

theorem pwClear_succ (s : State) (o r : Nat) : s.pwClear o (r + 1) = (s.pwClear o r).setEnt .pwl ((o + r) % 256) 0 := by
  simp only [State.pwClear, State.each, List.range_succ, List.foldl_append, List.foldl_cons, List.foldl_nil]

theorem ent_pwClear_freed (s : State) (o : Nat) {r i : Nat} (h : i < r) : (s.pwClear o r).ent .pwl ((o + i) % 256) = 0 := by
  induction r with
  | zero => exact absurd h (Nat.not_lt_zero i)
  | succ r ih =>
    rw [pwClear_succ]
    by_cases he : (o + i) % 256 = (o + r) % 256
    · rw [he, State.ent_setEnt_self]
    · have hi : i ≠ r := fun hir => he (by rw [hir])
      rw [State.ent_setEnt_of_ne _ _ (tkey_ne .pwl he), ih (by omega)]

theorem ent_pwClear_kept (s : State) (o : Nat) {r j : Nat} (h : ∀ i < r, (o + i) % 256 ≠ j) : (s.pwClear o r).ent .pwl j = s.ent .pwl j := by
  induction r with
  | zero => rfl
  | succ r ih =>
    rw [pwClear_succ, State.ent_setEnt_of_ne _ _ (tkey_ne .pwl (h r (Nat.lt_succ_self r)).symm), ih (fun i hi => h i (Nat.lt_succ_of_lt hi))]

theorem sameBut_pwClear (s : State) (o r : Nat) : SameBut s (s.pwClear o r) := by
  induction r with
  | zero => exact SameBut.refl s
  | succ r ih => rw [pwClear_succ]; exact ih.trans (sameBut_setEnt _ _ _ _)

/-- The registers after a release: the log is shorter by the r freed entries, and begins r entries further on. -/
theorem pwRelease_eq (s : State) (v : Word) {n r o : Nat} (hn : s.gf pgBRG BRG.PWLOG_STS_COUNT = n) (hr : min (fld v 0 9) n = r)
    (ho : s.gf pgBRG BRG.PWLOG_STS_OLDEST = o) :
    s.pwRelease v = ((s.pwClear o r).sf pgBRG BRG.PWLOG_STS_COUNT (n - r)).sf pgBRG BRG.PWLOG_STS_OLDEST ((o + r) % 256) := by
  subst hr hn ho; rfl

theorem SameBut.only_regs_tbls {s t : State} (h : SameBut s t) (ho : t.oas = s.oas) (hf : t.flt = s.flt) :
    t = { s with regs := t.regs, tbls := t.tbls } := by
  unfold SameBut at h
  rwa [ho, hf] at h

theorem pwRelease_only (s : State) (v : Word) : s.pwRelease v = { s with regs := (s.pwRelease v).regs, tbls := (s.pwRelease v).tbls } := by
  have hoas : ∀ o r, (s.pwClear o r).oas = s.oas := fun o r => each_keeps State.oas (fun _ _ => State.setEnt_oas ..) _ s
  have hflt : ∀ o r, (s.pwClear o r).flt = s.flt := fun o r => each_keeps State.flt (fun _ _ => State.setEnt_flt ..) _ s
  refine SameBut.only_regs_tbls ?_ ?_ ?_ <;> rw [pwRelease_eq s v rfl rfl rfl]
  · exact (sameBut_pwClear ..).trans ((sameBut_sf ..).trans (sameBut_sf ..))
  · rw [State.sf_oas, State.sf_oas, hoas]
  · rw [State.sf_flt, State.sf_flt, hflt]

section
variable (t : State) (x y : Nat)

theorem count_pwlogSts (hx : x < 512) :
    ((t.sf pgBRG BRG.PWLOG_STS_COUNT x).sf pgBRG BRG.PWLOG_STS_OLDEST y).gf pgBRG BRG.PWLOG_STS_COUNT = x := by
  rw [State.gf_sf_of_disjoint _ _ _ (by decide) (by decide), State.gf_sf_self _ _ _ _ (by decide)]
  exact Nat.mod_eq_of_lt hx

theorem oldest_pwlogSts (hy : y < 256) : (t.sf pgBRG BRG.PWLOG_STS_OLDEST y).gf pgBRG BRG.PWLOG_STS_OLDEST = y := by
  rw [State.gf_sf_self _ _ _ _ (by decide)]
  exact Nat.mod_eq_of_lt hy

end

/-! ### Read-ahead slots (R115) -/

theorem exec_raHoldExpiry (s : State) (n : Nat) : exec (.raHoldExpiry n) s = .next (s.raHold n).shown := rfl

section
variable {n : Nat} {x : RaSlot} (hs : s.brg.slots = [(n, x)])
include hs

theorem raHold_unread (hb : x.bytes ≠ []) (hd : s.due (x.filled + us (s.gf1 pgBRG BRG.RA_CTL_HOLD_US)) = true) :
    s.raHold n = ({ s with brg := { s.brg with slots := [] } }.cnt pgBRG BRG.CNT_RA_DISCARDS 1).event pgBRG 5 := by
  simp [State.raHold, State.raDiscard, hs, hb, hd]

theorem raHold_early (hd : s.due (x.filled + us (s.gf1 pgBRG BRG.RA_CTL_HOLD_US)) = false) : s.raHold n = s := by
  simp [State.raHold, hs, hd]

end

/-- Settles O28, by the equations above, row by row. -/
theorem bridgeExpiryAndStores : Obligations.BridgeExpiryAndStores := by
  refine ⟨?read, ?withdrawn, ?early, ?npw, ?drDue, ?drEarly, ?release, ?noRelease, ?pwlog, ?applying, ?raDue, ?raEarly⟩
  case read =>
    intro s i a p ha he ho hr hh hd hp
    rw [exec_readExpiry, readExpire_unanswered ha he ho hr hd hh hp, State.withoutHeld]
  case withdrawn =>
    intro s i a r ha he ho hr hp hh hd
    refine ⟨fun hm => ?_, fun hm => ?_⟩
    · rw [exec_readExpiry, readExpire_withdrawn ha he ho hr hd hh hp hm, State.withoutHeld]
    · rw [exec_readExpiry, readExpire_mirage ha he ho hr hd hh hm]
  case early =>
    intro s i a ha hd
    rw [exec_readExpiry, exec_npwExpiry, readExpire_early ha hd, npwExpire_early ha hd]
    exact ⟨rfl, rfl⟩
  case npw =>
    intro s i a p ha he ho hr hd hp
    rw [exec_npwExpiry, npwExpire_one ha he ho hr hd hp]
  case drDue =>
    intro s i hi hv hd
    rw [exec_drHoldExpiry_due hi hv hd, State.drDiscard, State.drFree]
  case drEarly => exact fun s i hd => exec_drHoldExpiry_early hd
  case release =>
    intro s v hp hb hv
    rw [exec_drRelease, onPage_of_free hp, drRelease_valid hb hv, State.drFree]
  case noRelease =>
    intro s v hp hb
    rw [exec_drRelease, onPage_of_free hp, drRelease_no_release hb]
  case pwlog =>
    intro s v hp n r o t
    have ht : t = ((s.pwClear o r).sf pgBRG BRG.PWLOG_STS_COUNT (n - r)).sf pgBRG BRG.PWLOG_STS_OLDEST ((o + r) % 256) :=
      pwRelease_eq s v rfl rfl rfl
    have hn : n < 512 := s.gf_lt pgBRG BRG.PWLOG_STS_COUNT
    refine ⟨by rw [exec_pwlogRelease, onPage_of_free hp], ?_, ?_, fun i hi => ?_, fun j _ hj => ?_, ?_⟩
    · rw [ht, count_pwlogSts _ _ _ (by omega)]
    · rw [ht, oldest_pwlogSts _ _ (Nat.mod_lt _ (by decide))]
    · rw [ht, State.ent_sf, State.ent_sf, ent_pwClear_freed s o hi]
    · rw [ht, State.ent_sf, State.ent_sf, ent_pwClear_kept s o hj]
    · exact pwRelease_only s v
  case applying =>
    intro s v hp
    rw [exec_drRelease, exec_pwlogRelease, onPage_of_applying hp, onPage_of_applying hp]
    exact ⟨rfl, rfl⟩
  case raDue =>
    intro s n x hs hb hd
    rw [exec_raHoldExpiry, raHold_unread hs hb hd]
  case raEarly =>
    intro s n x hs hd
    rw [exec_raHoldExpiry, raHold_early hs hd]

end Sys2Proof.Machine
end

section
/-!
PROOF. Accesses at the Erg (R96, R98, R484 to R488, R494, R495): the CODE of an access, what its bytes become, one equation per case of
the row, and O55 from them.
-/

namespace Sys2Proof.Machine

variable {s : State}

/-! ### The CODE of an access (R484, R486 to R488) -/

section
variable {c off : Nat}

theorem ergServes_iff : s.ergServes c = true ↔ s.ergSt c = erACTIVE ∨ s.ergSt c = erSPARING := by
  rw [State.ergServes, Bool.or_eq_true, beq_iff_eq, beq_iff_eq]

theorem ergRegion_history (h : off / 2 ^ 26 < s.histSize c) : s.ergRegion c off = 0 := if_pos h

theorem ergRegion_spill (h1 : s.histSize c ≤ off / 2 ^ 26) (h2 : off / 2 ^ 26 < s.histSize c + s.spillSize c) : s.ergRegion c off = 1 :=
  (if_neg (Nat.not_lt.2 h1)).trans (if_pos h2)

theorem ergRegion_user (h : s.histSize c + s.spillSize c ≤ off / 2 ^ 26) : s.ergRegion c off = 2 :=
  (if_neg (Nat.not_lt.2 (le_trans (Nat.le_add_right _ _) h))).trans (if_neg (Nat.not_lt.2 h))

end

section
variable {a : Acc} {p : Part}

theorem ergCode_absent (ht : ¬ bitAt (s.gf pgERG ERG.ERG_CFG_CH_PRESENT) (ergChan p) = true) : s.ergCode a p = 0x01 := by
  simp only [State.ergCode, ht, Bool.not_false, if_true]

section
variable (ht : bitAt (s.gf pgERG ERG.ERG_CFG_CH_PRESENT) (ergChan p) = true)
include ht

theorem ergCode_unserved (hs : ¬ (s.ergSt (ergChan p) = erACTIVE ∨ s.ergSt (ergChan p) = erSPARING)) : s.ergCode a p = 0x03 := by
  have hs' : s.ergServes (ergChan p) = false := Bool.eq_false_iff.2 (mt ergServes_iff.1 hs)
  simp only [State.ergCode, ht, hs', Bool.not_true, Bool.not_false, Bool.false_eq_true, if_false, if_true]

section
variable (hs : s.ergSt (ergChan p) = erACTIVE ∨ s.ergSt (ergChan p) = erSPARING)
include hs

theorem ergCode_beyond (hu : ¬ p.base % 2 ^ 36 / 2 ^ 26 < s.ergUsable) : s.ergCode a p = 0x01 := by
  simp only [State.ergCode, ht, ergServes_iff.2 hs, Bool.not_true, Bool.false_eq_true, if_false, decide_eq_true (Nat.not_lt.1 hu),
    Bool.true_or, if_true]

/-- Within USABLE of a channel that serves, the region alone decides. -/
theorem ergCode_within (hu : p.base % 2 ^ 36 / 2 ^ 26 < s.ergUsable) :
    s.ergCode a p = if s.ergRegion (ergChan p) (p.base % 2 ^ 36) = 1 then 0x01
      else if s.ergRegion (ergChan p) (p.base % 2 ^ 36) = 0 ∧ a.op ≠ .read then 0x02 else 0 := by
  simp only [State.ergCode, ht, ergServes_iff.2 hs, Bool.not_true, Bool.false_eq_true, if_false, decide_eq_false (Nat.not_le.2 hu),
    Bool.false_or, beq_iff_eq, Bool.and_eq_true, bne_iff_ne]

end
end
end

/-! ### The bytes of a write (R486) -/

theorem each_cons {α : Type} (s : State) (x : α) (l : List α) (f : α → State → State) : s.each (x :: l) f = (f x s).each l f := rfl

/-- One byte position of a write: stored at its place from the base on where the write carries it. -/
def State.storeCell (base : Nat) (x : Option Byte × Nat) (s : State) : State :=
  match x.1 with
  | some b => { s with erg := { s.erg with mem := Memory.writeN s.erg.mem (base + x.2) [b] } }
  | none => s

theorem read_storeCell_self (base n : Nat) (x : Option Byte) (s : State) :
    Memory.read (State.storeCell base (x, n) s).erg.mem (base + n) = x.getD (Memory.read s.erg.mem (base + n)) := by
  cases x with
  | none => rfl
  | some b => exact Memory.read_write_self _ _ _

theorem read_storeCell_of_ne (base n : Nat) (x : Option Byte) (s : State) {y : Nat} (h : y ≠ base + n) :
    Memory.read (State.storeCell base (x, n) s).erg.mem y = Memory.read s.erg.mem y := by
  cases x with
  | none => rfl
  | some b => exact Memory.read_write_of_ne _ _ h

theorem read_storeCells_outside (base : Nat) (l : List (Option Byte)) (n : Nat) (s : State) {y : Nat}
    (h : y < base + n ∨ base + n + l.length ≤ y) :
    Memory.read (s.each (l.zipIdx n) (State.storeCell base)).erg.mem y = Memory.read s.erg.mem y := by
  induction l generalizing n s with
  | nil => rfl
  | cons x t ih =>
    rw [List.length_cons] at h
    rw [List.zipIdx_cons, each_cons, ih _ _ (by omega), read_storeCell_of_ne _ _ _ _ (by omega)]

theorem read_storeCells_at (base : Nat) (l : List (Option Byte)) (n : Nat) (s : State) {j : Nat} {x : Option Byte} (h : l[j]? = some x) :
    Memory.read (s.each (l.zipIdx n) (State.storeCell base)).erg.mem (base + n + j) = x.getD (Memory.read s.erg.mem (base + n + j)) := by
  induction l generalizing n s j with
  | nil => simp at h
  | cons c t ih =>
    rw [List.zipIdx_cons, each_cons]
    cases j with
    | zero =>
      obtain rfl : c = x := by simpa using h
      rw [read_storeCells_outside _ _ _ _ (by omega)]
      exact read_storeCell_self base n c s
    | succ j =>
      have hp : base + n + (j + 1) = base + (n + 1) + j := by omega
      rw [hp, ih (n + 1) _ (by simpa using h), read_storeCell_of_ne _ _ _ _ (by omega)]

/-! ### What an access does to the channel's bytes (R486, R487) -/

section
variable {a : Acc} {p : Part}

theorem ergDo_write (h : a.op = .write) : s.ergDo a p = s.each p.cells.zipIdx (State.storeCell p.base) := by
  simp only [State.ergDo, h]
  rfl

theorem ergDo_swap (h : a.op = .atomic .swap) :
    s.ergDo a p = { s with erg := { s.erg with mem := Memory.writeN s.erg.mem p.first (p.cells.filterMap id) } } := by
  simp only [State.ergDo, h, ergAtomic]

theorem ergDo_read (h : a.op = .read) : s.ergDo a p = s := by
  simp only [State.ergDo, h]

theorem ergWords_read (h : a.op = .read) : s.ergWords a p = wordsOf p.nw (Memory.readN s.erg.mem p.base (8 * p.nw)) := by
  simp only [State.ergWords, h]

end

theorem ergAtomic_cas_equal (old opnd : List Byte) : ergAtomic .cas old opnd old = opnd := if_pos (beq_self_eq_true old)

theorem ergAtomic_cas_differs {old cmp : List Byte} (h : old ≠ cmp) (opnd : List Byte) : ergAtomic .cas old opnd cmp = old :=
  if_neg (fun he => h (beq_iff_eq.1 he))

/-! ### The row (R486, R495) -/

theorem exec_ergAccessDone (s : State) (i : Nat) (u : Bool) : exec (.ergAccessDone i u) s = .next (s.ergAccess i u).settle.shown := rfl

theorem ergAccess_of_none {i : Nat} (h : s.ergNext i = none) (u : Bool) : s.ergAccess i u = s := by
  simp only [State.ergAccess, h]

section
variable {i k : Nat} {a : Acc} {p : Part} (h : s.ergNext i = some (i, a, k, p))
include h

/-- An access with CODE 0 is performed: a good codeword was read, or it is a write, which reads none. -/
theorem ergAccess_performed (h0 : s.ergCode a p = 0) {u : Bool} (hu : u = false ∨ a.op = .write) :
    s.ergAccess i u = ((s.cnt (pgERGC (ergChan p)) ERGC.CNT_USER_ACCESSES).ergDo a p).ergAnswer i k a p 0
      ((s.cnt (pgERGC (ergChan p)) ERGC.CNT_USER_ACCESSES).ergWords a p) := by
  have hb : (u && a.op != .write) = false := by rcases hu with hu | hu <;> simp [hu]
  simp [State.ergAccess, h, h0, hb]

theorem ergAccess_refused (hc : s.ergCode a p ≠ 0) (u : Bool) : s.ergAccess i u = s.ergAnswer i k a p (s.ergCode a p) [] := by
  simp [State.ergAccess, h, hc]

theorem ergAccess_uncorrectable (h0 : s.ergCode a p = 0) (ho : a.op ≠ .write) {t : State}
    (ht : (s.cnt (pgERGC (ergChan p)) ERGC.CNT_USER_ACCESSES).ergUncorr (ergChan p) (p.base % 2 ^ 36)
      ((s.cnt (pgERGC (ergChan p)) ERGC.CNT_USER_ACCESSES).ergRankOf (ergChan p) (p.base % 2 ^ 36)) false = t)
    (hr : t.ergRegion (ergChan p) (p.base % 2 ^ 36) = 2) :
    s.ergAccess i true = t.ergAnswer i k a p 0x05 [] := by
  have hb : (a.op != .write) = true := bne_iff_ne.2 ho
  simp only [State.ergAccess, h, h0, hb, beq_self_eq_true, Bool.and_self, if_true, ht, hr]

end

/-- Settles O55, by the equations above: the row, the CODE of an access, and the bytes it leaves. -/
theorem ergAccesses : Obligations.ErgAccesses := by
  refine ⟨?row, ?none, ?code, ?outside, ?stored, ?swapOutside, ?effect, ?atomic⟩
  case row =>
    intro s i k a p h c t off
    refine ⟨fun h0 => ?_, fun hc => ⟨?_, ?_⟩, fun ⟨h0, ho, hr⟩ => ?_, fun ⟨h0, ho⟩ => ?_⟩
    · rw [exec_ergAccessDone, ergAccess_performed h h0 (.inl rfl)]
    · rw [exec_ergAccessDone, ergAccess_refused h hc]
    · rw [exec_ergAccessDone, ergAccess_refused h hc]
    · rw [exec_ergAccessDone, ergAccess_uncorrectable h h0 ho rfl hr]
    · rw [exec_ergAccessDone, ergAccess_performed h h0 (.inr ho)]
  case none =>
    intro s i u h
    rw [exec_ergAccessDone, ergAccess_of_none h]
  case code =>
    intro s a p c off there serves within
    refine ⟨ergCode_absent, fun ⟨ht, hs⟩ => ergCode_unserved ht hs, fun ⟨ht, hs, hu⟩ => ergCode_beyond ht hs hu, ?_, ?_, ?_, ?_⟩
    · rintro ⟨ht, hs, hu, h1, h2⟩
      rw [ergCode_within ht hs hu, if_pos (ergRegion_spill h1 h2)]
    · rintro ⟨ht, hs, hu, h1, ho⟩
      rw [ergCode_within ht hs hu, ergRegion_history h1, if_neg Nat.zero_ne_one, if_pos ⟨rfl, ho⟩]
    · rintro ⟨ht, hs, hu, h1, ho⟩
      rw [ergCode_within ht hs hu, ergRegion_history h1, if_neg Nat.zero_ne_one, if_neg (fun hn => hn.2 ho)]
    · rintro ⟨ht, hs, hu, h2⟩
      rw [ergCode_within ht hs hu, ergRegion_user h2, if_neg (by decide), if_neg (fun hn => absurd hn.1 (by decide))]
  case outside =>
    intro s a p x ho hx
    rw [ergDo_write ho]
    exact read_storeCells_outside p.base p.cells 0 s hx
  case stored =>
    intro s a p j b ho
    rw [ergDo_write ho]
    exact ⟨fun hj => read_storeCells_at p.base p.cells 0 s hj, fun hj => read_storeCells_at p.base p.cells 0 s hj⟩
  case swapOutside =>
    intro s a p x ho hx
    rw [ergDo_swap ho]
    exact Memory.read_writeN_outside _ _ _ hx
  case effect =>
    exact fun s a p => ⟨ergDo_swap, fun ho => ⟨ergDo_read ho, ergWords_read ho⟩⟩
  case atomic =>
    exact fun old opnd cmp => ⟨rfl, ergAtomic_cas_equal old opnd, rfl, fun hn => ergAtomic_cas_differs hn opnd⟩

end Sys2Proof.Machine
end

section
/-!
PROOF. The training of a port (R152 to R161, R167 to R170): one equation per case of each row, and O32 from them.
-/

namespace Sys2Proof.Machine

variable {s : State} {n : Nat}

/-! ### The record of a port -/

@[simp] theorem port_setPort_self (p : Port) : (s.setPort n p).port n = p := SMap.get_set_self _ _ _ _

theorem port_congr {t : State} (h : t.ports = s.ports) (n : Nat) : t.port n = s.port n := by rw [State.port, h, State.port]

@[simp] theorem port_setDiag (fault tap : Nat) (c : Bool) (period m : Nat) : (s.setDiag n fault tap c period).port m = s.port m :=
  port_congr (by simp only [State.setDiag, State.sf_ports]) m

@[simp] theorem port_peerCap (tb : Word64) (m : Nat) : (s.peerCap n tb).port m = s.port m :=
  port_congr (by simp only [State.peerCap, State.sf_ports]) m

/-! ### The cable sweep (R154, R156, R168, R169) -/

section
variable {fault tap rates : Nat} {c : Bool}

theorem exec_cableSweepDone (s : State) (n fault tap : Nat) (c : Bool) (rates : Nat) :
    exec (.cableSweepDone n fault tap c rates) s = .next (s.sweepDone n fault tap c rates).shown := rfl

theorem sweepDone_elsewhere (h : (s.ph n ≠ phDETECT ∧ s.ph n ≠ phFAULT) ∨ s.isLeader n = false) :
    s.sweepDone n fault tap c rates = s := by
  rcases h with ⟨hd, hf⟩ | hl
  · simp [State.sweepDone, hd, hf]
  · simp [State.sweepDone, hl]

/-- A sweep of a leader that sweeps, with a fault that stops training. -/
theorem sweepDone_fault (hl : s.isLeader n = true) (hs : s.ph n = phDETECT ∧ (s.port n).waiting = false ∨ s.ph n = phFAULT)
    (hf : fault = 1 ∨ fault = 2 ∨ fault = 3) : s.sweepDone n fault tap c rates = s.sweepFault n fault tap c := by
  have hb : (fault == 1 || fault == 2 || fault == 3) = true := by simpa [or_assoc] using hf
  rcases hs with ⟨hd, hw⟩ | hd
  · simp [State.sweepDone, hl, hd, hw, hb]
  · simp [State.sweepDone, hl, hd, hb]

theorem sweepDone_clean (hl : s.isLeader n = true) (hd : s.ph n = phDETECT) (hw : (s.port n).waiting = false)
    (hf : fault = 0 ∨ fault = 7) :
    s.sweepDone n fault tap c rates = (s.setDiag n fault tap c 75294).sweepClean n rates := by
  have hb : (fault == 1 || fault == 2 || fault == 3) = false := by rcases hf with rfl | rfl <;> rfl
  have hn : (phDETECT == phFAULT) = false := rfl
  simp [State.sweepDone, hl, hd, hw, hb, hn]

theorem sweepClean_of_rates (h : (s.setPort n { s.port n with reach := rates, rate := 1 }).offered n ≠ 0) :
    s.sweepClean n rates = ((s.setPort n { s.port n with reach := rates, rate := 1 }).echoLead n false).emit (.phy n "ECHO_LEAD") :=
  if_neg (by simpa using h)

theorem sweepFault_found (h : s.ph n ≠ phFAULT) :
    s.sweepFault n fault tap c = (((s.setDiag n fault tap c 75294).othersTrain n).enterPh n phFAULT).faultReport n fault none := by
  simp [State.sweepFault, h]

theorem sweepFault_same (h : s.ph n = phFAULT) (hf : s.gf (pgPRT n) PRT.DIAG_STS_FAULT = fault) :
    s.sweepFault n fault tap c = s.setDiag n fault tap c 75294 := by
  simp [State.sweepFault, h, hf]

theorem sweepFault_other (h : s.ph n = phFAULT) (hf : s.gf (pgPRT n) PRT.DIAG_STS_FAULT ≠ fault) :
    s.sweepFault n fault tap c = (s.setDiag n fault tap c 75294).faultReport n fault none := by
  simp [State.sweepFault, h, hf]

end

/-! ### The echo phases and the switch of rate (R154 to R156, R158) -/

section
variable {rates : Nat}

/-- The first echo phase ends with the rates within reach. -/
def State.phaseReach (s : State) (n rates : Nat) : State :=
  if (s.port n).rate = 1 then s.setPort n { s.port n with reach := (s.port n).reach &&& rates } else s

theorem exec_echoPhaseEnd (s : State) (n rates : Nat) : exec (.echoPhaseEnd ⟨n, rates⟩) s = .next (s.echoEnd n rates).shown := rfl

theorem echoEnd_early (h : s.echoOver n = false) : s.echoEnd n rates = s := by
  simp [State.echoEnd, h]

theorem echoEnd_unlocked (hp : s.ph n = phECHOLEAD) (ho : s.echoOver n = true) (hl : s.isLeader n = false) (hk : (s.port n).locked = false) :
    s.echoEnd n rates = s.trainFrom n := by
  simp [State.echoEnd, hp, ho, hl, hk, State.backToDetect]

/-- An echo phase that has ended, with a follower locked, goes on while a rate is left. -/
theorem echoEnd_over {t : State} (ho : s.echoOver n = true)
    (hp : s.ph n = phECHOLEAD ∧ (s.isLeader n = true ∨ (s.port n).locked = true) ∨ s.ph n = phECHOFOLLOW)
    (ht : s.phaseReach n rates = t) :
    s.echoEnd n rates = if t.offered n = 0 then t.cableFault n 8 none
      else if s.ph n = phECHOLEAD then (t.enterPh n phECHOFOLLOW).emit (.phy n "ECHO_FOLLOW")
      else (t.enterPh n phDUPLEX).emit (.phy n "DUPLEX") := by
  have h1 : (!((s.ph n == phECHOLEAD || s.ph n == phECHOFOLLOW) && s.echoOver n)) = false := by
    rcases hp with ⟨h, -⟩ | h <;> simp [h, ho]
  have h2 : (s.ph n == phECHOLEAD && !s.isLeader n && !(s.port n).locked) = false := by
    rcases hp with ⟨-, h | h⟩ | h
    · simp [h]
    · simp [h]
    · simp [h, phECHOFOLLOW, phECHOLEAD]
  subst ht
  simp only [State.echoEnd, h1, h2, Bool.false_eq_true, if_false, beq_iff_eq, State.phaseReach]

theorem exec_rateSwitchEnd (hp : s.ph n = phSWITCH) :
    exec (.rateSwitchEnd n) s = .next (if s.due ((s.port n).since + us 4) then s.echoLead n false else s).shown := by
  show execRateSwitchEnd n s = _
  simp [execRateSwitchEnd, hp, done]

end

/-! ### Training blocks and the exchange (R152, R153, R157) -/

section
variable {tb : Word64}

theorem exec_trainingBlockRx (s : State) (n : Nat) (tb : Word64) (f : Int) :
    exec (.trainingBlockRx n tb f) s = .next (s.tbRx n tb f).shown := rfl

theorem tbRx_off (h : s.ph n = phDISABLED ∨ s.ph n = phSLEEP ∨ s.ph n = phWAKING) (f : Int) : s.tbRx n tb f = s :=
  if_pos (by simpa [or_assoc] using h)

/-- Whether a port listens to training blocks. -/
theorem listens_iff : (s.ph n == phDISABLED || s.ph n == phSLEEP || s.ph n == phWAKING) = false ↔
    s.ph n ≠ phDISABLED ∧ s.ph n ≠ phSLEEP ∧ s.ph n ≠ phWAKING := by
  simp [and_assoc]

theorem tbRx_foreign (hp : s.ph n ≠ phDISABLED ∧ s.ph n ≠ phSLEEP ∧ s.ph n ≠ phWAKING) (h : blkType tb ≠ 0xC1 ∨ blkGood tb = false)
    (f : Int) : s.tbRx n tb f = s.breakRun n := by
  have hb (x : Bool) : (blkType tb != 0xC1 || !blkGood tb || x) = true := by rcases h with h | h <;> simp [h]
  simp only [State.tbRx, listens_iff.2 hp, hb, Bool.false_eq_true, if_false, if_true]

theorem tbRx_duplex (ht : blkType tb = 0xC1) (hg : blkGood tb = true) (hd : fld tb 8 4 = phDUPLEX) (hp : s.ph n = phDUPLEX)
    (hs : (s.port n).toSleep = none) (f : Int) : s.tbRx n tb f = s.tbAccept n tb f := by
  simp [State.tbRx, ht, hg, hd, hp, hs, phDUPLEX, phDISABLED, phSLEEP, phWAKING]

/-- A block of the exchange in DUPLEX, of a peer that fits. -/
theorem tbAccept_duplex (hd : fld tb 8 4 = phDUPLEX) (hp : s.ph n = phDUPLEX) (hw : (s.port n).waiting = false) {f : Int}
    (hf : f.natAbs ≤ 20) (hr : fld tb 13 1 = 0) (he : (fld tb 24 4, fld tb 28 3, fld tb 31 1 == 1) = s.expectLane n)
    (hc : (s.peerCap n tb).gb (pgPRT n) PRT.PHY_CTL_PEER_CHK = false) (hv : fld tb 20 2 = (s.port n).rate) :
    s.tbAccept n tb f = ((s.peerCap n tb).noteTb n tb).exchangeIn n tb := by
  have hjoin : (s.peerCap n tb).joins n tb = false := by simp [State.joins, hd, phDUPLEX, phECHOLEAD]
  have hrate : (((s.peerCap n tb).noteTb n tb).port n).rate = (s.port n).rate := by
    rw [State.noteTb, port_setPort_self, port_peerCap]
  obtain ⟨e1, e2, e3⟩ := (Prod.ext_iff.trans (and_congr_right fun _ => Prod.ext_iff)).1 he
  simp [State.tbAccept, hjoin, hd, hp, hw, hr, ← e1, ← e2, ← e3, hc, hrate, hv, Nat.not_lt.2 hf, phDUPLEX, phACTIVE, phFAULT, phRETRAIN]

theorem exchangeIn_of_exchanging (h : s.exchanging n = true) :
    s.exchangeIn n tb = if (s.exchange n tb).exchanging n && (s.exchange n tb).exchanged n then (s.exchange n tb).exchangeEnd n else s.exchange n tb := by
  simp only [State.exchangeIn, h, if_true]

theorem exchangeEnd_duplex (hp : s.ph n = phDUPLEX) :
    s.exchangeEnd n = if (s.port n).rate = 1 ∧ 1 < topRate (s.offered n &&& s.gf (pgPRT n) PRT.PEER_CAP_RATES) then
        (((s.setPort n { s.port n with rate := topRate (s.offered n &&& s.gf (pgPRT n) PRT.PEER_CAP_RATES) }).enterPh n phSWITCH).emit
          (.phy n "RATE_SWITCH"))
      else ((s.enterPh n phALIGN).startAlign n).emit (.phy n "ALIGN") := by
  have hr : (s.ph n == phRETRAIN) = false := by simp [hp, phDUPLEX, phRETRAIN]
  simp only [State.exchangeEnd, hr, Bool.false_eq_true, if_false, Bool.and_eq_true, beq_iff_eq, decide_eq_true_eq]

end

/-! ### The end of ALIGN (R159, R167) -/

theorem exec_alignDone (s : State) (n : Nat) (taps : List Int) : exec (.alignDone n taps) s = .next (s.alignDone n taps).shown := rfl

theorem alignDone_ready (ha : s.aligning n = true) (hr : s.linkReady_ n = true) (hc : (s.port n).cd = 0) (ho : s.frameOver n = true)
    (taps : List Int) : s.alignDone n taps = (s.becomeActive n taps (s.ph n == phALIGN)).linkActive n (s.port n).txAt := by
  simp only [State.alignDone, ha, hr, hc, ho, beq_self_eq_true, Bool.and_self, if_true]

theorem alignDone_waits (h : s.aligning n = false ∨ s.linkReady_ n = false ∨ (s.port n).cd ≠ 0) (taps : List Int) :
    s.alignDone n taps = s := by
  have hb : (s.aligning n && s.linkReady_ n && (s.port n).cd == 0 && s.frameOver n) = false := by rcases h with h | h | h <;> simp [h]
  simp only [State.alignDone, hb, Bool.false_eq_true, if_false]

/-! ### Limits and waits (R154, R161, R169) -/

theorem exec_trainTimeout (s : State) (n : Nat) : exec (.trainTimeout n) s = .next (s.trainTimeout n).shown := rfl

section
variable {t : Nat} (hl : s.trainLimit n = some t)
include hl

theorem trainTimeout_early (hd : s.due t = false) : s.trainTimeout n = s := by
  simp [State.trainTimeout, hl, hd]

theorem trainTimeout_failed (hd : s.due t = true) (hp : s.ph n = phDUPLEX ∨ s.ph n = phALIGN) : s.trainTimeout n = s.failLink n none := by
  rcases hp with hp | hp <;> simp [State.trainTimeout, hl, hd, hp, phDUPLEX, phALIGN, phECHOLEAD, phECHOFOLLOW]

theorem trainTimeout_unlocked (hd : s.due t = true) (hp : s.ph n = phECHOLEAD) : s.trainTimeout n = s.trainFrom n := by
  simp [State.trainTimeout, hl, hd, hp, State.backToDetect]

theorem trainTimeout_noPeer (hd : s.due t = true) (hp : s.ph n = phECHOFOLLOW) :
    s.trainTimeout n = (s.setDiag n 6 0 false 75294).cableFault n 6 none := by
  simp [State.trainTimeout, hl, hd, hp, phECHOFOLLOW, phECHOLEAD]

end

theorem exec_trainRetryWaitEnd_due (hp : s.ph n = phDETECT) (hw : (s.port n).waiting = true) (hl : s.isLeader n = true)
    (hd : s.due ((s.port n).since + (if s.gf (pgPRT n) PRT.PHY_STS_ATTEMPTS < 8 then ms 1 else ms 100)) = true) :
    exec (.trainRetryWaitEnd n) s = .next ((s.setPort n { s.port n with waiting := false }).emit (.phy n "SWEEP")).shown := by
  show execTrainRetryWaitEnd n s = _
  simp only [execTrainRetryWaitEnd, hp, hw, hl, hd, beq_self_eq_true, Bool.and_self, if_true, done]

theorem exec_trainRetryWaitEnd_follower (hl : s.isLeader n = false) : exec (.trainRetryWaitEnd n) s = .next s.shown := by
  show execTrainRetryWaitEnd n s = _
  simp [execTrainRetryWaitEnd, hl, done]

theorem exec_faultSweepTimer_due (hp : s.ph n = phFAULT) (hl : s.isLeader n = true) (hd : s.due ((s.port n).since + ms 10) = true) :
    exec (.faultSweepTimer n) s = .next ((s.setPort n { s.port n with since := s.clock }).emit (.phy n "SWEEP")).shown := by
  show execFaultSweepTimer n s = _
  simp only [execFaultSweepTimer, hp, hl, hd, beq_self_eq_true, Bool.and_self, if_true, done]

theorem exec_faultSweepTimer_follower (hl : s.isLeader n = false) : exec (.faultSweepTimer n) s = .next s.shown := by
  show execFaultSweepTimer n s = _
  simp [execFaultSweepTimer, hl, done]

/-- Settles O32, by the equations above, row by row. -/
theorem portTraining : Obligations.PortTraining := by
  refine ⟨?clean, ?found, ?inFault, ?elsewhere, ?echoLead, ?echoFollow, ?unlocked, ?echoEarly, ?switch, ?foreign, ?duplex, ?exchangeIn,
    ?exchangeEnd, ?align, ?alignWaits, ?failed, ?limitLead, ?noPeer, ?early, ?retry, ?faultSweep, ?follower⟩
  case clean =>
    intro s n fault tap rates c _ hd hl hw hf t ho
    have ht : t = (s.setDiag n fault tap c 75294).setPort n { (s.setDiag n fault tap c 75294).port n with reach := rates, rate := 1 } := by
      rw [port_setDiag]
    rw [exec_cableSweepDone, sweepDone_clean hl hd hw hf, sweepClean_of_rates (ht ▸ ho), ht]
  case found =>
    intro s n fault tap rates c hd hl hw hf
    rw [exec_cableSweepDone, sweepDone_fault hl (.inl ⟨hd, hw⟩) hf, sweepFault_found (by rw [hd]; decide)]
  case inFault =>
    intro s n fault tap rates c hp hl hf t
    rw [exec_cableSweepDone, sweepDone_fault hl (.inr hp) hf]
    exact ⟨fun h => by rw [sweepFault_same hp h], fun h => by rw [sweepFault_other hp h]⟩
  case elsewhere =>
    intro s n fault tap rates c h
    rw [exec_cableSweepDone, sweepDone_elsewhere h]
  case echoLead =>
    intro s n rates hp ho hl t
    rw [exec_echoPhaseEnd, echoEnd_over (t := t) ho (.inl ⟨hp, hl⟩) rfl, if_pos hp]
    exact ⟨fun h => by rw [if_neg h], fun h => by rw [if_pos h]⟩
  case echoFollow =>
    intro s n rates hp ho t
    have hn : s.ph n ≠ phECHOLEAD := by rw [hp]; decide
    rw [exec_echoPhaseEnd, echoEnd_over (t := t) ho (.inr hp) rfl, if_neg hn]
    exact ⟨fun h => by rw [if_neg h], fun h => by rw [if_pos h]⟩
  case unlocked =>
    intro s n rates hp ho hl hk
    rw [exec_echoPhaseEnd, echoEnd_unlocked hp ho hl hk]
  case echoEarly =>
    intro s n rates h
    rw [exec_echoPhaseEnd, echoEnd_early h]
  case switch =>
    intro s n hp
    rw [exec_rateSwitchEnd hp]
    exact ⟨fun h => by rw [if_pos h], fun h => by rw [if_neg (Bool.not_eq_true _ ▸ h)]⟩
  case foreign =>
    intro s n tb f h
    rw [exec_trainingBlockRx]
    exact ⟨fun hp => by rw [tbRx_off hp], fun hp => by rw [tbRx_foreign hp h]⟩
  case duplex =>
    intro s n tb f ht hg hd hp hs hw hf _ hr he hc hv _ _
    rw [exec_trainingBlockRx, tbRx_duplex ht hg hd hp hs, tbAccept_duplex hd hp hw hf hr he hc hv]
  case exchangeIn =>
    intro s n tb hx p t
    rw [exchangeIn_of_exchanging hx]
    exact ⟨fun h1 h2 => if_pos (by rw [Bool.and_eq_true]; exact ⟨h1, h2⟩), fun h => if_neg (by rw [Bool.and_eq_true]; exact fun hb => Bool.false_ne_true (h.symm.trans hb.2))⟩
  case exchangeEnd =>
    intro s n hp agreed
    rw [exchangeEnd_duplex hp]
    exact ⟨fun h => if_pos h, fun h => if_neg (by omega)⟩
  case align =>
    intro s n taps ha hr hc ho t u v w
    rw [exec_alignDone, alignDone_ready ha hr hc ho]
    have hw : w = s.becomeActive n taps (s.ph n == phALIGN) := by
      simp only [State.becomeActive, beq_iff_eq]
      rfl
    rw [hw]
  case alignWaits =>
    intro s n taps h
    rw [exec_alignDone, alignDone_waits h]
  case failed =>
    intro s n t hl hd hp
    rw [exec_trainTimeout, trainTimeout_failed hl hd hp]
  case limitLead =>
    intro s n t hl hd hp
    rw [exec_trainTimeout, trainTimeout_unlocked hl hd hp]
  case noPeer =>
    intro s n t hl hd hp
    rw [exec_trainTimeout, trainTimeout_noPeer hl hd hp]
  case early =>
    intro s n t hl hd
    rw [exec_trainTimeout, trainTimeout_early hl hd]
  case retry => exact fun s n hp hw hl hd => exec_trainRetryWaitEnd_due hp hw hl hd
  case faultSweep => exact fun s n hp hl hd => exec_faultSweepTimer_due hp hl hd
  case follower => exact fun s n hl => ⟨exec_faultSweepTimer_follower hl, exec_trainRetryWaitEnd_follower hl⟩

end Sys2Proof.Machine
end

section
/-!
PROOF. Block lock, polarity, markers, the loss of a lane and retrain (R147, R162 to R167, R181, R215): one equation per case of each row,
and O33 from them.
-/

namespace Sys2Proof.Machine

variable {s : State} {n : Nat}

/-! ### Block lock and polarity (R162, R163) -/

theorem exec_blockLockGained_on (hd : s.ph n ≠ phDISABLED) (hs : s.ph n ≠ phSLEEP) :
    exec (.blockLockGained n) s = .next ((s.sf (pgPRT n) PRT.PHY_STS_BLOCK_LOCK 1).setPort n { s.port n with locked := true }).shown := by
  show execBlockLockGained n s = _
  rw [execBlockLockGained, if_neg (by simp [hd, hs]), done]

theorem exec_blockLockGained_off (h : s.ph n = phDISABLED ∨ s.ph n = phSLEEP) : exec (.blockLockGained n) s = .next s.shown := by
  show execBlockLockGained n s = _
  rw [execBlockLockGained, if_pos (by simpa using h), done]

theorem exec_blockLockLost (s : State) (n : Nat) : exec (.blockLockLost n) s =
    .next ((s.sf (pgPRT n) PRT.PHY_STS_BLOCK_LOCK 0).setPort n { s.port n with locked := false }).shown := rfl

theorem exec_polarityCorrect (s : State) (n : Nat) : exec (.polarityCorrect n) s = .next (s.polarity n).shown := rfl

/-- A port from DETECT to RETRAIN that is not ACTIVE corrects its polarity, or fails the attempt. -/
theorem polarity_in_training (h1 : phDETECT ≤ s.ph n) (h2 : s.ph n ≤ phRETRAIN) (ha : s.ph n ≠ phACTIVE) :
    s.polarity n = if (s.port n).cfg.polAuto then ((s.sf (pgPRT n) PRT.PHY_STS_POL_INV (1 - s.gf (pgPRT n) PRT.PHY_STS_POL_INV)).sf (pgPRT n)
        PRT.DIAG_STS_FAULT 4).event (pgPRT n) 5
      else (s.sf (pgPRT n) PRT.DIAG_STS_FAULT 4).failLink n none := by
  rw [State.polarity, if_neg (by simp [ha, h1, h2])]

/-! ### Markers (R164, R165) -/

section
variable {am : Word64} {k : Nat}

theorem exec_amRx (s : State) (n : Nat) (am : Word64) (k : Nat) : exec (.amRx n am k) s = .next (s.amRx n am k).shown := rfl

theorem amRx_unmarked (h : blkType am ≠ 0xC2 ∨ s.marksPort n = false) : s.amRx n am k = s :=
  if_pos (by rcases h with h | h <;> simp [h])

/-- A marker in ALIGN: one with a wrong CRC is missed, one that does not fit fails the training. -/
theorem amRx_align (ht : blkType am = 0xC2) (hp : s.ph n = phALIGN) (hm : s.marksPort n = true) :
    s.amRx n am k = if blkGood am = false then s.amMissed n 1
      else if s.amGood n am = true ∧ k ≤ 60 then s.amCount n (fld am 40 16)
      else s.failLink n (some (0x08, (s.expectLane n).1 + fld am 8 4 * 16, k)) := by
  have ha : (phALIGN == phACTIVE) = false := rfl
  cases hg : blkGood am
  · simp [State.amRx, ht, hp, hm, hg]
  · by_cases hk : s.amGood n am = true ∧ k ≤ 60
    · simp [State.amRx, ht, hp, hm, hg, ha, hk]
    · have hb : (!s.amGood n am || decide (60 < k)) = true := by
        rw [not_and_or] at hk
        simpa using hk
      simp [State.amRx, ht, hp, hm, hg, ha, hk, hb]

/-- The count of the first marker, or of the next one, shows none missing. -/
theorem skipped_next (h : (s.port n).goodAm = 0 ∨ k = ((s.port n).lastAm + 1) % 65536) :
    (if (s.port n).goodAm == 0 then 0 else subMod k ((s.port n).lastAm + 1) 16) = 0 := by
  rcases h with h | h
  · simp [h]
  · have : subMod k ((s.port n).lastAm + 1) 16 = 0 := by rw [h, subMod]; omega
    simp [this]

theorem amCount_next (h : (s.port n).goodAm = 0 ∨ k = ((s.port n).lastAm + 1) % 65536) :
    s.amCount n k = s.setPort n { s.port n with goodAm := (s.port n).goodAm + 1, badAm := 0, lastAm := k } := by
  simp only [State.amCount, skipped_next h, beq_self_eq_true, if_true]

theorem amMissed_few (h : (s.port n).badAm + k < 3) : s.amMissed n k = s.setPort n { s.port n with badAm := (s.port n).badAm + k } :=
  if_neg (Nat.not_le.2 h)

theorem amMissed_third (h : 3 ≤ (s.port n).badAm + k) : s.amMissed n k = s.markerLost n := if_pos h

theorem exec_markerLockGained_active (hm : s.marksPort n = true) (hp : s.ph n = phACTIVE) :
    exec (.markerLockGained n) s = .next ((s.setPort n { s.port n with goodAm := max 2 (s.port n).goodAm, badAm := 0 }).sf
      (pgPRT n) PRT.PHY_STS_ALIGNED 1).shown := by
  show execMarkerLockGained n s = _
  simp [execMarkerLockGained, hm, hp, phALIGN, phACTIVE, phRETRAIN, b2n, done]

theorem exec_markerLockGained_unmarked (hm : s.marksPort n = false) : exec (.markerLockGained n) s = .next s.shown := by
  show execMarkerLockGained n s = _
  simp [execMarkerLockGained, hm, done]

theorem exec_markerLockLost (s : State) (n : Nat) :
    exec (.markerLockLost n) s = .next (if s.marksPort n then s.markerLost n else s).shown := rfl

end

/-! ### The loss of a lane (R147, R166) -/

theorem exec_lockLoss (s : State) (n c : Nat) : exec (.lockLoss n c) s = .next (s.lockLoss n c).shown := rfl

theorem lockLoss_codewords (s : State) (n : Nat) : s.lockLoss n 0 = if 8 ≤ (s.port n).badCw then s.laneLost n 0 else s := rfl

theorem lockLoss_markers (s : State) (n : Nat) :
    s.lockLoss n 1 = if s.marksPort n = true ∧ (s.port n).goodAm < 2 then s.laneLost n 1 else s := by
  simp only [State.lockLoss, Bool.and_eq_true, decide_eq_true_eq]

theorem lockLoss_lref (s : State) (n : Nat) : s.lockLoss n 2 = if s.ph n = phACTIVE then s.lrefLost (groupBase n) else s := by
  simp only [State.lockLoss, beq_iff_eq]

/-- A group on its own reference has no LREF_IN to lose. -/
theorem lrefLost_own {b : Nat} (h : (s.sf (pgPRT b) PRT.GRP_STS_PLL_LOCK 0).gb (pgPRT b) PRT.GRP_CTL_LREF_SRC = false) :
    s.lrefLost b = ((s.sf (pgPRT b) PRT.GRP_STS_PLL_LOCK 0).each (List.range 16) (fun i s => s.sf (pgPRT (b + i)) PRT.PHY_STS_LREF_OK 0)).each
      (List.range 16) (fun i s => s.laneLost (b + i) 2) := by
  simp only [State.lrefLost, h, Bool.false_eq_true, if_false]

theorem laneLost_inactive (h : s.ph n ≠ phACTIVE) (c : Nat) : s.laneLost n c = s := if_pos (by simpa using h)

/-- A lane of a single port, or of a port outside every link, is counted and captured, and its members retrain. -/
theorem laneLost_single (hp : s.ph n = phACTIVE) {c : Nat} {t : State}
    (ht : (s.cnt (pgPRT n) PRT.CNT_LOCK_LOSSES).errorNoEvent (pgPRT n) 0x06 (c % 4) 0 0 = t) (ha : t.apart n = false)
    (hw : t.lk (s.anchorOf n) = lkDISABLED ∨ t.width (s.anchorOf n) = 1) : s.laneLost n c = t.retrainLink (s.anchorOf n) := by
  have hb : (t.lk (s.anchorOf n) == lkDISABLED || t.width (s.anchorOf n) == 1) = true := by simpa using hw
  simp [State.laneLost, hp, ht, ha, hb]

/-! ### Retrain (R167, R181, R215) -/

theorem exec_retrainWrite (s : State) (n : Nat) : exec (.retrainWrite n) s = .next (s.retrainWrite n).shown := rfl

theorem retrainWrite_member (hp : s.ph n = phACTIVE) (ha : s.apart n = false) : s.retrainWrite n = s.retrainLink (s.anchorOf n) := by
  simp [State.retrainWrite, State.retrainFrom, hp, ha]

theorem retrainWrite_apart (hp : s.ph n = phACTIVE) (ha : s.apart n = true) : s.retrainWrite n = s.enterRetrain n := by
  simp [State.retrainWrite, State.retrainFrom, hp, ha]

theorem retrainWrite_inactive (hp : s.ph n ≠ phACTIVE) : s.retrainWrite n = s := if_neg (by simpa using hp)

theorem exec_retrainTimeout (hp : s.ph n = phRETRAIN) :
    exec (.retrainTimeout n) s = .next (if s.due ((s.port n).since + us 150) then s.trainFrom n else s).shown := by
  show execRetrainTimeout n s = _
  simp [execRetrainTimeout, hp, done]

/-- Settles O33, by the equations above, row by row. -/
theorem lockMarkersAndRetrain : Obligations.LockMarkersAndRetrain := by
  refine ⟨fun s n hd hs => exec_blockLockGained_on hd hs, fun s n h => exec_blockLockGained_off h, exec_blockLockLost, ?polarity, ?unmarked,
    ?align, fun s n k h => amCount_next h, fun s n k => ⟨amMissed_few, amMissed_third⟩, ?marked, ?markersOff, ?lockLoss,
    fun s b _ h => lrefLost_own h, fun s n c h => laneLost_inactive h c, fun s n c hp _ ha hw => laneLost_single hp rfl ha hw,
    ?retrain, ?retrainOff, ?timeout⟩
  case polarity =>
    intro s n h1 h2 ha
    rw [exec_polarityCorrect, polarity_in_training h1 h2 ha]
    exact ⟨fun h => by rw [if_pos h], fun h => by rw [if_neg (Bool.not_eq_true _ ▸ h)]⟩
  case unmarked =>
    intro s n am k h
    rw [exec_amRx, amRx_unmarked h]
  case align =>
    intro s n am k ht hp hm
    rw [exec_amRx, amRx_align ht hp hm]
    refine ⟨fun ⟨hg, hk⟩ => ?_, fun ⟨hg, hk⟩ => ?_, fun hg => by rw [if_pos hg]⟩
    · rw [if_neg (Bool.not_eq_false _ ▸ hg), if_pos hk]
    · have hn : ¬ (s.amGood n am = true ∧ k ≤ 60) := by
        rcases hk with hk | hk
        · simp [hk]
        · exact fun h => absurd h.2 (Nat.not_le.2 hk)
      rw [if_neg (Bool.not_eq_false _ ▸ hg), if_neg hn]
  case marked =>
    intro s n hm
    refine ⟨fun hp => exec_markerLockGained_active hm hp, ?_⟩
    rw [exec_markerLockLost, if_pos hm, State.markerLost]
  case markersOff =>
    intro s n hm
    refine ⟨exec_markerLockGained_unmarked hm, ?_⟩
    rw [exec_markerLockLost, if_neg (Bool.not_eq_true _ ▸ hm)]
  case lockLoss =>
    intro s n
    simp only [exec_lockLoss, lockLoss_codewords, lockLoss_markers, lockLoss_lref]
    refine ⟨fun h => by rw [if_pos h], fun h => by rw [if_neg (Nat.not_le.2 h)], fun h => by rw [if_pos h], fun h => ?_,
      fun h => by rw [if_pos h], fun h => by rw [if_neg h]⟩
    rw [if_neg]
    rcases h with h | h
    · simp [h]
    · exact fun hb => absurd hb.2 (Nat.not_lt.2 h)
  case retrain =>
    intro s n hp
    rw [exec_retrainWrite]
    exact ⟨fun ha => by rw [retrainWrite_member hp ha], fun ha => by rw [retrainWrite_apart hp ha]⟩
  case retrainOff =>
    intro s n hp
    rw [exec_retrainWrite, retrainWrite_inactive hp]
  case timeout =>
    intro s n hp
    rw [exec_retrainTimeout hp]
    exact ⟨fun h => by rw [if_pos h, State.trainFrom], fun h => by rw [if_neg (Bool.not_eq_true _ ▸ h)]⟩

end Sys2Proof.Machine
end

section
/-!
PROOF. The end of a sleep attempt on a link whose lane 0 runs on its spare (R174, R225): the first member of the link is then the spare,
so what the port of the anchor shows does not decide, and O34 fails.
-/

namespace Sys2Proof.Machine

variable {s : State} {a : Nat}

/-- The members of an enabled link begin with the port that carries lane 0. -/
theorem headD_members (h : s.lk a ≠ lkDISABLED) : (s.members a).headD a = s.lanePort a 0 := by
  obtain ⟨k, hk⟩ : ∃ k, s.width a = k + 1 := ⟨s.width a - 1, by have : 1 ≤ s.width a := Nat.le_max_left 1 _; omega⟩
  simp [State.members, h, hk, List.range_succ_eq_map]

theorem lanePort_spared {l : Nat} (hu : s.gb (pgPRT a) LNK.LINK_STS_SPARE_IN_USE = true)
    (hl : s.gf (pgPRT a) LNK.LINK_STS_SPARE_LANE = l) : s.lanePort a l = s.gf (pgPRT a) LNK.BOND_CTL_SPARE_PORT := by
  simp [State.lanePort, hu, hl]

/-- A link whose first member is about to stop has had its answer. -/
theorem exec_sleepAnswerTimeout_answered {x : Nat} (h : (s.port ((s.members a).headD a)).toSleep = some x) :
    exec (.sleepAnswerTimeout a) s = .next s.shown := by
  show execSleepAnswerTimeout a s = _
  unfold execSleepAnswerTimeout
  split
  · simp only [h, Option.isNone_some, Bool.and_false, Bool.false_eq_true, if_false, done]
  · rfl

/-- Link 0, 8 lanes wide and UP, with the spare, port 8, in lane 0: it asked for sleep at 0, has had SLEEP_ACK, and its ports 8 and
1 to 7 stop at 8,200 ns. It is 8 µs after the request. -/
def sparedStopping : State :=
  ((({ State.reset with clock := 8000 } : State).sf (pgPRT 0) LNK.LINK_STS_STATE lkUP
    |>.sf (pgPRT 0) LNK.BOND_CTL_WIDTH 3 |>.sf (pgPRT 0) LNK.BOND_CTL_SPARE_EN 1 |>.sf (pgPRT 0) LNK.BOND_CTL_SPARE_PORT 8
    |>.sf (pgPRT 0) LNK.LINK_STS_SPARE_IN_USE 1 |>.sf (pgPRT 0) LNK.LINK_STS_SPARE_LANE 0).each [8, 1, 2, 3, 4, 5, 6, 7]
      (fun n s => s.setPort n { Port.reset with toSleep := some 8200 })).setLard 0 { Lard.reset with sleepReq := true, sleepSent := some 0 }

theorem lk_sparedStopping : sparedStopping.lk 0 = lkUP := by decide +kernel

theorem anchor_sparedStopping : (sparedStopping.port 0).toSleep = none := by decide +kernel

theorem sleepSent_sparedStopping : (sparedStopping.lard 0).sleepSent = some 0 := by
  rw [sparedStopping, lard_setLard_self]

theorem first_sparedStopping : (sparedStopping.port ((sparedStopping.members 0).headD 0)).toSleep = some 8200 := by
  rw [headD_members (by rw [lk_sparedStopping]; decide), lanePort_spared (by decide +kernel) (by decide +kernel)]
  decide +kernel

/-- The end of a sleep attempt shows in the Larduper side of its link. -/
theorem shown_sleepOver_ne {t : Nat} (h : (s.lard a).sleepSent = some t) : s.shown ≠ (s.sleepOver a).shown := by
  intro he
  have hl : s.lards = (s.sleepOver a).lards := by simpa only [shown_lards] using congrArg State.lards he
  have hd : s.lard a = (s.sleepOver a).lard a := lard_congr hl a
  rw [State.sleepOver, lard_setLard_self] at hd
  rw [hd] at h
  exact Option.some_ne_none t h.symm

/-- Refutes O34: on the link of sparedStopping SLEEP_ANSWER_TIMEOUT is reached with nothing to stop at port 0, the anchor, which the
spare replaced; the attempt has had its answer all the same, and does not end. -/
theorem not_diagnosticsAndSleep : ¬ Obligations.DiagnosticsAndSleep := by
  unfold Obligations.DiagnosticsAndSleep
  rintro ⟨-, -, -, -, -, -, -, -, hanswer, -⟩
  obtain ⟨-, -, -, htimeout, -⟩ := hanswer sparedStopping 0 0 (mkBlk 0xC4 0) lk_sparedStopping sleepSent_sparedStopping (by decide +kernel)
  have hover : exec (.sleepAnswerTimeout 0) sparedStopping = .next (sparedStopping.sleepOver 0).shown :=
    htimeout ⟨by decide +kernel, anchor_sparedStopping⟩
  rw [exec_sleepAnswerTimeout_answered first_sparedStopping] at hover
  exact shown_sleepOver_ne sleepSent_sparedStopping (Host.Outcome.next.inj hover)

end Sys2Proof.Machine
end

section
/-!
PROOF. Codewords and received frames (R149, R187 to R200, R205 to R213): one equation per case of each row, and O36 from them.
-/

namespace Sys2Proof.Machine

variable {s : State} {n a : Nat}

/-! ### The record of a link -/

@[simp] theorem link_setLink_self (l : Link) : (s.setLink a l).link a = l := SMap.get_set_self _ _ _ _

@[simp] theorem setLink_setLink (l m : Link) : (s.setLink a l).setLink a m = s.setLink a m :=
  congrArg (fun x => ({ s with links := x } : State)) (SMap.set_set _ _ _ _ _)

@[simp] theorem flows_setLink (l : Link) (b : Nat) : (s.setLink a l).flows b = s.flows b := rfl

/-- The link's record is not in the registers. -/
theorem link_cnt (p off k b : Nat) : (s.cnt p off k).link b = s.link b := by rw [State.link, State.cnt_links, State.link]

/-! ### Codewords (R149, R166, R190, R191) -/

section
variable {cw : BitVec 2160} {c : RxCw}

theorem exec_codewordRx (s : State) (n : Nat) (cw : BitVec 2160) : exec (.codewordRx n cw) s = .next (s.codeword n cw).settle.shown := rfl

theorem codeword_inactive (h : s.ph n ≠ phACTIVE) : s.codeword n cw = s := if_pos (by simpa using h)

theorem codeword_uncorrectable {t : State} (hp : s.ph n = phACTIVE) (hd : rsDecode cw = none)
    (ht : s.setPort n { s.port n with
      badCw := (s.port n).badCw + 1, lfsr := (descramble (s.port n).lfsr (bits cw.toNat 52 2048)).2 } = t) {u : State}
    (hu : ((t.cnt (pgPRT (s.anchorOf n)) LNK.CNT_CW_UNCORRECTABLE).error (pgPRT (s.anchorOf n)) 21 0x1B
      (t.laneOf n + bits cw.toNat 0 8 * 16) 0 0).cwQueue n lostCw = u) :
    s.codeword n cw = if 7 ≤ (s.port n).badCw then u.laneLost n 0 else u := by
  subst ht hu
  simp only [State.codeword, hp, hd, bne_self_eq_false, Bool.false_eq_true, if_false, Nat.reduceLeDiff]

theorem codeword_decoded {syms : List Nat} {fixed : Bool} (hp : s.ph n = phACTIVE) (hd : rsDecode cw = some (syms, fixed)) {t : State}
    (ht : s.setPort n { s.port n with badCw := 0, lfsr := (descramble (s.port n).lfsr (bits (rsBits syms) 52 2048)).2 } = t) :
    s.codeword n cw = (if fixed then t.cnt (pgPRT (s.anchorOf n)) LNK.CNT_CW_CORRECTED else t).cwQueue n
      (bits (rsBits syms) 0 8, bitAt (rsBits syms) 12,
        (cwBlocks (bits (rsBits syms) 20 32) (descramble (s.port n).lfsr (bits (rsBits syms) 52 2048)).1).map some) := by
  subst ht
  simp only [State.codeword, hp, hd, bne_self_eq_false, Bool.false_eq_true, if_false]

theorem cwQueue_idle (hl : s.lk (s.anchorOf n) ≠ lkINIT) (hf : s.flows (s.anchorOf n) = false) : s.cwQueue n c = s :=
  if_pos (by simp [hl, hf])

theorem cwQueue_member (h : s.lk (s.anchorOf n) = lkINIT ∨ s.flows (s.anchorOf n) = true) (hs : s.isStandby n = false)
    (hm : n ∈ s.members (s.anchorOf n)) :
    s.cwQueue n c = (s.setPort n { s.port n with rxCws := (s.port n).rxCws ++ [c] }).rebuild (s.anchorOf n) ((s.port n).rxCws.length + 1) := by
  have hb : (s.lk (s.anchorOf n) == lkINIT || s.flows (s.anchorOf n)) = true := by simpa using h
  simp [State.cwQueue, hb, hs, hm]

end

/-! ### Blocks of a frame (R196) -/

theorem dataIn_of_flows (hf : s.flows a = true) (w : Word64) : s.dataIn a w = s.setLink a { s.link a with
    data := (s.link a).data ++ [w], corrupt := (s.link a).corrupt || 258 ≤ (s.link a).data.length } := by
  simp only [State.dataIn, hf, Bool.not_true, Bool.false_eq_true, if_false]

theorem dataIn_of_not_flows (hf : s.flows a = false) (w : Word64) : s.dataIn a w = s := by
  simp only [State.dataIn, hf, Bool.not_false, if_true]

theorem blockIn_lost (hf : s.flows a = true) : s.blockIn a none = s.setLink a { s.link a with corrupt := true } := by
  simp only [State.blockIn, hf, if_true, State.lostBlock]

theorem blockIn_data (w : Word64) : s.blockIn a (some ⟨false, w⟩) = s.dataIn a w := rfl

theorem blockIn_eof {w : Word64} (h : blkType w = btEOF) : s.blockIn a (some ⟨true, w⟩) = s.eofIn a w := by
  simp only [State.blockIn, State.ctlIn, h, beq_self_eq_true, if_true]

/-- Data blocks without an EOF: kept in order, and from the 259th on a corrupt frame. -/
theorem each_dataIn (hf : s.flows a = true) (w : Word64) (ws : List Word64) :
    s.each (w :: ws) (fun w s => s.dataIn a w) = s.setLink a { s.link a with
      data := (s.link a).data ++ w :: ws
      corrupt := (s.link a).corrupt || 258 ≤ (s.link a).data.length + ws.length } := by
  induction ws generalizing s w with
  | nil => exact dataIn_of_flows hf w
  | cons v ws ih =>
    have hf' : (s.dataIn a w).flows a = true := by rw [dataIn_of_flows hf, flows_setLink, hf]
    have hc : (decide (258 ≤ (s.link a).data.length) || decide (258 ≤ (s.link a).data.length + 1 + ws.length))
        = decide (258 ≤ (s.link a).data.length + (ws.length + 1)) := by
      rw [← Bool.decide_or]
      exact decide_eq_decide.2 (by omega)
    rw [each_cons, ih hf', dataIn_of_flows hf, setLink_setLink, link_setLink_self]
    simp only [List.append_assoc, List.cons_append, List.nil_append, List.length_append, List.length_cons, List.length_nil, Nat.zero_add,
      Bool.or_assoc, hc]

theorem each_dataIn_of_not_flows (hf : s.flows a = false) (ws : List Word64) : s.each ws (fun w s => s.dataIn a w) = s := by
  induction ws with
  | nil => rfl
  | cons w ws ih => rw [each_cons, dataIn_of_not_flows hf, ih]

/-! ### The EOF (R196, R205) -/

section
variable {eof : Word64}

theorem exec_frameRx (s : State) (a : Nat) (bs : List Word64) (eof : Word64) :
    exec (.frameRx a bs eof) s = .next ((s.each bs (fun w s => s.dataIn a w)).eofIn a eof).shown := rfl

theorem eofIn_of_not_flows (hf : s.flows a = false) : s.eofIn a eof = s := by
  simp only [State.eofIn, hf, Bool.not_false, if_true]

/-- An EOF outside a frame is only counted. -/
theorem eofIn_outside (hf : s.flows a = true) (hi : s.inFrame a = false) : s.eofIn a eof = s.cnt (pgPRT a) LNK.CNT_BAD_CTL := by
  have hi' : (s.cnt (pgPRT a) LNK.CNT_BAD_CTL).inFrame a = false := by rw [State.inFrame, link_cnt]; exact hi
  simp only [State.eofIn, hf, hi, hi', Bool.not_true, Bool.not_false, Bool.false_eq_true, if_false, if_true, ite_self]

/-- An EOF with a wrong CRC-8, or a block of another type, makes the frame corrupt. -/
theorem eofIn_bad (hf : s.flows a = true) (hi : s.inFrame a = true) (hb : blkType eof ≠ btEOF ∨ blkGood eof = false) :
    s.eofIn a eof = (s.cnt (pgPRT a) LNK.CNT_BAD_CTL).lostBlock a := by
  have hi' : (s.cnt (pgPRT a) LNK.CNT_BAD_CTL).inFrame a = true := by rw [State.inFrame, link_cnt]; exact hi
  have hb' : (blkType eof != btEOF || !blkGood eof) = true := by rcases hb with hb | hb <;> simp [hb]
  simp only [State.eofIn, hf, hb', hi', Bool.not_true, Bool.false_eq_true, if_false, if_true]

theorem eofIn_good (hf : s.flows a = true) (hi : s.inFrame a = true) (ht : blkType eof = btEOF) (hg : blkGood eof = true) :
    s.eofIn a eof = s.frameEnd a (s.link a).data (fld eof 8 32) (s.link a).corrupt := by
  simp only [State.eofIn, hf, hi, ht, hg, bne_self_eq_false, Bool.not_true, Bool.or_self, Bool.false_eq_true, if_false]

end

/-! ### The end of a frame (R197 to R199, R209, R212, R213) -/

/-- A frame has ended: the receiver is out of frame, and its credit is earned (R205). -/
def State.frameEnded (s : State) (a d : Nat) : State :=
  (s.setLink a { s.link a with corrupt := false, data := [], lastUse := s.clock }).creditFrame a d

theorem gf_frameEnded (d p : Nat) (f : Fld) : (s.frameEnded a d).gf p f = s.gf p f := rfl

/-- A frame of a header of two words and its words. -/
def frameOf (h0 h1 : Word64) (ws : List Word64) : Frame := ⟨BitVec.ofNat 128 (h0.toNat + h1.toNat * 2 ^ 64), ws⟩

/-- Whether such a frame is good (R197). -/
def frameGood (h0 h1 : Word64) (ws : List Word64) (crc : Nat) (corrupt : Bool) : Bool :=
  crc32 ((h0 :: h1 :: ws).flatMap (fun w => bytesOf 8 w.toNat)) == crc && (frameOf h0 h1 ws).len8 == ws.length && !corrupt

/-- What a frame that has ended does: it is bad, the expected one, one already received, or a later one (R197, R199). -/
def State.frameJudged (s : State) (a : Nat) (f : Frame) (good : Bool) : State :=
  if !good then (s.cnt (pgPRT a) LNK.CNT_CRC_ERRORS).gap a
  else if f.seq == s.gf (pgPRT a) LNK.RX_STS_RX_NEXT then s.rxExpected a f
  else if 2048 < subMod f.seq (s.gf (pgPRT a) LNK.RX_STS_RX_NEXT) 12 then s.sendAck a false
  else s.gap a

section
variable {h0 h1 : Word64} {ws : List Word64}

theorem frameEnd_eq (crc : Nat) (c : Bool) : s.frameEnd a (h0 :: h1 :: ws) crc c =
    (s.frameEnded a (ws.length + 2)).frameJudged a (frameOf h0 h1 ws) (frameGood h0 h1 ws crc c) := by
  have hg : (decide (2 ≤ (h0 :: h1 :: ws).length) && (frameOf h0 h1 ws).len8 + 2 == (h0 :: h1 :: ws).length
      && crc32 ((h0 :: h1 :: ws).flatMap (fun w => bytesOf 8 w.toNat)) == crc && !c) = frameGood h0 h1 ws crc c := by
    rw [frameGood, Bool.and_comm (crc32 _ == crc)]
    simp
  rw [State.frameJudged, ← hg]
  rfl

/-- A good EOF ends the frame that its data blocks began. -/
theorem exec_frameRx_whole {eof : Word64} (hf : s.flows a = true) (ht : blkType eof = btEOF) (hg : blkGood eof = true)
    (hd : (s.link a).data = []) (hw : ws.length < 257) :
    exec (.frameRx a (h0 :: h1 :: ws) eof) s = .next ((s.frameEnded a (ws.length + 2)).frameJudged a (frameOf h0 h1 ws)
      (frameGood h0 h1 ws (fld eof 8 32) (s.link a).corrupt)).shown := by
  have hl : ¬ 258 ≤ ([] : List Word64).length + (h1 :: ws).length := by simp only [List.length_nil, List.length_cons]; omega
  have hi : (s.setLink a { s.link a with data := h0 :: h1 :: ws }).inFrame a = true := by simp [State.inFrame]
  rw [exec_frameRx, each_dataIn hf, hd, decide_eq_false hl, Bool.or_false, List.nil_append,
    eofIn_good (by rw [flows_setLink, hf]) hi ht hg, link_setLink_self, frameEnd_eq]
  simp only [State.frameEnded, setLink_setLink, link_setLink_self]
  rfl

end

section
variable {f : Frame}

theorem rxExpected_taken (hv : f.vc < s.vcs a) (hp : f.payload ≤ maxPayBytes (s.gf (pgPRT a) (LNK.VC_CFG_MAXPAY f.vc)))
    (hr : (f.payload + 24 : Nat) ≤ s.rxFree a f.vc) : s.rxExpected a f = (s.takeFrame a f).rxAdvance a f.units := by
  simp only [State.rxExpected, Nat.not_le.2 hv, Nat.not_lt.2 hp, not_lt.2 hr, decide_false, Bool.or_self, Bool.false_eq_true, if_false]

theorem rxExpected_overrun (hv : f.vc < s.vcs a) (hp : f.payload ≤ maxPayBytes (s.gf (pgPRT a) (LNK.VC_CFG_MAXPAY f.vc)))
    (hr : s.rxFree a f.vc < (f.payload + 24 : Nat)) :
    s.rxExpected a f = ((s.cnt (pgPRT a) LNK.CNT_RX_OVERRUNS).error (pgPRT a) 19 0x16 f.vc (s.rxFree a f.vc).toNat 0).gap a := by
  simp only [State.rxExpected, Nat.not_le.2 hv, Nat.not_lt.2 hp, hr, decide_false, Bool.or_self, Bool.false_eq_true, if_false, if_true]

theorem rxExpected_unused (hv : s.vcs a ≤ f.vc) :
    s.rxExpected a f = (s.error (pgPRT a) 20 0x17 (f.seq + f.vc * 2 ^ 12 + f.len8 * 2 ^ 16)
      (1 + 2 * b2n (decide (maxPayBytes (s.gf (pgPRT a) (LNK.VC_CFG_MAXPAY f.vc)) < f.payload))) 0).rxAdvance a f.units := by
  simp only [State.rxExpected, hv, decide_true, Bool.true_or, if_true, b2n]

end

/-! ### The judgement of a frame (R197, R199) -/

section
variable {f : Frame}

theorem frameJudged_bad : s.frameJudged a f false = (s.cnt (pgPRT a) LNK.CNT_CRC_ERRORS).gap a := rfl

theorem frameJudged_expected (hs : f.seq = s.gf (pgPRT a) LNK.RX_STS_RX_NEXT) : s.frameJudged a f true = s.rxExpected a f := by
  simp only [State.frameJudged, hs, beq_self_eq_true, Bool.not_true, Bool.false_eq_true, if_false, if_true]

theorem frameJudged_received (hs : f.seq ≠ s.gf (pgPRT a) LNK.RX_STS_RX_NEXT)
    (hd : 2048 < subMod f.seq (s.gf (pgPRT a) LNK.RX_STS_RX_NEXT) 12) : s.frameJudged a f true = s.sendAck a false := by
  simp only [State.frameJudged, beq_false_of_ne hs, hd, Bool.not_true, Bool.false_eq_true, if_false, if_true]

theorem frameJudged_later (hs : f.seq ≠ s.gf (pgPRT a) LNK.RX_STS_RX_NEXT)
    (hd : subMod f.seq (s.gf (pgPRT a) LNK.RX_STS_RX_NEXT) 12 ≤ 2048) : s.frameJudged a f true = s.gap a := by
  simp only [State.frameJudged, beq_false_of_ne hs, Nat.not_lt.2 hd, Bool.not_true, Bool.false_eq_true, if_false]

end

theorem gap_first (h : s.gb (pgPRT a) LNK.RX_STS_NAK_STATE = false) :
    s.gap a = ((s.sf (pgPRT a) LNK.RX_STS_NAK_STATE 1).cnt (pgPRT a) LNK.CNT_NAKS_TX).sendAck a true := by
  simp only [State.gap, h, Bool.false_eq_true, if_false]

/-! ### Acknowledgement and flow (R200, R211) -/

theorem exec_ackTimer_due {t : Nat} (hf : s.flows a = true) (ht : (s.link a).ackSince = some t)
    (hd : s.due (t + s.gf1 (pgPRT a) LNK.ACK_CTL_ACK_T * 10) = true) : exec (.ackTimer a) s = .next (s.sendAck a false).shown := by
  show execAckTimer a s = _
  simp only [execAckTimer, hf, ht, hd, Bool.true_or, Bool.and_self, if_true, done]

theorem exec_ackTimer_acknowledged (ha : (s.link a).ackSince = none) (hc : (s.link a).credSince = none) :
    exec (.ackTimer a) s = .next s.shown := by
  show execAckTimer a s = _
  simp only [execAckTimer, ha, hc, Bool.or_self, Bool.and_false, Bool.false_eq_true, if_false, done]

theorem exec_ackTimer_stopped (hf : s.flows a = false) : exec (.ackTimer a) s = .next s.shown := by
  show execAckTimer a s = _
  simp only [execAckTimer, hf, Bool.false_and, Bool.false_eq_true, if_false, done]

theorem exec_flowRx (s : State) (a : Nat) (b : Word64) : exec (.flowRx a b) s = .next (s.flowIn a b).shown := rfl

theorem flowIn_flow {b : Word64} (hf : s.flows a = true) (hb : blkType b = btFLOW ∧ blkGood b = true) :
    s.flowIn a b = s.sf (pgPRT a) LNK.RX_STS_XOFF_RCVD (fld b 8 8) := by
  simp only [State.flowIn, State.ctlOk, hf, hb, beq_self_eq_true, Bool.and_self, if_true, flowXoff]

theorem flowIn_bad {b : Word64} (hf : s.flows a = true) (hb : blkType b ≠ btFLOW ∨ blkGood b = false) :
    s.flowIn a b = s.cnt (pgPRT a) LNK.CNT_BAD_CTL := by
  have hb' : (blkType b == btFLOW && blkGood b) = false := by rcases hb with hb | hb <;> simp [hb]
  simp only [State.flowIn, State.ctlOk, hf, hb', Bool.false_eq_true, if_false, if_true]

theorem flowIn_stopped (hf : s.flows a = false) (b : Word64) : s.flowIn a b = s := by
  simp only [State.flowIn, hf, Bool.false_eq_true, if_false]

theorem exec_flowSend (s : State) (a : Nat) : exec (.flowSend a) s = .next (if s.flows a then
    (s.setLink a { s.link a with flowDue := false }).emit (.ctl a (mkFlow (s.gf (pgPRT a) LNK.RX_STS_XOFF_SENT))) else s).shown := rfl

/-- Settles O36, by the equations above, row by row. -/
theorem codewordsAndReceivedFrames : Obligations.CodewordsAndReceivedFrames := by
  refine ⟨?uncorrectable, ?decoded, ?inactive, fun s n c hl hf => cwQueue_idle hl hf, fun s n c h hs hm => cwQueue_member h hs hm, ?block,
    fun s a w h => blockIn_eof h, ?stopped, ?outside, ?badEof, ?expected, ?gap, fun s a t hf ht hd => exec_ackTimer_due hf ht hd,
    fun s a ha hc => exec_ackTimer_acknowledged ha hc, ?flow, ?flowSend, ?noFlow⟩
  case uncorrectable =>
    intro s n cw hp hd t u
    rw [exec_codewordRx, codeword_uncorrectable hp hd rfl rfl]
    exact ⟨fun h => by rw [if_neg (Nat.not_le.2 h)], fun h => by rw [if_pos h]⟩
  case decoded =>
    intro s n cw syms fixed hp hd w d t
    rw [exec_codewordRx, codeword_decoded hp hd rfl]
  case inactive =>
    intro s n cw h
    rw [exec_codewordRx, codeword_inactive h]
  case block => exact fun s a w hf => ⟨(blockIn_data w).trans (dataIn_of_flows hf w), blockIn_lost hf⟩
  case stopped =>
    intro s a bs eof hf
    rw [exec_frameRx, each_dataIn_of_not_flows hf, eofIn_of_not_flows hf]
  case outside =>
    intro s a eof hf hd hc
    rw [exec_frameRx, State.each, List.foldl_nil, eofIn_outside hf (by rw [State.inFrame, hd, hc]; rfl)]
  case badEof =>
    intro s a w eof hf hb
    have hi : (s.dataIn a w).inFrame a = true := by simp [dataIn_of_flows hf, State.inFrame]
    rw [exec_frameRx, each_single, eofIn_bad (by rw [dataIn_of_flows hf, flows_setLink, hf]) hi hb]
  case expected =>
    intro s a h0 h1 ws eof hf ht hg hc hd hw f t hl hcrc
    have hgood : frameGood h0 h1 ws (fld eof 8 32) (s.link a).corrupt = true := by
      rw [frameGood, hcrc, hc, beq_self_eq_true, Bool.not_false, Bool.and_true, Bool.true_and]
      exact beq_iff_eq.2 hl
    have hj (hs : f.seq = s.gf (pgPRT a) LNK.RX_STS_RX_NEXT) : exec (.frameRx a (h0 :: h1 :: ws) eof) s = .next (t.rxExpected a f).shown := by
      have hs' : f.seq = t.gf (pgPRT a) LNK.RX_STS_RX_NEXT := hs.trans (gf_frameEnded _ _ _).symm
      rw [← frameJudged_expected hs', ← hgood]
      exact exec_frameRx_whole hf ht hg hd hw
    refine ⟨fun ⟨hs, hv, hp, hr⟩ => ?_, fun ⟨hs, hv, hp, hr⟩ => ?_, fun ⟨hs, hv⟩ => ?_⟩
    · rw [hj hs, rxExpected_taken hv hp hr]
    · rw [hj hs, rxExpected_overrun hv hp hr]
    · rw [hj hs, rxExpected_unused hv]
  case gap =>
    intro s a h0 h1 ws eof hf ht hg hn hd hw f t good d
    have hj : exec (.frameRx a (h0 :: h1 :: ws) eof) s = .next (t.frameJudged a f good).shown := exec_frameRx_whole hf ht hg hd hw
    have hnext : t.gf (pgPRT a) LNK.RX_STS_RX_NEXT = s.gf (pgPRT a) LNK.RX_STS_RX_NEXT := gf_frameEnded _ _ _
    have hnak : t.gb (pgPRT a) LNK.RX_STS_NAK_STATE = false := hn
    rw [hj]
    refine ⟨fun ⟨hb, hn'⟩ => ?_, fun ⟨hb, hs, h⟩ => ?_, fun ⟨hb, hs, h⟩ => ?_⟩
    · rw [hb, frameJudged_bad, gap_first hn']
    · rw [hb, frameJudged_received (hnext ▸ hs) (hnext ▸ h)]
    · rw [hb, frameJudged_later (hnext ▸ hs) (hnext ▸ h), gap_first hnak]
  case flow =>
    intro s a b hf
    rw [exec_flowRx]
    exact ⟨fun hb => by rw [flowIn_flow hf hb], fun hb => by rw [flowIn_bad hf hb]⟩
  case flowSend =>
    intro s a hf
    rw [exec_flowSend, if_pos hf]
  case noFlow =>
    intro s a b hf
    refine ⟨?_, ?_, exec_ackTimer_stopped hf⟩
    · rw [exec_flowSend, if_neg (Bool.not_eq_true _ ▸ hf)]
    · rw [exec_flowRx, flowIn_stopped hf]

end Sys2Proof.Machine
end

section
/-!
PROOF. Sending, acknowledgement and replay (R193, R198, R201 to R207): one equation per case of each row, and O37 from them.
-/

namespace Sys2Proof.Machine

variable {s : State} {a : Nat}

/-! ### What shows the sender's state (R207, R230) -/

theorem link_of_links {t : State} (h : t.links = s.links) (b : Nat) : t.link b = s.link b := by rw [State.link, h, State.link]

/-- Of a link's record only the wait of R207 changes. -/
theorem link_starveWatch (s : State) (a : Nat) : ∃ w, (s.starveWatch a).link a = { s.link a with starve := w } :=
  ⟨_, link_setLink_self _⟩

theorem link_txStatus (s : State) (a : Nat) : ∃ w, (s.txStatus a).link a = { s.link a with starve := w } := by
  obtain ⟨w, hw⟩ := link_starveWatch s a
  refine ⟨w, Eq.trans (link_of_links ?_ a) hw⟩
  simp only [State.txStatus, State.sf_links]

@[simp] theorem txStatus_out (s : State) (a : Nat) : (s.txStatus a).out = s.out := by
  simp only [State.txStatus, State.sf_out, State.starveWatch, State.setLink]

theorem txNext_txStatus (s : State) (a : Nat) : (s.txStatus a).gf (pgPRT a) LNK.SEQ_STS_TX_NEXT = s.gf (pgPRT a) LNK.SEQ_STS_TX_NEXT := by
  simp only [State.txStatus]
  repeat rw [State.gf_sf_of_disjoint _ _ _ (by decide) (by decide)]
  rfl

/-! ### A frame is started or stalls (R198, R204, R213) -/

theorem exec_frameStart (s : State) (a : Nat) : exec (.frameStart a) s = .next (s.frameStart a).shown := rfl

section
variable {c : Cargo}

theorem txHeads_single (hq : (s.link a).txq = [c]) : s.txHeads a = [c] := by
  simp [State.txHeads, hq]

theorem frameStart_idle (hq : (s.link a).txq = []) : s.frameStart a = s := by
  have hh : s.txHeads a = [] := by rw [State.txHeads, hq, List.filter_nil]
  simp only [State.frameStart, hh]

theorem frameStart_ready (hq : (s.link a).txq = [c]) (hv : s.startView a c.frame = .ready) : s.frameStart a = s.sendFrame a c := by
  simp only [State.frameStart, txHeads_single hq, List.find?_cons, hv, beq_self_eq_true]

theorem frameStart_waits (hq : (s.link a).txq = [c]) (hv : s.startView a c.frame ≠ .ready) : s.frameStart a = s.markStall a c.frame := by
  simp only [State.frameStart, txHeads_single hq, List.find?_cons, List.find?_nil, beq_false_of_ne hv]

theorem markStall_stalled {f : Frame} (hv : s.startView a f = .stalled) : s.markStall a f =
    ((if s.gb (pgPRT a) LNK.REPLAY_STS_STALLED then s else s.cnt (pgPRT a) LNK.CNT_REPLAY_STALLS).starveWatch a).sf (pgPRT a)
      LNK.REPLAY_STS_STALLED 1 := by
  simp only [State.markStall, hv, beq_self_eq_true, if_true]

/-- The flow state and the link state are not counted as stalls. -/
theorem markStall_uncounted {f : Frame} (hv : s.startView a f ≠ .stalled) : s.markStall a f = s.sf (pgPRT a) LNK.REPLAY_STS_STALLED 1 := by
  simp only [State.markStall, beq_false_of_ne hv, Bool.false_eq_true, if_false]

/-- A frame as it is sent: with the next number, on the VC it goes out on (R193, R198). -/
def State.numbered (s : State) (a : Nat) (c : Cargo) : Frame :=
  c.frame.withLink (s.gf (pgPRT a) LNK.SEQ_STS_TX_NEXT) (c.frame.onVc (s.vcs a))

/-- The record of a link that has sent a frame (R201, R204, R205). -/
def State.sentLink (s : State) (a : Nat) (c : Cargo) : Link :=
  let seq := s.gf (pgPRT a) LNK.SEQ_STS_TX_NEXT
  let l := s.link a
  { l with
    held := l.held ++ [(seq, { c with frame := s.numbered a c })], win := l.win - ((s.numbered a c).units : Int), txq := l.txq.erase c
    timer := if l.held.isEmpty then s.clock else l.timer
    emptyAt := none, lastUse := s.clock, sending := l.sending ++ [(seq, false, frameBlocks (s.numbered a c))] }

/-- What a counter leaves alone it leaves alone where it counts on a condition. -/
theorem keeps_counted {β : Type} (g : State → β) {p off : Nat} (h : g (s.cnt p off) = g s) (c : Bool) :
    g (if c then s.cnt p off else s) = g s := by
  cases c
  · rfl
  · exact h

/-- Sending keeps the frame in the link's record first, and then numbers, counts and emits it. -/
theorem sendFrame_eq (s : State) (a : Nat) (c : Cargo) : ∃ t : State, t.link a = s.sentLink a c ∧ t.out = s.out ∧
    s.sendFrame a c = ((((t.sf (pgPRT a) LNK.SEQ_STS_TX_NEXT (s.gf (pgPRT a) LNK.SEQ_STS_TX_NEXT + 1)).cnt (pgPRT a)
      LNK.CNT_FRAMES_TX).sf (pgPRT a) LNK.REPLAY_STS_STALLED 0).emit (.frame a (s.numbered a c))).txStatus a := by
  refine ⟨_, Eq.trans (link_of_links (s := s.setLink a (s.sentLink a c)) ?links a) (link_setLink_self _), ?out, rfl⟩
  case links => exact keeps_counted State.links (State.cnt_links _ _ _ 1) _
  case out => exact keeps_counted State.out (State.cnt_out _ _ _ 1) _

/-- Of the record of a link that has sent a frame, only the wait of R207 changes after. -/
theorem link_sendFrame (s : State) (a : Nat) (c : Cargo) : ∃ w, (s.sendFrame a c).link a = { s.sentLink a c with starve := w } := by
  obtain ⟨t, hl, -, he⟩ := sendFrame_eq s a c
  rw [he, ← hl, ← link_of_links (s := t)]
  · exact link_txStatus _ a
  · simp only [State.emit_links, State.sf_links, State.cnt_links]

theorem out_sendFrame (s : State) (a : Nat) (c : Cargo) : (s.sendFrame a c).out = .frame a (s.numbered a c) :: s.out := by
  obtain ⟨t, -, ho, he⟩ := sendFrame_eq s a c
  rw [he, txStatus_out, State.emit, State.sf_out, State.cnt_out, State.sf_out, ho]

theorem txNext_sendFrame (s : State) (a : Nat) (c : Cargo) :
    (s.sendFrame a c).gf (pgPRT a) LNK.SEQ_STS_TX_NEXT = (s.gf (pgPRT a) LNK.SEQ_STS_TX_NEXT + 1) % 4096 := by
  obtain ⟨t, -, -, he⟩ := sendFrame_eq s a c
  rw [he, txNext_txStatus, State.gf_emit, State.gf_sf_of_disjoint _ _ _ (by decide) (by decide), State.cnt,
    gf_setReg_of_off _ _ _ (by decide), State.gf_sf_self _ _ _ _ (by decide)]
  rfl

end

/-! ### ACK and NAK (R201, R202, R205) -/

section
variable {b : Word64} {n : Nat}

theorem exec_ackRx (s : State) (a : Nat) (b : Word64) : exec (.ackRx a b) s = .next (((s.ackIn a b).echoDone a).settle).shown := rfl

theorem exec_nakRx (s : State) (a : Nat) (b : Word64) : exec (.nakRx a b) s = .next (((s.nakIn a b).echoDone a).settle).shown := rfl

theorem ctlOk_good {t : Nat} (ht : blkType b = t) (hg : blkGood b = true) (f : State → State) : s.ctlOk a t b f = f s := by
  simp only [State.ctlOk, ht, hg, beq_self_eq_true, Bool.and_self, if_true]

section
variable (hf : s.flows a = true) (ht : blkType b = btACK) (hg : blkGood b = true)
include hf ht hg

theorem ackIn_releases (hr : s.releasable a b false = some n) : s.ackIn a b = (s.release a n).takeCredit a b := by
  simp only [State.ackIn, hf, Bool.not_true, Bool.false_eq_true, if_false, ctlOk_good ht hg, hr]

theorem ackIn_unsent (hr : s.releasable a b false = none) :
    s.ackIn a b = s.error (pgPRT a) 22 0x1C (ackSeq b) (ackCredit b) (s.gf (pgPRT a) LNK.SEQ_STS_TX_NEXT) := by
  simp only [State.ackIn, hf, Bool.not_true, Bool.false_eq_true, if_false, ctlOk_good ht hg, hr]
  rfl

end

/-- A NAK of a frame in reach releases the frames before its number; the rest is replayed unless a replay under way will reach it. -/
theorem nakIn_releases (hf : s.flows a = true) (ht : blkType b = btNAK) (hg : blkGood b = true)
    (hr : (s.cnt (pgPRT a) LNK.CNT_NAKS_RX).releasable a b true = some n) {t : State}
    (hu : ((s.cnt (pgPRT a) LNK.CNT_NAKS_RX).release a n).takeCredit a b = t) :
    s.nakIn a b = if (t.link a).held.any (fun e => e.1 == ackSeq b) && !t.replayPast a (ackSeq b) then t.replay a (ackSeq b) else t := by
  subst hu
  simp only [State.nakIn, hf, Bool.not_true, Bool.false_eq_true, if_false, ctlOk_good ht hg, hr]

/-! ### Release (R201, R202) -/

/-- Taking frames back from a replay gives the window back and changes what is being sent. -/
theorem link_cutReplay (s : State) (a : Nat) (keep : Nat → Bool) :
    ∃ w x, (s.cutReplay a keep).link a = { s.link a with win := w, sending := x } := by
  simp only [State.cutReplay]
  split
  · exact ⟨_, _, rfl⟩
  · exact ⟨_, _, (link_of_links (State.setReg_links _ _ _) a).trans (link_setLink_self _)⟩

/-- The record of a link whose held frames up to a count have been released (R201, R203). -/
def State.releasedLink (s : State) (a n : Nat) : Link :=
  let l := s.link a
  { l with held := l.held.drop n, inRow := 0, timer := s.clock, emptyAt := if (l.held.drop n).isEmpty then some s.clock else none }

theorem release_eq (s : State) (a : Nat) (hn : 0 < n) : ∃ keep,
    s.release a n = ((s.setLink a (s.releasedLink a n)).cutReplay a keep).txStatus a := by
  simp only [State.release, beq_false_of_ne hn.ne', Bool.false_eq_true, if_false]
  exact ⟨_, rfl⟩

/-- A release restarts the replay timer; a replay under way and the wait of R207 change after. -/
theorem link_release (s : State) (a : Nat) (hn : 0 < n) :
    ∃ w x v, (s.release a n).link a = { s.releasedLink a n with win := w, sending := x, starve := v } := by
  obtain ⟨keep, he⟩ := release_eq s a hn
  obtain ⟨v, hv⟩ := link_txStatus ((s.setLink a (s.releasedLink a n)).cutReplay a keep) a
  obtain ⟨w, x, hw⟩ := link_cutReplay (s.setLink a (s.releasedLink a n)) a keep
  exact ⟨w, x, v, by rw [he, hv, hw, link_setLink_self]⟩

end

/-! ### The replay timer (R203) -/

theorem exec_replayTimer (s : State) (a : Nat) : exec (.replayTimer a) s = .next (s.replayTimer a).shown := rfl

theorem replayTimer_empty (hh : (s.link a).held = []) : s.replayTimer a = s := by
  simp only [State.replayTimer, hh]

section
variable {seq : Nat} {c : Cargo} {rest : List (Nat × Cargo)} (hh : (s.link a).held = (seq, c) :: rest) (hf : s.flows a = true)
  (hd : s.due ((s.link a).timer + us (s.gf1 (pgPRT a) LNK.ACK_CTL_REPLAY_US)) = true)
include hh hf hd

theorem replayTimer_replays (hr : (s.link a).inRow < s.gf1 (pgPRT a) LNK.ACK_CTL_REPLAY_MAX ∨ (s.link a).rowFrom ≠ seq) :
    s.replayTimer a = (s.setLink a { s.link a with timer := s.clock }).replay a seq := by
  have hr' : (decide (s.gf1 (pgPRT a) LNK.ACK_CTL_REPLAY_MAX ≤ (s.link a).inRow) && (s.link a).rowFrom == seq) = false := by
    rcases hr with hr | hr <;> simp [hr]
  simp only [State.replayTimer, hh, hf, hd, hr', Bool.and_self, if_true, Bool.false_eq_true, if_false]

theorem replayTimer_retrains (hr : s.gf1 (pgPRT a) LNK.ACK_CTL_REPLAY_MAX ≤ (s.link a).inRow ∧ (s.link a).rowFrom = seq) {t : State}
    (ht : s.error (pgPRT a) 11 0x14 seq (s.link a).inRow 0 = t) :
    s.replayTimer a = (t.setLink a { t.link a with stopped := true }).retrainLink a := by
  obtain ⟨hmax, hfrom⟩ := hr
  subst ht
  simp only [State.replayTimer, hh, hf, hd, hmax, hfrom, decide_true, beq_self_eq_true, Bool.and_self, if_true]

end

/-! ### The audit of the window (R206) -/

theorem exec_creditAudit (s : State) (a : Nat) : exec (.creditAudit a) s = .next (s.creditAudit a).shown := rfl

theorem creditAudit_idle (he : (s.link a).emptyAt = none) : s.creditAudit a = s := by
  simp only [State.creditAudit, he]

/-- What the window lacks when nothing is held, as far as DEFICIT shows it. -/
def State.deficit (s : State) (a : Nat) : Nat := min 4095 ((s.gf (pgPRT a) LNK.WIN_STS_WIN_INIT : Int) - (s.link a).win).toNat

/-- An audit records the deficit and the greatest one. -/
def State.audited (s : State) (a : Nat) : State :=
  (s.setLink a { s.link a with emptyAt := none }).sf (pgPRT a) LNK.AUDIT_STS_DEFICIT (s.deficit a)
    |>.sf (pgPRT a) LNK.AUDIT_STS_DEFICIT_MAX (max (s.deficit a) (s.gf (pgPRT a) LNK.AUDIT_STS_DEFICIT_MAX))

/-- An audit at an empty buffer: a deficit of LEAK_TH or above is captured, and with AUTO_RESYNC the link retrains. -/
theorem creditAudit_due {t : Nat} (he : (s.link a).emptyAt = some t) (hf : s.flows a = true) (hh : (s.link a).held = [])
    (hd : s.due (t + 2 * s.gf1 (pgPRT a) LNK.ACK_CTL_ACK_T * 10) = true) {v : State}
    (hv : (s.audited a).error (pgPRT a) 12 0x15 (s.deficit a) (s.gf (pgPRT a) LNK.WIN_STS_WIN_INIT) 0 = v) :
    s.creditAudit a = if s.gf (pgPRT a) LNK.AUDIT_CTL_LEAK_TH ≠ 0 ∧ s.gf (pgPRT a) LNK.AUDIT_CTL_LEAK_TH ≤ s.deficit a then
      (if v.gb (pgPRT a) LNK.LINK_CTL_AUTO_RESYNC then v.retrainLink a else v) else s.audited a := by
  subst hv
  have hi : (s.link a).held.isEmpty = true := List.isEmpty_iff.2 hh
  simp only [State.creditAudit, he, hf, hi, hd, Bool.and_self, if_true, Bool.and_eq_true, bne_iff_ne, decide_eq_true_eq]
  rfl

/-! ### A starved window and a resynchronisation (R206, R207) -/

theorem exec_windowStarveTimer_due {t : Nat} (hs : (s.link a).starve = some t) (hf : s.flows a = true) (hw : s.starved a = true)
    (hd : s.due (t + us (s.gf1 (pgPRT a) LNK.ACK_CTL_REPLAY_US)) = true) :
    exec (.windowStarveTimer a) s = .next ((s.setLink a { s.link a with starve := none }).retrainLink a).shown := by
  show execWindowStarveTimer a s = _
  simp only [execWindowStarveTimer, hs, hf, hw, hd, Bool.and_self, if_true, done]

theorem exec_windowStarveTimer_unstarved (h : (s.link a).starve = none ∨ s.starved a = false) :
    exec (.windowStarveTimer a) s = .next s.shown := by
  show execWindowStarveTimer a s = _
  rw [execWindowStarveTimer]
  rcases h with h | h
  · simp only [h, done]
  · simp only [h, Bool.and_false, Bool.false_and, Bool.false_eq_true, if_false, done]
    cases (s.link a).starve <;> rfl

theorem exec_linkResync (s : State) (a : Nat) : exec (.linkResync a) s = .next (s.linkResync a).shown := rfl

theorem linkResync_up (h : s.lk a = lkUP) : s.linkResync a = s.retrainLink a := if_pos (beq_iff_eq.2 h)

theorem linkResync_ignored (h : s.lk a ≠ lkUP) : s.linkResync a = s := if_neg (mt beq_iff_eq.1 h)

/-- Settles O37, by the equations above, row by row. -/
theorem sendingAndReplay : Obligations.SendingAndReplay := by
  refine ⟨?ready, ?sent, ?closed, ?stalled, ?idle, ?ack, ?unsent, ?nak, ?replay, ?empty, ?audit, ?unaudited,
    fun s a t hs hf hw hd => exec_windowStarveTimer_due hs hf hw hd, fun s a h => exec_windowStarveTimer_unstarved h, ?resync, ?ignored⟩
  case ready =>
    intro s a c hq hv
    rw [exec_frameStart, frameStart_ready hq hv]
  case sent =>
    intro s a c hv hq n f
    obtain ⟨w, hl⟩ := link_sendFrame s a c
    rw [hl]
    refine ⟨rfl, rfl, ?_, out_sendFrame s a c, txNext_sendFrame s a c⟩
    show (s.link a).txq.erase c = []
    rw [hq, List.erase_cons_head]
  case closed =>
    intro s a c hq hv
    have hr : s.startView a c.frame ≠ .ready := by rcases hv with hv | hv <;> rw [hv] <;> decide
    have hs : s.startView a c.frame ≠ .stalled := by rcases hv with hv | hv <;> rw [hv] <;> decide
    rw [exec_frameStart, frameStart_waits hq hr, markStall_uncounted hs]
  case stalled =>
    intro s a c hq hv
    rw [exec_frameStart, frameStart_waits hq (by rw [hv]; decide), markStall_stalled hv]
  case idle =>
    intro s a hq
    rw [exec_frameStart, frameStart_idle hq]
  case ack =>
    intro s a n b hf ht hg hr
    refine ⟨by rw [exec_ackRx, ackIn_releases hf ht hg hr], fun hn => ?_⟩
    obtain ⟨w, x, v, hl⟩ := link_release s a hn
    rw [hl]
    exact ⟨rfl, rfl⟩
  case unsent =>
    intro s a b hf ht hg hr
    rw [exec_ackRx, ackIn_unsent hf ht hg hr]
  case nak =>
    intro s a n b hf ht hg hr t
    rw [exec_nakRx, nakIn_releases hf ht hg hr rfl]
    refine ⟨fun ⟨hh, hp⟩ => ?_, fun h => ?_⟩
    · rw [if_pos (by rw [hh, hp]; rfl)]
    · rw [if_neg (by rcases h with h | h <;> simp [t, h])]
  case replay =>
    intro s a seq c rest hh hf hd
    rw [exec_replayTimer]
    exact ⟨fun hr => by rw [replayTimer_replays hh hf hd hr], fun hr => by rw [replayTimer_retrains hh hf hd hr rfl]⟩
  case empty =>
    intro s a hh
    rw [exec_replayTimer, replayTimer_empty hh]
  case audit =>
    intro s a t he hf hh hd d u th
    have hc := creditAudit_due he hf hh hd rfl
    rw [exec_creditAudit]
    refine ⟨fun hl => ?_, fun hl => ?_⟩
    · rw [hc.trans (if_neg (fun ⟨h0, h1⟩ => hl.elim h0 (Nat.not_lt.2 h1)))]
      rfl
    · rw [hc.trans (if_pos hl)]
      rfl
  case unaudited =>
    intro s a he
    rw [exec_creditAudit, creditAudit_idle he]
  case resync =>
    intro s a h
    rw [exec_linkResync, linkResync_up h]
  case ignored =>
    intro s a h
    rw [exec_linkResync, linkResync_ignored h]

end Sys2Proof.Machine
end

section
/-!
PROOF. A station MSG on its way into the Gallery (R274 to R278, R299, R304, R340): the WRED decision with O42, and one equation per case
of admission, lookup, MSG_RX and ADMISSION_RESUME, with O39 from them.
-/

namespace Sys2Proof.Machine

variable {s : State}

/-! ### WRED (R276, R277) -/

section
variable {mn mx p avg r : Nat}

theorem wredDrops_of_max (h : mx ≤ avg) : wredDrops mn mx p avg r = true := if_pos h

theorem wredDrops_of_min (hn : avg < mn) (hx : avg < mx) : wredDrops mn mx p avg r = false := by
  rw [wredDrops, if_neg (Nat.not_le.2 hx), if_pos hn]

theorem wredDrops_between (hn : mn ≤ avg) (hx : avg < mx) :
    wredDrops mn mx p avg r = decide (r * (mx - mn) < p * 256 * (avg - mn)) := by
  rw [wredDrops, if_neg (Nat.not_le.2 hx), if_neg (Nat.not_lt.2 hn)]

end

/-- A queue with the average of a new enqueue attempt (R276). -/
def State.averaged (s : State) (q : Nat) : State :=
  s.st .que q T_QUE.AVG (wredAvg (s.tf .que q T_QUE.AVG) (s.tf .que q T_QUE.DEPTH) (s.tf .que q T_QUE.WRED_W))

/-- What the curve of a colour in a queue's profile decides for the average just computed and the next draw (R277). -/
def State.wredHits (s : State) (q colour : Nat) : Bool :=
  let k := (s.averaged q).wredCurve ((s.averaged q).tf .que q T_QUE.WRED_PROF) colour
  wredDrops k.1 k.2.1 k.2.2 (wredAvg (s.tf .que q T_QUE.AVG) (s.tf .que q T_QUE.DEPTH) (s.tf .que q T_QUE.WRED_W)) ((s.averaged q).nextFree 16)

section
variable {q c : Nat}

theorem wredHits_of_curve {mn mx p : Nat}
    (hk : (s.averaged q).wredCurve ((s.averaged q).tf .que q T_QUE.WRED_PROF) c = (mn, mx, p)) : s.wredHits q c =
      wredDrops mn mx p (wredAvg (s.tf .que q T_QUE.AVG) (s.tf .que q T_QUE.DEPTH) (s.tf .que q T_QUE.WRED_W)) ((s.averaged q).nextFree 16) := by
  rw [State.wredHits, hk]

theorem wred_off (he : s.tb .que q T_QUE.WRED_EN = false) : s.wred q c = (s, false) := by
  rw [State.wred, he, if_neg Bool.false_ne_true]

theorem wred_on (he : s.tb .que q T_QUE.WRED_EN = true) : s.wred q c =
    if s.wredHits q c then ((s.averaged q).drawn.cnt pgSWC SWC.CNT_WRED_DROPS, true) else ((s.averaged q).drawn, false) := by
  rw [State.wred, if_pos he]
  rfl

variable (he : s.tb .que q T_QUE.WRED_EN = true)
include he

theorem wred_drops (h : s.wredHits q c = true) : s.wred q c = ((s.averaged q).drawn.cnt pgSWC SWC.CNT_WRED_DROPS, true) := by
  rw [wred_on he, if_pos h]

theorem wred_passes (h : s.wredHits q c = false) : s.wred q c = ((s.averaged q).drawn, false) := by
  rw [wred_on he, h, if_neg Bool.false_ne_true]

end

theorem nextFree_lt (s : State) (w : Nat) : s.nextFree w < 2 ^ w := Nat.mod_lt _ (Nat.two_pow_pos w)

/-- Settles O42: the draw is one of 16 bits, and each row is one outcome of the curve. -/
theorem wredDecision : Obligations.WredDecision := by
  intro s q colour he hc avg t prof mn mx p r dropped
  have hcurve : t.wredCurve prof colour = (mn, mx, p) := by
    simp only [mn, mx, p]
    match colour, hc with
    | 0, _ => rfl
    | 1, _ => rfl
    | 2, _ => rfl
  have hits : s.wredHits q colour = wredDrops mn mx p avg r := wredHits_of_curve hcurve
  refine ⟨nextFree_lt t 16, fun hn hx => ?below, fun hx => ?above, fun hn hx hr => ?hit, fun hn hx hr => ?miss⟩
  case below => exact wred_passes he (hits.trans (wredDrops_of_min hn hx))
  case above => exact wred_drops he (hits.trans (wredDrops_of_max hx))
  case hit => exact wred_drops he (hits.trans ((wredDrops_between hn hx).trans (decide_eq_true hr)))
  case miss => exact wred_passes he (hits.trans ((wredDrops_between hn hx).trans (decide_eq_false (Nat.not_lt.2 hr))))

/-! ### Admission (R274, R275) -/

theorem admits_of_min {a k : Nat} (h : s.tf .acc a T_ACC.USED + k ≤ s.tf .acc a T_ACC.MIN) : s.admits a k = true := by
  simp only [State.admits, h, decide_true, Bool.true_or]

section
variable {g : GFrame} {a : Nat} {qs : List (Nat × Option Word64)} (hg : g.acct = some a)
include hg

theorem tryStore_refused (h : s.admits a g.size = false) : s.tryStore g qs = (s, false) := by
  simp only [State.tryStore, hg, h, Bool.and_false, Bool.false_eq_true, if_false]

/-- Where nothing is to be spilled an admitted frame needs cells of the Gallery. -/
theorem tryStore_admitted (ha : s.active pgSWC = true) (hq : s.quiesce pgSWC = false) (hw : s.wantsSpill g qs = false)
    (h : s.admits a g.size = true) : s.tryStore g qs = if s.hasCells g.size then (s.storeIn g qs none, true) else (s, false) := by
  simp only [State.tryStore, hg, ha, hq, h, State.place, hw, Bool.not_false, Bool.and_self, if_true, Bool.false_eq_true, if_false]

end

/-! ### An offer to one queue, and the lookup (R299, R303, R304) -/

/-- A MSG for one queue that neither a refused wake nor WRED keeps it from is stored, or discarded as not admitted. -/
theorem offer_single {g : GFrame} {acct c q : Nat} {w : Option Word64} (hl : s.lockedOut q = false)
    (he : s.tb .que q T_QUE.WRED_EN = false) : s.offer g acct c [(q, w)] =
      if (s.tryStore g [(q, w)]).2 then (s.tryStore g [(q, w)]).1
      else ((s.tryStore g [(q, w)]).1.cnt pgSWC SWC.CNT_ADMIT_DROPS).acctDrop acct := by
  have hlock : [(q, w)].filter (fun x => s.lockedOut x.1) = [] := List.filter_singleton.trans (by rw [hl]; rfl)
  simp only [State.offer, hlock, State.each, List.foldl_nil, List.filter_singleton, List.contains_nil, Bool.not_false, cond_true,
    List.foldl_cons, wred_off he, Bool.false_eq_true, if_false, List.nil_append, List.isEmpty_cons]
  obtain ⟨t, _ | _⟩ := s.tryStore g [(q, w)] <;> rfl

section
variable {dtag cls src : Nat}

theorem aim_drop (h : s.tf .ste dtag T_STE.TYPE = 0 ∨ 4 < s.tf .ste dtag T_STE.TYPE) : s.aim dtag cls src = .drop := by
  unfold State.aim
  split
  case h_5 => rfl
  all_goals omega

theorem aim_port (h : s.tf .ste dtag T_STE.TYPE = 1) : s.aim dtag cls src = s.localPort (s.tf .ste dtag T_STE.PORT) cls := by
  simp only [State.aim, h]

theorem localPort_enabled {n : Nat} (h : s.linkEnabled n = true) : s.localPort n cls = .to false [(portQueue n cls, none)] := if_pos h

theorem localPort_disabled {n : Nat} (h : s.linkEnabled n = false) : s.localPort n cls = .none_ n := if_neg (by rw [h]; decide)

end

theorem countColour_inactive (h : s.active pgPOL = false) (c : Nat) : s.countColour c = s := if_pos (by rw [h]; rfl)

/-- With POL not ACTIVE nothing is metered. -/
theorem police_inactive (h : s.active pgPOL = false) (t : Tbl) (i c len : Nat) : s.police t i c len = (s, c, false) := by
  simp only [State.police, h, Bool.not_false, Bool.true_or, if_true]

section
variable {a acct c : Nat} {f : Frame}

theorem lookup_inactive (hp : s.active pgPOL = false) (hw : s.active pgWAD = false) :
    s.lookup a f acct c = (s.cnt pgWAD WAD.CNT_DROPS).acctDrop acct := by
  simp only [State.lookup, hw, Bool.not_false, Bool.true_or, if_true, countColour_inactive hp]

variable (hw : s.active pgWAD = true) (hen : s.gb pgWAD HDR.PAGE_CTL_EN = true) {u : State} (hu : s.cnt pgWAD WAD.CNT_LOOKUPS = u)
  (hp : u.active pgPOL = false) (hcs : u.tb .ste f.dtag T_STE.CLASS_SET = false)
include hw hen hu hp hcs

theorem lookup_drop (h : u.aim f.dtag f.cls a = .drop) : s.lookup a f acct c = (u.cnt pgWAD WAD.CNT_DROPS).acctDrop acct := by
  subst hu
  simp only [State.lookup, hw, hen, hcs, h, countColour_inactive hp, Bool.not_true, Bool.or_self, Bool.false_eq_true, if_false]

theorem lookup_noTarget {d : Nat} (h : u.aim f.dtag f.cls a = .none_ d) :
    s.lookup a f acct c = u.noTarget_ f.dtag (u.tf .ste f.dtag T_STE.TYPE) d acct := by
  subst hu
  simp only [State.lookup, hw, hen, hcs, h, countColour_inactive hp, Bool.not_true, Bool.or_self, Bool.false_eq_true, if_false]

/-- A frame for one queue of this device that is not a host queue is offered to it. -/
theorem lookup_toQueue {q : Nat} (h : u.aim f.dtag f.cls a = .to false [(q, none)]) (ht : u.tf .ste f.dtag T_STE.TYPE ≠ 3) :
    s.lookup a f acct c = u.offer (msgFrame f acct a false (some u.epochCur)) acct c [(q, none)] := by
  subst hu
  simp only [State.lookup, hw, hen, hcs, h, beq_false_of_ne ht, countColour_inactive hp, Bool.not_true, Bool.or_self, Bool.false_eq_true, if_false,
    Option.isSome_none, Bool.false_and, List.filter_singleton, cond_false, State.each, List.foldl_nil, Bool.not_false, cond_true, List.isEmpty_cons]

end

/-! ### MSG_RX (R299, R340) -/

section
variable {a : Nat} {f : Frame}

theorem exec_msgRx (s : State) (a : Nat) : exec (.msgRx a) s = .next (s.msgRx a).shown := rfl

theorem holdsOff_inactive {p : Nat} (h : s.active p = false) : s.holdsOff p = false := by
  rw [State.holdsOff, h, Bool.false_and]

/-- While the Wadi is quiesced every MSG waits, and without a MSG nothing is done. -/
theorem msgRx_idle (h : s.holdsOff pgWAD = true ∨ s.rxHead a opMSG = none) : s.msgRx a = s := by
  rcases h with h | h
  · simp only [State.msgRx, h, Bool.or_true, Bool.true_or, if_true]
  · simp only [State.msgRx, h, ite_self]

/-- A MSG waits for an earlier response of its link to an access (R270). -/
theorem msgRx_behind (hr : s.rxHead a opMSG = some f) (hb : s.behindRsp a f = true) : s.msgRx a = s := by
  simp only [State.msgRx, hr, hb, if_true, ite_self]

/-- With POL not ACTIVE the oldest MSG of a station link is taken and looked up. -/
theorem msgRx_lookup (hc : s.cascadeLink a = false) (hs : s.holdsOff pgSWC = false) (hw : s.holdsOff pgWAD = false)
    (hp : s.active pgPOL = false) (hr : s.rxHead a opMSG = some f) (hb : s.behindRsp a f = false) :
    s.msgRx a = (s.rxTake a f).lookup a (f.fromPort a s.device) (portQueue a f.cls) 0 := by
  have hp' : (s.rxTake a f).active pgPOL = false := (rxTake_active (by decide) s a f).trans hp
  simp only [State.msgRx, hc, hs, hw, holdsOff_inactive hp, hr, hb, police_inactive hp', rxTake_device, Bool.or_self, Bool.false_eq_true, if_false]

end

/-! ### ADMISSION_RESUME (R275) -/

theorem exec_admissionResume (s : State) (a : Nat) : exec (.admissionResume a) s =
    .next ((s.resumeAdmission a).settle.drainTlps (s.resumeAdmission a).settle.host.stalled.length).shown := rfl

theorem resumeAdmission_none {a : Nat} (h : s.nextWait a = none) : s.resumeAdmission a = s := by
  simp only [State.resumeAdmission, h]

/-- An account's first waiting frame, stored in t, leaves the waiting ones. -/
def State.admitted (t : State) (a : Nat) (w : GWait) : State :=
  let u := { t with gal := { t.gal with waiting := t.gal.waiting.erase w } }
  u.st .acc a T_ACC.WAITING (b2n (u.gal.waiting.any (fun x => x.frame.acct == some a)))

theorem resumeAdmission_stored {a : Nat} {w : GWait} (h : s.nextWait a = some w) (ht : (s.tryStore w.frame w.queues).2 = true) :
    s.resumeAdmission a = (s.tryStore w.frame w.queues).1.admitted a w := by
  have hpair : s.tryStore w.frame w.queues = ((s.tryStore w.frame w.queues).1, true) := Prod.ext rfl ht
  rw [State.resumeAdmission, h]
  dsimp only
  rw [hpair]
  rfl

theorem drainTlps_empty (h : s.host.stalled = []) (n : Nat) : s.drainTlps n = s := by
  cases n with
  | zero => rfl
  | succ n => simp only [State.drainTlps, h]

section
variable {i : Instr} {l : List Instr} {n : Nat} (h : s.host.stalled = i :: l)
include h

theorem drainTlps_waits (hw : s.gal.waiting.any (·.host) = true) : s.drainTlps (n + 1) = s := by
  simp only [State.drainTlps, h, hw, if_true]

theorem drainTlps_acts (hw : s.gal.waiting.any (·.host) = false) {t : State}
    (ht : ({ s with host := { s.host with stalled := [] } } : State).runTlp i = t) :
    s.drainTlps (n + 1) = ({ t with host := { t.host with stalled := l } } : State).drainTlps n := by
  subst ht
  simp only [State.drainTlps, h, hw, Bool.false_eq_true, if_false]

end

/-- Settles O39, by the equations above, clause by clause. -/
theorem fromMessageToGallery : Obligations.FromMessageToGallery := by
  refine ⟨?inactive, ?looked, fun s a h => by rw [exec_msgRx, msgRx_idle h], fun s a f hr hb => by rw [exec_msgRx, msgRx_behind hr hb],
    ?store, fun s a k h => admits_of_min h, ?wred, ?resume, ?none, fun s n h => drainTlps_empty h n, ?drain⟩
  case inactive =>
    intro s a f hc hs hp hw hr hb hp' hw'
    rw [exec_msgRx, msgRx_lookup hc hs (holdsOff_inactive hw) hp hr hb, lookup_inactive hp' hw']
  case looked =>
    intro s a f hc hs hwo hp hr hb f' u acct _ hw hen hpu hcs
    rw [exec_msgRx, msgRx_lookup hc hs hwo hp hr hb]
    refine ⟨fun ht => ?drop, fun ⟨ht, hl⟩ => ?noTarget, fun ⟨ht, hl, hk, he⟩ => ?port⟩
    case drop => rw [lookup_drop hw hen rfl hpu hcs (aim_drop ht)]
    case noTarget => rw [lookup_noTarget hw hen rfl hpu hcs ((aim_port ht).trans (localPort_disabled hl)), ht]
    case port =>
      rw [lookup_toQueue hw hen rfl hpu hcs ((aim_port ht).trans (localPort_enabled hl)) (by rw [ht]; decide), offer_single hk he]
  case store =>
    intro s g a qs hg ha hq hw
    refine ⟨fun ⟨hm, hc⟩ => ?_, fun h => ?_⟩
    · rw [tryStore_admitted hg ha hq hw hm, if_pos hc]
    · cases hm : s.admits a g.size with
      | false => exact tryStore_refused hg hm
      | true => rw [tryStore_admitted hg ha hq hw hm, h.resolve_left (by rw [hm]; decide), if_neg Bool.false_ne_true]
  case wred =>
    intro s q c he avg t k
    have hits : s.wredHits q c = wredDrops k.1 k.2.1 k.2.2 avg (t.nextFree 16) := wredHits_of_curve rfl
    refine ⟨fun hx => ?above, fun ⟨hx, hn⟩ => ?below⟩
    case above => exact wred_drops he (hits.trans (wredDrops_of_max hx))
    case below => exact wred_passes he (hits.trans (wredDrops_of_min hn hx))
  case resume =>
    intro s a w h ht t u v
    have hv : (s.resumeAdmission a).settle = v := congrArg State.settle (resumeAdmission_stored h ht)
    rw [exec_admissionResume, hv]
  case none =>
    intro s a h
    rw [exec_admissionResume, resumeAdmission_none h]
  case drain =>
    intro s i l n h t
    exact ⟨fun hw => drainTlps_acts h hw rfl, fun hw => drainTlps_waits h hw⟩

end Sys2Proof.Machine
end

section
/-!
PROOF. A head with a cell in a bank that is being retired (R287): its link's egress sends nothing until the cells have moved, which the
first clause of O40 leaves out, and O40 fails.
-/

namespace Sys2Proof.Machine

variable {s : State} {n q : Nat} {r : Ref} {g : GFrame}

/-! ### The heads of the queues of a link (R283, R344) -/

theorem headFix_empty (h : s.queue q = []) (k : Nat) : s.headFix q k = s := by
  cases k with
  | zero => rfl
  | succ k => simp only [State.headFix, h]

theorem gateNever_plain (h : s.active pgSCH = false) (f : Frame) : s.gateNever q f = false := by
  simp only [State.gateNever, State.gateOf, h, Bool.not_false, Bool.or_true, if_true]

/-- While SCH is not ACTIVE a readable frame of the present generation stays at the head of a link's queue. -/
theorem headFix_link {l : List Ref} (h : s.queue q = r :: l) (hg : s.galFrame r.frame = some g) (ho : s.refOld q r = false)
    (hb : g.bad = false) (hs : s.active pgSCH = false) (hq : isHostQueue q = false) (k : Nat) : s.headFix q (k + 1) = s := by
  simp only [State.headFix, h, hg, ho, hb, gateNever_plain hs, hq, Bool.false_eq_true, if_false]

theorem linkReady_empty (h : s.queue q = []) : s.linkReady q = false := by
  simp only [State.linkReady, State.head, h]

theorem linkReady_moving {l : List Ref} (h : s.queue q = r :: l) (hg : s.galFrame r.frame = some g) (hm : s.moving g = true) :
    s.linkReady q = false := by
  simp only [State.linkReady, State.head, h, hg, Option.map_some, hm, Bool.not_true, Bool.and_false, Bool.false_and]

theorem each_fixed {α : Type} {l : List α} {f : α → State → State} (h : ∀ x ∈ l, f x s = s) : s.each l f = s := by
  induction l with
  | nil => rfl
  | cons x l ih => rw [each_cons, h x List.mem_cons_self, ih (fun y hy => h y (List.mem_cons_of_mem x hy))]

/-! ### The choice at a link egress (R326, R344) -/

theorem exec_egressSelect_link (hn : n < 1024) (he : s.lnd.events = []) (b : Option Nat) :
    exec (.egressSelect n b) s = .next (s.linkSelect n b).settle.shown := by
  have hs : s.sendEvents = s := by rw [State.sendEvents, he]; rfl
  show execEgressSelect n b s = _
  rw [execEgressSelect, if_neg (by simpa using hn.ne), if_pos hn, hs, done]

/-- While SCH is not ACTIVE a link whose heads are all kept back, though none is to be discarded, sends nothing. -/
theorem linkSelect_waits (hs : s.active pgSCH = false) (hf : s.flows n = true) (ht : (s.link n).stopped = false)
    (hw : (s.link n).sweeping = false) (hfix : ∀ c < 8, s.headFix (portQueue n c) (s.queue (portQueue n c)).length = s)
    (hr : ∀ c < 8, s.linkReady (portQueue n c) = false) (b : Option Nat) : s.linkSelect n b = s := by
  have hheads : s.each ((List.range 8).map (portQueue n)) (fun q s => s.headFix q (s.queue q).length) = s := by
    refine each_fixed fun q hq => ?_
    obtain ⟨c, hc, rfl⟩ := List.mem_map.1 hq
    exact hfix c (List.mem_range.1 hc)
  have hready : ∀ q ∈ (List.range 8).map (portQueue n), s.linkReady q = false := by
    intro q hq
    obtain ⟨c, hc, rfl⟩ := List.mem_map.1 hq
    exact hr c (List.mem_range.1 hc)
  have hchoice : s.linkChoice n = none := by
    have hnone : ((List.range 8).map (portQueue n)).filter (fun q => s.linkReady q && s.senderReady q) = [] :=
      List.filter_eq_nil_iff.2 fun q hq => by simp [hready q hq]
    simp only [State.linkChoice, hs, Bool.false_eq_true, if_false, hnone, State.roundRobin, List.filter_nil, List.append_nil, List.head?_nil]
    cases s.lastKid (egNode n) 3 <;> rfl
  have hstall : ((List.range 8).map (portQueue n)).find? (fun q => s.linkReady q && !s.senderReady q) = none :=
    List.find?_eq_none.2 fun q hq => by simp [hready q hq]
  simp only [State.linkSelect, hs, hf, ht, hw, hheads, hchoice, hstall, Bool.not_true, Bool.or_self, Bool.false_eq_true, if_false, Bool.false_and,
    ite_self]

/-- A link whose only head has a cell in a bank that is being retired sends nothing (R287). -/
theorem egressSelect_moving {c : Nat} (hn : n < 1024) (hc : c < 8) (he : s.lnd.events = []) (hs : s.active pgSCH = false)
    (hf : s.flows n = true) (ht : (s.link n).stopped = false) (hw : (s.link n).sweeping = false) (hq : s.queue (portQueue n c) = [r])
    (hrest : ∀ d < 8, d ≠ c → s.queue (portQueue n d) = []) (hg : s.galFrame r.frame = some g) (ho : s.refOld (portQueue n c) r = false)
    (hb : g.bad = false) (hm : s.moving g = true) (b : Option Nat) : exec (.egressSelect n b) s = .next s.settle.shown := by
  have hp : isHostQueue (portQueue n c) = false := decide_eq_false (by rw [portQueue]; omega)
  rw [exec_egressSelect_link hn he, linkSelect_waits hs hf ht hw (fun d hd => ?fix) (fun d hd => ?ready)]
  case fix =>
    by_cases h : d = c
    · rw [h, hq]
      exact headFix_link hq hg ho hb hs hp 0
    · exact headFix_empty (hrest d hd h) _
  case ready =>
    by_cases h : d = c
    · rw [h]
      exact linkReady_moving hq hg hm
    · exact linkReady_empty (hrest d hd h)

/-! ### A retired bank under the head of a queue -/

/-- A MSG from link 17, in class 2. -/
def retiringMsg : GFrame := msgFrame (mkFrame (opMSG + 2 * 2 ^ 5) [1]) (portQueue 17 2) 17 false none

/-- Link 33 is UP and SWC ACTIVE; the MSG was stored for link 33, in cell 0, and BANK_RETIRE then named bank 0. -/
def retiringHead : State :=
  (((State.reset.sf pgSWC HDR.PAGE_STS_ACTIVE 1).sf (pgPRT 33) LNK.LINK_STS_STATE lkUP |>.setLink 33 { Link.reset with win := 100 }).storeIn
    retiringMsg [(portQueue 33 2, none)] none).bankRetire 0

/-- The MSG as it is stored. -/
def retiringStored : GFrame := { retiringMsg with cells := [0], refs := 1 }

def retiringRef : Ref := ⟨0, 0, 0, none⟩

/-- Serving the queue of the MSG would show in the turns of the scheduler. -/
theorem retiringHead_unserved : retiringHead.settle.shown ≠ (((retiringHead.setLastKid (egNode 33) 3 (portQueue 33 2)).toLink 33
    (portQueue 33 2) retiringRef retiringStored).settle).shown := by
  intro h
  have hturns : retiringHead.settle.shown.sch.last = (((retiringHead.setLastKid (egNode 33) 3 (portQueue 33 2)).toLink 33
    (portQueue 33 2) retiringRef retiringStored).settle).shown.sch.last := by rw [← h]
  revert hturns
  decide +kernel

/-- Refutes O40: in retiringHead the first clause's link has a frame at the head of its queue whose cell still moves out of bank 0; the
clause has EGRESS_SELECT give it to the sender, and the model, as R287 says, does not read it out. -/
theorem not_whatLeavesTheGallery : ¬ Obligations.WhatLeavesTheGallery := by
  unfold Obligations.WhatLeavesTheGallery
  rintro ⟨hserve, -⟩
  have hevents : retiringHead.lnd.events = [] := by decide +kernel
  have hsch : retiringHead.active pgSCH = false := by decide +kernel
  have hq : retiringHead.queue (portQueue 33 2) = [retiringRef] := by decide +kernel
  have hrest : ∀ d < 8, d ≠ 2 → retiringHead.queue (portQueue 33 d) = [] := by decide +kernel
  have hg : retiringHead.galFrame retiringRef.frame = some retiringStored := by decide +kernel
  have hold : retiringHead.refOld (portQueue 33 2) retiringRef = false := by decide +kernel
  have hflows : retiringHead.flows 33 = true := by decide +kernel
  have hstopped : (retiringHead.link 33).stopped = false := by decide +kernel
  have hsweeping : (retiringHead.link 33).sweeping = false := by decide +kernel
  have hmoving : retiringHead.moving retiringStored = true := by decide +kernel
  obtain ⟨hserved, -⟩ := hserve retiringHead 33 2 0 retiringRef retiringStored (by decide) (by decide) (by decide +kernel) hsch hevents hq hrest hg
    hold rfl rfl hflows hstopped hsweeping (by decide +kernel) (by decide +kernel) (by decide +kernel)
  have hkept := egressSelect_moving (by decide) (by decide) hevents hsch hflows hstopped hsweeping hq hrest hg hold rfl hmoving none
  exact retiringHead_unserved (Host.Outcome.next.inj (hkept.symm.trans hserved))

end Sys2Proof.Machine
end

section
/-!
PROOF. Epochs and gate lists of the Wadi (R299, R300, R308, R309, R334, R335, R339, R348): one equation per case of each row, and O43 from
them.
-/

namespace Sys2Proof.Machine

variable {s : State}

/-! ### Epochs (R308, R309) -/

theorem exec_epochFlip (s : State) : exec .epochFlip s = .next (s.onPage pgWAD .epochFlip s.flip).shown := rfl

theorem exec_epochDrained (s : State) : exec .epochDrained s = .next s.drainEnd.shown := rfl

/-- The state in which an accepted flip has changed CUR and the page generation. -/
def State.flipped (s : State) : State :=
  (s.sf pgWAD WAD.EPOCH_STS_CUR (b2n (!s.epochCur))).sf pgWAD HDR.PAGE_GEN_GEN (b2n (!s.epochCur))

/-- The state whose OLD_FRAMES is brought up to date. -/
def State.oldCounted (s : State) : State := s.sf pgWAD WAD.EPOCH_STS_OLD_FRAMES s.oldFrames

theorem epochCur_flipped (s : State) : s.flipped.epochCur = !s.epochCur := by
  have hother : s.flipped.gf pgWAD WAD.EPOCH_STS_CUR = (s.sf pgWAD WAD.EPOCH_STS_CUR (b2n (!s.epochCur))).gf pgWAD WAD.EPOCH_STS_CUR :=
    State.gf_sf_of_disjoint _ _ _ (by decide) (by decide)
  rw [State.epochCur, State.gb, hother, State.gf_sf_self _ _ _ _ (by decide)]
  cases s.epochCur <;> rfl

/-- The count of old frames leaves DRAINED alone. -/
theorem drained_oldCounted (s : State) : s.oldCounted.gb pgWAD WAD.EPOCH_STS_DRAINED = s.gb pgWAD WAD.EPOCH_STS_DRAINED := by
  rw [State.gb, State.oldCounted, State.gf_sf_of_disjoint _ _ _ (by decide) (by decide), State.gb]

theorem flip_drained (hd : s.gb pgWAD WAD.EPOCH_STS_DRAINED = true) (hn : s.flipped.oldFrames = 0) :
    s.flip = s.flipped.oldCounted.event pgWAD 0 :=
  (if_pos hd).trans (if_pos (beq_iff_eq.2 hn))

theorem flip_draining (hd : s.gb pgWAD WAD.EPOCH_STS_DRAINED = true) (hn : s.flipped.oldFrames ≠ 0) :
    s.flip = s.flipped.oldCounted.sf pgWAD WAD.EPOCH_STS_DRAINED 0 :=
  (if_pos hd).trans (if_neg (mt beq_iff_eq.1 hn))

theorem flip_refused (hd : s.gb pgWAD WAD.EPOCH_STS_DRAINED = false) : s.flip = s.event pgWAD 1 := by
  simp only [State.flip, hd, Bool.false_eq_true, if_false]

theorem drainEnd_drained (hd : s.gb pgWAD WAD.EPOCH_STS_DRAINED = false) (hn : s.oldFrames = 0) :
    s.drainEnd = (s.oldCounted.sf pgWAD WAD.EPOCH_STS_DRAINED 1).event pgWAD 0 :=
  if_pos (by rw [beq_iff_eq.2 hn, Bool.true_and]; exact congrArg not ((drained_oldCounted s).trans hd))

theorem drainEnd_draining (hn : s.oldFrames ≠ 0) : s.drainEnd = s.oldCounted :=
  if_neg (by rw [beq_false_of_ne hn, Bool.false_and]; exact Bool.false_ne_true)

theorem tf_writeSteer (s : State) (i : Nat) (e : Entry) : (s.writeSteer i e).tf .ste i T_STE.EPOCH = b2n s.epochCur := by
  rw [State.tf, State.writeSteer, State.ent_setEnt_self, fld_put_self _ _ (by decide)]
  cases s.epochCur <;> rfl

/-! ### Gate lists (R334, R339, R348) -/

/-- A list whose cycle has not ended stays in force. -/
theorem gateStart_within {n : Nat} {g : Gate} (hg : s.gate n = some g) (hl : g.lap s.sys.devtime = g.lap g.from_) : s.gateStart n = s := by
  simp only [State.gateStart, hg, hl, bne_self_eq_false, Bool.not_false, Bool.or_true, if_true]

section
variable {n : Nat} (hn : n < 1024)
include hn

theorem exec_gateCycleStart : exec (.gateCycleStart n) s = .next ((s.gateStart n).openNow n).shown := by
  show execGateCycleStart n s = _
  rw [execGateCycleStart, if_pos hn, done]

theorem exec_gateEntryChange : exec (.gateEntryChange n) s = .next (s.openNow n).shown := by
  show execGateEntryChange n s = _
  rw [execGateEntryChange, if_pos hn, done]

section
variable (ha : s.active pgSCH = true) (hg : s.gate n = none)
include ha hg

theorem gateStart_disabled (h : s.tb .gct n T_GCT.EN = false ∨ (s.gateTables n).entries = []) :
    s.gateStart n = { s with sch := { s.sch with gates := s.sch.gates.filter (fun e => e.1 != n) } } := by
  have hoff : (!s.tb .gct n T_GCT.EN || (s.gateTables n).entries.isEmpty) = true := by
    rcases h with h | h <;> simp [h]
  simp only [State.gateStart, hg, ha, hoff, decide_eq_false (Nat.not_le.2 hn), Bool.not_true, Bool.or_self, Bool.false_eq_true, if_false, if_true]

variable (he : s.tb .gct n T_GCT.EN = true)
include he

theorem gateStart_empty (hne : (s.gateTables n).entries ≠ []) (hu : (s.gateTables n).used = []) :
    s.gateStart n = ({ s with sch := { s.sch with gates := s.sch.gates.filter (fun e => e.1 != n) } } : State).error pgSCH 1 0x03 n 0 0 := by
  simp only [State.gateStart, hg, ha, he, hu, List.isEmpty_eq_false_iff.2 hne, decide_eq_false (Nat.not_le.2 hn), List.isEmpty_nil, Bool.not_true,
    Bool.or_self, Bool.false_eq_true, if_false, if_true]

theorem gateStart_inForce (hu : (s.gateTables n).used ≠ []) :
    s.gateStart n = { s with sch := { s.sch with gates := s.sch.gates.filter (fun e => e.1 != n) ++ [(n, s.gateTables n)] } } := by
  have hne : (s.gateTables n).entries ≠ [] := fun h => hu (by rw [Gate.used, h]; rfl)
  simp only [State.gateStart, hg, ha, he, List.isEmpty_eq_false_iff.2 hne, List.isEmpty_eq_false_iff.2 hu, decide_eq_false (Nat.not_le.2 hn),
    Bool.not_true, Bool.or_self, Bool.false_eq_true, if_false]

end
end

section
variable {n : Nat}

theorem openNow_inactive (ha : s.active pgSCH = false) : s.openNow n = s.st .gct n T_GCT.OPEN_NOW 0 := if_pos (by rw [ha]; rfl)

variable (ha : s.active pgSCH = true)
include ha

theorem openNow_none (hg : s.gate n = none) : s.openNow n = s.st .gct n T_GCT.OPEN_NOW 0xFF := by
  simp only [State.openNow, ha, hg, Bool.not_true, Bool.false_eq_true, if_false]

theorem openNow_some {g : Gate} (hg : s.gate n = some g) : s.openNow n = s.st .gct n T_GCT.OPEN_NOW (g.openAt s.sys.devtime) := by
  simp only [State.openNow, ha, hg, Bool.not_true, Bool.false_eq_true, if_false]

end

/-- Settles O43, by the equations above, row by row. -/
theorem epochsAndGates : Obligations.EpochsAndGates := by
  refine ⟨?flip, ?refused, ?drained, ?start, ?within, ?entry, ?steer, ?held⟩
  case flip =>
    intro s hp hd t u
    rw [exec_epochFlip, onPage_of_free hp]
    exact ⟨fun hn => by rw [flip_drained hd hn]; rfl, fun hn => by rw [flip_draining hd hn]; rfl, epochCur_flipped s⟩
  case refused =>
    intro s hp hd
    rw [exec_epochFlip, onPage_of_free hp, flip_refused hd]
  case drained =>
    intro s hd t
    rw [exec_epochDrained]
    exact ⟨fun hn => by rw [drainEnd_drained hd hn, State.oldCounted], fun hn => by rw [drainEnd_draining hn, State.oldCounted]⟩
  case start =>
    intro s n hn ha hg g rest put_
    rw [exec_gateCycleStart hn]
    exact ⟨fun h => by rw [gateStart_disabled hn ha hg h], fun ⟨he, hne, hu⟩ => by rw [gateStart_empty hn ha hg he hne hu],
      fun ⟨he, hu⟩ => by rw [gateStart_inForce hn ha hg he hu]⟩
  case within =>
    intro s n g ha hg hl hn
    rw [exec_gateCycleStart hn, exec_gateEntryChange hn, gateStart_within hg hl, openNow_some ha hg]
    exact ⟨rfl, rfl⟩
  case entry =>
    intro s n hn
    rw [exec_gateEntryChange hn]
    exact ⟨fun ⟨ha, hg⟩ => by rw [openNow_none ha hg], fun ha => by rw [openNow_inactive ha]⟩
  case steer => exact fun s i e _ => ⟨tf_writeSteer s i e, fun j hj _ => State.ent_setEnt_of_ne _ _ (tkey_ne _ hj)⟩
  case held =>
    intro s hp
    rw [exec_epochFlip, onPage_of_applying hp]

end Sys2Proof.Machine
end

section
/-!
PROOF. The cascade (R312 to R315, R317, R319, R320, R325): what a cascade link's only frame does, the end of a relayed request, and O44
from them.
-/

namespace Sys2Proof.Machine

variable {s : State} {a : Nat} {f : Frame}

/-! ### A frame leaves the receive buffer (R205, R209) -/

theorem rxBuf_flowUpdate (s : State) (a : Nat) : ((s.flowUpdate a).link a).rxBuf = (s.link a).rxBuf := by
  refine each_keeps (fun t => (t.link a).rxBuf) (fun v t => ?_) _ s
  dsimp only
  split
  · split
    · rw [link_setLink_self]
    · rfl
  · split
    · rw [link_cnt, link_setLink_self]
    · rfl

theorem rxBuf_rxTake (s : State) (a : Nat) (f : Frame) : ((s.rxTake a f).link a).rxBuf = (s.link a).rxBuf.erase f := by
  rw [State.rxTake, rxBuf_flowUpdate, link_setLink_self]

theorem op_stripped (f : Frame) : f.stripped.op = f.op := fld_put_of_disjoint _ _ (by decide) (by decide)

/-! ### The head of a cascade link (R312, R317) -/

theorem exec_cascadeFrameRx_off (hc : s.cascadeLink a = false) : exec (.cascadeFrameRx a) s = .next s.shown := by
  show execCascadeFrameRx a s = _
  simp only [execCascadeFrameRx, hc, Bool.false_eq_true, if_false, done]

/-- The only frame of a buffer heads its VC. -/
theorem cascHeads_single (hb : (s.link a).rxBuf = [f]) (ht : f.op ≠ opTIME) : s.cascHeads a = [f] := by
  have hhead : f ∈ (List.range 8).filterMap (fun v => [f].find? (fun g => g.vc == v)) :=
    List.mem_filterMap.2 ⟨f.vc, List.mem_range.2 (fld_lt _ _ _), List.find?_cons_of_pos (beq_self_eq_true _)⟩
  simp only [State.cascHeads, hb]
  exact List.filter_eq_self.2 fun g hg => by
    rw [List.mem_singleton.1 hg, bne_iff_ne.2 ht, Bool.true_and, List.contains_iff_mem.2 hhead]

section
variable (hc : s.cascadeLink a = true) (hb : (s.link a).rxBuf = [f])
include hc hb

/-- The only frame of a cascade link goes where `cascIn` sends it, when it leaves the buffer. -/
theorem exec_cascadeFrameRx_leaves {t : State} (ht : f.op ≠ opTIME) (hi : s.cascIn a f = t) (he : (t.link a).rxBuf = []) :
    exec (.cascadeFrameRx a) s = .next t.settle.shown := by
  show execCascadeFrameRx a s = _
  have hleft : (([] : List Frame) == [f]) = false := rfl
  simp only [execCascadeFrameRx, hc, if_true, cascHeads_single hb ht, State.cascTry, hi, he, hb, hleft, Bool.false_eq_true, if_false, done]

/-- So it goes where the frame is taken and what follows touches no link. -/
theorem exec_cascadeFrameRx_taken {t : State} (ht : f.op ≠ opTIME) (hi : s.cascIn a f = t) (hl : t.links = (s.rxTake a f).links) :
    exec (.cascadeFrameRx a) s = .next t.settle.shown :=
  exec_cascadeFrameRx_leaves hc hb ht hi (by rw [link_of_links hl, rxBuf_rxTake, hb, List.erase_cons_head])

end

/-! ### A discarded frame (R313, R315, R325) -/

theorem acctDrop_links (s : State) (acct : Nat) : (s.acctDrop acct).links = s.links := s.tcnt_links ..

theorem cwError_links (s : State) (a : Nat) (w : Word64) : (s.cwError a w).links = s.links := s.error_links ..

theorem noTarget_links (s : State) (dtag typ detail acct : Nat) : (s.noTarget_ dtag typ detail acct).links = s.links := by
  rw [State.noTarget_, acctDrop_links, State.error_links, State.cnt_links]

theorem routeDrop_links (s : State) (d hops a : Nat) : (s.routeDrop d hops a).links = s.links := by
  rw [State.routeDrop, State.error_links, State.cnt_links]

theorem cascIn_invalid (h : f.words = [] ∨ cwValid (f.words.getD 0 0) f.stripped.op = false) :
    s.cascIn a f = (s.rxTake a f).cwError a (f.words.getD 0 0) := by
  have hbad : (f.words.isEmpty || !cwValid (f.words.getD 0 0) f.stripped.op) = true := by
    rcases h with h | h
    · rw [h]; rfl
    · rw [h, Bool.not_false, Bool.or_true]
  simp only [State.cascIn, hbad, if_true]

/-! ### A message with a valid word (R314, R315) -/

theorem cascIn_msg {w : Word64} {ws : List Word64} (hw : f.words = w :: ws) (hv : cwValid w f.stripped.op = true) (ho : f.stripped.op = opMSG) :
    s.cascIn a f = s.cascMsg a f w f.stripped := by
  rw [ho] at hv
  simp only [State.cascIn, hw, ho, hv, List.getD_cons_zero, List.isEmpty_cons, Bool.not_true, Bool.or_self, Bool.false_eq_true, if_false,
    beq_self_eq_true, if_true]

/-- With no block of its way held and POL not ACTIVE a message goes on unmetered. -/
theorem cascMsg_unmetered {w : Word64} {g : Frame} (hw : s.holdsOff pgWAD = false) (hs : s.holdsOff pgSWC = false) (hp : s.active pgPOL = false) :
    s.cascMsg a f w g = (s.rxTake a f).cascMsgAim a w g (portQueue a g.cls) 0 := by
  have hp' : (s.rxTake a f).active pgPOL = false := (rxTake_active (by decide) s a f).trans hp
  simp only [State.cascMsg, hw, hs, holdsOff_inactive hp, police_inactive hp', countColour_inactive hp', Bool.or_self, Bool.false_eq_true, if_false]

section
variable {w : Word64} {acct c : Nat}

theorem cascMsgAim_port (hm : cwDestDev w = s.device) (hk : cwKind w = cwPORT) (hl : s.linkEnabled (cwDestPort w) = true) :
    s.cascMsgAim a w f acct c = s.cascMsgTo a f acct c [(portQueue (cwDestPort w) (cwClass w), none)] := by
  simp only [State.cascMsgAim, State.cwMine, hm, hk, hl, beq_self_eq_true, if_true]

theorem cascMsgAim_noHall (hm : cwDestDev w = s.device) (hk : cwKind w = cwHOST) (hx : s.hallExists (cwHall w) = false) :
    s.cascMsgAim a w f acct c = s.noTarget_ f.dtag 3 (cwHall w) acct := by
  have hport : (cwHOST == cwPORT) = false := rfl
  simp only [State.cascMsgAim, State.cwMine, hm, hk, hx, hport, beq_self_eq_true, if_true, Bool.false_eq_true, if_false]

theorem cascMsgAim_noRoute (hm : cwDestDev w ≠ s.device) (hr : s.routeOf (cwDestDev w) = none) :
    s.cascMsgAim a w f acct c = (s.routeDrop (cwDestDev w) (cwHops w) a).acctDrop acct := by
  simp only [State.cascMsgAim, State.cwMine, beq_false_of_ne hm, hr, Bool.false_eq_true, if_false]

end

/-! ### An EVENT (R320) -/

/-- An EVENT travels under the KIND of its own only (R314). -/
theorem cwCarries_event {k : Nat} (h : cwCarries k opEVENT = true) : k = cwEVENT := by
  have hmsg : (opEVENT == opMSG) = false := rfl
  have hreq : (decide (opPW ≤ opEVENT) && decide (opEVENT ≤ opCAS)) = false := rfl
  have hret : (opEVENT == opRSP || opEVENT == opERR) = false := rfl
  simp only [cwCarries, hmsg, hreq, hret, Bool.if_false_left, Bool.and_eq_true] at h
  obtain ⟨-, -, -, hkind, -⟩ := h
  exact beq_iff_eq.1 hkind

theorem cwKind_of_event {w : Word64} (hv : cwValid w opEVENT = true) : cwKind w = cwEVENT := by
  simp only [cwValid, Bool.and_eq_true] at hv
  obtain ⟨⟨⟨⟨hcarries, -⟩, -⟩, -⟩, -⟩ := hv
  exact cwCarries_event hcarries

theorem cascIn_event {w d e : Word64} (hw : f.words = [w, d, e]) (hv : cwValid w opEVENT = true) (ho : f.stripped.op = opEVENT)
    (hm : s.cwMine w = true) (hh : s.hostBefore a f = false) (hb : s.mayMaster 0 = true) :
    s.cascIn a f = (s.rxTake a f).emit (.memWr 0 none false d.toNat (bytesOf 4 (fld e 0 32))) := by
  have hmsg : (opEVENT == opMSG) = false := rfl
  have hreq : (cwEVENT == cwREQUEST) = false := rfl
  have hret : (cwEVENT == cwRETURN) = false := rfl
  have hd : f.stripped.words = [d, e] := by rw [Frame.stripped, hw]; rfl
  have hevent : s.cascIn a f = s.cascEvent a f f.stripped := by
    simp only [State.cascIn, hw, ho, hv, hm, cwKind_of_event hv, hmsg, hreq, hret, List.getD_cons_zero, List.isEmpty_cons, Bool.not_true,
      Bool.or_self, Bool.false_eq_true, if_false]
  rw [hevent, State.cascEvent, hh, hb, hd]
  rfl

/-! ### A REQUEST for no station (R319) -/

section
variable {g : Frame} {w : Word64} (hs : s.stationAt (cwDestPort w) = false) (hm : s.isMember = false)
include hs hm

theorem cascRequest_nowhere : s.cascRequest a f w g = s.cascNowhere a f w := by
  simp only [State.cascRequest, hs, hm, Bool.false_and, Bool.false_eq_true, if_false]

theorem cascRequest_posted (ho : f.op = opPW) : s.cascRequest a f w g = (s.rxTake a f).cnt pgWAD WAD.CNT_NO_TARGET :=
  (cascRequest_nowhere hs hm).trans (if_pos (beq_iff_eq.2 ho))

theorem cascRequest_answered (ho : f.op ≠ opPW) (hr : s.canReserve (frameCells (mkRsp f.tag 0x01 [])) = true) :
    s.cascRequest a f w g = (s.rxTake a f).cascReturn a (cwClass w) (cwDestPort w) (mkRsp f.tag 0x01 []) :=
  (cascRequest_nowhere hs hm).trans ((if_neg (mt beq_iff_eq.1 ho)).trans (if_pos hr))

end

/-! ### The end of a relayed request (R319) -/

/-- The link a relayed request went out on. -/
def Acc.outLink (x : Acc) : Nat := match x.parts with | p :: _ => p.link | [] => 0

theorem exec_cascadeRequestDone (s : State) (i : Nat) : exec (.cascadeRequestDone i) s = .next (s.relayDone i).settle.shown := rfl

section
variable {i : Nat} {x : Acc} (hx : s.acc? i = some x)
include hx

/-- A request with a part outstanding waits. -/
theorem relayDone_waits (hp : x.parts.any (fun p => p.st != .finished) = true) : s.relayDone i = s := by
  have hall : x.parts.all (fun p => p.st == .finished) = false := by
    rw [List.all_eq_not_any_not]
    exact congrArg not hp
  unfold State.relayDone
  rw [hx]
  dsimp only
  split
  · rw [hall]; rfl
  · rfl

theorem relayDone_returns {an tag cls : Nat} (hw : x.who = .relay an tag cls) (ho : x.op ≠ .write) (he : x.ended = false)
    (hp : x.parts.all (fun p => p.st == .finished && p.gen != unanswered) = true) :
    s.relayDone i = (s.relayEnd i x.parts.length).cascReturn an cls x.outLink (relayRsp x tag) := by
  have hpart : ∀ p ∈ x.parts, (p.st == .finished) = true ∧ (p.gen == unanswered) = false := fun p hmem => by
    simpa using List.all_eq_true.1 hp p hmem
  have hover : x.parts.all (fun p => p.st == .finished) = true := List.all_eq_true.2 fun p hmem => (hpart p hmem).1
  have hanswered : x.parts.any (fun p => p.gen == unanswered) = false :=
    List.any_eq_false.2 fun p hmem => Bool.not_eq_true _ ▸ (hpart p hmem).2
  simp only [State.relayDone, hx, hw, hover, hanswered, he, beq_false_of_ne ho, Bool.not_true, Bool.false_and, Bool.or_self, Bool.false_eq_true,
    if_false]
  rfl

end

/-- Settles O44, by the equations above, row by row. -/
theorem cascadeFrames : Obligations.CascadeFrames := by
  refine ⟨?invalid, ?msg, ?event, fun s a hc => exec_cascadeFrameRx_off hc, ?request, ?returns, ?waits⟩
  case invalid =>
    intro s a f hc hb ht h
    exact exec_cascadeFrameRx_taken hc hb ht (cascIn_invalid h) (cwError_links ..)
  case msg =>
    intro s a f w ws hc hb hw hv ho hwad _ hswc hp _ t acct
    have ht : f.op ≠ opTIME := by rw [← op_stripped, ho]; decide
    have hin : s.cascIn a f = t.cascMsgAim a w f.stripped acct 0 := (cascIn_msg hw hv ho).trans (cascMsg_unmetered hwad hswc hp)
    refine ⟨fun ⟨hm, hk, hl⟩ he => ?_, fun ⟨hm, hk, hx⟩ => ?_, fun ⟨hm, hr⟩ => ?_⟩
    · exact exec_cascadeFrameRx_leaves hc hb ht (hin.trans (cascMsgAim_port hm hk hl)) he
    · exact exec_cascadeFrameRx_taken hc hb ht (hin.trans (cascMsgAim_noHall hm hk hx)) (noTarget_links ..)
    · exact exec_cascadeFrameRx_taken hc hb ht (hin.trans (cascMsgAim_noRoute hm hr)) ((acctDrop_links ..).trans (routeDrop_links ..))
  case event =>
    intro s a f w d e hc hb hw hv ho hm hh hmaster
    have ht : f.op ≠ opTIME := by rw [← op_stripped, ho]; decide
    exact exec_cascadeFrameRx_taken hc hb ht (cascIn_event hw hv ho hm hh hmaster) (State.emit_links ..)
  case request => exact fun s a w f hs hm => ⟨cascRequest_posted hs hm, fun ⟨ho, hr⟩ => cascRequest_answered hs hm ho hr⟩
  case returns =>
    intro s i an tag cls x hx hw ho he hp
    rw [exec_cascadeRequestDone, relayDone_returns hx hw ho he hp]
    rfl
  case waits =>
    intro s i x hx hp
    rw [exec_cascadeRequestDone, relayDone_waits hx hp]

end Sys2Proof.Machine
end

section
/-!
PROOF. Rings, doorbells and engines of the Caravan (R357, R358, R364, R366, R379 to R381, R383, R473): one equation per case of each row,
and O45 from them.
-/

namespace Sys2Proof.Machine

variable {s : State} {g : Nat}

/-! ### Doorbells (R358, R383) -/

section
variable {h r p : Nat}

/-- Through PF0 BAR0 a doorbell reaches the hall it names. -/
theorem exec_ringDoorbell_pf0 (hh : h < 4096) (hr : r < 8) (hp : p < 65536) (hc : s.sys.coreOn = true) (q : Nat) :
    exec (.ringDoorbell (.pf0 q) h r p) s = .next (s.doorbell (8 * h + r) p).settle.shown := by
  show execRingDoorbell (.pf0 q) h r p s = _
  simp only [execRingDoorbell, hc, State.onSlot, State.halAccess, Nat.mod_eq_of_lt hh, Nat.mod_eq_of_lt hr, Nat.mod_eq_of_lt hp, Bool.not_true,
    Bool.false_eq_true, if_false, done]

/-- Through a doorbell slot it waits while an apply holds the isolation check. -/
theorem exec_ringDoorbell_held (ha : s.applying pgHLM = true) (hc : s.sys.coreOn = true) (vf k q : Nat) (pa : Option Nat) (h r c : Nat) :
    exec (.ringDoorbell (.slot vf k pa q) h r c) s = .next (s.mezWait (.ringDoorbell (.slot vf k pa q) h r c)).shown := by
  show execRingDoorbell (.slot vf k pa q) h r c s = _
  simp only [execRingDoorbell, hc, State.onSlot, onPage_of_applying ha, Bool.not_true, Bool.false_eq_true, if_false, done]

theorem exec_rxConsWrite_held (ha : s.applying pgHLM = true) (vf k q : Nat) (pa : Option Nat) (h : Nat) (v : Word) :
    exec (.rxConsWrite (.slot vf k pa q) h v) s = .next (s.mezWait (.rxConsWrite (.slot vf k pa q) h v)).shown := by
  show execRxConsWrite (.slot vf k pa q) h v s = _
  simp only [execRxConsWrite, State.onSlot, onPage_of_applying ha, done]

/-- A doorbell outside the ring changes no count. -/
theorem doorbell_outside (hp : p < 65536) (hn : 2 ^ s.ringSize g < subMod p (s.tf .rng g T_RNG.CCOUNT) 16) :
    s.doorbell g p = (s.cnt pgCVN CVN.CNT_DB_IGNORED).error pgCVN 1 0x02 (g + p * 2 ^ 16) (s.tf .rng g T_RNG.CCOUNT) (s.ringSize g) := by
  simp only [State.doorbell, Nat.mod_eq_of_lt hp, decide_eq_false (Nat.not_le.2 hn), Bool.false_and, Bool.false_eq_true, if_false]

section
variable (hp : p < 65536) (hs : s.ringServed g = true) (hn : subMod p (s.tf .rng g T_RNG.CCOUNT) 16 ≤ 2 ^ s.ringSize g) {t : State}
  (ht : s.st .rng g T_RNG.PCOUNT p = t)
include hp hs hn ht

/-- A doorbell within the ring sets PCOUNT, and the ring enters the list when it is idle, or was not admitted, and has work. -/
theorem doorbell_inside : s.doorbell g p =
    if t.active pgCVN && (t.ringSt g == rgIDLE || t.ringSt g == rgNOTADM) && p != s.tf .rng g T_RNG.CCOUNT then t.ringPending g else t := by
  simp only [State.doorbell, Nat.mod_eq_of_lt hp, hs, ht, decide_eq_true hn, Bool.not_true, Bool.and_false, Bool.not_false, Bool.and_self, if_true]

theorem doorbell_pending (ha : t.active pgCVN = true) (hi : t.ringSt g = rgIDLE) (hw : p ≠ s.tf .rng g T_RNG.CCOUNT) :
    s.doorbell g p = t.ringPending g := by
  rw [doorbell_inside hp hs hn ht, if_pos]
  simp [ha, hi, hw]

theorem doorbell_counted (hi : t.active pgCVN = false ∨ t.ringSt g = rgPENDING ∨ t.ringSt g = rgRUNNING) : s.doorbell g p = t := by
  rw [doorbell_inside hp hs hn ht, if_neg]
  rcases hi with hi | hi | hi <;> simp [hi, rgIDLE, rgNOTADM, rgPENDING, rgRUNNING]

end
end

/-! ### Rows about a ring (R358, R379 to R381): each waits while an apply holds CVN (R473) -/

theorem exec_ringEnable (s : State) (g : Nat) : exec (.ringEnable g) s =
    .next (s.onPage pgCVN (.ringEnable g) (if g < 32768 && !s.tb .rng g T_RNG.EN then s.ringEnable g else s)).shown := rfl

theorem exec_ringDisable (s : State) (g : Nat) : exec (.ringDisable g) s =
    .next (s.onPage pgCVN (.ringDisable g) (if g < 32768 && s.tb .rng g T_RNG.EN then s.ringDisable g else s)).shown := rfl

theorem exec_ringResume (s : State) (g : Nat) :
    exec (.ringResume g) s = .next (s.onPage pgCVN (.ringResume g) (s.ringResume g)).shown := rfl

theorem exec_tailClear (s : State) (g : Nat) : exec (.tailClear g) s =
    .next (s.onPage pgCVN (.tailClear g) (if g < 32768 then s.st .rng g T_RNG.TAIL_VALID 0 else s)).shown := rfl

section
variable (hp : s.applying pgCVN = false)
include hp

theorem exec_ringEnable_disabled (hg : g < 32768) (he : s.tb .rng g T_RNG.EN = false) : exec (.ringEnable g) s = .next (s.ringEnable g).shown := by
  rw [exec_ringEnable, onPage_of_free hp, if_pos (by simp [hg, he])]

theorem exec_ringDisable_disabled (he : s.tb .rng g T_RNG.EN = false) : exec (.ringDisable g) s = .next s.shown := by
  rw [exec_ringDisable, onPage_of_free hp, if_neg (by simp [he])]

theorem exec_ringEnable_enabled (he : s.tb .rng g T_RNG.EN = true) : exec (.ringEnable g) s = .next s.shown := by
  rw [exec_ringEnable, onPage_of_free hp, if_neg (by simp [he])]

theorem exec_ringDisable_enabled (hg : g < 32768) (he : s.tb .rng g T_RNG.EN = true) : exec (.ringDisable g) s = .next (s.ringDisable g).shown := by
  rw [exec_ringDisable, onPage_of_free hp, if_pos (by simp [hg, he])]

end

theorem ringEnable_eq {t : State}
    (ht : (s.st .rng g T_RNG.EN 1 |>.st .rng g T_RNG.PCOUNT 0 |>.st .rng g T_RNG.CCOUNT 0 |>.st .rng g T_RNG.DCOUNT 0) = t) :
    s.ringEnable g = if t.ringSt g = rgDISABLED then t.setRing g rgIDLE else t := by
  simp only [State.ringEnable, ht, beq_iff_eq]

theorem ringDisable_running (h : (s.st .rng g T_RNG.EN 0).ringSt g = rgRUNNING) : s.ringDisable g = s.st .rng g T_RNG.EN 0 :=
  if_pos (beq_iff_eq.2 h)

theorem ringDisable_unheld (h : (s.st .rng g T_RNG.EN 0).ringSt g ≠ rgRUNNING) :
    s.ringDisable g = ((s.st .rng g T_RNG.EN 0).setRing g rgDISABLED).setPending (s.cvn.pending.filter (· != g)) :=
  if_neg (mt beq_iff_eq.1 h)

theorem ringResume_stopped (h : s.ringSt g = rgSTOPPED) {t : State}
    (ht : ({ s.st .rng g T_RNG.STOP_CODE 0 with cvn := { s.cvn with stopDue := s.cvn.stopDue.filter (· != g) } } : State) = t) :
    s.ringResume g = if t.tf .rng g T_RNG.PCOUNT ≠ t.tf .rng g T_RNG.CCOUNT then t.ringPending g else t.setRing g rgIDLE := by
  subst ht
  simp only [State.ringResume, h, beq_self_eq_true, if_true, State.st_cvn, bne_iff_ne]

theorem ringResume_ignored (h : s.ringSt g ≠ rgSTOPPED) : s.ringResume g = s := if_neg (mt beq_iff_eq.1 h)

/-! ### Engines (R364, R366) -/

/-! The records of the engines and the lists of rings stand beside the registers and tables. -/

@[simp] theorem eng_sf (s : State) (p : Nat) (f : Fld) (v e : Nat) : (s.sf p f v).eng e = s.eng e := by rw [State.eng, State.sf_cvn, State.eng]
@[simp] theorem eng_cnt (s : State) (p off n e : Nat) : (s.cnt p off n).eng e = s.eng e := by rw [State.eng, State.cnt_cvn, State.eng]
@[simp] theorem eng_st (s : State) (t : Tbl) (i : Nat) (f : TFld) (v e : Nat) : (s.st t i f v).eng e = s.eng e := by
  rw [State.eng, State.st_cvn, State.eng]
@[simp] theorem eng_setRing (s : State) (g st e : Nat) : (s.setRing g st).eng e = s.eng e := eng_st ..
@[simp] theorem eng_setPending (s : State) (l : List Nat) (e : Nat) : (s.setPending l).eng e = s.eng e := rfl

@[simp] theorem setRing_cvn (s : State) (g st : Nat) : (s.setRing g st).cvn = s.cvn := State.st_cvn ..

@[simp] theorem setEng_stopDue (s : State) (e : Nat) (x : Engine) : (s.setEng e x).cvn.stopDue = s.cvn.stopDue := rfl

@[simp] theorem setPending_stopDue (s : State) (l : List Nat) : (s.setPending l).cvn.stopDue = s.cvn.stopDue := rfl

theorem exec_engineAssign (s : State) : exec .engineAssign s = .next s.engAssign.shown := rfl

/-- A field of an entry keeps its value when a field apart from it is set, in whatever entry. -/
theorem tf_st_apart {t u : Tbl} {i j : Nat} {f k : TFld} (v : Nat) (h : f.lo + f.w ≤ 1024) (hd : k.lo + k.w ≤ f.lo ∨ f.lo + f.w ≤ k.lo) :
    (s.st t i f v).tf u j k = s.tf u j k := by
  by_cases hk : tkey u j = tkey t i
  · have hent (x : State) : x.ent u j = x.ent t i := by rw [State.ent, State.ent, hk]
    rw [State.tf, State.tf, hent, hent]
    exact s.tf_st_of_disjoint t i v h hd
  · exact s.tf_st_of_ne v hk

/-- A hall's count of engines is not in the ring's state. -/
theorem engNow_setRing (s : State) (g st h : Nat) : (s.setRing g st).tf .enl h T_ENL.ENG_NOW = s.tf .enl h T_ENL.ENG_NOW :=
  tf_st_apart st (by decide) (by decide)

theorem engAssign_idle (h : s.active pgCVN = false ∨ s.cvn.pending = []) : s.engAssign = s := by
  rcases h with h | h
  · simp only [State.engAssign, h, Bool.not_false, Bool.true_or, if_true]
  · simp only [State.engAssign, h, List.find?_nil, ite_self]

section
variable {e : Nat} (ha : s.active pgCVN = true) (hq : s.quiesce pgCVN = false) (hg : s.cvn.pending.find? s.ringReady = some g)
  (he : (List.range 128).find? s.engReady = some e)
include ha hq hg he

theorem engAssign_powered (hp : s.gb (pgCVE e) CVE.ENG_STS_POWERED = true) (hs : s.cvn.stopDue = []) {t u : State}
    (ht : ((s.setPending (s.cvn.pending.filter (· != g))).cnt pgCVN CVN.CNT_ASSIGNS).setRing g rgRUNNING = t)
    (hu : (t.st .enl (ringHall g) T_ENL.ENG_NOW (t.tf .enl (ringHall g) T_ENL.ENG_NOW + 1)).sf (pgCVE e) CVE.ENG_STS_RING g = u) :
    s.engAssign = ((u.setEng e { Engine.reset with ring := some g, nextRd := (s.eng e).nextRd, rest := (s.eng e).rest }).engSlot e
      g).engRun e := by
  subst ht hu
  rw [engNow_setRing, State.tf_cnt]
  simp only [State.engAssign, ha, hq, hg, he, hp, eng_sf, eng_st, eng_setRing, eng_cnt, eng_setPending, State.sf_cvn, State.st_cvn, State.cnt_cvn,
    setRing_cvn, setEng_stopDue, setPending_stopDue, hs, List.contains_nil, Bool.not_true, Bool.or_self, Bool.false_eq_true, if_false, if_true]

theorem engAssign_refused (hp : s.gb (pgCVE e) CVE.ENG_STS_POWERED = false) (hc : (s.askCistern (pgCVE e) [(pgCVE e, 12, 0)]).2 = false)
    {t : State} (ht : (s.askCistern (pgCVE e) [(pgCVE e, 12, 0)]).1.setPending (s.cvn.pending.filter (· != g)) = t) :
    s.engAssign = (((t.setRing g rgNOTADM).cnt pgCVN CVN.CNT_START_REFUSED).error pgCVN 2 0x03 g e 12).event (pgCVE e) 2 := by
  subst ht
  obtain ⟨r, hr⟩ : ∃ r, s.askCistern (pgCVE e) [(pgCVE e, 12, 0)] = (r, false) := ⟨_, Prod.ext rfl hc⟩
  simp only [State.engAssign, ha, hq, hg, he, hp, hr, Bool.not_true, Bool.or_self, Bool.false_eq_true, if_false]

end

section
variable {e : Nat} (he : e < 128) (hp : s.gb (pgCVE e) CVE.ENG_STS_POWERED = true) (hr : (s.eng e).ring = none)
include he hp hr

theorem exec_enginePowerDown : exec (.enginePowerDown e) s = .next (if s.due ((s.eng e).idleAt + us 10) then
    (s.sf (pgCVE e) CVE.ENG_STS_POWERED 0).giveBack (pgCVE e) 12 0 else s).shown := by
  show execEnginePowerDown e s = _
  simp only [execEnginePowerDown, decide_eq_true he, hp, hr, Option.isNone_none, Bool.true_and, done]

end

/-- Settles O45, by the equations above, row by row. -/
theorem ringsAndEngines : Obligations.RingsAndEngines := by
  refine ⟨?inside, ?outside, ?disabled, ?enabled, ?stopped, ?going, ?tail, ?assigned, ?refused, ?unassigned, ?powerDown, ?held, ?slotHeld⟩
  case inside =>
    intro s h r p q hh hr hp hc hs hn t
    rw [exec_ringDoorbell_pf0 hh hr hp hc]
    exact ⟨fun ⟨ha, hi, hw⟩ => by rw [doorbell_pending hp hs hn rfl ha hi hw], fun hi => by rw [doorbell_counted hp hs hn rfl hi]⟩
  case outside =>
    intro s h r p q hh hr hp hc hn
    rw [exec_ringDoorbell_pf0 hh hr hp hc, doorbell_outside hp hn]
  case disabled =>
    intro s g hp hg he t
    rw [exec_ringEnable_disabled hp hg he, ringEnable_eq rfl]
    exact ⟨rfl, exec_ringDisable_disabled hp he⟩
  case enabled =>
    intro s g hp hg he t
    rw [exec_ringDisable_enabled hp hg he]
    exact ⟨exec_ringEnable_enabled hp he, fun h => by rw [ringDisable_running h], fun h => by rw [ringDisable_unheld h]⟩
  case stopped =>
    intro s g hp h t
    rw [exec_ringResume, onPage_of_free hp, ringResume_stopped h rfl]
  case going =>
    intro s g hp h
    rw [exec_ringResume, onPage_of_free hp, ringResume_ignored h]
  case tail =>
    intro s g hp hg
    rw [exec_tailClear, onPage_of_free hp, if_pos hg]
  case assigned =>
    intro s g e ha hq hg he hp hs t u
    rw [exec_engineAssign, engAssign_powered ha hq hg he hp hs rfl rfl]
  case refused =>
    intro s g e ha hq hg he hp hc t
    rw [exec_engineAssign, engAssign_refused ha hq hg he hp hc rfl]
  case unassigned =>
    intro s h
    rw [exec_engineAssign, engAssign_idle h]
  case powerDown =>
    intro s e he hp hr
    rw [exec_enginePowerDown he hp hr]
    exact ⟨fun hd => by rw [if_pos hd], fun hd => by rw [if_neg (Bool.eq_false_iff.1 hd)]⟩
  case held =>
    intro s g hp
    rw [exec_ringEnable, exec_ringDisable, exec_ringResume, exec_tailClear]
    simp only [onPage_of_applying hp, and_self]
  case slotHeld =>
    intro s vf k q h r c pa v ha hc
    exact ⟨exec_ringDoorbell_held ha hc vf k q pa h r c, exec_rxConsWrite_held ha vf k q pa h v⟩

end Sys2Proof.Machine
end

section
/-!
PROOF. Descriptors of the Caravan (R359, R362, R369, R372 to R378): what a fetched descriptor does, one equation per case of each row, and
O46 from them.
-/

namespace Sys2Proof.Machine

variable {s : State} {e g : Nat} {d : BitVec 256}

/-! ### What a fetched descriptor does (R359, R374) -/

/-- An engine without a ring has nothing to act on. -/
theorem descAct_ringless (h : (s.eng e).ring = none) (ok : Nat → Bool) (f : Nat → BitVec 256 → State → State) : s.descAct e ok f = s := by
  simp only [State.descAct, h]

section
variable (hr : (s.eng e).ring = some g) (hd : (s.eng e).desc = some d) (hf : s.engSt e = enFETCH) (hw : s.engStalled e = false)
  (hc : (s.eng e).chain = false) {ok : Nat → Bool} (ho : ok (dOp d) = true)
include hr hd hf hw hc ho

/-- A ring slot with the other phase fails. -/
theorem descAct_otherPhase (hp : dPhase d ≠ bitAt (s.engCount e) (s.ringSize g)) (f : Nat → BitVec 256 → State → State) :
    s.descAct e ok f = s.engFail e 0x02 false := by
  simp only [State.descAct, hr, hd, hf, hw, hc, ho, bne_self_eq_false, Bool.not_true, Bool.or_self, Bool.false_eq_true, if_false]
  exact if_pos (bne_iff_ne.2 hp)

/-- A ring slot with its own phase advances CCOUNT and acts. -/
theorem descAct_ownPhase (hp : dPhase d = bitAt (s.engCount e) (s.ringSize g)) (f : Nat → BitVec 256 → State → State) :
    s.descAct e ok f = f g d ((s.st .rng g T_RNG.CCOUNT (s.engCount e + 1)).setEng e { s.eng e with irq := dIrq d }) := by
  simp only [State.descAct, hr, hd, hf, hw, hc, ho, hp, bne_self_eq_false, Bool.not_true, Bool.or_self, Bool.false_eq_true, if_false]

end

/-! ### The rows of a descriptor -/

theorem exec_descNop (s : State) (e : Nat) : exec (.descNop e) s =
    .next (s.descAct e (· == 0) (fun _ _ s => s.engComplete e)).settle.shown := rfl

/-- A COPY begins to move, or fails when it has no bytes. -/
def State.copyAct (s : State) (e : Nat) (d : BitVec 256) : State :=
  if dLen d == 0 then s.engFail e 0x01 true else ((s.setEngSt e enMOVE).engShow e).engRun e

theorem exec_descCopy (s : State) (e : Nat) : exec (.descCopy e) s =
    .next (s.descAct e (· == 1) (fun _ d s => s.copyAct e d)).settle.shown := rfl

theorem copyAct_empty (h : dLen d = 0) : s.copyAct e d = s.engFail e 0x01 true := if_pos (beq_iff_eq.2 h)

theorem copyAct_bytes (h : dLen d ≠ 0) : s.copyAct e d = ((s.setEngSt e enMOVE).engShow e).engRun e := if_neg (mt beq_iff_eq.1 h)

/-- A FENCE makes its read, through the aperture or in host memory, or fails at an address it may not have. -/
def State.fenceAct (s : State) (e g : Nat) (d : BitVec 256) : State :=
  if dDst d % 4 != 0 then s.engFail e 0x01 true
  else
    let s := (s.setEng e { s.eng e with fence := some none }).setEngSt e enFENCE
    if dDstSp d then s.accept (s.engReq e g 0 .read (dDst d) (List.replicate 4 (some 0)))
    else s.engFrame e g (.memRd e (dDst d)) 4

theorem exec_descFence (s : State) (e : Nat) : exec (.descFence e) s =
    .next (s.descAct e (· == 2) (fun g d s => s.fenceAct e g d)).settle.shown := rfl

theorem fenceAct_misplaced (h : dDst d % 4 ≠ 0) : s.fenceAct e g d = s.engFail e 0x01 true := if_pos (bne_iff_ne.2 h)

theorem fenceAct_host (h : dDst d % 4 = 0) (hsp : dDstSp d = false) : s.fenceAct e g d =
    ((s.setEng e { s.eng e with fence := some none }).setEngSt e enFENCE).engFrame e g (.memRd e (dDst d)) 4 := by
  simp only [State.fenceAct, h, hsp, bne_self_eq_false, Bool.false_eq_true, if_false]

/-- A JUMP goes one hop on, or fails at an address it may not have. -/
def State.jumpAct (s : State) (e : Nat) (d : BitVec 256) : State :=
  if dDst d % 32 != 0 then s.engFail e 0x01 true else s.engHop e (dDst d)

theorem exec_descJump (s : State) (e : Nat) : exec (.descJump e) s =
    .next (s.descAct e (· == 3) (fun _ d s => s.jumpAct e d)).settle.shown := rfl

theorem jumpAct_misplaced (h : dDst d % 32 ≠ 0) : s.jumpAct e d = s.engFail e 0x01 true := if_pos (bne_iff_ne.2 h)

theorem jumpAct_hop (h : dDst d % 32 = 0) : s.jumpAct e d = s.engHop e (dDst d) := if_neg (mt bne_iff_ne.1 (not_not.2 h))

theorem exec_descReservedOp (s : State) (e : Nat) : exec (.descReservedOp e) s =
    .next (s.descAct e (4 ≤ ·) (fun _ _ s => s.engFail e 0x01 true)).settle.shown := rfl

/-! ### The end of a descriptor, and its failures (R372, R373, R376 to R378) -/

/-- A ring slot completes: its status, its counts, RING_DONE when asked, and the next begins. -/
theorem engComplete_slot (hr : (s.eng e).ring = some g) (hd : (s.eng e).desc = some d) (hc : (s.eng e).chain = false) :
    s.engComplete e = (((s.engStatus e g (s.eng e).addr 0 0).cnt (pgCVE e) CVE.CNT_DESCRIPTORS).ringDone g (dIrq d)).slotDone e g := by
  simp only [State.engComplete, hr, hd, hc, Bool.false_eq_true, if_false]

theorem engHop_limit (h : s.gf1 pgCVN CVN.CVN_CTL_HOP_LIMIT < (s.eng e).hop + 1) (a : Nat) : s.engHop e a = s.engLoop e := if_pos h

theorem exec_descFetchFail (s : State) (e : Nat) : exec (.descFetchFail e) s =
    .next (if (s.eng e).failed && s.engSt e == enFETCH then (s.engFail e 0x03 false).settle else s).shown := rfl

/-- A fetch whose page has no translation ends with the code of that, past its slot. -/
theorem engRun_unfetched (hr : (s.eng e).ring = some g) (hf : s.engSt e = enFETCH) (hd : (s.eng e).desc = none) (hn : (s.eng e).failed = false)
    (hw : s.engStalled e = false) (hq : s.host.reqs = []) (hx : (s.eng e).code ≠ 0) : s.engRun e =
      (if (s.eng e).chain then s else s.st .rng g T_RNG.CCOUNT (s.engCount e + 1)).engFail e (s.eng e).code true := by
  simp only [State.engRun, hr, hf, hd, hn, hw, hq, Option.isNone_none, List.any_nil, beq_self_eq_true, bne_iff_ne.2 hx, Bool.not_false,
    Bool.and_self, if_true]

/-! ### Read data and fences (R368, R369, R374) -/

theorem exec_caravanReadData (s : State) (e : Nat) : exec (.caravanReadData e) s = .next (s.engData e).settle.shown := rfl

theorem engData_none (h : (s.eng e).reads = []) : s.engData e = s := by
  simp only [State.engData, h, ite_self]

section
variable {num a n code : Nat} {data : List Byte} {rest : List SrcRead} (hm : s.engSt e = enMOVE) (hw : s.engStalled e = false)
  (hh : (s.eng e).hold.length < 128)
include hm hw hh

theorem engData_bytes (hr : (s.eng e).reads = ⟨num, a, n, some (0, data)⟩ :: rest) :
    s.engData e = (s.setEng e { s.eng e with reads := rest, hold := (s.eng e).hold ++ data }).engRun e := by
  simp only [State.engData, hm, hw, hr, decide_eq_false (Nat.not_le.2 hh), beq_self_eq_true, Bool.true_or, Bool.not_true, Bool.or_self,
    Bool.false_eq_true, if_false]

theorem engData_code (hr : (s.eng e).reads = ⟨num, a, n, some (code, data)⟩ :: rest) (hc : code ≠ 0) :
    s.engData e = (s.setEng e { s.eng e with code := code }).engRun e := by
  obtain ⟨k, rfl⟩ := Nat.exists_eq_succ_of_ne_zero hc
  simp only [State.engData, hm, hw, hr, decide_eq_false (Nat.not_le.2 hh), beq_self_eq_true, Bool.true_or, Bool.not_true, Bool.or_self,
    Bool.false_eq_true, if_false]

end

section
variable (hf : s.engSt e = enFENCE)
include hf

theorem exec_fenceDone_passed (h : (s.eng e).fence = some (some true)) : exec (.fenceDone e) s = .next (s.engComplete e).settle.shown := by
  show execFenceDone e s = _
  simp only [execFenceDone, hf, h, beq_self_eq_true, if_true, done]

theorem exec_fenceDone_failed (h : (s.eng e).fence = some (some false)) :
    exec (.fenceDone e) s = .next (s.engFail e 0x0F true).settle.shown := by
  show execFenceDone e s = _
  simp only [execFenceDone, hf, h, beq_self_eq_true, if_true, done]

theorem exec_fenceDone_outstanding (h : (s.eng e).fence = some none) : exec (.fenceDone e) s = .next s.shown := by
  show execFenceDone e s = _
  simp only [execFenceDone, hf, h, beq_self_eq_true, if_true, done]

end

/-- Settles O46, by the equations above, row by row. -/
theorem descriptors : Obligations.Descriptors := by
  refine ⟨?own, ?other, ?ringless, ?complete, ?hop, ?fetchFail, ?unfetched, ?fetched, ?data, ?noData, ?fence⟩
  case own =>
    intro s e g d hr hd hf hw hc hp t
    have hact {op : Nat} (ho : dOp d = op) (f : Nat → BitVec 256 → State → State) : s.descAct e (· == op) f = f g d t :=
      descAct_ownPhase hr hd hf hw hc (ok := (· == op)) (beq_iff_eq.2 ho) hp f
    refine ⟨fun ho => ?_, fun ⟨ho, hl⟩ => ?_, fun ⟨ho, hl⟩ => ?_, fun ⟨ho, ha, hsp⟩ => ?_, fun ⟨ho, ha⟩ => ?_, fun ⟨ho, ha⟩ => ?_,
      fun ⟨ho, ha⟩ => ?_, fun ho => ?_⟩
    · rw [exec_descNop, hact ho]
    · rw [exec_descCopy, hact ho, copyAct_bytes hl]
    · rw [exec_descCopy, hact ho, copyAct_empty hl]
    · rw [exec_descFence, hact ho, fenceAct_host ha hsp]
    · rw [exec_descFence, hact ho, fenceAct_misplaced ha]
    · rw [exec_descJump, hact ho, jumpAct_hop ha]
    · rw [exec_descJump, hact ho, jumpAct_misplaced ha]
    · rw [exec_descReservedOp, descAct_ownPhase hr hd hf hw hc (ok := (4 ≤ ·)) (decide_eq_true ho) hp]
  case other =>
    intro s e g d hr hd hf hw hc hp ho
    rw [exec_descNop, descAct_otherPhase hr hd hf hw hc (ok := (· == 0)) (beq_iff_eq.2 ho) hp]
  case ringless =>
    intro s e hr
    rw [exec_descNop, exec_descCopy, exec_descJump, exec_descFence, exec_descReservedOp]
    simp only [descAct_ringless hr, and_self]
  case complete =>
    intro s e g d hr hd hc t u
    rw [engComplete_slot hr hd hc, State.slotDone, State.ringDone]
  case hop =>
    intro s e a h
    rw [engHop_limit h, State.engLoop]
  case fetchFail =>
    intro s e hn hf
    rw [exec_descFetchFail, if_pos (by rw [hn, hf]; rfl)]
  case unfetched =>
    intro s e g hr hf hd hn hw hq hx
    rw [engRun_unfetched hr hf hd hn hw hq hx]
    exact ⟨fun hc => by rw [if_neg (Bool.eq_false_iff.1 hc)], fun hc => by rw [if_pos hc]⟩
  case fetched =>
    intro s e hn
    rw [exec_descFetchFail, if_neg (by rw [hn]; exact Bool.false_ne_true)]
  case data =>
    intro s e num a n code data rest hm hw hh hr
    rw [exec_caravanReadData]
    exact ⟨fun hc => by rw [engData_bytes hm hw hh (hc ▸ hr)], fun hc => by rw [engData_code hm hw hh hr hc]⟩
  case noData =>
    intro s e hr
    rw [exec_caravanReadData, engData_none hr]
  case fence =>
    intro s e hf
    exact ⟨exec_fenceDone_passed hf, exec_fenceDone_failed hf, exec_fenceDone_outstanding hf⟩

end Sys2Proof.Machine
end

section
/-!
PROOF. Halls (R394, R395, R402, R405, R407, R408, R411, R415, R421): what fencing leaves unchanged, one equation per case of each command, and
O47 from them.
-/

namespace Sys2Proof.Machine

variable {s : State} {h : Nat}

/-! ### Fencing leaves the queue of resets, the bitmap words and the flip as they are (R408) -/

theorem each_hlm {α : Type} {f : α → State → State} (hf : ∀ x t, (f x t).hlm = t.hlm) (l : List α) (s : State) : (s.each l f).hlm = s.hlm :=
  each_keeps State.hlm hf l s

@[simp] theorem setRing_hlm (s : State) (g st : Nat) : (s.setRing g st).hlm = s.hlm := s.st_hlm ..

@[simp] theorem setEng_hlm (s : State) (e : Nat) (x : Engine) : (s.setEng e x).hlm = s.hlm := rfl

@[simp] theorem engShow_hlm (s : State) (e : Nat) : (s.engShow e).hlm = s.hlm := by
  rw [State.engShow, State.sf_hlm, State.sf_hlm, State.sf_hlm, State.sf_hlm]

@[simp] theorem engRelease_hlm (s : State) (e g : Nat) : (s.engRelease e g).hlm = s.hlm := by
  rw [State.engRelease, engShow_hlm, State.setEngSt, State.sf_hlm, setEng_hlm, State.st_hlm]

@[simp] theorem engAbort_hlm (s : State) (e g : Nat) : (s.engAbort e g).hlm = s.hlm := by
  rw [State.engAbort, engRelease_hlm, State.engCapture, State.error_hlm, State.cnt_hlm]

@[simp] theorem setPart_hlm (s : State) (i k : Nat) (p : Part) : (s.setPart i k p).hlm = s.hlm := by
  unfold State.setPart
  split <;> rfl

@[simp] theorem endPart_hlm (s : State) (i k : Nat) : (s.endPart i k).hlm = s.hlm := by
  unfold State.endPart
  split
  · rfl
  · rw [setPart_hlm]
    dsimp only [State.unreserve]
    split <;> rfl

@[simp] theorem endAcc_hlm (s : State) (i : Nat) : (s.endAcc i).hlm = s.hlm := by
  unfold State.endAcc
  split <;> rfl

@[simp] theorem drFree_hlm (s : State) (i : Nat) : (s.drFree i).hlm = s.hlm := (State.sf_hlm ..).trans (State.setEnt_hlm ..)

@[simp] theorem raDiscard_hlm (s : State) (c : RaSlot → Bool) : (s.raDiscard c).hlm = s.hlm := by
  unfold State.raDiscard
  extract_lets hit unread t
  split
  · rfl
  · exact (State.event_hlm ..).trans (State.cnt_hlm ..)

theorem sameBut_spillUpdate (s : State) : SameBut s s.spillUpdate := by
  unfold State.spillUpdate
  extract_lets on_ off free was
  exact sameBut_ite (sameBut_sf ..) (sameBut_ite ((sameBut_sf ..).trans (sameBut_event ..))
    (sameBut_ite (sameBut_sf ..) (SameBut.refl s)))

/-- The Gallery's status is registers, and at most an error. -/
theorem sameBut_galUpdate (s : State) : SameBut s s.galUpdate := by
  unfold State.galUpdate
  extract_lets t inUse u was v w
  have ht : SameBut s t :=
    ((((sameBut_sf ..).trans (sameBut_sf ..)).trans (sameBut_sf ..)).trans (sameBut_sf ..)).trans (sameBut_sf ..)
  have hu : SameBut t u := ((sameBut_sf ..).trans (sameBut_sf ..)).trans (sameBut_sf ..)
  have hv : SameBut u v := sameBut_sf ..
  have hw : SameBut v w := sameBut_ite (sameBut_error ..) (SameBut.refl v)
  exact sameBut_ite (SameBut.refl s) ((((ht.trans hu).trans hv).trans hw).trans (sameBut_spillUpdate w))

@[simp] theorem dropWaiting_hlm (s : State) (w : GWait) : (s.dropWaiting w).hlm = s.hlm := by
  unfold State.dropWaiting
  extract_lets g t u
  have ht : t.hlm = s.hlm := State.cnt_hlm ..
  have hu : u.hlm = t.hlm := by
    unfold u
    split
    · exact State.st_hlm ..
    · rfl
  split
  · rw [endPart_hlm, hu, ht]
  · rw [hu, ht]

@[simp] theorem fenceAcc_hlm (s : State) (h i : Nat) : (s.fenceAcc h i).hlm = s.hlm := by
  unfold State.fenceAcc
  split
  · rfl
  · split
    · rfl
    · extract_lets t u
      have ht : t.hlm = s.hlm := by
        unfold t
        repeat' split
        all_goals rfl
      have hu : u.hlm = t.hlm := endAcc_hlm ..
      refine (each_hlm (fun k x => ?_) _ u).trans (hu.trans ht)
      repeat' split
      · exact endPart_hlm ..
      · rfl
      · exact setPart_hlm ..
      · rfl

theorem fence_hlm (s : State) (h : Nat) : (s.fence h).hlm = s.hlm := by
  unfold State.fence
  extract_lets engines rings pending accs reads slots
  have he : engines.hlm = s.hlm := each_hlm (fun _ _ => engAbort_hlm ..) _ _
  have hr : rings.hlm = engines.hlm := each_hlm (fun _ _ => setRing_hlm ..) _ _
  have hp : pending.hlm = rings.hlm := rfl
  have ha : accs.hlm = pending.hlm := each_hlm (fun _ _ => fenceAcc_hlm ..) _ _
  have hd : reads.hlm = accs.hlm := each_hlm (fun _ _ => (State.cnt_hlm ..).trans (drFree_hlm ..)) _ _
  have hs : slots.hlm = reads.hlm := raDiscard_hlm ..
  rw [(sameBut_galUpdate _).hlm, each_hlm (fun _ _ => dropWaiting_hlm ..), hs, hd, ha, hp, hr, he]

/-! ### Old items and FLOOR (R407, R411) -/

/-- OLD_ITEMS is counted over the host's requests and the Gallery, against the generations. -/
theorem oldItems_congr {t : State} (hh : t.host = s.host) (hg : t.gal = s.gal) (hn : ∀ x, t.hallGen x = s.hallGen x) (h : Nat) :
    t.oldItems h = s.oldItems h := by
  have hf : t.galFrame = s.galFrame := by
    funext i
    rw [State.galFrame, hg, State.galFrame]
  have hr : t.refOld = s.refOld := by
    funext q r
    simp only [State.refOld, hn, hf]
  simp only [State.oldItems, hh, hg, hn, hf, hr]

theorem hallGen_floorFix (s : State) (h x : Nat) : (s.floorFix h).hallGen x = s.hallGen x := by
  have ho (t : State) (f : TFld) (v : Nat) (hw : f.lo + f.w ≤ 1024) (hd : T_HCX.GEN.lo + T_HCX.GEN.w ≤ f.lo ∨ f.lo + f.w ≤ T_HCX.GEN.lo) :
      (t.st .hcx h f v).hallGen x = t.hallGen x := tf_st_apart v hw hd
  unfold State.floorFix
  extract_lets n t
  have ht : t.hallGen x = s.hallGen x := ho s _ _ (by decide) (by decide)
  split
  · exact (ho t _ _ (by decide) (by decide)).trans ht
  · exact ht

/-- FLOOR and OLD_ITEMS are two fields of the hall's context: what stands beside the tables is untouched. -/
theorem floorFix_keeps {β : Type} (g : State → β) (hg : ∀ t f v, g (t.st .hcx h f v) = g t) (s : State) : g (s.floorFix h) = g s := by
  unfold State.floorFix
  extract_lets n t
  split
  · exact (hg t _ _).trans (hg s _ _)
  · exact hg s _ _

@[simp] theorem floorFix_hlm (s : State) (h : Nat) : (s.floorFix h).hlm = s.hlm := floorFix_keeps State.hlm (fun t _ _ => t.st_hlm ..) s

theorem oldItems_floorFix (s : State) (h : Nat) : (s.floorFix h).oldItems h = s.oldItems h :=
  oldItems_congr (floorFix_keeps State.host (fun t _ _ => t.st_host ..) s) (floorFix_keeps State.gal (fun t _ _ => t.st_gal ..) s)
    (hallGen_floorFix s h) h

@[simp] theorem setGen_hlm (s : State) (h g : Nat) : (s.setGen h g).hlm = s.hlm := (State.sf_hlm ..).trans (State.st_hlm ..)

/-! ### The start of a reset (R408 steps 2 and 3) -/

/-- Once every queued reset has started, none starts. -/
theorem resetNext_all_started (hs : ∀ x ∈ s.hlm.resets, x.started = true) (n : Nat) : s.resetNext n = s := by
  cases n with
  | zero => rfl
  | succ n =>
    have hn : s.hlm.resets.find? (fun x => !x.started) = none := by
      rw [List.find?_eq_none]
      intro x hx
      rw [hs x hx]
      decide
    rw [State.resetNext, hn]
    exact ite_self s

/-- The state in which a reset alone in the queue has started. -/
def State.withReset (s : State) (x : HallReset) : State := { s with hlm := { s.hlm with resets := [x] } }

theorem oldItems_withReset (s : State) (x : HallReset) (h : Nat) : (s.withReset x).oldItems h = s.oldItems h :=
  oldItems_congr rfl rfl (fun _ => rfl) h

/-- Steps 2 and 3 of R408: GEN advances, and the hall is fenced. -/
def State.genAdvance (s : State) (h : Nat) : State :=
  (((s.st .hcx h T_HCX.STATE hlRESETTING).setGen h ((s.hallGen h + 1) % 2 ^ 16)).fence h).floorFix h

@[simp] theorem genAdvance_hlm (s : State) (h : Nat) : (s.genAdvance h).hlm = s.hlm := by
  rw [State.genAdvance, floorFix_hlm, fence_hlm, setGen_hlm, State.st_hlm]

theorem resetStart_alone {release go busy : Bool} (h0 : s.oldItems h = 0) :
    (s.withReset ⟨h, release, go, busy, false⟩).resetStart ⟨h, release, go, busy, false⟩
      = ((s.withReset ⟨h, release, go, busy, true⟩).floorFix h).genAdvance h := by
  have hset : (s.withReset ⟨h, release, go, busy, false⟩).setReset h (fun x => { x with started := true })
      = s.withReset ⟨h, release, go, busy, true⟩ := by
    simp only [State.setReset, State.withReset, List.map_cons, List.map_nil, beq_self_eq_true, if_true]
  have hold : ((s.withReset ⟨h, release, go, busy, true⟩).floorFix h).oldItems h = 0 := by
    rw [oldItems_floorFix, oldItems_withReset, h0]
  simp only [State.resetStart, hset, hold, bne_self_eq_false, Bool.false_and, Bool.false_eq_true, if_false, State.genAdvance]

/-- A reset of a hall without old items starts at once when no other is queued. -/
theorem resetsGo_alone {release go busy : Bool} (h0 : s.oldItems h = 0) :
    (s.withReset ⟨h, release, go, busy, false⟩).resetsGo = ((s.withReset ⟨h, release, go, busy, true⟩).floorFix h).genAdvance h := by
  have hst : ∀ x ∈ (((s.withReset ⟨h, release, go, busy, true⟩).floorFix h).genAdvance h).hlm.resets, x.started = true := by
    intro x hx
    rw [genAdvance_hlm, floorFix_hlm] at hx
    rw [List.mem_singleton.1 hx]
  have hgo : (s.withReset ⟨h, release, go, busy, false⟩).resetNext 2
      = ((s.withReset ⟨h, release, go, busy, false⟩).resetStart ⟨h, release, go, busy, false⟩).resetNext 1 := rfl
  rw [State.resetsGo]
  exact hgo.trans (by rw [resetStart_alone h0, resetNext_all_started hst])

theorem hallReset_alone (hf : s.hallFunc h = 0) (hq : s.hlm.resets = []) (h0 : s.oldItems h = 0) (release go : Bool) :
    s.hallReset h release go = ((s.withReset ⟨h, release, go, go, true⟩).floorFix h).genAdvance h := by
  have hfz : s.freezeBreak h 0x11 0 = s := by
    simp only [State.freezeBreak, State.frozen, hf, bne_self_eq_false, Bool.and_false, Bool.false_and, Bool.false_eq_true, if_false]
  rw [← resetsGo_alone h0]
  simp only [State.hallReset, hfz, hq, List.find?_nil, List.nil_append, State.withReset]

/-! ### HALL_CMD (R394, R395, R421) -/

/-- HALL and OP as a write of HALL_CMD leaves them. -/
def State.cmdFields (s : State) (h op : Nat) : State := s.sf pgHLM HLM.HALL_CMD_HALL h |>.sf pgHLM HLM.HALL_CMD_OP op

@[simp] theorem cmdFields_hlm (s : State) (h op : Nat) : (s.cmdFields h op).hlm = s.hlm := (State.sf_hlm ..).trans (State.sf_hlm ..)

/-- The OP of a release and of a reset. -/
def endOp (rel : Bool) : Nat := if rel then 3 else 2

/-- The command of a release and of a reset. -/
def endInstr (rel : Bool) (h : Nat) : Instr := if rel then .hallRelease h else .hallReset h

theorem exec_hallCreate (s : State) (h : Nat) : exec (.hallCreate h) s = .next (s.hallCmd 1 h (.hallCreate h)).shown := rfl

theorem exec_endInstr (s : State) (h : Nat) (rel : Bool) :
    exec (endInstr rel h) s = .next (s.hallCmd (endOp rel) h (endInstr rel h)).shown := by
  cases rel <;> rfl

theorem hallCmd_now {op : Nat} (hd : (s.cmdFields h op).defers = false) (i : Instr) :
    s.hallCmd op h i = ((s.cmdFields h op).hallGo op (h % 4096)).settle := if_neg (Bool.eq_false_iff.1 hd)

theorem hallGo_busy (hb : s.gb pgHLM HLM.HALL_CMD_BUSY = true) (op h : Nat) : s.hallGo op h = s :=
  if_pos (by rw [hb, Bool.or_true, Bool.true_or])

section
variable (hb : s.gb pgHLM HLM.HALL_CMD_BUSY = false) (ha : s.active pgHLM = true)
include hb ha

theorem hallGo_create (h : Nat) : s.hallGo 1 h = (s.sf pgHLM HLM.HALL_CMD_BUSY 1).hallCreate h :=
  if_neg (by rw [hb, ha]; decide)

/-- A GO of a reset or release goes on with the hall's state. -/
theorem hallGo_end (rel : Bool) (h : Nat) :
    let t := s.sf pgHLM HLM.HALL_CMD_BUSY 1
    s.hallGo (endOp rel) h = if t.hallSt h == hlFREE then t.hallCmdEnd 1
      else if rel && t.hallFunc h != 0 && (t.tdispOf (t.hallFunc h) == 1 || t.tdispOf (t.hallFunc h) == 2) then t.hallCmdEnd 5
      else t.hallReset h rel true := by
  have hgo (op : Nat) (h0 : op ≠ 0) :
      (op == 0 || s.gb pgHLM HLM.HALL_CMD_BUSY || !s.active pgHLM) = false := by
    rw [hb, ha, beq_false_of_ne h0]
    rfl
  unfold State.hallGo endOp
  cases rel
  all_goals
    rw [if_neg (by rw [hgo _ (by decide)]; decide), if_neg (by decide)]
    rfl

/-- A reset or release of a free hall ends with 1. -/
theorem hallGo_free {rel : Bool} (hs : (s.sf pgHLM HLM.HALL_CMD_BUSY 1).hallSt h = hlFREE) :
    s.hallGo (endOp rel) h = (s.sf pgHLM HLM.HALL_CMD_BUSY 1).hallCmdEnd 1 :=
  (hallGo_end hb ha rel h).trans (if_pos (beq_iff_eq.2 hs))

/-- A reset or release of a bound hall of PF0 begins. -/
theorem hallGo_bound {rel : Bool} (hs : (s.sf pgHLM HLM.HALL_CMD_BUSY 1).hallSt h = hlBOUND)
    (hf : (s.sf pgHLM HLM.HALL_CMD_BUSY 1).hallFunc h = 0) :
    s.hallGo (endOp rel) h = (s.sf pgHLM HLM.HALL_CMD_BUSY 1).hallReset h rel true := by
  refine (hallGo_end hb ha rel h).trans ?_
  rw [if_neg (by rw [hs]; decide), if_neg (by rw [hf, bne_self_eq_false, Bool.and_false, Bool.false_and]; decide)]

end

/-! ### Creation (R394, R421) -/

theorem hallCreate_refused (hc : s.createCheck h ≠ 0) : s.hallCreate h = s.hallCmdEnd (s.createCheck h) := by
  unfold State.hallCreate
  split
  case h_1 h0 => exact absurd h0 hc
  case h_2 => rfl

theorem hallCreate_bound (hc : s.createCheck h = 0) :
    let t := (s.st .hcx h T_HCX.STATE hlBOUND).st .hcx h T_HCX.TDISP (s.tdispOf (s.hallFunc h))
    s.hallCreate h = (((t.floorFix h).setGen h (t.hallGen h)).countHalls.cnt pgHLM HLM.CNT_CREATES).hallCmdEnd 0 := by
  intro t
  simp only [State.hallCreate, hc]
  rfl

/-! ### The end of a reset (R408 steps 4 to 6) -/

theorem exec_hallResetDone (s : State) (h : Nat) : exec (.hallResetDone h) s = .next (s.hallDone h).settle.shown := rfl

theorem hallDone_none (hq : s.hlm.resets = []) : s.hallDone h = s := by
  rw [State.hallDone, hq, List.find?_nil]

/-- Steps 4 to 6 of a reset that a command asked for. -/
theorem hallDone_busy {rel : Bool} (hq : s.hlm.resets = [⟨h, rel, true, true, true⟩]) (hs : s.hallSt h = hlRESETTING) :
    let t := (s.resetOwned h).resetWindows h
    let u := if rel then
        t.each [T_HCX.STATE, T_HCX.NOPASID, T_HCX.FUNC, T_HCX.PASID, T_HCX.SLOT, T_HCX.TDISP] (fun f s => s.st .hcx h f 0)
      else t.st .hcx h T_HCX.STATE hlBOUND
    s.hallDone h = ((({ u with hlm := { u.hlm with resets := u.hlm.resets.filter (fun y => y.hall != h) } } :
      State).countHalls.cnt pgHLM HLM.CNT_RESETS).hallCmdEnd 0).resetsGo := by
  have hx : s.hlm.resets.find? (fun x => x.hall == h && x.started && s.hallSt h == hlRESETTING) = some ⟨h, rel, true, true, true⟩ := by
    rw [hq, hs]
    exact List.find?_cons_of_pos (by simp only [beq_self_eq_true, Bool.and_self])
  simp only [State.hallDone, hx, if_true]

/-! ### The end of a wait (R411) -/

theorem exec_genWaitEnd (s : State) (h : Nat) : exec (.genWaitEnd h) s = .next (s.genWaitEnd h).shown := rfl

theorem genWaitEnd_advance (hs : s.hallSt h = hlWAITING) (h0 : s.oldItems h = 0) :
    s.genWaitEnd h = ((((s.floorFix h).st .hcx h T_HCX.STATE hlRESETTING).setGen h (((s.floorFix h).hallGen h + 1) % 2 ^ 16)).floorFix h) := by
  simp only [State.genWaitEnd, hs, h0, beq_self_eq_true, Bool.and_self, if_true]

theorem genWaitEnd_waits (hn : s.hallSt h ≠ hlWAITING ∨ s.oldItems h ≠ 0) : s.genWaitEnd h = s := by
  refine if_neg (fun hc => ?_)
  obtain ⟨hs, h0⟩ := (Bool.and_eq_true _ _).mp hc
  exact hn.elim (fun n => n (beq_iff_eq.1 hs)) (fun n => n (beq_iff_eq.1 h0))

/-! ### The dirty-page flip (R415) -/

theorem exec_dlFlip (hp : s.applying pgHLM = false) (hh : h < 4096) : exec (.dlFlip h) s = .next (s.dlFlip h).shown := by
  show Host.Outcome.next (s.onPage pgHLM (.dlFlip h) (s.dlFlip (h % 4096))).shown = _
  rw [onPage_of_free hp, Nat.mod_eq_of_lt hh]

theorem exec_dlFlip_held (hp : s.applying pgHLM = true) (h : Nat) : exec (.dlFlip h) s = .next (s.mezWait (.dlFlip h)).shown := by
  show Host.Outcome.next (s.onPage pgHLM (.dlFlip h) (s.dlFlip (h % 4096))).shown = _
  rw [onPage_of_applying hp]

section
variable {t : State} (ht : t = s.sf pgHLM HLM.DL_CMD_HALL h)
include ht

theorem dlFlip_ignored (hn : t.gb pgHLM HLM.DL_CMD_BUSY = true ∨ t.active pgHLM = false ∨ t.tb .hcx h T_HCX.DL_EN = false) :
    s.dlFlip h = t := by
  subst ht
  rw [State.dlFlip]
  refine if_pos ?_
  rcases hn with hb | ha | he
  · rw [hb, Bool.true_or, Bool.true_or]
  · rw [ha, Bool.not_false, Bool.or_true, Bool.true_or]
  · rw [he, Bool.not_false, Bool.or_true]

theorem dlFlip_go (hb : t.gb pgHLM HLM.DL_CMD_BUSY = false) (ha : t.active pgHLM = true) (he : t.tb .hcx h T_HCX.DL_EN = true) :
    let w := t.tb .hcx h T_HCX.DL_ACTIVE
    let u := ((t.sf pgHLM HLM.DL_CMD_BUSY 1).st .hcx h T_HCX.DL_ACTIVE (b2n (!w))).st .hcx h T_HCX.DL_OVER 0
    let v : State := { u with hlm := { u.hlm with flip := some h } }
    s.dlFlip h = v.each ((v.wordsIn h w).filter (fun x => x.old.isSome)) (fun x s => s.dlWriteBack x) := by
  subst ht
  rw [State.dlFlip]
  exact if_neg (by rw [hb, ha, he]; decide)

end

theorem exec_dlFlipDone (s : State) : exec .dlFlipDone s = .next s.dlFlipDone.shown := rfl

theorem dlFlipDone_none (hf : s.hlm.flip = none) : s.dlFlipDone = s := by
  rw [State.dlFlipDone, hf]

theorem dlFlipDone_written (hf : s.hlm.flip = some h) (hw : s.hlm.words = []) :
    s.dlFlipDone = (({ s with hlm := { s.hlm with flip := none } } : State).sf pgHLM HLM.DL_CMD_BUSY 0).event pgHLM 3 := by
  have hn (second : Bool) : s.wordsIn h second = [] := by rw [State.wordsIn, hw, List.filter_nil]
  rw [State.dlFlipDone, hf]
  simp only [hn, List.filter_nil, State.each, List.foldl_nil, List.isEmpty_nil, if_true]

/-! ### The consumer count (R405) -/

theorem exec_rxConsWrite_pf0 (s : State) (q h : Nat) (v : Word) : exec (.rxConsWrite (.pf0 q) h v) s =
    .next (if subMod (s.rxProd h) v.toNat 32 ≤ s.rxSize h then s.sf (pgHAL h) HAL.RX_CONS_CONS v.toNat else s).shown := rfl

/-- Settles O47, by the equations above, command by command. -/
theorem hallCommands : Obligations.HallCommands := by
  refine ⟨?create, ?reset, ?busy, ?resetDone, ?noReset, ?waitEnd, ?waits, ?flip, ?flipBusy, ?flipDone, ?noFlip, ?cons, ?held⟩
  case create =>
    intro s h hh _ _ hb ha hd t
    have hgo : s.hallCmd 1 h (.hallCreate h) = (t.hallCreate h).settle := by
      rw [hallCmd_now hd, Nat.mod_eq_of_lt hh]
      exact congrArg State.settle (hallGo_create hb ha h)
    rw [exec_hallCreate, hgo]
    exact ⟨fun hc => by rw [hallCreate_refused hc, State.hallCmdEnd], fun hc => by rw [hallCreate_bound hc]⟩
  case reset =>
    intro s h rel hh _ hq b t hb ha hd
    have hgo : s.hallCmd (endOp rel) h (endInstr rel h) = (b.hallGo (endOp rel) (h % 4096)).settle := hallCmd_now hd _
    have hx : exec (endInstr rel h) s = .next (b.hallGo (endOp rel) h).settle.shown := by
      rw [exec_endInstr, hgo, Nat.mod_eq_of_lt hh]
    refine ⟨fun hs => hx.trans ?_, fun ⟨hs, hf, h0⟩ => hx.trans ?_⟩
    · rw [hallGo_free hb ha hs]
    · have hqt : t.hlm.resets = [] := by rw [State.sf_hlm, ← hq]; exact congrArg Halls.resets (cmdFields_hlm ..)
      rw [hallGo_bound hb ha hs hf, hallReset_alone hf hqt h0]
      rfl
  case busy =>
    intro s h op b hb hd
    have hgo (i : Instr) : s.hallCmd op h i = b.settle :=
      (hallCmd_now hd i).trans (congrArg State.settle (hallGo_busy hb op _))
    refine ⟨?_, ?_, ?_⟩
    all_goals
      rintro rfl
      exact congrArg (fun x => Host.Outcome.next (State.shown x)) (hgo _)
  case resetDone =>
    intro s h rel hq hs
    rw [exec_hallResetDone, hallDone_busy hq hs]
  case noReset =>
    intro s h hq
    rw [exec_hallResetDone, hallDone_none hq]
  case waitEnd =>
    intro s h hs h0
    rw [exec_genWaitEnd, genWaitEnd_advance hs h0]
  case waits =>
    intro s h hn
    rw [exec_genWaitEnd, genWaitEnd_waits hn]
  case flip =>
    intro s h hp hh t hb
    rw [exec_dlFlip hp hh]
    exact ⟨fun ⟨ha, he⟩ => by rw [dlFlip_go rfl hb ha he], fun hn => by rw [dlFlip_ignored rfl (.inr hn)]⟩
  case flipBusy =>
    intro s h hp hh t hb
    rw [exec_dlFlip hp hh, dlFlip_ignored rfl (.inl hb)]
  case flipDone =>
    intro s h hf hw
    rw [exec_dlFlipDone, dlFlipDone_written hf hw]
  case noFlip =>
    intro s hf
    rw [exec_dlFlipDone, dlFlipDone_none hf]
  case cons =>
    intro s h q v
    rw [exec_rxConsWrite_pf0]
    exact ⟨fun hc => by rw [if_pos hc], fun hc => by rw [if_neg (Nat.not_le.2 hc)]⟩
  case held =>
    intro s h hp
    exact exec_dlFlip_held hp h

end Sys2Proof.Machine
end

section
/-!
PROOF. The Landing interrupt controller (R430 to R444, R450, R451): what each row makes of a source by its state, how a search ends, what a
delivery leaves, which source a claim returns, and O48 and O49 from them.
-/

namespace Sys2Proof.Machine

variable {s : State} {x e : Nat}

/-! ### A source fires (R430, R432) -/

theorem fire_off (hp : s.gf pgOAS OAS.PWR_STS_STATE < 2) (hl : s.active pgLND = false) (x : Nat) : s.fire x = s := by
  rw [State.fire, if_neg (Nat.not_le.2 hp), hl, if_neg Bool.false_ne_true]

section
variable (hp : s.gf pgOAS OAS.PWR_STS_STATE < 2) (hl : s.active pgLND = true)
include hp hl

theorem fire_idle (h : s.tf .src x T_SRC.STATE = srcIDLE) : s.fire x = (s.becomePending x).wakeBySource x := by
  simp only [State.fire, if_neg (Nat.not_le.2 hp), hl, h, beq_self_eq_true, if_true]

theorem fire_active (h : s.tf .src x T_SRC.STATE = srcACTIVE) : s.fire x = (s.st .src x T_SRC.STATE srcACTPEND).wakeBySource x := by
  have hi : (srcACTIVE == srcIDLE) = false := rfl
  simp only [State.fire, if_neg (Nat.not_le.2 hp), hl, h, hi, beq_self_eq_true, if_true, Bool.false_eq_true, if_false]

/-- A source whose event is not yet served fires without effect on its state. -/
theorem fire_waiting (hi : s.tf .src x T_SRC.STATE ≠ srcIDLE) (ha : s.tf .src x T_SRC.STATE ≠ srcACTIVE) : s.fire x = s.wakeBySource x := by
  simp only [State.fire, if_neg (Nat.not_le.2 hp), hl, beq_false_of_ne hi, beq_false_of_ne ha, if_true, Bool.false_eq_true, if_false]

end

/-! ### SOURCE_FIRE (R430) -/

theorem exec_sourceFire (s : State) (x : Nat) (l : Bool) : exec (.sourceFire x l) s = .next (s.sourceInput x l).shown := rfl

theorem sourceInput_sideBand (l : Bool) (h0 : 0x2000 ≤ x) (h1 : x < 0x6000) : s.sourceInput x l = s.setLevel x l := by
  have hp : isPageSource x = false := decide_eq_false (Nat.not_lt.2 h0)
  rw [State.sourceInput, if_neg (by omega), hp, if_neg Bool.false_ne_true, if_pos h1]

/-- An EVENT line or a software source has no level: a rise fires it. -/
theorem sourceInput_pulse (l : Bool) (h : (0x6000 ≤ x ∧ x < 0xA000) ∨ (0xA010 ≤ x ∧ x < 0x10000)) :
    s.sourceInput x l = if l then s.fire x else s := by
  have hp : isPageSource x = false := decide_eq_false (by omega)
  rw [State.sourceInput, if_neg (by omega), hp, if_neg Bool.false_ne_true, if_neg (by omega), if_neg (by omega)]

theorem sourceInput_page {b : Blk} {k : Nat} (h : x < 0x2000) (hb : blkOf x = some (b, k)) :
    s.sourceInput x true = if s.tb .src x T_SRC.ASSERTED then s.fire x else s := by
  have hp : isPageSource x = true := decide_eq_true h
  rw [State.sourceInput, if_neg (by omega), hp, if_pos rfl, hb, Option.isSome_some, Bool.true_and, Bool.and_true]

/-! ### EVIN_CHANGE (R431) -/

theorem exec_evinChange {i : Nat} (hi : i < 16) (l : Bool) (s : State) : exec (.evinChange i l) s =
    .next ((s.sf pgLND LND.EVIN_STS_LEVEL (putBits (s.gf pgLND LND.EVIN_STS_LEVEL) i 1 (b2n l))).evinSee i
      (bitAt (s.gf pgLND LND.EVIN_STS_LEVEL) i) l).shown :=
  congrArg (fun u => Host.Outcome.next (State.shown u)) (if_neg (Nat.not_le.2 hi))

section
variable {i m : Nat} {was now : Bool} (hm : s.gf pgLND (LND.EVIN_CFG_MODE i) = m)
include hm

theorem evinSee_level {l p : Bool} (h : evinEffect m was now = (some l, p)) : s.evinSee i was now = s.setLevel (0xA000 + i) l := by
  rw [State.evinSee, hm, h]

theorem evinSee_edge (h : evinEffect m was now = (none, true)) : s.evinSee i was now = (s.setLevel (0xA000 + i) false).fire (0xA000 + i) := by
  rw [State.evinSee, hm, h]

theorem evinSee_noEdge (h : evinEffect m was now = (none, false)) : s.evinSee i was now = s.setLevel (0xA000 + i) false := by
  rw [State.evinSee, hm, h]

end

/-! ### SW_SET (R429) -/

theorem exec_swSet (s : State) (v : Word) : exec (.swSet v) s = .next (s.onPage pgLND (.swSet v) (s.swSet v)).shown := rfl

/-! ### SOURCE_ASSIGN (R433 to R435) -/

theorem exec_sourceAssign (s : State) : exec .sourceAssign s = .next s.assign.shown := rfl

theorem assign_nothing (h : s.active pgLND = false ∨ s.eligible = []) : s.assign = s := by
  rcases h with h | h
  · rw [State.assign, h, Bool.false_and, if_neg Bool.false_ne_true]
  · simp only [State.assign, h, List.filter_nil, bestSource, ite_self]

/-- A search that looks at no target that is not permitted reports none. -/
theorem denials_none {l : List (Nat × TargetView)} (h : l.any (fun e => e.2 == .denied) = false) : s.denials x (searched l) = s := by
  have hf : (searched l).filter (fun e => e.2 == .denied) = [] := by
    rw [List.filter_eq_nil_iff]
    exact fun a ha => List.any_eq_false.1 h a ((List.takeWhile_sublist _).subset ha)
  rw [State.denials, hf]
  rfl

section
variable {p : Nat} (ha : s.active pgLND = true) (hq : s.quiesce pgLND = false)
  (hb : bestSource (s.eligible.filter (fun e => (chosen (s.search e.1)).isSome || !s.lnd.waited.contains e.1)) = some (x, p))
  (hd : (s.search x).any (fun e => e.2 == .denied) = false)
include ha hq hb hd

theorem assign_chosen {o : Nat} {v : TargetView} (hc : chosen (s.search x) = some (o, v)) : s.assign = s.assignTo x o := by
  simp only [State.assign, ha, hq, hb, denials_none hd, hc, Bool.not_false, Bool.and_self, if_true]

theorem assign_noTarget (hc : chosen (s.search x) = none) : s.assign = s.noTarget x (s.search x) := by
  simp only [State.assign, ha, hq, hb, denials_none hd, hc, Bool.not_false, Bool.and_self, if_true]

end

/-! An assignment reads the target table and the MSI-X entry after it has written the set and the source: those are entries of other tables. -/

/-- Entries of two tables are two entries. -/
theorem tkey_ne_of_tbl {t u : Tbl} {i j : Nat} (hi : i < 2 ^ 24) (hj : j < 2 ^ 24)
    (h : u.info.page * 16 + u.info.num ≠ t.info.page * 16 + t.info.num) : tkey u j ≠ tkey t i := fun he => by
  rw [← tkey_div u hj, ← tkey_div t hi, he] at h
  exact h rfl

theorem entryFunc_congr {u : State} (h : ∀ f : Fld, f.off < 4096 → u.gf pgHST f = s.gf pgHST f) (e : Nat) : u.entryFunc e = s.entryFunc e := by
  simp (disch := decide) only [State.entryFunc, h]

theorem entryMasked_congr {u : State} (hr : u.regs = s.regs) (hh : u.host = s.host) (hm : u.tf .vec e T_VEC.MASK = s.tf .vec e T_VEC.MASK) :
    u.entryMasked e = s.entryMasked e := by
  have hg (p : Nat) (f : Fld) : u.gf p f = s.gf p f := by rw [State.gf, State.reg, hr, State.gf, State.reg]
  have hc (f : Nat) (r : CfgReg) : u.cfgRaw f r = s.cfgRaw f r := by rw [State.cfgRaw, hh, State.cfgRaw]
  simp only [State.entryMasked, State.isMember, State.tb, hm, entryFunc_congr (fun f _ => hg pgHST f), hg, hc]

theorem State.with_lnd_regs (s : State) (l : Landing) : State.regs { s with lnd := l } = s.regs := rfl
theorem State.with_lnd_host (s : State) (l : Landing) : State.host { s with lnd := l } = s.host := rfl
theorem State.with_lnd_tbls (s : State) (l : Landing) : State.tbls { s with lnd := l } = s.tbls := rfl

/-- The state in which an assignment of source x to entry i has chosen the target at offset o (R434). -/
def State.placed (s : State) (x o i : Nat) : State :=
  let t := (s.st .tse (s.tf .src x T_SRC.TSET) T_TSE.NEXT o).st .src x T_SRC.TARGET i
  { t with lnd := { t.lnd with waited := t.lnd.waited.filter (· != x) } }

theorem placed_regs (s : State) (x o i : Nat) : (s.placed x o i).regs = s.regs :=
  (State.with_lnd_regs _ _).trans ((State.st_regs ..).trans (State.st_regs ..))
theorem placed_host (s : State) (x o i : Nat) : (s.placed x o i).host = s.host :=
  (State.with_lnd_host _ _).trans ((State.st_host ..).trans (State.st_host ..))

/-- A choice writes its set and its source, and no entry of another table. -/
theorem tf_placed {u : Tbl} {j : Nat} {f : TFld} (o i : Nat) (hx : x < 0x10000) (hj : j < 2 ^ 24) (hs : u.info.page * 16 + u.info.num ≠ 0x800)
    (ht : u.info.page * 16 + u.info.num ≠ 0x801) : (s.placed x o i).tf u j f = s.tf u j f := by
  have hset : s.tf .src x T_SRC.TSET < 2 ^ 12 := fld_lt _ _ _
  have htbls : (s.placed x o i).tbls = ((s.st .tse (s.tf .src x T_SRC.TSET) T_TSE.NEXT o).st .src x T_SRC.TARGET i).tbls :=
    State.with_lnd_tbls _ _
  rw [tf_of_tbls htbls, State.tf_st_of_ne _ _ (tkey_ne_of_tbl (by omega) hj hs), State.tf_st_of_ne _ _ (tkey_ne_of_tbl (by omega) hj ht)]

/-- What an assignment does with the target chosen. -/
theorem assignTo_eq (s : State) (x o : Nat) :
    let k := s.tf .tse (s.tf .src x T_SRC.TSET) T_TSE.FIRST + o
    let i := s.tf .tgt k T_TGT.INDEX
    let t := s.placed x o i
    let u := t.st .src x T_SRC.TKIND 0
    s.assignTo x o =
      if t.tb .tgt k T_TGT.KIND then (((t.st .src x T_SRC.TKIND 1).st .src x T_SRC.STATE srcSUMMARY).startHold x).sumUpdate i false
      else if u.entryMasked i then ((u.st .src x T_SRC.STATE srcHELD).cnt pgLND LND.CNT_HELD_MASKED).pendUpdate i
      else
        let v := u.st .src x T_SRC.STATE srcACTIVE
        { v with lnd := { v.lnd with order := v.lnd.order ++ [x] } } := rfl

/-- An unmasked MSI-X entry takes its source at once: it is ACTIVE, the last of those on their way (R434, R436). -/
theorem assignTo_unmasked {o k : Nat} (hx : x < 0x10000) (ho : o < 64) (hk : s.tf .tse (s.tf .src x T_SRC.TSET) T_TSE.FIRST + o = k)
    (hkind : s.tb .tgt k T_TGT.KIND = false) (hm : s.entryMasked (s.tf .tgt k T_TGT.INDEX) = false) :
    let u := (s.placed x o (s.tf .tgt k T_TGT.INDEX)).st .src x T_SRC.TKIND 0
    s.assignTo x o = { u.st .src x T_SRC.STATE srcACTIVE with lnd := { u.lnd with order := u.lnd.order ++ [x] } } := by
  intro u
  have hfirst : s.tf .tse (s.tf .src x T_SRC.TSET) T_TSE.FIRST < 2 ^ 15 := fld_lt _ _ _
  have hidx : s.tf .tgt k T_TGT.INDEX < 2 ^ 15 := fld_lt _ _ _
  have hkind' : (s.placed x o (s.tf .tgt k T_TGT.INDEX)).tb .tgt k T_TGT.KIND = false := by
    rwa [State.tb, tf_placed _ _ hx (by omega) (by decide) (by decide)]
  have hmask : u.tf .vec (s.tf .tgt k T_TGT.INDEX) T_VEC.MASK = s.tf .vec (s.tf .tgt k T_TGT.INDEX) T_VEC.MASK :=
    (State.tf_st_of_ne _ 0 (tkey_ne_of_tbl (by omega) (by omega) (by decide))).trans
      (tf_placed _ _ hx (by omega) (by decide) (by decide))
  have hm' : u.entryMasked (s.tf .tgt k T_TGT.INDEX) = false := 
    (entryMasked_congr (s := s) ((State.st_regs ..).trans (placed_regs ..)) ((State.st_host ..).trans (placed_host ..)) hmask).trans hm
  subst hk
  rw [assignTo_eq, if_neg (ne_true_of_eq_false hkind'), if_neg (ne_true_of_eq_false hm'),
    ← (State.st_lnd .. : (u.st .src x T_SRC.STATE srcACTIVE).lnd = u.lnd)]

/-! ### MSIX_DELIVERY (R436, R438) -/

theorem exec_msixDelivery (s : State) (e : Nat) : exec (.msixDelivery e) s = .next (s.deliver e).sendEvents.shown := rfl

/-- Without messages for the head of a cascade nothing goes to it (R320). -/
theorem sendEvents_none (h : s.lnd.events = []) : s.sendEvents = s := by
  rw [State.sendEvents, h]
  rfl

theorem startHold_events (s : State) (x : Nat) : (s.startHold x).lnd.events = s.lnd.events := by
  unfold State.startHold
  dsimp only
  split
  · rfl
  · rfl

theorem endService_lnd (s : State) (x : Nat) : (s.endService x).lnd = s.lnd := by
  unfold State.endService
  split
  · exact (sameBut_becomePending s x).lnd
  · exact State.st_lnd ..

theorem pendUpdate_lnd (s : State) (e : Nat) : (s.pendUpdate e).lnd = s.lnd := State.st_lnd ..

/-- The end of a service sends nothing to the head of a cascade. -/
theorem delivered_events (s : State) (x : Nat) : (s.delivered x).lnd.events = s.lnd.events := by
  rw [State.delivered, endService_lnd, startHold_events]

theorem deliver_waits (h : s.active pgLND = false ∨ s.entryAsleep e = true ∨ (s.quiesce pgHST = true ∧ s.isMember = false)) :
    s.deliver e = s := by
  refine if_pos ?_
  rcases h with h | h | ⟨hq, hm⟩
  · rw [h]; rfl
  · rw [h, Bool.or_true, Bool.true_or]
  · rw [hq, hm, Bool.not_false, Bool.and_self, Bool.or_true]

/-- A message of a device that is no member of a cascade goes to the host (R436). -/
theorem sendMsix_host (hm : s.isMember = false) : s.sendMsix e = (s.cnt pgLND LND.CNT_MSGS_SENT).emit
    (.msix ((s.entryFunc e).getD 0) (s.tf .vec e T_VEC.ADDR) (s.tf .vec e T_VEC.DATA)) := by
  have hg {p : Nat} (hp : p ≠ pgLND) (f : Fld) (hf : f.off < 4096) : (s.cnt pgLND LND.CNT_MSGS_SENT).gf p f = s.gf p f :=
    s.gf_cnt_of_ne 1 (raddr_ne hp hf (by decide))
  have hm' : (s.cnt pgLND LND.CNT_MSGS_SENT).isMember = false := by
    rwa [State.isMember, hg (by decide) _ (by decide)]
  simp only [State.sendMsix, hm', entryFunc_congr (hg (by decide)), State.tf_cnt, Bool.false_eq_true, if_false]

section
variable {p : Nat} (ha : s.active pgLND = true) (hq : s.quiesce pgLND = false) (hs : s.entryAsleep e = false) (hm : s.entryMasked e = false)
  (hh : s.quiesce pgHST = false)
include ha hq hs hm hh

/-- Held sources go with one message. -/
theorem deliver_held (hx : s.srcsAt srcHELD 0 e = [(x, p)]) : s.deliver e = ((s.sendMsix e).delivered x).pendUpdate e := by
  simp only [State.deliver, ha, hq, hs, hm, hh, hx, Bool.not_true, Bool.false_and, Bool.or_self, Bool.false_eq_true, if_false, State.each,
    List.foldl_cons, List.foldl_nil]

/-- With none held the first source on its way to the entry goes with its message. -/
theorem deliver_ordered (hx : s.srcsAt srcHELD 0 e = []) (ho : s.lnd.order = [x]) (ht : s.tf .src x T_SRC.TARGET = e) :
    s.deliver e = (({ s with lnd := { s.lnd with order := [] } } : State).sendMsix e).delivered x := by
  simp only [State.deliver, ha, hq, hs, hm, hh, hx, ho, ht, List.find?_cons, beq_self_eq_true, List.erase_cons_head, Bool.not_true, Bool.false_and,
    Bool.or_self, Bool.false_eq_true, if_false]

end

/-! ### HOLDOFF_EXPIRY (R444) -/

theorem exec_holdoffExpiry (s : State) (g : Nat) : exec (.holdoffExpiry g) s =
    .next ({ s with lnd := { s.lnd with holds := s.lnd.holds.filter (fun e => !(e.1 == g && s.due e.2)) } } : State).shown := rfl

/-- Settles O48, by the equations above, row by row. -/
theorem fromSourceToMessage : Obligations.FromSourceToMessage := by
  refine ⟨?fire, ?off, ?sideBand, ?pulse, ?page, ?evin, ?swSet, ?assign, ?nothing, ?entry, ?ordered, ?waits, ?held, ?holdoff, ?applying⟩
  case fire =>
    intro s x hp hl
    refine ⟨fire_idle hp hl, fire_active hp hl, fun h => ?_⟩
    rcases h with h | h | h
    all_goals exact fire_waiting hp hl (by rw [h]; decide) (by rw [h]; decide)
  case off => exact fun s x hp hl => fire_off hp hl x
  case sideBand =>
    intro s x l h0 h1
    rw [exec_sourceFire, sourceInput_sideBand l h0 h1]
  case pulse =>
    intro s x h
    simp only [exec_sourceFire, sourceInput_pulse _ h, if_true, Bool.false_eq_true, if_false, and_self]
  case page =>
    intro s p b k h hb
    rw [exec_sourceFire, sourceInput_page h hb]
    exact ⟨fun ha => by rw [if_pos ha], fun ha => by rw [ha, if_neg Bool.false_ne_true]⟩
  case evin =>
    intro s i l hi was t
    rw [exec_evinChange hi]
    refine ⟨fun hm => ?_, fun hm => ?_, fun ⟨hm, hw, hl⟩ => ?_, fun ⟨hm, hw, hl⟩ => ?_, fun ⟨hm, hw⟩ => ?_⟩
    · rw [evinSee_level hm rfl]
    · rw [evinSee_level hm rfl]
    · rw [evinSee_edge hm (by rw [show bitAt _ i = false from hw, hl]; rfl)]
    · rw [evinSee_edge hm (by rw [show bitAt _ i = true from hw, hl]; rfl)]
    · rw [evinSee_noEdge hm (by rw [show bitAt _ i = l from hw]; exact congrArg (Prod.mk none) (bne_self_eq_false l))]
  case swSet =>
    intro s v hp
    rw [exec_swSet, onPage_of_free hp]
    exact ⟨fun h => by rw [State.swSet, if_pos h], fun h => by rw [State.swSet, if_neg (Nat.not_le.2 h)]⟩
  case assign =>
    intro s x p o v ha hq hb hd
    rw [exec_sourceAssign]
    exact ⟨fun hc => by rw [assign_chosen ha hq hb hd hc], fun hc => by rw [assign_noTarget ha hq hb hd hc]⟩
  case nothing =>
    intro s h
    rw [exec_sourceAssign, assign_nothing h]
  case entry =>
    intro s x o hx ho k hkind hm
    exact assignTo_unmasked hx ho rfl hkind hm
  case ordered =>
    intro s e x ha hq hs hm hn hh he hx ho ht t
    rw [exec_msixDelivery, deliver_ordered ha hq hs hm hh hx ho ht, sendMsix_host (s := t) hn]
    exact congrArg (fun u => Host.Outcome.next (State.shown u)) (sendEvents_none ((delivered_events _ x).trans he))
  case waits =>
    intro s e he h
    rw [exec_msixDelivery, deliver_waits h, sendEvents_none he]
  case held =>
    intro s e x p ha hq hs hm hn hh he hx hd
    rw [exec_msixDelivery, deliver_held ha hq hs hm hh hx, sendEvents_none]
    rwa [pendUpdate_lnd]
  case holdoff => exact exec_holdoffExpiry
  case applying =>
    intro s v hp
    rw [exec_swSet, onPage_of_applying hp]

end Sys2Proof.Machine
end

section
/-!
PROOF. Landing stacks (R432, R440 to R443, R450, R451): the source a claim returns, what each access to a target or a source does by the
state it meets, and O49 from them.
-/

namespace Sys2Proof.Machine

variable {s : State} {t x p : Nat}

/-! ### The source of highest priority (R441) -/

theorem eq_nil_of_bestSource {l : List (Nat × Nat)} (h : bestSource l = none) : l = [] := by
  cases l with
  | nil => rfl
  | cons x t =>
    rw [bestSource] at h
    split at h
    · exact nomatch h
    · split at h <;> exact nomatch h

/-- The best source is one of the list, and none of the list has a higher priority. -/
theorem bestSource_max {l : List (Nat × Nat)} {y : Nat × Nat} (h : bestSource l = some y) : y ∈ l ∧ ∀ z ∈ l, z.2 ≤ y.2 := by
  induction l generalizing y with
  | nil => exact nomatch h
  | cons x t ih =>
    rw [bestSource] at h
    split at h
    next ht =>
      obtain rfl := Option.some.inj h
      rw [eq_nil_of_bestSource ht]
      exact ⟨List.mem_singleton_self x, fun z hz => by rw [List.mem_singleton.1 hz]⟩
    next w ht =>
      obtain ⟨hw, hmax⟩ := ih ht
      simp only [List.forall_mem_cons]
      split at h
      next hlt =>
        obtain rfl := Option.some.inj h
        exact ⟨List.mem_cons_of_mem x hw, hlt.le, hmax⟩
      next hle =>
        obtain rfl := Option.some.inj h
        exact ⟨List.mem_cons_self, le_rfl, fun z hz => (hmax z hz).trans (Nat.not_lt.1 hle)⟩

/-- Whether a source that waits at a target can be claimed: at its threshold or above, and above the top of its stack (R441). -/
def State.claimsOver (s : State) (t : Nat) (e : Nat × Nat) : Bool :=
  decide (s.gf pgLND (sumF t SUM.SUM_CTL_THRESH) ≤ e.2) && (s.stack t).head?.all (fun top => decide (top.2 < e.2))

theorem claimable_eq (s : State) (t : Nat) : s.claimable t =
    if s.gb pgLND (sumF t SUM.SUM_CTL_EN) && !s.gb pgLND (sumF t SUM.SUM_STS_FAULT) && (s.stack t).length < 16 then
      bestSource ((s.srcsAt srcSUMMARY 1 t).filter (s.claimsOver t))
    else none := by
  unfold State.claimable State.claimsOver
  cases s.stack t with
  | nil => rfl
  | cons top rest => rfl

/-- The source that can be claimed is the best of those that wait, with room on the stack. -/
theorem claimable_some (h : s.claimable t = some (x, p)) : (s.stack t).length < 16
    ∧ bestSource ((s.srcsAt srcSUMMARY 1 t).filter (s.claimsOver t)) = some (x, p) := by
  rw [claimable_eq] at h
  split at h
  next hc => exact ⟨of_decide_eq_true ((Bool.and_eq_true _ _).mp hc).2, h⟩
  next => exact nomatch h

theorem claimsOver_iff {e : Nat × Nat} : s.claimsOver t e = true ↔
    s.gf pgLND (sumF t SUM.SUM_CTL_THRESH) ≤ e.2 ∧ (s.stack t).head?.all (fun top => decide (top.2 < e.2)) = true := by
  rw [State.claimsOver, Bool.and_eq_true, decide_eq_true_eq]

/-- A source of higher priority than one above the top is above the top. -/
theorem all_lt_trans {o : Option (Nat × Nat)} {q : Nat} (h : o.all (fun top => decide (top.2 < p)) = true) (hq : p < q) :
    o.all (fun top => decide (top.2 < q)) = true := by
  cases o with
  | none => rfl
  | some top => exact decide_eq_true ((of_decide_eq_true h).trans hq)

/-- No source that waits at the target, at its threshold or above, has a higher priority than the one a claim returns. -/
theorem claimable_max {y q : Nat} (h : s.claimable t = some (x, p)) (hy : (y, q) ∈ s.srcsAt srcSUMMARY 1 t)
    (hq : s.gf pgLND (sumF t SUM.SUM_CTL_THRESH) ≤ q) : q ≤ p := by
  obtain ⟨hmem, hmax⟩ := bestSource_max (claimable_some h).2
  obtain ⟨-, htop⟩ := claimsOver_iff.1 (List.mem_filter.1 hmem).2
  by_contra hlt
  have hover : s.claimsOver t (y, q) = true := claimsOver_iff.2 ⟨hq, all_lt_trans htop (Nat.not_le.1 hlt)⟩
  exact hlt (hmax (y, q) (List.mem_filter.2 ⟨hy, hover⟩))

/-! ### Rows about a target or a source (R473)

Each is an access to LND's page about a target below 64 or a source below 0x10000. -/

section
variable {c : Prop} [Decidable c] (hc : ¬ c) (i : Instr) (u : State)
include hc

/-- An access with an existing target or source has its effect while no apply holds the page. -/
theorem access_free (hp : s.applying pgLND = false) : (if c then done s else done (s.onPage pgLND i u)) = .next u.shown := by
  rw [if_neg hc, onPage_of_free hp, done]

/-- It waits while an apply holds the page. -/
theorem access_held (hp : s.applying pgLND = true) : (if c then done s else done (s.onPage pgLND i u)) = .next (s.mezWait i).shown := by
  rw [if_neg hc, onPage_of_applying hp, done]

end

section
variable (hp : s.applying pgLND = false)
include hp

theorem exec_sumClaim_host (h : t < 64) : exec (.sumClaim t .host) s =
    .next ((s.claim t).emit (.regData (raddr pgLND (0x800 + 32 * t + 8)) (s.claimWord t))).shown :=
  access_free (Nat.not_le.2 h) _ _ hp

theorem exec_sumClaim_smb (h : t < 64) : exec (.sumClaim t .smb) s =
    .next ((s.claim t).smbAnswer (raddr pgLND (0x800 + 32 * t + 8)) 0 (s.claimWord t)).shown :=
  access_free (Nat.not_le.2 h) _ _ hp

theorem exec_sumComplete (ht : t < 64) (hx : x < 2 ^ 16) : exec (.sumComplete t x) s = .next (s.complete t x).shown := by
  refine (access_free (Nat.not_le.2 ht) _ _ hp).trans ?_
  rw [Nat.mod_eq_of_lt hx]

theorem exec_sumComplete_inFault (ht : t < 64) (hf : s.gb pgLND (sumF t SUM.SUM_STS_FAULT) = true) (x : Nat) :
    exec (.sumComplete t x) s = .next s.shown := by
  refine (access_free (Nat.not_le.2 ht) _ _ hp).trans ?_
  rw [State.complete, if_pos hf]

theorem exec_sumStackReset (h : t < 64) : exec (.sumStackReset t) s = .next (s.stackReset t).shown := access_free (Nat.not_le.2 h) _ _ hp

theorem exec_sourceClrPend (h : x < 0x10000) : exec (.sourceClrPend x) s = .next (s.clrPend x).shown := access_free (Nat.not_le.2 h) _ _ hp

theorem exec_sourceReassign (h : x < 0x10000) : exec (.sourceReassign x) s = .next (s.reassign x).shown := access_free (Nat.not_le.2 h) _ _ hp

end

/-! ### A claim (R441) -/

theorem claim_some (h : s.claimable t = some (x, p)) : s.claim t =
    ((((s.setStack t ((x, p) :: s.stack t)).st .src x T_SRC.STATE srcACTIVE).cnt pgLND LND.CNT_CLAIMS).sumUpdate t true) := by
  rw [State.claim, h]

theorem claimWord_some (h : s.claimable t = some (x, p)) : s.claimWord t = BitVec.ofNat 32 (x + p * 2 ^ 16) := by
  rw [State.claimWord, h]

theorem claim_none (h : s.claimable t = none) : s.claim t = s := by
  rw [State.claim, h]

theorem claimWord_none (h : s.claimable t = none) : s.claimWord t = 0x80000000 := by
  rw [State.claimWord, h]
  rfl

/-- A register command that ends well leaves its status only (R46). -/
theorem smbEnd_ok (s : State) (off : Nat) : s.smbEnd off 0 = s.sf pgDEV DEV.SMB_STS_LAST_STATUS 0 := rfl

theorem smbAddr_sf (s : State) (p : Nat) (f : Fld) (v : Nat) : (s.sf p f v).smbAddr = s.smbAddr := by
  rw [State.smbAddr, State.sf_sys, State.smbAddr]

/-! ### A completion (R442) -/

section
variable {y q : Nat} {rest : List (Nat × Nat)} (hf : s.gb pgLND (sumF t SUM.SUM_STS_FAULT) = false) (hs : s.stack t = (y, q) :: rest)
include hf hs

theorem complete_top : s.complete t y = (((s.setStack t rest).endService y).cnt pgLND LND.CNT_COMPLETES).sumUpdate t true := by
  rw [State.complete, if_neg (ne_true_of_eq_false hf), hs]
  exact if_pos rfl

theorem complete_other (hx : x ≠ y) : s.complete t x = s.completeFault t x y (rest.length + 1) := by
  rw [State.complete, if_neg (ne_true_of_eq_false hf), hs]
  exact if_neg hx

end

/-! ### The explicit writes to a source (R432, R451) -/

theorem clrPend_pending (h : s.tf .src x T_SRC.STATE = srcPENDING) : s.clrPend x = s.st .src x T_SRC.STATE srcIDLE :=
  if_pos (beq_iff_eq.2 h)

/-- Whether a source waits at a target: AT_SUMMARY or HELD. -/
theorem waits_iff {n : Nat} : (n == srcSUMMARY || n == srcHELD) = true ↔ n = srcSUMMARY ∨ n = srcHELD := by
  rw [Bool.or_eq_true, beq_iff_eq, beq_iff_eq]

section
variable (h : s.tf .src x T_SRC.STATE = srcSUMMARY ∨ s.tf .src x T_SRC.STATE = srcHELD)
include h

theorem clrPend_waiting : s.clrPend x = (s.st .src x T_SRC.STATE srcIDLE).leaveTarget x := by
  have hn : ¬ (s.tf .src x T_SRC.STATE == srcPENDING) = true := by
    rcases h with h | h
    all_goals rw [h]; decide
  exact (if_neg hn).trans (if_pos (waits_iff.2 h))

theorem reassign_waiting : s.reassign x = (s.becomePending x).leaveTarget x := if_pos (waits_iff.2 h)

end

section
variable (h : ¬ (s.tf .src x T_SRC.STATE = srcSUMMARY ∨ s.tf .src x T_SRC.STATE = srcHELD))
include h

theorem clrPend_other (hn : s.tf .src x T_SRC.STATE ≠ srcPENDING) : s.clrPend x = s :=
  (if_neg (mt beq_iff_eq.1 hn)).trans (if_neg (mt waits_iff.1 h))

theorem reassign_other : s.reassign x = s := if_neg (mt waits_iff.1 h)

end

/-- Settles O49, by the equations above, row by row. -/
theorem landingStacks : Obligations.LandingStacks := by
  refine ⟨?claim, ?noClaim, ?answer, ?best, ?complete, ?fault, ?inFault, ?reset, ?source, ?beyond, ?applying⟩
  case claim =>
    intro s t x p hp ht hc
    rw [exec_sumClaim_host hp ht, claim_some hc, claimWord_some hc]
  case noClaim =>
    intro s t hp ht hc
    rw [exec_sumClaim_host hp ht, exec_sumClaim_smb hp ht, claim_none hc, claimWord_none hc]
    exact ⟨rfl, rfl⟩
  case answer =>
    intro s off w
    rw [State.smbAnswer, smbEnd_ok, smbAddr_sf]
  case best =>
    intro s t x p y q h
    obtain ⟨hroom, hb⟩ := claimable_some h
    obtain ⟨hmem, hover⟩ := List.mem_filter.1 (bestSource_max hb).1
    obtain ⟨hthresh, htop⟩ := claimsOver_iff.1 hover
    exact ⟨hmem, claimable_max h, hthresh, htop, hroom⟩
  case complete =>
    intro s t y p rest hp ht hf hs hy
    rw [exec_sumComplete hp ht hy, complete_top hf hs]
  case fault =>
    intro s t x y p rest hp ht hf hs hx hxy u
    rw [exec_sumComplete hp ht hx, complete_other hf hs hxy, State.completeFault, State.sumReturn]
  case inFault => exact fun s t x hp ht hf => exec_sumComplete_inFault hp ht hf x
  case reset =>
    intro s t hp ht
    rw [exec_sumStackReset hp ht, State.stackReset]
  case source =>
    intro s x hp hx
    rw [exec_sourceClrPend hp hx, exec_sourceReassign hp hx]
    refine ⟨fun h => ?_, fun h => ?_, fun h => ?_⟩
    · rw [clrPend_pending h, reassign_other (by rw [h]; decide)]
      exact ⟨rfl, rfl⟩
    · rw [clrPend_waiting h, reassign_waiting h]
      exact ⟨rfl, rfl⟩
    · have hw : ¬ (s.tf .src x T_SRC.STATE = srcSUMMARY ∨ s.tf .src x T_SRC.STATE = srcHELD) := by
        rcases h with h | h | h
        all_goals rw [h]; decide
      have hn : s.tf .src x T_SRC.STATE ≠ srcPENDING := by
        rcases h with h | h | h
        all_goals rw [h]; decide
      rw [clrPend_other hw hn, reassign_other hw]
      exact ⟨rfl, rfl⟩
  case beyond => exact fun s t x a h => ⟨if_pos h, if_pos h, if_pos h⟩
  case applying =>
    intro s t x a hp ht hx
    have ht' := Nat.not_le.2 ht
    have hx' := Nat.not_le.2 hx
    exact ⟨access_held ht' _ _ hp, access_held ht' _ _ hp, access_held ht' _ _ hp, access_held hx' _ _ hp, access_held hx' _ _ hp⟩

end Sys2Proof.Machine
end

section
/-!
PROOF. Wakes (R445, R510, R512 to R516, R527, R528): what a report leaves of a wake that waits to be taken up, what each cause does in the power
state it meets, the return to RUN, and O57 from them.
-/

namespace Sys2Proof.Machine

variable {s : State}

/-! ### A report and the wake that waits (R510) -/

/-- The request in progress is the same, and a wake that waits to be taken up still waits. -/
structure KeepsWake (s t : State) : Prop where
  cur : t.oas.cur = s.oas.cur
  waking : s.oas.waking = true → t.oas.waking = true

theorem KeepsWake.trans {t u : State} (h : KeepsWake s t) (k : KeepsWake t u) : KeepsWake s u :=
  ⟨k.cur.trans h.cur, fun hw => k.waking (h.waking hw)⟩

theorem keepsWake_of_oas {t : State} (h : t.oas = s.oas) : KeepsWake s t := ⟨by rw [h], fun hw => by rw [h, hw]⟩
theorem keepsWake_refl (s : State) : KeepsWake s s := keepsWake_of_oas rfl
theorem keepsWake_st (s : State) (t : Tbl) (i : Nat) (f : TFld) (v : Nat) : KeepsWake s (s.st t i f v) := keepsWake_of_oas (s.st_oas t i f v)
theorem keepsWake_sf (s : State) (p : Nat) (f : Fld) (v : Nat) : KeepsWake s (s.sf p f v) := keepsWake_of_oas (s.sf_oas p f v)
theorem keepsWake_setReg (s : State) (a : Nat) (v : Word) : KeepsWake s (s.setReg a v) := keepsWake_of_oas (s.setReg_oas a v)
theorem keepsWake_cnt (s : State) (p off n : Nat) : KeepsWake s (s.cnt p off n) := keepsWake_of_oas (s.cnt_oas p off n)

theorem keepsWake_ite {a b : State} {c : Prop} [Decidable c] (h : KeepsWake s a) (k : KeepsWake s b) : KeepsWake s (if c then a else b) := by
  by_cases hc : c
  · rwa [if_pos hc]
  · rwa [if_neg hc]

theorem keepsWake_waking (s : State) : KeepsWake s { s with oas := { s.oas with waking := true } } := ⟨rfl, fun _ => rfl⟩
theorem keepsWake_latched (s : State) (l : List Nat) : KeepsWake s { s with oas := { s.oas with latched := l, waking := true } } :=
  ⟨rfl, fun _ => rfl⟩

theorem keepsWake_becomePending (s : State) (x : Nat) : KeepsWake s (s.becomePending x) := by
  unfold State.becomePending
  exact keepsWake_ite ((keepsWake_st s _ _ _ _).trans (keepsWake_cnt _ _ _ _)) (keepsWake_st s _ _ _ _)

theorem keepsWake_wakeHint (s : State) (f : Fld) : KeepsWake s (s.wakeHint f) := by
  unfold State.wakeHint
  exact keepsWake_ite ((keepsWake_waking s).trans (keepsWake_sf _ _ _ _)) (keepsWake_refl s)

theorem keepsWake_wakeBySource (s : State) (x : Nat) : KeepsWake s (s.wakeBySource x) := by
  unfold State.wakeBySource
  extract_lets t l
  exact keepsWake_ite (keepsWake_ite ((keepsWake_waking s).trans (keepsWake_sf _ _ _ _)) (keepsWake_refl s))
    (keepsWake_ite (keepsWake_wakeHint s _) (keepsWake_refl s))

theorem keepsWake_oasLatch (s : State) (slot x : Nat) : KeepsWake s (s.oasLatch slot x) := by
  unfold State.oasLatch
  refine keepsWake_ite (keepsWake_refl s) ?_
  extract_lets t o u a
  have h : KeepsWake s t := keepsWake_ite ((keepsWake_sf s _ _ _).trans (keepsWake_sf _ _ _ _)) (keepsWake_refl s)
  exact ((h.trans (keepsWake_latched t _)).trans (keepsWake_setReg u _ _)).trans (keepsWake_sf _ _ _ _)

theorem keepsWake_oasWatch (s : State) (x : Nat) : KeepsWake s (s.oasWatch x) := by
  unfold State.oasWatch
  split
  · exact keepsWake_ite (keepsWake_oasLatch s _ _) (keepsWake_refl s)
  · exact keepsWake_refl s

theorem keepsWake_fire (s : State) (x : Nat) : KeepsWake s (s.fire x) := by
  unfold State.fire
  refine keepsWake_ite (keepsWake_oasWatch s x) (keepsWake_ite ?_ (keepsWake_refl s))
  extract_lets st t
  have h : KeepsWake s t := keepsWake_ite (keepsWake_becomePending s x) (keepsWake_ite (keepsWake_st s _ _ _ _) (keepsWake_refl s))
  exact h.trans (keepsWake_wakeBySource t x)

theorem keepsWake_setLevel (s : State) (x : Nat) (l : Bool) : KeepsWake s (s.setLevel x l) := by
  unfold State.setLevel
  exact keepsWake_ite ((keepsWake_st s _ _ _ _).trans (keepsWake_fire _ _)) (keepsWake_st s _ _ _ _)

theorem keepsWake_event (s : State) (p b : Nat) : KeepsWake s (s.event p b) := by
  rw [event_eq]
  exact (keepsWake_setReg s _ _).trans (keepsWake_setLevel _ _ _)

/-! ### WAKE_FLAG.ANY (R530) -/

theorem keepsWake_wakeAny (s : State) : KeepsWake s s.wakeAny := by
  unfold State.wakeAny
  exact keepsWake_ite ((keepsWake_sf s _ _ _).trans (keepsWake_event _ _ _)) (keepsWake_sf s _ _ _)

theorem sameBut_wakeAny (s : State) : SameBut s s.wakeAny := by
  unfold State.wakeAny
  exact sameBut_ite ((sameBut_sf s _ _ _).trans (sameBut_event _ _ _)) (sameBut_sf s _ _ _)

theorem regsBut_wakeAny (s : State) : RegsBut (raddr pgOAS 0x10 :: fireRegs) s s.wakeAny := by
  unfold State.wakeAny
  exact regsBut_ite ((regsBut_sf s _ (by decide)).trans (regsBut_event _ _ _)) (regsBut_sf s _ (by decide))

theorem pwr_wakeAny (s : State) : s.wakeAny.pwr = s.pwr := (regsBut_wakeAny s).gf (by decide)

/-! ### A cause is latched (R512, R514) -/

section
variable {f : Fld} {u : State} (hu : ({ s.sf pgOAS f 1 with oas := { (s.sf pgOAS f 1).oas with waking := true } } : State) = u)
include hu

theorem wakeBy_deepSleep (h : u.pwr = 3) : s.wakeBy f = u.wakeAny.wakeLow.bootWake := by
  simp only [State.wakeBy, hu, h, beq_self_eq_true, if_true]

theorem wakeBy_off (h : u.pwr = 4) : s.wakeBy f = u.wakeAny.wakeLow := by
  have h3 : (4 == 3) = false := rfl
  simp only [State.wakeBy, hu, h, h3, beq_self_eq_true, if_true, Bool.false_eq_true, if_false]

theorem wakeBy_above (h : u.pwr < 3) : s.wakeBy f = u.oasPump := by
  simp only [State.wakeBy, hu, beq_false_of_ne (Nat.ne_of_lt h), beq_false_of_ne (show u.pwr ≠ 4 by omega), Bool.false_eq_true, if_false]

end

/-! ### A wake is taken up (R510, R514) -/

theorem oasPump_eq (hw : s.oas.waking = true) (hc : s.oas.cur = none) {t : State} (ht : s.wakeAny = t) :
    s.oasPump = if t.pwr == 0 then { t with oas := { t.oas with waking := false } }.settle
      else if t.pwr == 1 then
        if t.avs.asked then t else { t with avs := { t.avs with asked := true } }.avsWrite (t.gf pgCIS CIS.AVS_STS_VRUN_MV)
      else if t.pwr == 2 then
        if t.cfgRaw 0 .pmeEnable == 1 then { t with oas := { t.oas with waking := false } }.emit (.pme 0)
        else { t with oas := { t.oas with waking := false } }
      else t := by
  have hk := keepsWake_wakeAny s
  rw [ht] at hk
  have hw' : t.oas.waking = true := hk.waking hw
  have hc' : t.oas.cur = none := hk.cur.trans hc
  unfold State.oasPump
  simp only [ht, hw', hc', Bool.not_true, Bool.false_eq_true, if_false]
  rfl

/-! ### The return to RUN from STANDBY (R516, R517) -/

theorem standbyReturn_eq (hc : s.oas.cur = none) (hw : s.oas.waking = true) (hs : s.pwr = 1) (ha : s.avs.asked = true) :
    s.standbyReturn = if s.avs.target.isNone then s.wakeAny.runAgain else s.wakeAny := by
  have hp : s.wakeAny.pwr = 1 := (pwr_wakeAny s).trans hs
  have hv : s.wakeAny.avs = s.avs := (sameBut_wakeAny s).avs
  have hw' : s.wakeAny.oas.waking = true := (keepsWake_wakeAny s).waking hw
  have hpump : s.oasPump = s.wakeAny := by
    rw [oasPump_eq hw hc rfl, hp, hv, ha]
    rfl
  simp only [State.standbyReturn, hpump, hp, hw', hv, beq_self_eq_true, Bool.and_self, Bool.true_and]

/-- RUN is entered again: the sleep is measured and counted. -/
def State.runEntered (s : State) : State :=
  let t : State := { s with
    oas := { s.oas with waking := false, base := 0 }
    sys := { s.sys with coreOn := true, coreSlow := s.gb pgCIS CIS.AVS_STS_FAILED } }
  ((t.sf pgOAS OAS.PWR_STS_STATE 0).setReg (raddr pgOAS 0x60)
    (BitVec.ofNat 32 (min 0xFFFFFFFF ((s.clock - s.oas.entered) * 32768 / 1000000000)))).cnt pgOAS OAS.CNT_WAKES

/-- With no port and no channel to wake, the return to RUN releases the blocks and ends the request. -/
theorem runAgain_eq (hp : s.oas.portWake = []) (he : s.oas.ergWas = []) : s.runAgain = (s.runEntered.seqUndo.endAll 0).heldGo.settle := by
  simp only [State.runAgain, State.runEntered, hp, he, List.filter_nil, State.each, List.foldl_nil]

/-- With nothing stopped and no channel put to rest, there is nothing to undo. -/
theorem seqUndo_nothing (hs : s.oas.stopped = []) (he : s.oas.ergWas = []) : s.seqUndo = { s with oas := { s.oas with stopAt := 0 } } := by
  simp only [State.seqUndo, hs, he, List.take_nil, List.drop_nil, State.each, List.foldl_nil, ite_self]

theorem endAll_none (hc : s.oas.cur = none) (code : Nat) : s.endAll code = s := by
  rw [State.endAll, hc]

theorem heldGo_none (hh : s.oas.held = none) : s.heldGo = s := by
  rw [State.heldGo, hh]

/-- With nothing to wake, release, end or take up, RUN is entered and nothing follows. -/
theorem runAgain_alone (hc : s.oas.cur = none) (hh : s.oas.held = none) (hp : s.oas.portWake = []) (he : s.oas.ergWas = [])
    (hs : s.oas.stopped = []) : s.runAgain = ({ s.runEntered with oas := { s.runEntered.oas with stopAt := 0 } } : State).settle := by
  have ho : s.runEntered.oas = { s.oas with waking := false, base := 0 } := by
    rw [State.runEntered, State.cnt_oas, State.setReg_oas, State.sf_oas]
  rw [runAgain_eq hp he, seqUndo_nothing (by rw [ho]; exact hs) (by rw [ho]; exact he), endAll_none (by rw [ho]; exact hc),
    heldGo_none (by rw [ho]; exact hh)]

/-! ### The causes (R445, R512, R527) -/

theorem below_iff : s.below = true ↔ 1 ≤ s.pwr ∧ (s.sys.hkOn = true ∨ 3 ≤ s.pwr) := by
  rw [State.below, Bool.and_eq_true, Bool.or_eq_true, decide_eq_true_eq, decide_eq_true_eq]

theorem exec_wakeInLow (s : State) : exec .wakeInLow s =
    .next (if s.below && bitAt s.oas.modes 2 then s.wakeBy OAS.WAKE_FLAG_WAKE_IN else s).shown := rfl

theorem exec_wakeTimer (s : State) : exec .wakeTimer s =
    .next (if s.below && bitAt s.oas.modes 1 && s.due (s.oas.entered + ceilDiv (s.gf1 pgOAS OAS.WAKE_TIMER_TICKS * 1000000000) 32768) then
      s.wakeBy OAS.WAKE_FLAG_TIMER else s).shown := rfl

theorem exec_oasisListWake_listed {slot x : Nat} (h : s.oas.wakeList.find? (fun e => e.1 == slot) = some (slot, x)) :
    exec (.oasisListWake slot) s = .next (if s.below && 2 ≤ s.pwr && srcAlive s.pwr x then
      (s.oasLatch slot x).wakeBy OAS.WAKE_FLAG_LIST else s).shown := by
  show execOasisListWake slot s = _
  rw [execOasisListWake, h]
  rfl

theorem exec_oasisListWake_unlisted {slot : Nat} (h : s.oas.wakeList.find? (fun e => e.1 == slot) = none) :
    exec (.oasisListWake slot) s = .next s.shown := by
  show execOasisListWake slot s = _
  rw [execOasisListWake, h]
  rfl

/-- The Oasis watches its list in SLEEP and lower. -/
theorem watches_iff : (s.below && decide (2 ≤ s.pwr)) = true ↔ (s.pwr = 2 ∧ s.sys.hkOn = true) ∨ 3 ≤ s.pwr := by
  rw [Bool.and_eq_true, below_iff, decide_eq_true_eq]
  cases s.sys.hkOn with
  | false =>
    simp only [Bool.false_eq_true, false_or, and_false]
    omega
  | true =>
    simp only [true_or, and_true]
    omega

theorem exec_thermalCoolWake (s : State) (t : Nat) : exec (.thermalCoolWake t) s =
    .next (if s.pwr == 3 && s.oas.tripTemp.isSome && t + 20 < s.oas.tripAt then s.wakeBy OAS.WAKE_FLAG_THERMAL else s).shown := rfl

theorem exec_standbyReturn (s : State) : exec .standbyReturn s = .next s.standbyReturn.shown := rfl

/-! ### WAKE_FLAG_CLEAR and XO32_STOPPED (R514, R528) -/

theorem exec_wakeFlagClear (s : State) (v : Word) : exec (.wakeFlagClear v) s = .next (s.wakeClear v).shown := rfl

section
variable {v : Word} {t : State} (ht : (s.setReg (raddr pgOAS 0x4C) (s.reg (raddr pgOAS 0x4C) &&& ~~~(v &&& 0x3F))).wakeAny = t)
include ht

theorem wakeClear_kept (h : t.gb pgOAS OAS.WAKE_FLAG_ANY = true ∨ t.oas.wakeLow = false) : s.wakeClear v = t := by
  rw [State.wakeClear, ht]
  refine if_pos ?_
  rcases h with h | h
  · rw [h, Bool.true_or]
  · rw [h, Bool.not_false, Bool.or_true]

theorem wakeClear_released (ha : t.gb pgOAS OAS.WAKE_FLAG_ANY = false) (hl : t.oas.wakeLow = true) :
    s.wakeClear v = ({ t with oas := { t.oas with wakeLow := false } } : State).emit (.pin "WAKE_N" true) := by
  rw [State.wakeClear, ht]
  exact if_neg (by rw [ha, hl]; decide)

end

theorem exec_xo32Stopped (s : State) : exec .xo32Stopped s = .next s.xo32Stop.shown := rfl

/-- Settles O57, by the equations above, row by row. -/
theorem wakes : Obligations.Wakes := by
  refine ⟨?pinAndTimer, ?listed, ?unlisted, ?cool, ?noTrip, ?cause, ?taken, ?standby, ?toRun, ?clear, ?crystal⟩
  case pinAndTimer =>
    intro s st below
    rw [exec_wakeInLow, exec_wakeTimer]
    refine ⟨fun ⟨hb, hm⟩ => ?_, fun h => ?_, fun ⟨hb, hm, hd⟩ => ?_, fun h => ?_⟩
    · rw [below_iff.2 hb, hm, Bool.and_self, if_pos rfl]
    · rw [if_neg]
      rw [Bool.and_eq_true, below_iff]
      rintro ⟨hb, hm⟩
      exact h.elim (· hb) (ne_true_of_eq_false · hm)
    · rw [below_iff.2 hb, hm, hd, Bool.and_self, Bool.and_self, if_pos rfl]
    · rw [if_neg]
      rw [Bool.and_eq_true, Bool.and_eq_true, below_iff]
      rintro ⟨⟨hb, hm⟩, hd⟩
      exact h.elim (· hb) (·.elim (ne_true_of_eq_false · hm) (ne_true_of_eq_false · hd))
  case listed =>
    intro s slot x h st watches
    rw [exec_oasisListWake_listed h]
    refine ⟨fun ⟨hw, ha⟩ => ?_, fun hn => ?_⟩
    · rw [watches_iff.2 hw, show srcAlive s.pwr x = true from ha, Bool.and_self, if_pos rfl]
    · rw [if_neg]
      rw [Bool.and_eq_true, watches_iff]
      rintro ⟨hw, ha⟩
      exact hn.elim (· hw) (ne_true_of_eq_false · ha)
  case unlisted => exact fun s slot h => exec_oasisListWake_unlisted h
  case cool =>
    intro s t trip h
    rw [exec_thermalCoolWake, h, Option.isSome_some, Bool.and_true]
    refine ⟨fun ⟨hp, hc⟩ => ?_, fun hn => ?_⟩
    · rw [beq_iff_eq.2 (show s.pwr = 3 from hp), decide_eq_true hc, Bool.and_self, if_pos rfl]
    · rw [if_neg]
      rw [Bool.and_eq_true, beq_iff_eq, decide_eq_true_eq]
      rintro ⟨hp, hc⟩
      exact hn.elim (· hp) (Nat.not_le.2 hc)
  case noTrip =>
    intro s t h
    rw [exec_thermalCoolWake, h, Option.isSome_none, Bool.and_false, Bool.false_and, if_neg Bool.false_ne_true]
  case cause =>
    intro s f u
    exact ⟨wakeBy_deepSleep rfl, wakeBy_off rfl, wakeBy_above rfl⟩
  case taken =>
    intro s hw hc t u v
    rw [oasPump_eq hw hc (rfl : s.wakeAny = t)]
    refine ⟨fun ⟨hp, ha⟩ => ?_, fun ⟨hp, hpme⟩ => ?_, fun ⟨hp, hpme⟩ => ?_⟩
    · rw [show t.pwr = 1 from hp, ha]
      rfl
    · rw [show t.pwr = 2 from hp, hpme]
      rfl
    · rw [show t.pwr = 2 from hp, beq_false_of_ne hpme]
      rfl
  case standby =>
    intro s hc hw hp ha
    rw [exec_standbyReturn, standbyReturn_eq hc hw hp ha]
    refine ⟨fun ht => ?_, fun ht => ?_⟩
    · rw [ht, Option.isNone_none, if_pos rfl]
    · rw [if_neg (mt Option.isNone_iff_eq_none.1 ht)]
  case toRun =>
    intro s hc hh hp he hs
    exact runAgain_alone hc hh hp he hs
  case clear =>
    intro s v t
    rw [exec_wakeFlagClear]
    exact ⟨fun h => by rw [wakeClear_kept rfl h], fun ⟨ha, hl⟩ => by rw [wakeClear_released rfl ha hl]⟩
  case crystal =>
    intro s
    rw [exec_xo32Stopped]
    exact ⟨fun h => by rw [State.xo32Stop, if_neg (ne_true_of_eq_false h)], fun h => by rw [State.xo32Stop, if_pos h]⟩

end Sys2Proof.Machine
end

section
/-!
PROOF. What one step of the block does with the command at the front of its queue, the counters (R572, R85) and the boundary-scan
port (R585, R604), and O1, O3, O10 and O20 from them.
-/

namespace Sys2Proof.Machine

variable {s : State}

/-- Settles O1: a step takes the command at the front of the queue. -/
theorem stepRunsFrontCommand : Obligations.StepRunsFrontCommand := fun _ _ _ => rfl

/-- Settles O3: each row of the table ends by showing the state it leaves. -/
theorem everyCommandAnswers : Obligations.EveryCommandAnswers := fun c s =>
  (exec_ends_shown c s).elim fun u hu => ⟨u.shown, hu⟩

/-! ### Counters -/

/-- The first n registers of a page from an offset up, set to 0. -/
def State.clearFirst (s : State) (p lo n : Nat) : State :=
  (List.range n).foldl (fun t i => t.setReg (raddr p (lo + 4 * i)) 0) s

theorem clearRange_eq (p lo hi : Nat) : s.clearRange p lo hi = s.clearFirst p lo ((hi - lo) / 4 + 1) := rfl

theorem clearFirst_succ (p lo n : Nat) : s.clearFirst p lo (n + 1) = (s.clearFirst p lo n).setReg (raddr p (lo + 4 * n)) 0 := by
  rw [State.clearFirst, List.range_succ, List.foldl_append]
  rfl

theorem reg_clearFirst_of_lt (p lo : Nat) {n i : Nat} (h : i < n) : (s.clearFirst p lo n).reg (raddr p (lo + 4 * i)) = 0 := by
  induction n with
  | zero => exact absurd h (Nat.not_lt_zero _)
  | succ n ih =>
    rw [clearFirst_succ]
    rcases Nat.lt_succ_iff_lt_or_eq.1 h with hlt | rfl
    · rw [reg_setReg_of_off _ _ _ (by omega), ih hlt]
    · exact State.reg_setReg_self _ _ _

theorem reg_clearFirst_of_outside (p lo : Nat) {n a : Nat} (h : ∀ i < n, a ≠ raddr p (lo + 4 * i)) :
    (s.clearFirst p lo n).reg a = s.reg a := by
  induction n with
  | zero => rfl
  | succ n ih => rw [clearFirst_succ, State.reg_setReg_of_ne _ _ (h n n.lt_succ_self), ih fun i hi => h i (Nat.lt_succ_of_lt hi)]

theorem clearFirst_eq_regs (p lo n : Nat) : s.clearFirst p lo n = { s with regs := (s.clearFirst p lo n).regs } := by
  induction n with
  | zero => rfl
  | succ n ih =>
    rw [clearFirst_succ, ih]
    rfl

/-- Settles O10: the counter's register alone is written, and the registers of a range one after the other. -/
theorem countersSaturate : Obligations.CountersSaturate := by
  refine ⟨fun s p off n => ?counter, fun s p lo hi hle => ⟨fun off hmod hlo hhi => ?zero, fun a ha => ?others, clearFirst_eq_regs ..⟩⟩
  case counter =>
    have hval := s.reg_cnt_self p off n
    have hold := (s.reg (raddr p off)).isLt
    exact ⟨hval, by omega, fun a ha => s.reg_cnt_of_ne n ha, rfl⟩
  case zero =>
    have hoff : off = lo + 4 * ((off - lo) / 4) := by omega
    rw [clearRange_eq, hoff]
    exact reg_clearFirst_of_lt p lo (by omega)
  case others =>
    rw [clearRange_eq]
    refine reg_clearFirst_of_outside p lo fun i hi => ?_
    simp only [raddr] at ha ⊢
    omega

/-! ### The boundary-scan port -/

theorem tapClock_eq (tms tdi : Bool) : s.tapClock tms tdi =
    { s with tap := (s.tapClock tms tdi).tap, free := (s.tapClock tms tdi).free, out := (s.tapClock tms tdi).out } := by
  simp only [State.tapClock]
  split <;> split <;> rfl

theorem tapClock_st (tms tdi : Bool) : (s.tapClock tms tdi).tap.st = tapNext s.tap.st tms := by
  simp only [State.tapClock]
  split <;> rfl

/-- In Shift-DR with TMS 0 the data register alone shifts. -/
theorem tapClock_shiftDr (tdi : Bool) (h : s.tap.st = 4) : s.tapClock false tdi =
    { s with tap := { s.tap with shift := s.tap.shift.drop 1 ++ [tdi] } }.emit (.tdo ((s.tap.shift.drop 1 ++ [tdi]).headD false)) := by
  simp only [State.tapClock, h]
  rfl

/-- Each state of the controller is at most five cycles with TMS 1 from Test-Logic-Reset, which keeps itself. -/
theorem tapNext_five_true (st : Nat) : tapNext (tapNext (tapNext (tapNext (tapNext st true) true) true) true) true = 0 := by
  by_cases h : st < 15
  · interval_cases st <;> rfl
  · obtain ⟨n, rfl⟩ := Nat.exists_eq_add_of_le' (Nat.not_lt.1 h)
    rfl

/-- Settles O20: the controller's table, and what one cycle of TCK leaves. -/
theorem boundaryScanPort : Obligations.BoundaryScanPort :=
  ⟨fun _ _ _ => rfl, fun _ tms tdi => ⟨rfl, tapClock_st tms tdi, tapClock_eq tms tdi⟩,
    fun _ tdi h => by rw [← tapClock_shiftDr tdi h]; rfl, tapNext_five_true⟩

end Sys2Proof.Machine
end

section
/-!
PROOF. STOP_TIMEOUT with no request in progress (R508, R512, R519): O56 fails there, because the rise of WAKE_FLAG.ANY may itself be
the wake that the Oasis then takes up.
-/

namespace Sys2Proof.Machine

/-- STANDBY with a latched cause whose rise of WAKE_FLAG.ANY is still to come, where the Oasis page's own event, enabled at Landing,
is a wake cause (R512): no wake is being taken up, and no request is in progress. -/
def standbyBeforeWake : State :=
  ((((State.reset.sf pgOAS OAS.PWR_STS_STATE 1).sf pgOAS OAS.WAKE_FLAG_TIMER 1).setReg (raddr pgOAS 0x14) 1).sf
    pgLND HDR.PAGE_STS_ACTIVE 1).st .src pgOAS T_SRC.EN 1

theorem standbyBeforeWake_waking : standbyBeforeWake.oas.waking = false := by decide +kernel

theorem standbyBeforeWake_cur : standbyBeforeWake.oas.cur = none := by decide +kernel

/-- WAKE_FLAG.ANY rises, its event fires the Oasis page's source, and the wake of STANDBY asks for the voltage of RUN (R519). -/
theorem standbyBeforeWake_asks : (standbyBeforeWake.oasPump.seqTimeout 0).avs.asked = true := by decide +kernel

/-- What only raises WAKE_FLAG.ANY asks for no voltage. -/
theorem standbyBeforeWake_wakeAny : standbyBeforeWake.wakeAny.avs.asked = false := by
  rw [(sameBut_wakeAny _).avs]
  decide +kernel

/-- Refutes O56: STOP_TIMEOUT with no request in progress and no wake being taken up may do more than raise WAKE_FLAG.ANY. In STANDBY
the event WAKE of that rise can fire a source that is a wake cause, which is then taken up: the voltage of RUN is asked for. -/
theorem not_powerRequests : ¬ Obligations.PowerRequests := by
  rintro ⟨-, -, -, -, -, -, -, -, -, -, -, -, hidle, -⟩
  have hexec := (hidle standbyBeforeWake 0 standbyBeforeWake_waking standbyBeforeWake_cur).1
  have hshown : (standbyBeforeWake.oasPump.seqTimeout 0).shown = standbyBeforeWake.wakeAny.shown := Host.Outcome.next.inj hexec
  have hasked := congrArg (fun t => t.avs.asked) hshown
  simp only [shown_avs, standbyBeforeWake_asks, standbyBeforeWake_wakeAny, Bool.true_eq_false] at hasked

end Sys2Proof.Machine
end

section
/-!
PROOF. The channels of the Erg from their enable to their failure (R489 to R495, R500), and O54 from them. A filtered map keeps the
entries that its filter keeps, and so does a memory of which a range is cleared.
-/

namespace Sys2Proof.Machine

/-! ### Maps and memories of which entries are dropped -/

namespace SMap

variable {α : Type} {q : Nat → Bool} {k : Nat}

/-- A key that the filter drops reads as its default. -/
theorem get_filter (d : Nat → α) (m : List (Nat × α)) : get d (m.filter (fun e => q e.1)) k = if q k then get d m k else d k := by
  induction m with
  | nil => simp only [List.filter_nil, get, ite_self]
  | cons e t ih =>
    obtain ⟨j, v⟩ := e
    by_cases hq : q j = true
    · simp only [List.filter_cons, hq, if_true, get, ih]
      by_cases hj : k = j
      · rw [if_pos hj, if_pos hj, hj, if_pos hq]
      · rw [if_neg hj, if_neg hj]
    · simp only [List.filter_cons, hq, Bool.false_eq_true, if_false, ih, get]
      by_cases hj : k = j
      · rw [hj, if_neg hq, if_neg hq]
      · rw [if_neg hj]

theorem get_filter_of_kept (d : Nat → α) (m : List (Nat × α)) (h : q k = true) :
    get d (m.filter (fun e => q e.1)) k = get d m k := (get_filter d m).trans (if_pos h)

theorem get_filter_of_dropped (d : Nat → α) (m : List (Nat × α)) (h : q k = false) : get d (m.filter (fun e => q e.1)) k = d k :=
  (get_filter d m).trans (if_neg (ne_true_of_eq_false h))

end SMap

namespace Memory

theorem read_clear_within (m : List Host.Cell) {a n x : Nat} (h : a ≤ x) (hx : x < a + n) : read (clear m a n) x = 0 :=
  SMap.get_filter_of_dropped (q := fun j => decide (j < a) || decide (a + n ≤ j)) empty m (by simp; omega)

theorem read_clear_outside (m : List Host.Cell) {a n x : Nat} (h : x < a ∨ a + n ≤ x) : read (clear m a n) x = read m x :=
  SMap.get_filter_of_kept (q := fun j => decide (j < a) || decide (a + n ≤ j)) empty m (by simpa using h)

end Memory

variable {s : State} {c : Nat}

/-! ### The commands of one of the four channels -/

theorem next_shown {t u : State} (h : t = u) : (.next t.shown : Host.Outcome State Fault Refusal) = .next u.shown := h ▸ rfl

section
variable (hc : c < 4)
include hc

theorem exec_ergTrainingDone (r : ErgTraining) : exec (.ergTrainingDone c r) s = .next (s.ergTrained c r).shown :=
  next_shown (congrArg (s.ergTrained · r) (Nat.mod_eq_of_lt hc))

theorem exec_ergFillDone : exec (.ergFillDone c) s = .next (s.ergFilled c).shown := next_shown (congrArg s.ergFilled (Nat.mod_eq_of_lt hc))

theorem exec_ergScrubPass (n : Nat) (u : List (Nat × Nat)) : exec (.ergScrubPass c n u) s = .next (s.ergScrub c n u).shown :=
  next_shown (congrArg (s.ergScrub · n u) (Nat.mod_eq_of_lt hc))

theorem exec_ergSparingStart (d n : Nat) (u : Bool) : exec (.ergSparingStart c d n u) s = .next (s.ergSpare c d n u).shown :=
  next_shown (congrArg (s.ergSpare · d n u) (Nat.mod_eq_of_lt hc))

theorem exec_ergSparingDone : exec (.ergSparingDone c) s = .next (s.ergSpared c).shown :=
  next_shown (congrArg s.ergSpared (Nat.mod_eq_of_lt hc))

theorem exec_ergChannelFail (e : ErgFailCause) : exec (.ergChannelFail c e) s = .next (s.ergFail c e).settle.shown :=
  next_shown (congrArg (fun n => (s.ergFail n e).settle) (Nat.mod_eq_of_lt hc))

end

/-! ### The global page and training (R489, R490) -/

theorem ergPll_locked (hp : s.gb pgERG HDR.PAGE_STS_EN_PENDING = true) (he : s.gb pgERG HDR.PAGE_CTL_EN = true)
    (ha : s.active pgERG = false) :
    s.ergPll = ((s.sf pgERG HDR.PAGE_STS_EN_PENDING 0).sf pgERG HDR.PAGE_STS_ACTIVE 1).ergShow := by
  simp only [State.ergPll, hp, he, ha, Bool.not_false, Bool.and_self, if_true]

theorem ergPll_idle (hp : s.gb pgERG HDR.PAGE_STS_EN_PENDING = false) : s.ergPll = s := by
  simp only [State.ergPll, hp, Bool.false_and, Bool.false_eq_true, if_false]

/-- When the RESET_n and CKE times of a channel's initialisation are over. -/
def State.ergTrainAt (s : State) (c : Nat) : Nat :=
  SMap.get (fun _ => 0) s.erg.since c + us (if s.erg.retained.contains c then 200 else 700)

theorem ergTrained_not_init (r : ErgTraining) (h : s.ergSt c ≠ erINIT) : s.ergTrained c r = s := by
  simp only [State.ergTrained, bne_iff_ne.2 h, Bool.true_or, if_true]

theorem ergTrained_early (r : ErgTraining) (h : s.due (s.ergTrainAt c) = false) : s.ergTrained c r = s := by
  rw [State.ergTrainAt] at h
  simp only [State.ergTrained, h, Bool.not_false, Bool.or_true, if_true]

section
variable (hi : s.ergSt c = erINIT) (hd : s.due (s.ergTrainAt c) = true)
include hi hd

theorem ergTrained_ok :
    s.ergTrained c .ok = if s.erg.retained.contains c then s.ergReady c true else ((s.ergLose c).setErgSt c erFILL).ergShow := by
  rw [State.ergTrainAt] at hd
  simp only [State.ergTrained, hi, hd, bne_self_eq_false, Bool.not_true, Bool.or_self, Bool.false_eq_true, if_false]

theorem ergTrained_failed (step lane : Nat) : s.ergTrained c (.failed step lane) =
    ((((((s.ergLose c).setErgSt c erFAILED).sf (pgERGC c) HDR.PAGE_CTL_EN 0).sf (pgERGC c) HDR.PAGE_STS_EN_PENDING 0).giveBackAll
      (pgERGC c)).error (pgERGC c) 5 0x04 (step % 16) (lane % 256) 0).ergShow := by
  rw [State.ergTrainAt] at hd
  simp only [State.ergTrained, hi, hd, bne_self_eq_false, Bool.not_true, Bool.or_self, Bool.false_eq_true, if_false]

end

/-! ### A channel becomes ACTIVE (R490, R570) -/

/-- A channel shown as ACTIVE, before its event. -/
def State.ergReadied (s : State) (c : Nat) (k : Bool) : State :=
  ((((s.setErgSt c erACTIVE).sf (pgERGC c) HDR.PAGE_STS_EN_PENDING 0).sf (pgERGC c) HDR.PAGE_STS_ACTIVE 1).sf (pgERGC c)
    ERGC.CH_STS_RETAINED (b2n k))

theorem ergReady_erg (k : Bool) : (s.ergReady c k).erg = { s.erg with retained := s.erg.retained.filter (· != c) } := by
  simp only [State.ergReady, State.event_erg, State.ergShow, State.sf_erg, State.setErgSt]
  split <;> simp only [State.sf_erg]

/-- Of the fields of a channel's page the end of its enable sets those that show it as ACTIVE, and its event the bit of EVT_RAW. -/
theorem gf_ergReady (hc : c < 4) (k : Bool) {f : Fld} (hf : f.off < 4096) (hr : f.off ≠ 0x10) :
    (s.ergReady c k).gf (pgERGC c) f = (s.ergReadied c k).gf (pgERGC c) f := by
  have hne : ∀ {p : Nat} {g : Fld}, p < 0x41 → g.off < 4096 → raddr (pgERGC c) f.off ≠ raddr p g.off := fun hp hg =>
    raddr_ne (by unfold pgERGC; omega) hf hg
  have hshow : ∀ t : State, (t.ergShow).gf (pgERGC c) f = t.gf (pgERGC c) f := fun t => by
    rw [State.ergShow, State.gf_sf_of_ne _ _ (hne (by decide) (by decide)), State.gf_sf_of_ne _ _ (hne (by decide) (by decide))]
  rw [State.ergReady, State.gf, reg_event_header _ (by unfold pgERGC pgOAS; omega) (by unfold pgERGC pgLND; omega) hf hr]
  change (State.ergShow _).gf _ _ = _
  rw [hshow]
  split
  · rw [State.gf_sf_of_ne _ _ (raddr_ne (by unfold pgERGC pgFLT; omega) hf (by decide))]
    rfl
  · rfl

theorem gb_ergReady (hc : c < 4) (k : Bool) {f : Fld} (hf : f.off < 4096) (hr : f.off ≠ 0x10) :
    (s.ergReady c k).gb (pgERGC c) f = (s.ergReadied c k).gb (pgERGC c) f := congrArg (· == 1) (gf_ergReady hc k hf hr)

theorem ergReadied_shows (k : Bool) : (s.ergReadied c k).ergSt c = erACTIVE ∧ (s.ergReadied c k).active (pgERGC c) = true
    ∧ (s.ergReadied c k).gb (pgERGC c) HDR.PAGE_STS_EN_PENDING = false
    ∧ (s.ergReadied c k).gb (pgERGC c) ERGC.CH_STS_RETAINED = k := by
  refine ⟨?state, ?active, ?pending, ?retained⟩
  case state =>
    simp (disch := decide) only [State.ergSt, State.ergReadied, State.setErgSt, State.gf_sf_of_disjoint, State.gf_sf_self]
    rfl
  case active =>
    simp (disch := decide) only [State.active, State.gb, State.ergReadied, State.setErgSt, State.gf_sf_of_disjoint, State.gf_sf_self]
    rfl
  case pending =>
    simp (disch := decide) only [State.gb, State.ergReadied, State.setErgSt, State.gf_sf_of_disjoint, State.gf_sf_self]
    rfl
  case retained =>
    simp (disch := decide) only [State.gb, State.ergReadied, State.gf_sf_self]
    cases k <;> rfl

/-! ### Scrub, sparing and failure (R493 to R495) -/

theorem ergScrub_on (n : Nat) (u : List (Nat × Nat)) (he : s.gb pgERG ERG.SCRUB_CTL_EN = true) (ha : s.ergSt c = erACTIVE) :
    s.ergScrub c n u = ((s.cnt (pgERGC c) ERGC.CNT_SCRUB_FIXES n).cnt (pgERGC c) ERGC.CNT_SCRUB_PASSES).each u
      (fun u s => s.ergUncorr c (u.1 % 2 ^ 36) u.2 true) := by
  simp only [State.ergScrub, he, ha, Bool.not_true, bne_self_eq_false, Bool.or_self, Bool.false_eq_true, if_false]

theorem ergScrub_off (n : Nat) (u : List (Nat × Nat)) (h : s.gb pgERG ERG.SCRUB_CTL_EN = false ∨ s.ergSt c ≠ erACTIVE) :
    s.ergScrub c n u = s := by
  rw [State.ergScrub, if_pos]
  simpa using h

/-- When sparing starts: the option held, an ACTIVE channel not yet SPARED, and more corrections than CE_TH or an uncorrectable error. -/
theorem ergSpare_starts_iff (n : Nat) (u : Bool) :
    (s.ergSpares && s.ergSt c == erACTIVE && !s.gb (pgERGC c) ERGC.CH_STS_SPARED
      && (u || decide (max 1 (s.gf pgERG ERG.ERG_CFG_CE_TH) < n))) = true ↔
    (s.ergSpares = true ∧ s.ergSt c = erACTIVE ∧ s.gb (pgERGC c) ERGC.CH_STS_SPARED = false)
      ∧ (u = true ∨ max 1 (s.gf pgERG ERG.ERG_CFG_CE_TH) < n) := by
  rw [Bool.and_eq_true, Bool.and_eq_true, Bool.and_eq_true, Bool.or_eq_true, beq_iff_eq, Bool.not_eq_true', decide_eq_true_eq,
    and_assoc (a := s.ergSpares = true)]

theorem ergFail_unserved (e : ErgFailCause) (h : ¬ (s.ergSt c = erACTIVE ∨ s.ergSt c = erSPARING)) : s.ergFail c e = s := by
  rw [State.ergFail, Bool.eq_false_iff.2 (mt ergServes_iff.1 h), Bool.not_false, if_pos rfl]

theorem ergFail_served (e : ErgFailCause) (h : s.ergSt c = erACTIVE ∨ s.ergSt c = erSPARING) : s.ergFail c e =
    (((s.setErgSt c erFAILED).error (pgERGC c) 4 0x03 (failCode e)
      (s.gal.frames.filter (fun e => e.2.spill == some c && e.2.back != 2)).length 0).spillLost c).ergShow := by
  simp only [State.ergFail, ergServes_iff.2 h, Bool.not_true, Bool.false_eq_true, if_false]

/-- Settles O54: one equation for each case of each of the seven commands, and what each leaves in a channel's page and bytes. -/
theorem ergChannels : Obligations.ErgChannels := by
  refine ⟨fun s hp he ha => next_shown (ergPll_locked hp he ha),
    fun s hp => next_shown (ergPll_idle hp), ?trained, ?untrained,
    fun s c x => Memory.read_clear_within _, fun s c x => Memory.read_clear_outside _, ?filled, ?ready, ?scrub, ?spare, ?spared, ?fail⟩
  case trained =>
    intro s c step lane hc hi kept lost due
    refine ⟨fun ⟨hd, hk⟩ => ?_, fun ⟨hd, hk⟩ => ?_, fun hd => ?_, fun hd => ⟨?_, ?_⟩⟩
    · rw [exec_ergTrainingDone hc, ergTrained_ok hi hd]
      exact next_shown (if_pos hk)
    · rw [exec_ergTrainingDone hc, ergTrained_ok hi hd]
      exact next_shown (if_neg (ne_true_of_eq_false hk))
    · rw [exec_ergTrainingDone hc, ergTrained_failed hi hd]
    · rw [exec_ergTrainingDone hc, ergTrained_early _ hd]
    · rw [exec_ergTrainingDone hc, ergTrained_early _ hd]
  case untrained =>
    intro s c hc hi
    rw [exec_ergTrainingDone hc, ergTrained_not_init _ hi]
  case filled =>
    intro s c hc
    rw [exec_ergFillDone hc, State.ergFilled]
    exact ⟨fun h => by rw [if_pos (beq_iff_eq.2 h)], fun h => by rw [if_neg (mt beq_iff_eq.1 h)]⟩
  case ready =>
    intro s c k hc
    obtain ⟨hstate, hactive, hpending, hretained⟩ := ergReadied_shows (s := s) (c := c) k
    refine ⟨?_, ?_, ?_, ?_, ?_, ?_⟩
    · rwa [State.ergSt, gf_ergReady hc k (by decide) (by decide)]
    · exact (gb_ergReady hc k (by decide) (by decide)).trans hactive
    · exact (gb_ergReady hc k (by decide) (by decide)).trans hpending
    · exact (gb_ergReady hc k (by decide) (by decide)).trans hretained
    · simp [ergReady_erg]
    · rw [ergReady_erg]
  case scrub =>
    intro s c n u hc
    rw [exec_ergScrubPass hc]
    exact ⟨fun ⟨he, ha⟩ => by rw [ergScrub_on n u he ha]; rfl, fun h => by rw [ergScrub_off n u h]⟩
  case spare =>
    intro s c dev n u hc t may
    rw [exec_ergSparingStart hc, State.ergSpare]
    refine ⟨fun h => by rw [if_pos ((ergSpare_starts_iff n u).2 h)], fun h => ?_⟩
    rw [if_neg]
    rw [ergSpare_starts_iff]
    rintro ⟨⟨ho, ha, hs⟩, hn⟩
    rcases h with h | h | h | ⟨hu, hle⟩
    · exact Bool.false_ne_true (h.symm.trans ho)
    · exact h ha
    · exact Bool.false_ne_true (hs.symm.trans h)
    · exact hn.elim (ne_true_of_eq_false hu) (Nat.not_lt.2 hle)
  case spared =>
    intro s c hc
    rw [exec_ergSparingDone hc, State.ergSpared]
    exact ⟨fun h => by rw [if_pos (beq_iff_eq.2 h)], fun h => by rw [if_neg (mt beq_iff_eq.1 h)]⟩
  case fail =>
    intro s c hc held fail
    refine ⟨fun h => ⟨?_, ?_, ?_, ?_⟩, fun ⟨ha, hs⟩ => ?_⟩
    · rw [exec_ergChannelFail hc, ergFail_served _ h]
      rfl
    · rw [exec_ergChannelFail hc, ergFail_served _ h]
      rfl
    · rw [exec_ergChannelFail hc, ergFail_served _ h]
      rfl
    · rw [exec_ergChannelFail hc, ergFail_served _ h]
      rfl
    · rw [exec_ergChannelFail hc, ergFail_unserved _ (not_or.2 ⟨ha, hs⟩)]

end Sys2Proof.Machine
end

section
/-!
PROOF. The management command ring (R457 to R461): what a doorbell, a resume and a fetch do, which command of the ring runs, and O50
from them.
-/

namespace Sys2Proof.Machine

variable {s : State}

/-! ### Doorbell and resume (R458) -/

section
variable {p : Nat} (hp : p < 65536)
include hp

theorem mqDoorbell_within (h : subMod p (s.gf pgMGQ MGQ.RING_STS_CCOUNT) 16 ≤ 2 ^ s.mqSize) : s.mqDoorbell p =
    if (s.sf pgMGQ MGQ.DB_COUNT p).gf pgMGQ MGQ.RING_STS_STATE == mqIDLE && p != s.gf pgMGQ MGQ.RING_STS_CCOUNT then
      (s.sf pgMGQ MGQ.DB_COUNT p).sf pgMGQ MGQ.RING_STS_STATE mqRUNNING
    else s.sf pgMGQ MGQ.DB_COUNT p := by
  simp only [State.mqDoorbell, Nat.mod_eq_of_lt hp, if_pos h]

theorem mqDoorbell_beyond (h : 2 ^ s.mqSize < subMod p (s.gf pgMGQ MGQ.RING_STS_CCOUNT) 16) : s.mqDoorbell p =
    (s.cnt pgMGQ MGQ.CNT_DB_IGNORED).error pgMGQ 3 0x02 (p + s.gf pgMGQ MGQ.RING_STS_CCOUNT * 2 ^ 16) 0 0 := by
  simp only [State.mqDoorbell, Nat.mod_eq_of_lt hp, if_neg (Nat.not_le.2 h)]

end

theorem mqResume_stopped (h : s.gf pgMGQ MGQ.RING_STS_STATE = mqSTOPPED) : s.mqResume = s.sf pgMGQ MGQ.RING_STS_STATE
    (if s.gf pgMGQ MGQ.DB_COUNT == s.gf pgMGQ MGQ.RING_STS_CCOUNT then mqIDLE else mqRUNNING) := if_pos (beq_iff_eq.2 h)

theorem mqResume_not_stopped (h : s.gf pgMGQ MGQ.RING_STS_STATE ≠ mqSTOPPED) : s.mqResume = s := if_neg (mt beq_iff_eq.1 h)

/-! ### The fetch of a command (R457, R458) -/

/-- The ring after it stopped with a code, before the capture. -/
def State.mqHalted (s : State) (code : Nat) : State :=
  (s.sf pgMGQ MGQ.RING_STS_STATE mqSTOPPED).sf pgMGQ MGQ.RING_STS_STOP_CODE code

theorem mqStop_eq (code : Nat) : s.mqStop code =
    (s.mqHalted code).error pgMGQ 2 0x01 ((s.mqHalted code).gf pgMGQ MGQ.RING_STS_CCOUNT + code * 2 ^ 16) 0 0 := by
  have hcount : (s.mqHalted code).gf pgMGQ MGQ.RING_STS_CCOUNT = s.gf pgMGQ MGQ.RING_STS_CCOUNT := by
    rw [State.mqHalted, State.gf_sf_of_disjoint _ _ _ (by decide) (by decide), State.gf_sf_of_disjoint _ _ _ (by decide) (by decide)]
  rw [hcount]
  rfl

/-- A field among the bits that a cut keeps. -/
theorem fld_cut (x : Nat) {n m lo w : Nat} (hm : m ≤ n) (h : lo + w ≤ m) : fld (BitVec.ofNat n (x % 2 ^ m)) lo w = bits x lo w := by
  rw [fld, BitVec.toNat_ofNat, Nat.mod_eq_of_lt ((Nat.mod_lt _ (Nat.two_pow_pos m)).trans_le (Nat.pow_le_pow_right Nat.two_pos hm))]
  refine Nat.eq_of_testBit_eq fun i => ?_
  simp only [bits, Nat.testBit_mod_two_pow, Nat.testBit_div_two_pow]
  by_cases hi : i < w
  · simp [hi, show i + lo < m by omega]
  · simp [hi]

theorem fld_mqFields (c : BitVec 512) {lo w : Nat} (h : lo + w ≤ 384) : fld (mqFields c) lo w = fld c lo w := fld_cut _ (by decide) h

theorem mqOp_mqFields (c : BitVec 512) : mqOp (mqFields c) = mqOp c := fld_mqFields c (by decide)

/-- The command of a slot, as it is at the ring's count. -/
def State.mqRingRun (s : State) (c : BitVec 512) : MgqRun := ⟨mqFields c, false, s.gf pgMGQ MGQ.RING_STS_CCOUNT, .commit⟩

/-- The ring with its count advanced over a command. -/
def State.mqCounted (s : State) : State := s.sf pgMGQ MGQ.RING_STS_CCOUNT ((s.gf pgMGQ MGQ.RING_STS_CCOUNT + 1) % 65536)

/-- What goes on once a command of the ring has run. -/
def State.mqAfter (s : State) : State := s.settle.mgqPump.settle

section
variable {c : BitVec 512} {row : BitVec 512 → Bool} {src : HostFetch} {res : Option (Nat × Nat × Bool)}

theorem mqFetched_not (hm : s.mqMayFetch = false) : s.mqFetched c row src res = s := by
  simp only [State.mqFetched, hm, Bool.not_false, if_true]

section
variable (hm : s.mqMayFetch = true)
include hm

theorem mqFetched_phase (hp : mqPhase c ≠ s.mqLap (s.gf pgMGQ MGQ.RING_STS_CCOUNT)) : s.mqFetched c row src res = s.mqStop 0x02 := by
  simp only [State.mqFetched, hm, bne_iff_ne.2 hp, Bool.not_true, Bool.false_eq_true, if_false, if_true]

/-- A command of the right PHASE in its own row runs. -/
theorem mqFetched_runs (hp : mqPhase c = s.mqLap (s.gf pgMGQ MGQ.RING_STS_CCOUNT)) (hr : row c = true) {u : State}
    (hu : s.mqCounted.mqRun (s.mqRingRun c) src res = u) : s.mqFetched c row src res = u.mqAfter := by
  simp only [State.mqFetched, hm, hp, hr, bne_self_eq_false, Bool.not_true, Bool.false_eq_true, if_false, ← hu]
  rfl

end
end

/-! ### Which command runs (R461) -/

section
variable {run : MgqRun} {src : HostFetch} {res : Option (Nat × Nat × Bool)}

theorem mqRun_nop (h : mqOp run.cmd = 0x00) : s.mqRun run src res = (s.mqBegin run).mgqEnd run (mqStatus 0) := by
  rw [State.mqRun, h]
  rfl
theorem mqRun_load (h : mqOp run.cmd = 0x01) : s.mqRun run src res = (s.mqBegin run).mqLoad run src := by
  rw [State.mqRun, h]
  rfl
theorem mqRun_dump (h : mqOp run.cmd = 0x02) : s.mqRun run src res = (s.mqBegin run).mqDump run := by
  rw [State.mqRun, h]
  rfl
theorem mqRun_commit (h : mqOp run.cmd = 0x03) : s.mqRun run src res = (s.mqBegin run).mqCommit run := by
  rw [State.mqRun, h]
  rfl
theorem mqRun_abort (h : mqOp run.cmd = 0x04) : s.mqRun run src res = (s.mqBegin run).mqAbort run := by
  rw [State.mqRun, h]
  rfl
theorem mqRun_wait (h : mqOp run.cmd = 0x05) : s.mqRun run src res = (s.mqBegin run).mqWaitPower run := by
  rw [State.mqRun, h]
  rfl
theorem mqRun_audit (h : mqOp run.cmd = 0x06) : s.mqRun run src res =
    if mqArg0 run.cmd % 2 == 0 then (s.mqBegin run).mqSweep run else (s.mqBegin run).mqAllowance run := by
  rw [State.mqRun, h]
  rfl
theorem mqRun_port (h : mqOp run.cmd = 0x07) : s.mqRun run src res = (s.mqBegin run).mqPort run res := by
  rw [State.mqRun, h]
  rfl
theorem mqRun_vault (h : mqOp run.cmd = 0x08) : s.mqRun run src res = (s.mqBegin run).mqVault run src := by
  rw [State.mqRun, h]
  rfl
theorem mqRun_station (h : mqOp run.cmd = 0x09) : s.mqRun run src res = (s.mqBegin run).mqStation run := by
  rw [State.mqRun, h]
  rfl

theorem mqRun_reserved (h : 0x0A ≤ mqOp run.cmd) : s.mqRun run src res = (s.mqBegin run).mgqEnd run (mqStatus 0x01) := by
  obtain ⟨n, hn⟩ := Nat.exists_eq_add_of_le' h
  rw [State.mqRun, hn]
  rfl

end

/-! ### COMMIT and the station's answer (R464, R470) -/

section
variable {run : MgqRun}

theorem mqCommit_accepted (h : s.mezCommit.2 = none) : s.mqCommit run = s.mezCommit.1.mgqWait run .commit := by
  unfold State.mqCommit
  split
  next hc => rw [hc]
  next hc => rw [hc] at h; exact absurd h (by simp)

theorem mqCommit_ended {st : Nat} (h : s.mezCommit.2 = some st) : s.mqCommit run = s.mezCommit.1.mgqEnd run
    (if st == 0x0B then ⟨st, 0, (s.mezCommit.1.reg (raddr pgMEZ 0x54)).toNat, (s.mezCommit.1.reg (raddr pgMEZ 0x58)).toNat, []⟩
      else mqStatus st) := by
  unfold State.mqCommit
  split
  next hc => rw [hc] at h; exact absurd h (by simp)
  next hc =>
    rw [hc] at h ⊢
    rw [Option.some.inj h]

theorem mqAbort_eq : s.mqAbort run = s.mezAbort.1.mgqEnd run ⟨s.mezAbort.2.1, s.mezAbort.2.2, 0, 0, []⟩ := by
  unfold State.mqAbort
  rcases s.mezAbort with ⟨t, st, n⟩
  rfl

theorem exec_stationCmdTimeout {a tag sent : Nat} (hc : s.mgq.cur = some run) (hw : run.wait = .station a tag sent) :
    exec .stationCmdTimeout s = .next (if s.due (sent + ms 10) then (s.mgqEnd run (mqStatus 0x12)).mqAfter else s).shown := by
  change Host.Outcome.next (State.shown (match s.mgq.cur with | some run => _ | none => s)) = _
  rw [hc]
  change Host.Outcome.next (State.shown (match run.wait with | .station _ _ sent => _ | _ => s)) = _
  rw [hw]
  rfl

theorem exec_stationCmdTimeout_idle (hc : s.mgq.cur = none) : exec .stationCmdTimeout s = .next s.shown := by
  change Host.Outcome.next (State.shown (match s.mgq.cur with | some run => _ | none => s)) = _
  rw [hc]

end

theorem exec_ringStop_fetched (c : BitVec 512) (hm : s.mqMayFetch = true) (ok : Bool) : exec (.ringStop ok c) s =
    .next (if !ok then s.mqStop 0x07 else if mqPhase c != s.mqLap (s.gf pgMGQ MGQ.RING_STS_CCOUNT) then s.mqStop 0x02 else s).shown := by
  change Host.Outcome.next (State.shown (if !s.mqMayFetch then s else _)) = _
  rw [hm]
  rfl

/-- Settles O50: the ring's own rows case by case, and each command of the ring by the one row that fetches it. -/
theorem managementRing : Obligations.ManagementRing := by
  refine ⟨?doorbell, ?resume, ?stop, ?runs, ?idle, ?timeout, fun s hc => exec_stationCmdTimeout_idle hc⟩
  case doorbell =>
    intro s p hp c t
    refine ⟨fun ⟨hw, hi, hne⟩ => ?_, fun ⟨hw, hi⟩ => ?_, fun hb => next_shown (mqDoorbell_beyond hp hb)⟩
    · refine next_shown ((mqDoorbell_within hp hw).trans (if_pos ?_))
      rw [hi, bne_iff_ne.2 hne]
      rfl
    · refine next_shown ((mqDoorbell_within hp hw).trans (if_neg ?_))
      rw [beq_false_of_ne hi]
      exact Bool.false_ne_true
  case resume =>
    intro s
    refine ⟨fun ⟨hs, he⟩ => ?_, fun ⟨hs, hn⟩ => ?_, fun hn => next_shown (mqResume_not_stopped hn)⟩
    · refine next_shown ((mqResume_stopped hs).trans ?_)
      rw [if_pos (beq_iff_eq.2 he)]
    · refine next_shown ((mqResume_stopped hs).trans ?_)
      rw [if_neg (mt beq_iff_eq.1 hn)]
  case stop =>
    intro s c hm stop
    refine ⟨?_, fun hp => ⟨?_, ?_⟩, fun hp => ?_⟩
    · rw [exec_ringStop_fetched c hm, Bool.not_false, if_pos rfl, mqStop_eq]
      rfl
    · rw [exec_ringStop_fetched c hm, bne_iff_ne.2 hp, Bool.not_true, if_neg Bool.false_ne_true, if_pos rfl, mqStop_eq]
      rfl
    · exact next_shown ((mqFetched_phase hm hp).trans (mqStop_eq _))
    · rw [exec_ringStop_fetched c hm, hp, bne_self_eq_false, Bool.not_true, if_neg Bool.false_ne_true, if_neg Bool.false_ne_true]
  case runs =>
    intro s c hm hp k run t fin
    have hend : ∀ {row : BitVec 512 → Bool} {u : State}, row c = true → s.mqCounted.mqRun run .failed none = u →
        Host.Outcome.next (s.mqFetched c row .failed none).shown = (Host.Outcome.next u.mqAfter.shown : Host.Outcome State Fault Refusal) :=
      fun hr hu => next_shown (mqFetched_runs hm hp hr hu)
    have hop : mqOp run.cmd = mqOp c := mqOp_mqFields c
    refine ⟨fun h => ?_, fun h => ?_, fun ⟨h, hz⟩ => ?_, fun ⟨h, hz⟩ => ?_, fun ⟨h, hz⟩ => ?_, fun h => ?_, fun h => ?_⟩
    · exact hend (beq_iff_eq.2 h) (mqRun_nop (hop.trans h))
    · exact hend (by rw [decide_eq_true h]; rfl) (mqRun_reserved (hop ▸ h))
    · exact hend (beq_iff_eq.2 h) ((mqRun_commit (hop.trans h)).trans (mqCommit_accepted hz))
    · exact hend (beq_iff_eq.2 h) ((mqRun_commit (hop.trans h)).trans (mqCommit_ended hz))
    · exact hend (beq_iff_eq.2 h) ((mqRun_commit (hop.trans h)).trans (mqCommit_ended hz))
    · exact hend (beq_iff_eq.2 h) ((mqRun_abort (hop.trans h)).trans mqAbort_eq)
    · exact hend (beq_iff_eq.2 h) (mqRun_wait (hop.trans h))
  case idle =>
    intro s c d hm
    exact ⟨next_shown (mqFetched_not hm), next_shown (mqFetched_not hm),
      next_shown (mqFetched_not hm), next_shown (mqFetched_not hm)⟩
  case timeout =>
    intro s run a tag sent hc hw
    rw [exec_stationCmdTimeout hc hw]
    exact ⟨fun h => by rw [if_pos h]; rfl, fun h => by rw [if_neg (ne_true_of_eq_false h)]⟩

end Sys2Proof.Machine
end

section
/-!
PROOF. The commands that move data or ask another block (R461 to R464, R551): transfers, audits, port tests, Vault writes and STATION,
and O51 from them.
-/

namespace Sys2Proof.Machine

variable {s : State} {run : MgqRun} {src : HostFetch}

/-! ### Transfers (R461, R463) -/

theorem mqLoad_refused {st : Nat} (h : s.mqTransfer run = (none, st)) : s.mqLoad run src = s.mgqEnd run (mqStatus st) := by
  rw [State.mqLoad, h]

theorem mqDump_refused {st : Nat} (h : s.mqTransfer run = (none, st)) : s.mqDump run = s.mgqEnd run (mqStatus st) := by
  rw [State.mqDump, h]

/-- The entries that the bytes of a buffer give to a table. -/
def mqEntries (t : Tbl) (l : List Byte) : List Entry :=
  (List.range (l.length / t.bytes)).map (fun j =>
    (BitVec.ofNat 1024 (ofBytes ((l.drop (j * t.bytes)).take t.bytes) % 2 ^ t.info.width) : Entry))

section
variable {t : Tbl} (ht : s.mqTransfer run = (some t, 0))
include ht

theorem mqLoad_direct (hs : mqStage run.cmd = false) (hm : run.mctp = false) {b : List Byte}
    (hb : b.length = mqArg2 run.cmd % 2 ^ 21 * t.bytes) :
    s.mqLoad run (.data b) = (s.each (mqEntries t (b.take (mqArg2 run.cmd % 2 ^ 21 * t.bytes))).zipIdx
      (fun e s => s.tblDirect t (mqArg1 run.cmd % 2 ^ 24 + e.2) e.1)).mgqEnd run
        ⟨0, (mqEntries t (b.take (mqArg2 run.cmd % 2 ^ 21 * t.bytes))).length, 0, 0, []⟩ := by
  simp only [State.mqLoad, ht, mqSource, hs, hm, hb, le_refl, decide_true, Bool.false_and, Bool.false_eq_true, if_false, if_true]
  rfl

theorem mqDump_read : s.mqDump run =
    (s.mqReadAll t (mqArg1 run.cmd % 2 ^ 24) (mqArg2 run.cmd % 2 ^ 21)).1.mgqEnd run
      ⟨if (s.mqReadAll t (mqArg1 run.cmd % 2 ^ 24) (mqArg2 run.cmd % 2 ^ 21)).2.2 then 0x08 else 0, mqArg2 run.cmd % 2 ^ 21, 0, 0,
        (s.mqReadAll t (mqArg1 run.cmd % 2 ^ 24) (mqArg2 run.cmd % 2 ^ 21)).2.1⟩ := by
  rw [State.mqDump, ht]

end

theorem mqTooLong_ring (hm : run.mctp = false) (n : Nat) : mqTooLong run n = false := by rw [mqTooLong, hm, Bool.false_and]

section
variable (ha : fld run.cmd 64 4 = 0)
include ha

theorem mqBadAddr_low : mqBadAddr run = false := by rw [mqBadAddr, ha, bne_self_eq_false, Bool.and_false]

theorem mqTransfer_no_table (ht : mqTable (mqArg0 run.cmd) = none) : s.mqTransfer run = (none, 0x03) := by
  simp only [State.mqTransfer, mqBadAddr_low ha, ht, Bool.false_eq_true, if_false]

theorem mqTransfer_past_end {t : Tbl} (ht : mqTable (mqArg0 run.cmd) = some t)
    (hn : t.info.count < mqArg1 run.cmd % 2 ^ 24 + mqArg2 run.cmd % 2 ^ 21) : s.mqTransfer run = (none, 0x04) := by
  simp only [State.mqTransfer, mqBadAddr_low ha, ht, hn, Bool.false_eq_true, if_false, if_true]

end

/-! ### Port tests (R464) -/

section
variable {res : Option (Nat × Nat × Bool)}

theorem mqPort_off (h : let p := mqArg0 run.cmd % 1024; s.ph p = phDISABLED ∨ s.ph p = phSLEEP ∨ s.ph p = phWAKING) :
    s.mqPort run res = s.mgqEnd run (mqStatus 0x10) := by
  refine if_pos ?_
  simpa [or_assoc] using h

theorem mqPort_runs {fault tap : Nat} {cond : Bool}
    (h : let p := mqArg0 run.cmd % 1024; s.ph p = phACTIVE ∨ s.ph p = phFAULT ∨ s.ph p = phDETECT) :
    s.mqPort run (some (fault, tap, cond)) =
      (s.diagRun (mqArg0 run.cmd % 1024) fault tap cond).mqPortDone (mqArg0 run.cmd % 1024) run := by
  refine if_neg ?_
  rcases h with h | h | h <;> rw [h] <;> decide

end

/-! ### Vault writes (R551) -/

theorem mqSource_data {b : List Byte} {n : Nat} (h : b.length = n) : mqSource (.data b) n = (b, true) := by
  rw [mqSource, ← h, List.take_length, decide_eq_true (le_refl _)]

theorem mqVault_refused (hr : s.vaultRefuses (mqArg0 run.cmd) (mqArg1 run.cmd) (mqArg2 run.cmd) = true) :
    s.mqVault run src = s.mgqEnd run (mqStatus 0x01) := by
  simp only [State.mqVault, hr, Bool.true_or, if_true]

section
variable (hr : s.vaultRefuses (mqArg0 run.cmd) (mqArg1 run.cmd) (mqArg2 run.cmd) = false)
include hr

theorem mqVault_commit (ha : bits (mqArg0 run.cmd) 4 2 = 1) :
    s.mqVault run src = (s.vaultCommit (mqArg0 run.cmd)).1.mgqEnd run (s.vaultCommit (mqArg0 run.cmd)).2 := by
  simp only [State.mqVault, hr, ha, show (1 == 0) = false from rfl, Bool.false_and, Bool.or_self, Bool.false_eq_true, if_false, beq_self_eq_true,
    if_true]

theorem mqVault_erase (ha : bits (mqArg0 run.cmd) 4 2 = 2) :
    s.mqVault run src = (s.vaultErase (mqArg0 run.cmd)).1.mgqEnd run (s.vaultErase (mqArg0 run.cmd)).2 := by
  simp only [State.mqVault, hr, ha, show (2 == 0) = false from rfl, show (2 == 1) = false from rfl, Bool.false_and, Bool.or_self,
    Bool.false_eq_true, if_false, beq_self_eq_true, if_true]

section
variable (hm : run.mctp = false) (hb : fld run.cmd 64 4 = 0) (ha : bits (mqArg0 run.cmd) 4 2 = 0)
include hm hb ha

theorem mqVault_write {b : List Byte} (hl : b.length = mqArg2 run.cmd) : s.mqVault run (.data b) =
    (s.vaultWrite (mqArg0 run.cmd) (mqArg1 run.cmd) b).1.mgqEnd run (s.vaultWrite (mqArg0 run.cmd) (mqArg1 run.cmd) b).2 := by
  simp only [State.mqVault, hr, ha, mqBadAddr_low hb, mqTooLong_ring hm, show (0 == 1) = false from rfl, show (0 == 2) = false from rfl,
    mqSource_data hl, Bool.and_false, Bool.or_self, Bool.not_true, Bool.false_eq_true, if_false]

theorem mqVault_failed (hn : 0 < mqArg2 run.cmd) : s.mqVault run .failed = s.mgqEnd run (mqStatus 0x07) := by
  simp only [State.mqVault, hr, ha, hm, mqBadAddr_low hb, mqTooLong_ring hm, show (0 == 1) = false from rfl, show (0 == 2) = false from rfl,
    mqSource, beq_false_of_ne (Nat.ne_of_gt hn), Bool.and_false, Bool.or_self, Bool.not_false, Bool.false_eq_true, if_false, if_true]

end
end

/-! ### STATION (R464) -/

theorem mqStation_reserved (hk : bits (mqArg0 run.cmd) 16 2 = 3) : s.mqStation run = s.mgqEnd run (mqStatus 0x01) := by
  simp only [State.mqStation, hk, beq_self_eq_true, Bool.true_or, if_true]

section
variable {a k : Nat} (ha : mqArg0 run.cmd % 1024 = a) (hk : bits (mqArg0 run.cmd) 16 2 = k)
include ha hk

/-- A configuration access goes to a station that is up. -/
theorem mqStation_up (h0 : k ≠ 0) (h3 : k ≠ 3) (hu : s.stationUp a = true) : s.mqStation run = s.mqStationSend run a s.clock := by
  simp only [State.mqStation, ha, hk, hu, beq_false_of_ne h0, beq_false_of_ne h3, Bool.false_and, Bool.or_self, Bool.not_true,
    Bool.false_eq_true, if_false]

theorem mqStation_down (h0 : k ≠ 0) (h3 : k ≠ 3) (hu : s.stationUp a = false) : s.mqStation run = s.mgqEnd run (mqStatus 0x0F) := by
  simp only [State.mqStation, ha, hk, hu, beq_false_of_ne h0, beq_false_of_ne h3, Bool.false_and, Bool.or_self, Bool.not_false,
    Bool.false_eq_true, if_false, if_true]

end

theorem mqStation_ident {w : Ident} (hk : bits (mqArg0 run.cmd) 16 2 = 0) (hb : mqBadAddr run = false)
    (hu : s.stationUp (mqArg0 run.cmd % 1024) = true) (hw : (s.lard (mqArg0 run.cmd % 1024)).ident = some w) :
    s.mqStation run = s.mgqEnd run ⟨0, 0, 0, 0, w.words.flatMap (fun w => bytesOf 8 w.toNat)⟩ := by
  simp only [State.mqStation, hk, hb, hu, hw, show (0 == 3) = false from rfl, Bool.and_false, Bool.or_self, Bool.not_true, Bool.false_eq_true,
    if_false, beq_self_eq_true, if_true]

section
variable {a tag sent : Nat} (hq : s.quiesce (pgPRT a) = false) (ht : s.freeTag a = some tag)
include hq ht

theorem mqStationSend_read (hk : fld run.cmd 48 2 = 1) : s.mqStationSend run a sent =
    ((s.takeTag a tag (.stationCmd 1)).ownFrame a (mkCtl opCFGRD tag (mqArg1 run.cmd % 65536) [])).mgqWait run (.station a tag sent) := by
  rw [State.mqStationSend, hq, hk, if_neg Bool.false_ne_true, ht]
  rfl

theorem mqStationSend_write (hk : fld run.cmd 48 2 = 2) : s.mqStationSend run a sent =
    ((s.takeTag a tag (.stationCmd 0)).ownFrame a (mkCtl opCFGWR tag (mqArg1 run.cmd % 65536)
      [BitVec.ofNat 64 (mqArg2 run.cmd)])).mgqWait run (.station a tag sent) := by
  rw [State.mqStationSend, hq, hk, if_neg Bool.false_ne_true, ht]
  rfl

end

/-- Settles O51: each command of the right PHASE runs in its own row, and then it is one of its cases. -/
theorem managementCommands : Obligations.ManagementCommands := by
  have hrow : ∀ {s : State} {c : BitVec 512} {row : BitVec 512 → Bool} {src : HostFetch} {res : Option (Nat × Nat × Bool)} {u : State},
      s.mqMayFetch = true → mqPhase c = s.mqLap (s.gf pgMGQ MGQ.RING_STS_CCOUNT) → row c = true →
      s.mqCounted.mqRun (s.mqRingRun c) src res = u →
      (.next (s.mqFetched c row src res).shown : Host.Outcome State Fault Refusal) = .next u.mqAfter.shown :=
    fun hm hp hr hu => next_shown (mqFetched_runs hm hp hr hu)
  refine ⟨?transfer, ?audit, ?vault, ?refused, ?station⟩
  case transfer =>
    intro s c t0 b hm hp k run t fin i n
    have hop : mqOp run.cmd = mqOp c := mqOp_mqFields c
    refine ⟨fun ⟨h, ht, hs, hb⟩ => ?_, fun ⟨h, ht⟩ => ?_, fun ⟨h, ht, ha⟩ => ?_, fun ⟨h, ht, ha⟩ => ?_,
      fun ⟨h, ha, ht, hn⟩ => ?_⟩
    · exact hrow hm hp (beq_iff_eq.2 h) ((mqRun_load (hop.trans h)).trans (mqLoad_direct ht hs rfl hb))
    · exact hrow hm hp (beq_iff_eq.2 h) ((mqRun_dump (hop.trans h)).trans (mqDump_read ht))
    · exact hrow hm hp (beq_iff_eq.2 h) ((mqRun_load (hop.trans h)).trans (mqLoad_refused (mqTransfer_no_table ha ht)))
    · exact hrow hm hp (beq_iff_eq.2 h) ((mqRun_dump (hop.trans h)).trans (mqDump_refused (mqTransfer_no_table ha ht)))
    · exact hrow hm hp (beq_iff_eq.2 h) ((mqRun_dump (hop.trans h)).trans (mqDump_refused (mqTransfer_past_end ha ht hn)))
  case audit =>
    intro s c f tap q hm hp k run t fin
    have hop : mqOp run.cmd = mqOp c := mqOp_mqFields c
    refine ⟨fun ⟨h, hc, hk⟩ => ?_, fun ⟨h, hc, hk⟩ => ?_, fun ⟨h, ho⟩ => ?_, fun ⟨h, ho⟩ => ?_⟩
    · exact hrow hm hp (Bool.and_eq_true_iff.2 ⟨beq_iff_eq.2 h, beq_iff_eq.2 hc⟩)
        ((mqRun_audit (hop.trans h)).trans (if_pos (beq_iff_eq.2 hk)))
    · exact hrow hm hp (Bool.and_eq_true_iff.2 ⟨beq_iff_eq.2 h, beq_iff_eq.2 hc⟩)
        ((mqRun_audit (hop.trans h)).trans (if_neg (by rw [show mqArg0 run.cmd % 2 = 1 from hk]; decide)))
    · exact hrow hm hp (beq_iff_eq.2 h) ((mqRun_port (hop.trans h)).trans (mqPort_off ho))
    · exact hrow hm hp (beq_iff_eq.2 h) ((mqRun_port (hop.trans h)).trans (mqPort_runs ho))
  case vault =>
    intro s c b hm hp h k run t fin a0 a1 n hc hr hb
    have hop : mqOp run.cmd = 0x08 := (mqOp_mqFields c).trans h
    have hin : ∀ {act : Nat}, bits a0 4 2 = act → isVault act c = true := fun ha =>
      Bool.and_eq_true_iff.2 ⟨beq_iff_eq.2 h, beq_iff_eq.2 (by rw [hc, ha])⟩
    have hserves : t.vaultRefuses (mqArg0 run.cmd) (mqArg1 run.cmd) (mqArg2 run.cmd) = false := hr
    refine ⟨fun ⟨ha, hl⟩ => ?_, fun ⟨ha, hn⟩ => ?_, fun ha => ?_, fun ha => ?_⟩
    · exact hrow hm hp (Bool.or_eq_true_iff.2 (.inl (hin ha))) ((mqRun_vault hop).trans (mqVault_write hserves rfl hb ha hl))
    · exact hrow hm hp (Bool.or_eq_true_iff.2 (.inl (hin ha))) ((mqRun_vault hop).trans (mqVault_failed hserves rfl hb ha hn))
    · exact hrow hm hp (hin ha) ((mqRun_vault hop).trans (mqVault_commit hserves ha))
    · exact hrow hm hp (hin ha) ((mqRun_vault hop).trans (mqVault_erase hserves ha))
  case refused =>
    intro s c hm hp h k run t a0 hc ha hr
    exact hrow hm hp (Bool.and_eq_true_iff.2 ⟨beq_iff_eq.2 h, beq_iff_eq.2 (by rw [hc, ha])⟩)
      ((mqRun_vault ((mqOp_mqFields c).trans h)).trans (mqVault_refused hr))
  case station =>
    intro s c w tag hm hp h k run t fin a hq hc _ hkind hb
    have hop : mqOp run.cmd = 0x09 := (mqOp_mqFields c).trans h
    have hin : ∀ {kind : Nat}, bits (mqArg0 c) 16 2 = kind → isStation kind c = true := fun hk =>
      Bool.and_eq_true_iff.2 ⟨beq_iff_eq.2 h, beq_iff_eq.2 hk⟩
    have ha : mqArg0 run.cmd % 1024 = a := congrArg (· % 1024) hc
    have hkrun : ∀ {kind : Nat}, bits (mqArg0 c) 16 2 = kind → bits (mqArg0 run.cmd) 16 2 = kind := fun hk =>
      (congrArg (bits · 16 2) hc).trans hk
    refine ⟨fun ⟨hk, hu, hw⟩ => ?_, fun ⟨hk, hu, ht⟩ => ?_, fun ⟨hk, hu, ht⟩ => ?_, fun ⟨hk, hu⟩ => ?_, fun hk => ?_⟩
    · exact hrow hm hp (hin hk) ((mqRun_station hop).trans (mqStation_ident (hkrun hk) (mqBadAddr_low hb) (ha ▸ hu) (ha ▸ hw)))
    · exact hrow hm hp (hin hk) ((mqRun_station hop).trans
        ((mqStation_up ha (hkrun hk) (by decide) (by decide) hu).trans (mqStationSend_read hq ht (hkind.trans hk))))
    · exact hrow hm hp (hin hk) ((mqRun_station hop).trans
        ((mqStation_up ha (hkrun hk) (by decide) (by decide) hu).trans (mqStationSend_write hq ht (hkind.trans hk))))
    · exact hrow hm hp (hin hk) ((mqRun_station hop).trans (mqStation_down ha (hkrun hk) (by decide) (by decide) hu))
    · exact hrow hm hp (Bool.or_eq_true_iff.2 (.inr (hin hk))) ((mqRun_station hop).trans (mqStation_reserved (hkrun hk)))

end Sys2Proof.Machine
end

section
/-!
PROOF. The Mezzanine (R466 to R475): staging, commit, abort, what a discard and a refusal leave, and the apply; O52 and O53 from them.
-/

namespace Sys2Proof.Machine

variable {s : State}

/-! ### The registers that can be staged (R466) -/

/-- The pages whose registers can be staged: BRG, SWC, WAD, SCH, POL, LND and CVN. -/
def stagePages : List Nat := [pgBRG, pgSWC, pgWAD, pgSCH, pgPOL, pgLND, pgCVN]

theorem stageTarget_page {a : Nat} (h : stageTarget a = true) : a / 4096 ∈ stagePages ∧ 0x80 ≤ a % 4096 := by
  unfold stageTarget at h
  split at h
  case h_2 => exact absurd h Bool.false_ne_true
  case h_1 b k r hi =>
    simp only [Bool.and_eq_true, bne_iff_ne, decide_eq_true_eq] at h
    obtain ⟨⟨⟨hs, hb⟩, hoff⟩, -⟩ := h
    refine ⟨?_, hoff⟩
    have hpage := (infoAt_eq_some hi).1
    generalize a / 4096 = p at hpage ⊢
    unfold blkOf at hpage
    split_ifs at hpage
    · cases hpage; exact absurd hs (by decide)
    · cases hpage; exact absurd hs (by decide)
    · cases hpage; exact absurd hs (by decide)
    · cases hpage; exact absurd hs (by decide)
    · split at hpage <;> cases hpage <;> revert hs hb <;> decide

theorem headPage_of_stagePage {p : Nat} (h : p ∈ stagePages) : headPage p = p := by
  have hall : ∀ q ∈ stagePages, headPage q = q := by decide
  exact hall p h

/-! ### Staging (R466, R468) -/

section
variable {w : Staged} (hst : s.mezSt ≠ mzAPPLYING) (hon : s.mezOn = true)
include hst hon

theorem stage_full (hn : 16384 ≤ s.mez.staged.length) : s.stage w =
    (((s.sf pgMEZ MEZ.MEZ_STS_OVERFLOW 1).cnt pgMEZ MEZ.CNT_OVERFLOWS).error pgMEZ 2 0x02 (w.conflict0 0) 0 0, 1) := by
  simp only [State.stage, beq_false_of_ne hst, hon, hn, Bool.not_true, Bool.false_eq_true, if_false, if_true]

theorem stage_taken (hn : s.mez.staged.length < 16384) : s.stage w =
    ((({ s with mez := { s.mez with staged := s.mez.staged ++ [w] } } : State).sf pgMEZ MEZ.MEZ_STS_STATE mzOPEN).sf w.page
      HDR.PAGE_STS_STAGED 1, 0) := by
  simp only [State.stage, beq_false_of_ne hst, hon, Nat.not_le.2 hn, Bool.not_true, Bool.false_eq_true, if_false]

end

theorem mezOn_iff : s.mezOn = true ↔ s.gb pgDEV DEV.FEAT_EN_MEZ = true ∧ s.active pgMEZ = true := Bool.and_eq_true_iff

theorem mezHolds_of_not_quiesced (hq : s.gb pgMEZ HDR.PAGE_CTL_QUIESCE = false) : s.mezHolds = false := by
  rw [State.mezHolds, hq, Bool.and_false]

theorem mezOn_of_inactive (ha : s.active pgMEZ = false) : s.mezOn = false := by rw [State.mezOn, ha, Bool.and_false]

theorem stageRegister_barred {v : Word} (hst : s.mezSt ≠ mzAPPLYING) (hon : s.mezOn = true)
    (ht : stageTarget (s.gf pgMEZ MEZ.STAGE_ADDR_OFFSET * 4) = false) : s.stageRegister v = s.sf pgMEZ MEZ.STAGE_STS_RESULT 3 := by
  simp only [State.stageRegister, bne_iff_ne.2 hst, hon, ht, Bool.not_false, Bool.and_self, if_true]

/-- A register write that MEZ neither bars nor holds is staged, and RESULT shows how it went. -/
theorem stageRegister_staged {v : Word} (hh : s.mezHolds = false)
    (ht : s.mezOn = true → stageTarget (s.gf pgMEZ MEZ.STAGE_ADDR_OFFSET * 4) = true) :
    s.stageRegister v = (s.stage (.reg (s.gf pgMEZ MEZ.STAGE_ADDR_OFFSET * 4) v)).1.sf pgMEZ MEZ.STAGE_STS_RESULT
      (s.stage (.reg (s.gf pgMEZ MEZ.STAGE_ADDR_OFFSET * 4) v)).2 := by
  have hbar : (s.mezSt != mzAPPLYING && s.mezOn && !stageTarget (s.gf pgMEZ MEZ.STAGE_ADDR_OFFSET * 4)) = false := by
    cases hon : s.mezOn
    · rw [Bool.and_false, Bool.false_and]
    · rw [ht hon, Bool.not_true, Bool.and_false]
  simp only [State.stageRegister, hbar, hh, Bool.false_eq_true, if_false]

theorem stageRegister_held {v : Word} (hh : s.mezHolds = true) (ht : stageTarget (s.gf pgMEZ MEZ.STAGE_ADDR_OFFSET * 4) = true) :
    s.stageRegister v = s.mezHold (.reg (s.gf pgMEZ MEZ.STAGE_ADDR_OFFSET * 4) v) none := by
  simp only [State.stageRegister, ht, hh, Bool.not_true, Bool.and_false, Bool.false_eq_true, if_false, if_true]

/-! ### What a discard leaves (R474) -/

/-- The STAGED flags of some pages cleared. -/
def State.unstage (s : State) (l : List Nat) : State := s.each l (fun p s => s.sf p HDR.PAGE_STS_STAGED 0)

/-- The transaction empty, its pages' STAGED flags apart. -/
def State.mezEmptied (s : State) : State :=
  ((({ s with mez := { s.mez with staged := [] } } : State).sf pgMEZ MEZ.MEZ_STS_STATE 0).sf pgMEZ MEZ.MEZ_STS_OVERFLOW 0
    |>.sf pgMEZ MEZ.MEZ_STS_CONFLICT 0).sf pgMEZ MEZ.MEZ_STS_COUNT 0

theorem mezDiscard_eq : s.mezDiscard = (s.unstage (s.mez.staged.map Staged.page).eraseDups).mezEmptied := rfl

theorem unstage_mez (l : List Nat) : (s.unstage l).mez = s.mez := each_keeps State.mez (fun _ t => t.sf_mez _ _ _) l s
theorem unstage_tbls (l : List Nat) : (s.unstage l).tbls = s.tbls := each_keeps State.tbls (fun _ t => t.sf_tbls _ _ _) l s

theorem reg_unstage (l : List Nat) {a : Nat} (h : 0x80 ≤ a % 4096) : (s.unstage l).reg a = s.reg a := by
  refine each_keeps (fun t => t.reg a) (fun p t => t.reg_sf_of_ne 0 ?_) l s
  rintro rfl
  rw [raddr, Nat.mul_add_mod_of_lt (by decide)] at h
  exact absurd h (by decide)

/-- STAGED of a page reads 0 once it was cleared, whatever else is cleared after it. -/
theorem gf_unstage_staged {l : List Nat} {p : Nat} (h : p ∈ l ∨ s.gf p HDR.PAGE_STS_STAGED = 0) :
    (s.unstage l).gf p HDR.PAGE_STS_STAGED = 0 := by
  induction l generalizing s with
  | nil => exact h.resolve_left List.not_mem_nil
  | cons x l ih =>
    refine ih ?_
    by_cases hx : p = x
    · subst hx
      exact .inr ((s.gf_sf_self p HDR.PAGE_STS_STAGED 0 (by decide)).trans (Nat.zero_mod _))
    · refine h.imp (fun hm => (List.mem_cons.1 hm).resolve_left hx) fun h0 => ?_
      rw [State.gf_sf_of_ne _ _ (raddr_ne hx (by decide) (by decide)), h0]

theorem mezEmptied_tbls : s.mezEmptied.tbls = s.tbls := by simp only [State.mezEmptied, State.sf_tbls]
theorem mezEmptied_staged : s.mezEmptied.mez.staged = [] := by simp only [State.mezEmptied, State.sf_mez]

theorem regsBut_mezEmptied : RegsBut [raddr pgMEZ 0x44] s s.mezEmptied :=
  (((regsBut_of_regs (s := s) (t := { s with mez := { s.mez with staged := [] } }) rfl).trans (regsBut_sf _ _ (by decide))).trans
    (regsBut_sf _ _ (by decide))).trans (regsBut_sf _ _ (by decide)) |>.trans (regsBut_sf _ _ (by decide))

theorem gf_mezEmptied_state : s.mezEmptied.gf pgMEZ MEZ.MEZ_STS_STATE = 0 := by
  simp (disch := decide) only [State.mezEmptied, State.gf_sf_of_disjoint, State.gf_sf_self]
  rfl

theorem mezDiscard_staged : s.mezDiscard.mez.staged = [] := mezEmptied_staged
theorem mezDiscard_tbls : s.mezDiscard.tbls = s.tbls := mezEmptied_tbls.trans (unstage_tbls _)

theorem reg_mezDiscard {a : Nat} (hp : a / 4096 ≠ pgMEZ) (h : 0x80 ≤ a % 4096) : s.mezDiscard.reg a = s.reg a := by
  refine (regsBut_mezEmptied a fun hm => ?_).trans (reg_unstage _ h)
  rw [List.mem_singleton.1 hm] at hp
  exact hp (by decide)

theorem gb_mezDiscard_staged {w : Staged} (h : w ∈ s.mez.staged) : s.mezDiscard.gb w.page HDR.PAGE_STS_STAGED = false := by
  have hmem : w.page ∈ (s.mez.staged.map Staged.page).eraseDups := List.mem_eraseDups.2 (List.mem_map_of_mem h)
  have hne : raddr w.page HDR.PAGE_STS_STAGED.off ∉ [raddr pgMEZ 0x44] := by
    rw [List.mem_singleton]
    change w.page * 4096 + 0xC ≠ 2 * 4096 + 0x44
    omega
  rw [State.gb, mezDiscard_eq, regsBut_mezEmptied.gf hne, gf_unstage_staged (.inl hmem)]
  rfl

/-! ### What a refusal leaves (R470) -/

/-- CONFLICT0 and CONFLICT1 of a refusal: its target, or none when the transaction overflowed. -/
def State.commitNamed (s : State) (w : Option Staged) (reason : Nat) : State :=
  match w with
  | some w => s.nameConflict w reason
  | none => if reason == 4 then s.setReg (raddr pgMEZ 0x54) (BitVec.ofNat 32 (4 * 2 ^ 28)) |>.setReg (raddr pgMEZ 0x58) 0 else s

theorem commitRefuse_eq (w : Option Staged) (r : Nat) : ∃ c1 c2 n, s.commitRefuse w r =
    (((s.commitNamed w r).mezDiscard.sf pgMEZ MEZ.MEZ_STS_LAST_STATUS 0x0B).cnt pgMEZ MEZ.CNT_REFUSED).error pgMEZ 1 0x01 c1 c2 n := by
  refine ⟨((s.commitNamed w r).reg (raddr pgMEZ 0x54)).toNat, ((s.commitNamed w r).reg (raddr pgMEZ 0x58)).toNat,
    (s.commitNamed w r).mez.staged.length, ?_⟩
  cases w with
  | some w => simp only [State.commitRefuse, State.commitNamed]
  | none => simp only [State.commitRefuse, State.commitNamed]

theorem commitNamed_tbls (w : Option Staged) (r : Nat) : (s.commitNamed w r).tbls = s.tbls := by
  cases w with
  | some w => simp only [State.commitNamed, State.nameConflict, State.setReg_tbls]
  | none => simp only [State.commitNamed, apply_ite State.tbls, State.setReg_tbls, ite_self]

theorem regsBut_commitNamed (w : Option Staged) (r : Nat) : RegsBut [raddr pgMEZ 0x54, raddr pgMEZ 0x58] s (s.commitNamed w r) := by
  have htwo : ∀ x y : Word, RegsBut [raddr pgMEZ 0x54, raddr pgMEZ 0x58] s ((s.setReg (raddr pgMEZ 0x54) x).setReg (raddr pgMEZ 0x58) y) :=
    fun x y => (regsBut_setReg s x (by decide)).trans (regsBut_setReg _ y (by decide))
  cases w with
  | some w => exact htwo _ _
  | none => exact regsBut_ite (htwo _ _) (RegsBut.refl _ s)

theorem commitRefuse_staged (w : Option Staged) (r : Nat) : (s.commitRefuse w r).mez.staged = [] := by
  obtain ⟨c1, c2, n, h⟩ := commitRefuse_eq (s := s) w r
  rw [h, State.error_mez, State.cnt_mez, State.sf_mez, mezDiscard_staged]

theorem entsBut_commitRefuse (w : Option Staged) (r : Nat) : EntsBut s (s.commitRefuse w r) := by
  obtain ⟨c1, c2, n, h⟩ := commitRefuse_eq (s := s) w r
  rw [h]
  exact (((entsBut_of_tbls (mezDiscard_tbls.trans (commitNamed_tbls w r))).trans (entsBut_sf _ _ _ _)).trans (entsBut_cnt _ _ _ _)).trans
    (entsBut_error _ _ _ _ _ _ (by decide))

/-- An error of MEZ changes no register of a page that can be staged, but for Landing's count of hold-off waits. -/
theorem not_mem_errRegs_of_stageTarget {a : Nat} (ht : stageTarget a = true) (hl : a ≠ raddr pgLND LND.CNT_HOLDOFF_WAITS) :
    a ∉ raddr pgMEZ 0x10 :: errRegs pgMEZ := by
  obtain ⟨hpage, -⟩ := stageTarget_page ht
  have hout : ∀ p ∈ stagePages, p ≠ pgMEZ ∧ p ≠ pgFLT ∧ p ≠ pgOAS := by decide
  obtain ⟨hmez, hflt, hoas⟩ := hout _ hpage
  have hfix : ∀ b ∈ [raddr pgFLT FLT.FLT_STS_QUEUE.off, raddr pgFLT FLT.CNT_RECORDS, raddr pgFLT FLT.CNT_QUEUE_LOST, raddr pgFLT 0x10],
      b / 4096 = pgFLT := by decide
  have hfire : ∀ b ∈ fireRegs, b / 4096 = pgOAS ∨ b = raddr pgLND LND.CNT_HOLDOFF_WAITS := by decide
  intro hm
  rcases List.mem_cons.1 hm with rfl | hm
  · exact hmez (raddr_div pgMEZ (by decide))
  · rw [errRegs, List.mem_append, List.mem_append, List.mem_append] at hm
    rcases hm with ((h | h) | h) | h
    · exact hmez (capRegs_page h)
    · exact hflt (capRegs_page h)
    · exact hflt (hfix a h)
    · exact (hfire a h).elim hoas hl

theorem reg_commitRefuse (w : Option Staged) (r : Nat) {a : Nat} (ht : stageTarget a = true)
    (hl : a ≠ raddr pgLND LND.CNT_HOLDOFF_WAITS) : (s.commitRefuse w r).reg a = s.reg a := by
  obtain ⟨c1, c2, n, h⟩ := commitRefuse_eq (s := s) w r
  obtain ⟨hpage, hoff⟩ := stageTarget_page ht
  have hmez : a / 4096 ≠ pgMEZ := (show ∀ p ∈ stagePages, p ≠ pgMEZ by decide) _ hpage
  have hne : ∀ {off : Nat}, off < 4096 → a ≠ raddr pgMEZ off := fun ho he => hmez (he ▸ raddr_div pgMEZ ho)
  calc (s.commitRefuse w r).reg a
      = (((s.commitNamed w r).mezDiscard.sf pgMEZ MEZ.MEZ_STS_LAST_STATUS 0x0B).cnt pgMEZ MEZ.CNT_REFUSED).reg a := by
        rw [h]
        exact regsBut_error _ _ _ _ _ _ _ a (not_mem_errRegs_of_stageTarget ht hl)
    _ = (s.commitNamed w r).mezDiscard.reg a := by
        rw [State.reg_cnt_of_ne _ _ (hne (by decide)), State.reg_sf_of_ne _ _ (hne (by decide))]
    _ = (s.commitNamed w r).reg a := reg_mezDiscard hmez hoff
    _ = s.reg a := regsBut_commitNamed w r a (by simp [hne])

/-! ### Commit and abort (R470, R474) -/

section
variable (hst : s.mezSt ≠ mzAPPLYING)
include hst

theorem mezCommit_empty (h : s.mez.staged = []) : s.mezCommit = (s.sf pgMEZ MEZ.MEZ_STS_LAST_STATUS 0, some 0) := by
  simp only [State.mezCommit, beq_false_of_ne hst, h, List.isEmpty_nil, Bool.false_eq_true, if_false, if_true]

theorem mezAbort_empty (h : s.mez.staged = []) : s.mezAbort = (s.sf pgMEZ MEZ.MEZ_STS_LAST_STATUS 0, 0, 0) := by
  simp only [State.mezAbort, beq_false_of_ne hst, h, List.length_nil, beq_self_eq_true, Bool.false_eq_true, if_false, if_true]

section
variable (h : s.mez.staged ≠ [])
include h

theorem mezCommit_refused {w : Option Staged} {r : Nat} (hr : s.commitReason = some (w, r)) :
    s.mezCommit = (s.commitRefuse w r, some 0x0B) := by
  simp only [State.mezCommit, beq_false_of_ne hst, List.isEmpty_eq_false_iff.2 h, hr, Bool.false_eq_true, if_false]

theorem mezCommit_taken (hr : s.commitReason = none) :
    s.mezCommit = (({ s with mez := { s.mez with start := s.clock } } : State).sf pgMEZ MEZ.MEZ_STS_STATE mzAPPLYING, none) := by
  simp only [State.mezCommit, beq_false_of_ne hst, List.isEmpty_eq_false_iff.2 h, hr, Bool.false_eq_true, if_false]

theorem mezAbort_discards : s.mezAbort.1 = ((s.sf pgMEZ MEZ.MEZ_STS_LAST_STATUS 0).mezDiscard).cnt pgMEZ MEZ.CNT_ABORTS := by
  simp only [State.mezAbort, beq_false_of_ne hst, beq_false_of_ne (mt List.length_eq_zero_iff.1 h), Bool.false_eq_true, if_false]

end
end

theorem mezCommit_applying (hst : s.mezSt = mzAPPLYING) : s.mezCommit = (s.sf pgMEZ MEZ.MEZ_STS_LAST_STATUS 0x0C, some 0x0C) := by
  simp only [State.mezCommit, hst, beq_self_eq_true, if_true]

theorem mezAbort_applying (hst : s.mezSt = mzAPPLYING) : s.mezAbort = (s.sf pgMEZ MEZ.MEZ_STS_LAST_STATUS 0x0C, 0x0C, 0) := by
  simp only [State.mezAbort, hst, beq_self_eq_true, if_true]

/-- A transaction marked OVERFLOW is refused without a target. -/
theorem commitReason_overflow (h : s.gb pgMEZ MEZ.MEZ_STS_OVERFLOW = true) : ∃ r, s.commitReason = some (none, r) := by
  cases hc : s.gb pgMEZ MEZ.MEZ_STS_CONFLICT
  · exact ⟨4, by simp only [State.commitReason, hc, h, Bool.false_eq_true, if_false, if_true]⟩
  · exact ⟨1, by simp only [State.commitReason, hc, if_true]⟩

/-- Settles O52: a full transaction takes no more, and the refusal of a marked one discards it and changes nothing that was staged. -/
theorem fullTransactionOverflows : Obligations.FullTransactionOverflows := by
  have hopen : ∀ {s : State}, s.mezSt = mzOPEN → s.mezSt ≠ mzAPPLYING := fun h => h ▸ by decide
  refine ⟨fun s w ho hf ha hq hn => ?full, fun s u i a ho hne hov => ?refused⟩
  case full =>
    have hstage := stage_full (w := w) (hopen ho) (mezOn_iff.2 ⟨hf, ha⟩) hn
    refine ⟨hstage, ?_, ?_⟩
    · rw [hstage, State.error_mez, State.cnt_mez, State.sf_mez]
    · rw [hstage, State.gb, (regsBut_error _ _ _ _ _ _ _).gf (by decide), State.gf_cnt_of_ne _ _ (by decide),
        State.gf_sf_self _ _ _ _ (by decide)]
      rfl
  case refused =>
    obtain ⟨r, hr⟩ := commitReason_overflow hov
    rw [mezCommit_refused (hopen ho) hne hr]
    exact ⟨rfl, commitRefuse_staged none r, fun hk => entsBut_commitRefuse none r _ hk, fun ht hl => reg_commitRefuse none r ht hl⟩

/-! ### The apply (R471) -/

/-- With no command, no memory write and no staged write waiting, nothing goes on before MGQ. -/
theorem mgqPump_idle (hm : s.mgq = Mgq.reset) (hh : s.mez.held = []) : s.mgqPump = s := by
  have hheld : ({ s with mez := { s.mez with held := [] } } : State) = s := by rw [← hh]
  have htake : s.mezTake = s := by
    unfold State.mezTake
    split
    · rfl
    · simp only [hh, State.each, List.foldl_nil, List.length_nil, List.drop_zero, hheld]
      rw [hm]
      rfl
  simp only [State.mgqPump, htake, hm, Mgq.reset, List.isEmpty_nil, Bool.not_true, Bool.and_false, Bool.false_eq_true, if_false]

theorem mgqFinish_idle (hm : s.mgq = Mgq.reset) (c : MgqWait → Bool) (e : MgqEnd) : s.mgqFinish c e = s := by
  simp only [State.mgqFinish, hm, Mgq.reset]

/-- The state once every staged write acted and the blocks are released, with what MEZ then shows. -/
def State.mezApplied (s : State) (ns : Nat) : State :=
  (((((s.each s.mez.staged (fun w s => s.applyOne w)).mezRelease.sf pgMEZ MEZ.APPLY_NS_NS ns).sf pgMEZ MEZ.MEZ_STS_LAST_STATUS 0).cnt pgMEZ
    MEZ.CNT_COMMITS).cnt pgMEZ MEZ.CNT_WRITES_APPLIED s.mez.staged.length).event pgMEZ 0

/-- What the end of an apply lets go on: a COMMIT that waits for it, and what was deferred. -/
def State.mezResume (s : State) (n : Nat) : State :=
  let u := s.mgqFinish (fun w => w == MgqWait.commit) ⟨0, n, 0, 0, []⟩
  ((({ u with mez := { u.mez with deferred := [] } } : State).each u.mez.deferred (fun i s => s.runWaiting i)).mgqPump).settle

theorem mezApply_eq {ns : Nat} (hst : s.mezSt = mzAPPLYING) : s.mezApply ns = (s.mezApplied ns).mezResume s.mez.staged.length := by
  simp only [State.mezApply, State.mezApplied, State.mezResume, hst, bne_self_eq_false, Bool.false_eq_true, if_false]

theorem mezResume_alone {n : Nat} (hm : s.mgq = Mgq.reset) (hd : s.mez.deferred = []) (hh : s.mez.held = []) :
    s.mezResume n = ({ s with mez := { s.mez with deferred := [] } } : State).settle := by
  rw [State.mezResume, mgqFinish_idle hm, hd]
  exact congrArg State.settle (mgqPump_idle (s := { s with mez := { s.mez with deferred := [] } }) hm hh)

theorem exec_mezApply_alone {ns : Nat} (hst : s.mezSt = mzAPPLYING) {u : State} (hu : s.mezApplied ns = u) (hm : u.mgq = Mgq.reset)
    (hd : u.mez.deferred = []) (hh : u.mez.held = []) :
    exec (.mezApply ns) s = .next ({ u with mez := { u.mez with deferred := [] } } : State).settle.shown := by
  subst hu
  exact next_shown ((mezApply_eq hst).trans (mezResume_alone hm hd hh))

theorem mezApply_not_applying {ns : Nat} (hst : s.mezSt ≠ mzAPPLYING) : s.mezApply ns = s := if_pos (bne_iff_ne.2 hst)

/-- Settles O53: one equation for each case of the four commands, and what a discard leaves. -/
theorem mezzanineTransactions : Obligations.MezzanineTransactions := by
  refine ⟨?stage, ?closed, ?held, ?ends, ?refused, fun s hst => ⟨next_shown (congrArg Prod.fst (mezCommit_applying hst)),
    next_shown (congrArg Prod.fst (mezAbort_applying hst))⟩, fun s => ⟨mezDiscard_staged, gf_mezEmptied_state⟩,
    fun s w => gb_mezDiscard_staged, ?apply, fun s ns hst => next_shown (mezApply_not_applying hst)⟩
  case stage =>
    intro s v a hst hf ha hq
    have hon : s.mezOn = true := mezOn_iff.2 ⟨hf, ha⟩
    refine ⟨fun ⟨ht, hn⟩ => next_shown ?_, fun ht => next_shown (stageRegister_barred hst hon ht)⟩
    rw [stageRegister_staged (mezHolds_of_not_quiesced hq) (fun _ => ht), stage_taken hst hon hn]
    change State.sf (State.sf _ (headPage (a / 4096)) _ _) _ _ _ = _
    rw [headPage_of_stagePage (stageTarget_page ht).1]
  case closed =>
    intro s v hst ha
    have hoff := mezOn_of_inactive ha
    have hstage : s.stage (.reg (s.gf pgMEZ MEZ.STAGE_ADDR_OFFSET * 4) v) = (s, 2) := by
      simp only [State.stage, beq_false_of_ne hst, hoff, Bool.not_false, Bool.false_eq_true, if_false, if_true]
    refine next_shown ?_
    have hfree : s.mezHolds = false := by rw [State.mezHolds, hoff, Bool.false_and, Bool.false_and]
    rw [stageRegister_staged hfree (fun hon => absurd hon (ne_true_of_eq_false hoff)), hstage]
  case held =>
    intro s v hh ht
    exact next_shown (stageRegister_held hh ht)
  case ends =>
    intro s hst
    exact ⟨fun h => ⟨next_shown (congrArg Prod.fst (mezCommit_empty hst h)), next_shown (congrArg Prod.fst (mezAbort_empty hst h))⟩,
      fun ⟨h, hr⟩ => next_shown (congrArg Prod.fst (mezCommit_taken hst h hr)), fun h => next_shown (mezAbort_discards hst h)⟩
  case refused =>
    intro s w r hst h hr
    exact ⟨next_shown (congrArg Prod.fst (mezCommit_refused hst h hr)), commitRefuse_staged w r⟩
  case apply =>
    intro s ns hst _ t u hm hd hh
    exact exec_mezApply_alone hst (rfl : s.mezApplied ns = u) hm hd hh

end Sys2Proof.Machine
end

section
/-!
PROOF. Reboots and what a whole-device reset keeps (R491, R534, R535, R557), the boot's number and its choice of an image (R540 to R542),
debug (R554), and the fault history (R566 to R572); O59 from them.
-/

namespace Sys2Proof.Machine

variable {s : State}

/-! ### Maps put together of parts -/

namespace SMap

variable {α : Type}

/-- Only the default at its own key counts for what a key reads as. -/
theorem get_congr_default {d e : Nat → α} {k : Nat} (h : d k = e k) (m : List (Nat × α)) : get d m k = get e m k := by
  induction m with
  | nil => exact h
  | cons x t ih =>
    obtain ⟨j, v⟩ := x
    simp only [get, ih]

theorem get_append (d : Nat → α) (l m : List (Nat × α)) (k : Nat) : get d (l ++ m) k = get (get d m) l k := by
  induction l with
  | nil => rfl
  | cons x t ih =>
    obtain ⟨j, v⟩ := x
    simp only [List.cons_append, get, ih]

end SMap

/-! ### What a whole-device reset keeps (R491, R535) -/

/-- What a whole-device reset leaves but for what it shows at the pins and in PWR_STS. -/
def State.wipeBase (s : State) (erg : Bool) : State :=
  { State.reset with
    pending := s.pending, clock := s.clock, free := s.free, out := s.out
    host := { HostSt.reset with
      ide := (s.host.ide.filter (fun e => !e.2.keys.isEmpty)).map (fun e => (e.1, { Ide.reset with keys := e.2.keys })) }
    regs := State.reset.regs.filter (fun x => x.1 / 4096 < pgOAS) ++ s.regs.filter (fun x => x.1 / 4096 == pgOAS)
      ++ State.reset.regs.filter (fun x => pgOAS < x.1 / 4096)
    smb := { Smb.reset with alertLow := s.smb.alertLow }
    sys := { Sys.reset with perst := s.sys.perst, straps := s.sys.straps }
    oas := { s.oas with
      cur := none, joined := [], stopAt := 0, stopped := [], held := none, pmeAck := false, waking := false, ergWas := []
      portWake := [], base := 0 }
    vlt := { s.vlt with rebootAt := none, erasing := false, chain := [], digest := 0 }
    erg := { Erg.reset with
      mem := s.erg.mem.filter (fun c => (if erg then s.ergKept else []).contains (c.1 / 2 ^ 36))
      retained := if erg then s.ergKept else [] }
    tap := s.tap }

/-- The interrupt pin falls back. -/
def State.wipePins (s : State) (erg : Bool) : State :=
  if s.lnd.irqLow then (s.wipeBase erg).emit (.pin "IRQ_OUT_N" true) else s.wipeBase erg

theorem wipe_eq (e : Bool) : s.wipe e = (((s.wipePins e).sf pgOAS OAS.PWR_STS_BUSY 0).sf pgOAS OAS.PWR_STS_ARMED 0).sf pgOAS
    OAS.PWR_STS_HELD 0 := rfl

/-- A part of the state that neither a register nor an output touches is what the reset makes it. -/
theorem wipe_keeps {α : Type} (g : State → α) (hsf : ∀ t p f v, g (State.sf t p f v) = g t) (hemit : ∀ t o, g (State.emit t o) = g t)
    (e : Bool) : g (s.wipe e) = g (s.wipeBase e) := by
  rw [wipe_eq, hsf, hsf, hsf, State.wipePins]
  split
  · exact hemit _ _
  · rfl

theorem reg_wipe {e : Bool} {a : Nat} (h : a ≠ raddr pgOAS 0x44) : (s.wipe e).reg a = (s.wipeBase e).reg a := by
  have hpins : (s.wipePins e).reg a = (s.wipeBase e).reg a := by
    rw [State.wipePins]
    split
    · exact State.reg_emit _ _ _
    · rfl
  rw [wipe_eq, State.reg_sf_of_ne _ _ h, State.reg_sf_of_ne _ _ h, State.reg_sf_of_ne _ _ h, hpins]

/-- The registers of a reset come page by page: those of the Oasis stay, the others are as after power-on. -/
theorem reg_wipeBase (e : Bool) (a : Nat) : (s.wipeBase e).reg a = if a / 4096 = pgOAS then s.reg a else State.reset.reg a := by
  change SMap.get regReset (State.reset.regs.filter (fun x => decide (x.1 / 4096 < pgOAS)) ++ s.regs.filter (fun x => x.1 / 4096 == pgOAS)
    ++ State.reset.regs.filter (fun x => decide (pgOAS < x.1 / 4096))) a = _
  rw [SMap.get_append, SMap.get_append]
  have hlow := fun d : Nat → Word => SMap.get_filter (q := fun j => decide (j / 4096 < pgOAS)) (k := a) d State.reset.regs
  have hoas := fun d : Nat → Word => SMap.get_filter (q := fun j => j / 4096 == pgOAS) (k := a) d s.regs
  have hhigh := SMap.get_filter (q := fun j => decide (pgOAS < j / 4096)) (k := a) regReset State.reset.regs
  rw [hlow]
  rcases Nat.lt_trichotomy (a / 4096) pgOAS with h | h | h
  · rw [if_pos (decide_eq_true h), if_neg h.ne]
    refine SMap.get_congr_default ?_ _
    rw [hoas, if_neg (mt beq_iff_eq.1 h.ne), hhigh, if_neg (mt of_decide_eq_true h.not_gt)]
  · rw [if_neg (mt of_decide_eq_true h.not_lt), hoas, if_pos (beq_iff_eq.2 h), if_pos h]
    refine SMap.get_congr_default ?_ _
    rw [hhigh, if_neg (mt of_decide_eq_true h.not_gt)]
  · rw [if_neg (mt of_decide_eq_true h.not_gt), hoas, if_neg (mt beq_iff_eq.1 h.ne'), hhigh, if_pos (decide_eq_true h), if_neg h.ne']
    rfl

theorem gb_wipe_pwrSts (e : Bool) : (s.wipe e).gb pgOAS OAS.PWR_STS_BUSY = false ∧ (s.wipe e).gb pgOAS OAS.PWR_STS_ARMED = false
    ∧ (s.wipe e).gb pgOAS OAS.PWR_STS_HELD = false := by
  rw [wipe_eq]
  refine ⟨?busy, ?armed, ?held⟩
  case busy =>
    simp (disch := decide) only [State.gb, State.gf_sf_of_disjoint, State.gf_sf_self]
    rfl
  case armed =>
    simp (disch := decide) only [State.gb, State.gf_sf_of_disjoint, State.gf_sf_self]
    rfl
  case held =>
    simp (disch := decide) only [State.gb, State.gf_sf_self]
    rfl

/-- The Erg's bytes after a reset: those of a kept channel. -/
theorem wipe_ergMem (e : Bool) : (s.wipe e).erg.mem =
    s.erg.mem.filter (fun c => (if e then s.ergKept else []).contains (c.1 / 2 ^ 36)) :=
  congrArg Erg.mem (wipe_keeps State.erg State.sf_erg State.emit_erg e)

theorem read_wipe_kept {e : Bool} {x : Nat} (h : (if e then s.ergKept else []).contains (x / 2 ^ 36) = true) :
    Memory.read (s.wipe e).erg.mem x = Memory.read s.erg.mem x := by
  rw [wipe_ergMem]
  exact SMap.get_filter_of_kept (q := fun j => (if e then s.ergKept else []).contains (j / 2 ^ 36)) Memory.empty _ h

theorem read_wipe_lost {e : Bool} {x : Nat} (h : (if e then s.ergKept else []).contains (x / 2 ^ 36) = false) :
    Memory.read (s.wipe e).erg.mem x = 0 := by
  rw [wipe_ergMem]
  exact SMap.get_filter_of_dropped (q := fun j => (if e then s.ergKept else []).contains (j / 2 ^ 36)) Memory.empty _ h

theorem ergKept_contains {c : Nat} (hc : c < 4) : s.ergKept.contains c = true ↔
    s.erg.retained.contains c = true ∨ (s.gb pgERG ERG.ERG_CFG_RETAIN = true ∧ s.ergSt c = erACTIVE) := by
  rw [List.contains_iff_mem, State.ergKept, List.mem_filter, List.mem_range, Bool.or_eq_true, Bool.and_eq_true, beq_iff_eq]
  exact and_iff_right hc

/-! ### Reboots (R557) -/

theorem reboot_asked {v : Word} (h : fld v 0 1 = 1 ∧ fld v 16 16 = 0xB007 ∧ s.vlt.rebootAt = none) : s.reboot v =
    ({ s with vlt := { s.vlt with rebootAt := some (s.clock + us 10) } } : State).avsWrite 850 := by
  obtain ⟨hgo, hmagic, hnone⟩ := h
  simp only [State.reboot, hgo, hmagic, hnone, beq_self_eq_true, Option.isNone_none, Bool.and_self, if_true]

theorem reboot_ignored {v : Word} (h : fld v 0 1 = 0 ∨ fld v 16 16 ≠ 0xB007 ∨ s.vlt.rebootAt ≠ none) : s.reboot v = s := by
  refine if_neg ?_
  rw [Bool.and_eq_true, Bool.and_eq_true, beq_iff_eq, beq_iff_eq, Option.isNone_iff_eq_none]
  rintro ⟨⟨hgo, hmagic⟩, hnone⟩
  exact h.elim (fun h0 => Nat.zero_ne_one (h0.symm.trans hgo)) (·.elim (· hmagic) (· hnone))

theorem rebootDue_iff {t : Nat} (h : s.vlt.rebootAt = some t) : s.rebootDue = true ↔
    t ≤ s.clock ∧ (s.avs.target = none ∨ t - us 10 + us (s.gf1 pgCIS CIS.AVS_CTL_SETTLE_US) ≤ s.clock) := by
  simp only [State.rebootDue, h, Bool.and_eq_true, Bool.or_eq_true, State.due, decide_eq_true_eq, Option.isNone_iff_eq_none]

theorem rebootNow_waits {spi : Candidate} (h : s.rebootDue = false) : s.rebootNow spi = s := by
  simp only [State.rebootNow, h, Bool.not_false, if_true]

theorem rebootNow_due {spi : Candidate} (h : s.rebootDue = true) : s.rebootNow spi =
    if s.defers then s.defer (.rebootEffect spi) else (({ s with vlt := { s.vlt with spi := spi } } : State).wipe true).boot := by
  simp only [State.rebootNow, h, Bool.not_true, Bool.false_eq_true, if_false]

/-! ### The boot's number and its candidates (R540 to R542) -/

theorem read_writeN_first (m : List Host.Cell) (a : Nat) (b : Byte) (l : List Byte) : Memory.read (Memory.writeN m a (b :: l)) a = b := by
  rw [Memory.writeN, Memory.read_writeN_of_lt _ _ _ (Nat.lt_succ_self a), Memory.read_write_self]

theorem read_bootNumber : Memory.read (s.bootNumber).vlt.mem (vaultBoot + 16) = BitVec.ofNat 8 (nextEpoch (s.bootWord 2 % 65536)) := by
  rw [State.bootNumber, State.setBootWord, State.vaultPut, State.cnt_vlt]
  exact read_writeN_first _ _ _ _

theorem bootWriting_not {b : Bool} (c : Choice) (h : s.slotState b ≠ 1) : s.bootWriting b c = (s, c) := if_neg (mt beq_iff_eq.1 h)

/-- The two slots in their order, and then SPI NOR. -/
theorem chooseImage_of_not_writing {first : Bool} (hA : s.slotState false ≠ 1) (hB : s.slotState true ≠ 1)
    (hf : (!(decide (1 ≤ subMod (s.slotSeq false) (s.slotSeq true) 32) && decide (subMod (s.slotSeq false) (s.slotSeq true) 32 ≤ 2 ^ 31)))
      = first) {u v : State × Choice} (hu : s.trySlot first ⟨0, [], 0⟩ = u) (hv : u.1.trySlot (!first) u.2 = v) :
    s.chooseImage = v.1.trySpi v.2 := by
  simp only [State.chooseImage, bootWriting_not _ hA, bootWriting_not _ hB, hf, hu, hv]

theorem trySlot_passed {b : Bool} {c : Choice} (h : c.source ≠ 0 ∨ s.slotState b ≠ 2) : s.trySlot b c = (s, c) := by
  refine if_pos ?_
  rwa [Bool.or_eq_true, bne_iff_ne, bne_iff_ne]

theorem slotBytes_showCheck (b d : Bool) (k : Nat) : (s.showCheck d k).slotBytes b = s.slotBytes b := by
  simp only [State.slotBytes, State.vaultBytes, State.showCheck, State.sf_vlt]

section
variable {b : Bool} {c : Choice} (hs : c.source = 0) (hv : s.slotState b = 2) (hr : s.slotBad b = none)
include hs hv hr

theorem trySlot_accepted (hc : s.imgCheck (s.slotBytes b) = 0) :
    s.trySlot b c = (s.showCheck b 0, { c with source := 1 + b2n b, image := s.slotBytes b }) := by
  have hcheck : s.slotCheck b = (s, 0) := by
    rw [State.slotCheck, hr]
    exact if_pos (beq_iff_eq.2 hc)
  simp only [State.trySlot, hs, hv, hcheck, bne_self_eq_false, Bool.or_self, Bool.false_eq_true, if_false, beq_self_eq_true, if_true,
    slotBytes_showCheck]

theorem trySlot_rejected {code : Nat} (hc : s.imgCheck (s.slotBytes b) = code) (h0 : code ≠ 0) : s.trySlot b c =
    ((s.reject (b2n b) code (if code = 1 then 0 else imgNum (s.slotBytes b) 0x0C 4)).showCheck b code, c.met code) := by
  have hcheck : s.slotCheck b = (s.reject (b2n b) code (if code = 1 then 0 else imgNum (s.slotBytes b) 0x0C 4), code) := by
    rw [State.slotCheck, hr]
    simp only [hc, beq_iff_eq, h0, if_false]
  simp only [State.trySlot, hs, hv, hcheck, bne_self_eq_false, Bool.or_self, Bool.false_eq_true, if_false, beq_false_of_ne h0]

end

/-- With both slots EMPTY and a blank SPI NOR there is no image (R542). -/
theorem chooseImage_blank (hA : s.slotState false = 0) (hB : s.slotState true = 0) (hs : s.vlt.spi = .blank) : s.chooseImage =
    ((((s.sf pgVLT VLT.SPI_STS_READ 1).sf pgVLT VLT.SPI_STS_CHECK 0x06).reject 2 0x06 0), ⟨0, [], 0x06⟩) := by
  have hpass : ∀ b : Bool, s.trySlot b ⟨0, [], 0⟩ = (s, ⟨0, [], 0⟩) := fun b =>
    trySlot_passed (.inr (by cases b <;> simp only [hA, hB] <;> decide))
  have hspi : s.spiCheck = 0x06 := by rw [State.spiCheck, hs]
  rw [chooseImage_of_not_writing (hA ▸ by decide) (hB ▸ by decide) rfl (hpass _) (hpass _)]
  simp only [State.trySpi, hspi, State.sf_vlt, hs]
  rfl

/-! ### Debug (R554) -/

theorem debugUnlock_ignored {v : Word} (h : fld v 0 1 = 0 ∨ fld v 16 16 ≠ 0xDB6E ∨ s.gf pgVLT VLT.VLT_STS_DEBUG ≠ 0) :
    s.debugUnlock v = s := by
  refine if_neg ?_
  rw [Bool.and_eq_true, Bool.and_eq_true, beq_iff_eq, beq_iff_eq, beq_iff_eq]
  rintro ⟨⟨hgo, hmagic⟩, hclosed⟩
  exact h.elim (fun h0 => Nat.zero_ne_one (h0.symm.trans hgo)) (·.elim (· hmagic) (· hclosed))

theorem debugUnlock_opens {v : Word} (h : fld v 0 1 = 1 ∧ fld v 16 16 = 0xDB6E ∧ s.gf pgVLT VLT.VLT_STS_DEBUG = 0) {b : State}
    (hb : ((((s.setBootWord 3 1).vaultShow.sf pgVLT VLT.VLT_STS_DEBUG 1).sf pgVLT VLT.VLT_STS_WRITE_BUSY 1).spdmClose .host).spdmClose .smb
      = b) {c : State} (hc : b.each ((b.host.ide.filter (fun e => e.2.state == .secure)).map (·.1)) (fun n s => s.ideInsecure n) = c) :
    s.debugUnlock v = { c with vlt := { c.vlt with erasing := true } } := by
  obtain ⟨hgo, hmagic, hclosed⟩ := h
  subst hc hb
  simp only [State.debugUnlock, hgo, hmagic, hclosed, beq_self_eq_true, Bool.and_self, if_true]

theorem read_vaultZero_within {a len n x : Nat} (h : a ≤ x) (hx : x < a + len) :
    Memory.read (s.vaultZero a len n).vlt.mem x = 0 := by
  rw [State.vaultZero, State.cnt_vlt]
  exact Memory.read_clear_within _ h hx

theorem read_vaultZero_outside {a len n x : Nat} (h : x < a ∨ a + len ≤ x) :
    Memory.read (s.vaultZero a len n).vlt.mem x = Memory.read s.vlt.mem x := by
  rw [State.vaultZero, State.cnt_vlt]
  exact Memory.read_clear_outside _ h

theorem read_vaultPut_outside {a x : Nat} {b : List Byte} (h : x < a ∨ a + b.length ≤ x) :
    Memory.read (s.vaultPut a b).vlt.mem x = Memory.read s.vlt.mem x := by
  rw [State.vaultPut, State.cnt_vlt]
  exact Memory.read_writeN_outside _ _ _ h

/-! ### The fault history (R566 to R571) -/

theorem historyWaits_iff : s.historyWaits = false ↔ s.gb pgFLT FLT.FLT_STS_SCANNING = false ∧ s.gf pgOAS OAS.PWR_STS_STATE = 0
    ∧ s.gb pgDEV DEV.BOOT_STS_DONE = true
    ∧ (s.gb pgFLT FLT.FLT_CTL_ERG_EN = false ∨ s.ergSt (s.gf pgFLT FLT.FLT_CTL_ERG_CH) ≠ erREFRESH) := by
  rw [State.historyWaits, Bool.or_eq_false_iff, Bool.or_eq_false_iff, Bool.or_eq_false_iff, Bool.and_eq_false_iff, bne_eq_false_iff_eq,
    beq_eq_false_iff_ne, Bool.not_eq_false', and_assoc, and_assoc]
  rfl

theorem historyWrite_empty (h : s.flt.queue = []) : s.historyWrite = s := by rw [State.historyWrite, h]

theorem historyWrite_waits {r : BitVec 256} {rest : List (BitVec 256)} (h : s.flt.queue = r :: rest) (hw : s.historyWaits = true) :
    s.historyWrite = s := by
  rw [State.historyWrite, h]
  exact if_pos hw

theorem historyWrite_takes {r : BitVec 256} {rest : List (BitVec 256)} (h : s.flt.queue = r :: rest) (hw : s.historyWaits = false) {t : State}
    (ht : ({ s with flt := { s.flt with queue := rest } } : State).sf pgFLT FLT.NEXT_SEQ_SEQ (nextSeq (s.gf pgFLT FLT.NEXT_SEQ_SEQ)) = t) :
    s.historyWrite = (t.historyVault (put r 224 32 (s.gf pgFLT FLT.NEXT_SEQ_SEQ)) (s.gf pgFLT FLT.NEXT_SEQ_SEQ)).historyErg
      (put r 224 32 (s.gf pgFLT FLT.NEXT_SEQ_SEQ)) (s.gf pgFLT FLT.NEXT_SEQ_SEQ) := by
  subst ht
  rw [State.historyWrite, h]
  exact if_neg (ne_true_of_eq_false hw)

section
variable {r : BitVec 256} {q : Nat}

theorem historyVault_off (h : ¬ (s.gb pgFLT FLT.FLT_CTL_VAULT_EN = true ∧ min 4 (s.gf pgFLT FLT.FLT_CTL_VAULT_CLASS) ≤ fld r 77 3)) :
    s.historyVault r q = s := by
  refine if_neg ?_
  rwa [Bool.and_eq_true, decide_eq_true_eq]

theorem historyVault_on (h : s.gb pgFLT FLT.FLT_CTL_VAULT_EN = true ∧ min 4 (s.gf pgFLT FLT.FLT_CTL_VAULT_CLASS) ≤ fld r 77 3) :
    s.historyVault r q =
    if (s.flt.times.filter (fun t => s.clock < t + ms 1000)).length < 1000 then
      (({ s with flt := { s.flt with times := s.flt.times.filter (fun t => s.clock < t + ms 1000) ++ [s.clock] } } : State).vaultPut
        (vaultHist + 32 * (q % 65536)) (bytesOf 32 r.toNat)).cnt pgFLT FLT.CNT_VAULT_RECORDS
    else s.cnt pgFLT FLT.CNT_VAULT_SKIPPED := by
  refine if_pos ?_
  rwa [Bool.and_eq_true, decide_eq_true_eq]

theorem historyErg_off (h : ¬ s.gb pgFLT FLT.FLT_CTL_ERG_EN = true) : s.historyErg r q = s := by
  simp only [State.historyErg, Bool.eq_false_iff.2 h, Bool.not_false, if_true]

theorem historyErg_on (h : s.gb pgFLT FLT.FLT_CTL_ERG_EN = true) : s.historyErg r q =
    if s.ergServes (s.gf pgFLT FLT.FLT_CTL_ERG_CH) && decide (0 < s.histSize (s.gf pgFLT FLT.FLT_CTL_ERG_CH) * 2097152) then
      ({ s with erg := { s.erg with mem := Memory.writeN s.erg.mem (s.gf pgFLT FLT.FLT_CTL_ERG_CH * 2 ^ 36
        + 32 * (q % (s.histSize (s.gf pgFLT FLT.FLT_CTL_ERG_CH) * 2097152))) (bytesOf 32 r.toNat) } } : State).cnt pgFLT FLT.CNT_ERG_RECORDS
    else s.cnt pgFLT FLT.CNT_ERG_SKIPPED := by
  simp only [State.historyErg, h, Bool.not_true, Bool.false_eq_true, if_false]

end

theorem historyScanned_off (h : ¬ s.gb pgFLT FLT.FLT_STS_SCANNING = true) : s.historyScanned = s := if_neg h

/-- The end of a scan: NEXT_SEQ above the SEQs of the Vault and, of a channel whose contents were kept, of the Erg. -/
theorem historyScanned_on (h : s.gb pgFLT FLT.FLT_STS_SCANNING = true) {c : Nat} (hc : s.gf pgFLT FLT.FLT_CTL_ERG_CH = c) {kept : Bool}
    (hk : (s.ergServes c && s.gb (pgERGC c) ERGC.CH_STS_RETAINED) = kept) : s.historyScanned =
    (s.sf pgFLT FLT.FLT_STS_SCANNING 0).sf pgFLT FLT.NEXT_SEQ_SEQ (nextSeq ((seqsIn s.vlt.mem vaultHist 0x200000
      ++ (if kept then seqsIn s.erg.mem (c * 2 ^ 36) (s.histSize c * 2 ^ 26) else [])).foldl laterSeq 0)) := by
  subst hk hc
  exact if_pos h

/-- Settles O59: what the reset makes of each part of the state, and one equation for each case of the commands and of the boot. -/
theorem resetsAndHistory : Obligations.ResetsAndHistory := by
  refine ⟨fun s v => ⟨fun h => next_shown (reboot_asked h), fun h => next_shown (reboot_ignored h)⟩, ?effect, ?unasked, ?parts, ?oasis, ?regs,
    ?erg, fun s c hc => ergKept_contains hc, fun s => ⟨read_bootNumber, by decide⟩, ?choice, ?slot, ?blank, ?debug, ?erased,
    fun s x h hx => read_vaultZero_within h hx, fun s x h => read_vaultZero_outside h, ?write,
    fun s h => next_shown (historyWrite_empty h), fun s => historyWaits_iff, ?vault, fun s a x b h => read_vaultPut_outside h, ?ergRecord,
    by decide, ?scan⟩
  case effect =>
    intro s t spi ht due given late
    refine ⟨fun ⟨hd, hm⟩ => ?_, fun ⟨hd, hm⟩ => ?_, fun hd => ?_⟩
    · exact next_shown ((rebootNow_due ((rebootDue_iff ht).2 hd)).trans (if_neg (mt beq_iff_eq.1 hm)))
    · exact next_shown ((rebootNow_due ((rebootDue_iff ht).2 hd)).trans (if_pos (beq_iff_eq.2 hm)))
    · exact next_shown (rebootNow_waits (Bool.eq_false_iff.2 (mt (rebootDue_iff ht).1 hd)))
  case unasked =>
    intro s spi h
    exact next_shown (rebootNow_waits (by rw [State.rebootDue, h]))
  case parts =>
    intro s e
    have hvlt := wipe_keeps (s := s) State.vlt State.sf_vlt State.emit_vlt e
    exact ⟨(congrArg Vault.mem hvlt :), (congrArg Vault.bad hvlt :), wipe_keeps State.tbls State.sf_tbls State.emit_tbls e,
      wipe_keeps State.sets State.sf_sets State.emit_sets e, wipe_keeps State.brg State.sf_brg State.emit_brg e,
      wipe_keeps State.gal State.sf_gal State.emit_gal e, wipe_keeps State.cvn State.sf_cvn State.emit_cvn e,
      wipe_keeps State.links State.sf_links State.emit_links e,
      congrArg Flt.queue (wipe_keeps (s := s) State.flt State.sf_flt State.emit_flt e),
      wipe_keeps State.mgq State.sf_mgq State.emit_mgq e, wipe_keeps State.mez State.sf_mez State.emit_mez e,
      congrArg Sys.devtime (wipe_keeps (s := s) State.sys State.sf_sys State.emit_sys e),
      wipe_keeps State.pending State.sf_pending State.emit_pending e, wipe_keeps State.tap State.sf_tap State.emit_tap e⟩
  case oasis =>
    intro s e
    have hoas := wipe_keeps (s := s) State.oas State.sf_oas State.emit_oas e
    obtain ⟨hbusy, harmed, hheld⟩ := gb_wipe_pwrSts (s := s) e
    exact ⟨hbusy, harmed, hheld, congrArg Oasis.cur hoas, congrArg Oasis.held hoas⟩
  case regs =>
    intro s e p off hoff
    refine ⟨fun ⟨hp, hne⟩ => ?_, fun hp => ?_⟩
    · subst hp
      rw [reg_wipe (by simpa [raddr] using hne), reg_wipeBase, raddr_div _ hoff, if_pos rfl]
    · rw [reg_wipe (raddr_ne hp hoff (by decide)), reg_wipeBase, raddr_div _ hoff, if_neg hp]
  case erg =>
    intro s c x _ hx
    subst hx
    exact ⟨fun hk => read_wipe_kept hk, fun hk => read_wipe_lost hk, read_wipe_lost rfl⟩
  case choice =>
    intro s hA hB d ab ba
    have hnot : ∀ b, s.slotState b = 2 → s.slotState b ≠ 1 := fun b h => h ▸ by decide
    refine ⟨fun ⟨h1, h2⟩ => ?_, fun h => ?_⟩
    · refine chooseImage_of_not_writing (first := false) (hnot _ hA) (hnot _ hB) ?_ rfl rfl
      rw [decide_eq_true h1, decide_eq_true h2]
      rfl
    · refine chooseImage_of_not_writing (first := true) (hnot _ hA) (hnot _ hB) ?_ rfl rfl
      rw [Bool.not_eq_true', Bool.and_eq_false_iff, decide_eq_false_iff_not, decide_eq_false_iff_not]
      exact h.imp (fun h0 => by rw [show subMod _ _ 32 = 0 from h0]; decide) Nat.not_le.2
  case slot =>
    intro s b c img code bad
    refine ⟨fun h => trySlot_passed h, fun ⟨hs, hv, hr⟩ => ?_⟩
    by_cases h0 : code = 0
    · rw [if_pos h0]
      exact trySlot_accepted hs hv hr h0
    · rw [if_neg h0]
      exact trySlot_rejected hs hv hr rfl h0
  case blank =>
    intro s hA hB hs
    exact chooseImage_blank hA hB hs
  case debug =>
    intro s v a b c
    exact ⟨fun h => next_shown (debugUnlock_opens h (rfl : _ = b) (rfl : _ = c)), fun h => next_shown (debugUnlock_ignored h)⟩
  case erased =>
    intro s t
    exact ⟨fun h => next_shown (if_pos h), fun h => next_shown (if_neg (ne_true_of_eq_false h))⟩
  case write =>
    intro s r rest h seq rec_ t
    exact ⟨fun hw => next_shown (historyWrite_takes h hw (rfl : _ = t)), fun hw => next_shown (historyWrite_waits h hw)⟩
  case vault =>
    intro s r q recent on t
    exact ⟨fun ⟨ho, hl⟩ => (historyVault_on ho).trans (if_pos hl), fun ⟨ho, hl⟩ => (historyVault_on ho).trans (if_neg (Nat.not_lt.2 hl)),
      fun ho => historyVault_off ho⟩
  case ergRecord =>
    intro s r q c n t on
    refine ⟨fun ⟨ho, hs, hn⟩ => (historyErg_on ho).trans (if_pos ?_), fun ⟨ho, hs⟩ => (historyErg_on ho).trans (if_neg ?_),
      fun ho => historyErg_off ho⟩
    · rw [hs, decide_eq_true hn]
      rfl
    · rw [hs, Bool.false_and]
      exact Bool.false_ne_true
  case scan =>
    intro s c t vault erg on kept
    refine ⟨fun ⟨ho, hk⟩ => next_shown ?_, fun ⟨ho, hk⟩ => next_shown ?_, fun ho => next_shown (historyScanned_off ho)⟩
    · rw [historyScanned_on ho rfl hk, if_neg Bool.false_ne_true, List.append_nil]
    · rw [historyScanned_on ho rfl hk, if_pos rfl]

end Sys2Proof.Machine
end
